-- ==== Sys2Proof/Word.lean ====
section
/-! DEFINITION. The word types of the part: a byte of shared RAM and a word of the host port (R177). -/

namespace Sys2Proof

/-- One byte of shared RAM. -/
abbrev Byte := BitVec 8

/-- One word of the host port: each access moves 16 bits (R177). -/
abbrev Word16 := BitVec 16

/-- A 32-bit count or instant of the part. -/
abbrev Word32 := BitVec 32

end Sys2Proof
end

