-- ==== Sys2Proof/Syntax.lean ====
section
/-! DEFINITION. The commands of the part, one constructor for each row of spec/opcode_table.json, and their operands.
The table gives its rows no operand fields: the operands are what the rules need the event to say. -/

namespace Sys2Proof

/-- A host write of one word of the port, with the byte enables of R177: the bytes not enabled keep their contents. -/
structure HostWrite where
  data : Word16
  /-- The low byte (bits 7–0) is enabled. -/
  low : Bool
  /-- The high byte (bits 15–8) is enabled. -/
  high : Bool
  deriving DecidableEq, Repr

/-- A CAN identifier in its format. An 11-bit and a 29-bit identifier of one number are different identifiers (R4). -/
inductive CanId where
  | std (id : BitVec 11)
  | ext (id : BitVec 29)
  deriving DecidableEq, Repr

/-- A CAN frame: format and identifier, the remote mark, the DLC and the data bytes, of which the first `dlc` are on the bus
(none of a remote frame, R94). -/
structure CanFrame where
  id : CanId
  remote : Bool
  dlc : Fin 9
  data : Vector Byte 8
  deriving DecidableEq, Repr

/-- The two debounced lines of the tester connector (R153). -/
inductive ConnLine where
  | presence
  | key
  deriving DecidableEq, Repr

/-- The commands. Each constructor's docstring names the row's rule. -/
inductive Instr where
  /-- Power-on reset (R192). -/
  | powerOnReset
  /-- The RAM clear completes (R192). -/
  | ramClearDone
  /-- A host write of 1 to CONTROL.SOFT_RESET; `retain` is RETAIN as it stands after the write (R193). -/
  | softReset (retain : Bool)
  /-- The part sets Ready after a soft reset (R193). -/
  | softResetReady
  /-- A host write of CONTROL.RUN (R184). -/
  | runWrite (v : Bool)
  /-- A host write of CONTROL.RETAIN (R177). -/
  | retainWrite (v : Bool)
  /-- A host write of CONTROL.DONE_IRQ_ENABLE (R190). -/
  | doneIrqEnableWrite (v : Bool)
  /-- A host write to a half of DONE SUMMARY; `upper` selects cells 16–31 (R189). -/
  | doneSummaryClear (upper : Bool) (w : HostWrite)
  /-- A host write to EVENT SUMMARY (R190). -/
  | eventSummaryClear (w : HostWrite)
  /-- A host write to EVENT ENABLE (R190). -/
  | eventEnableWrite (w : HostWrite)
  /-- A host write to ID or to an unlisted word of the register window (R194). -/
  | ignoredRegisterWrite (addr : Nat) (w : HostWrite)
  /-- A host write to a RAM word that is not a watched word (R177). -/
  | hostRamWrite (addr : Nat) (w : HostWrite)
  /-- A host write that leaves POSTED in a cell's state word (R180). -/
  | cellPost (c : Fin 32) (w : HostWrite)
  /-- A host write that leaves EMPTY in a cell's state word (R188). -/
  | cellEmpty (c : Fin 32) (w : HostWrite)
  /-- A host write that leaves ABORT in a cell's state word (R180). -/
  | cellAbort (c : Fin 32) (w : HostWrite)
  /-- A host write that leaves any other value in a cell's state word (R180). -/
  | cellInvalidWrite (c : Fin 32) (w : HostWrite)
  /-- A host write that leaves FILLED in the state word of a FREE slot (R121). -/
  | slotFilled (n : Fin 8) (w : HostWrite)
  /-- A host write that leaves FREE in a slot's state word (R122). -/
  | slotFree (n : Fin 8) (w : HostWrite)
  /-- A host write that leaves another value in a slot's state word, or FILLED in that of a slot that is not FREE (R122). -/
  | slotInvalidWrite (n : Fin 8) (w : HostWrite)
  /-- The WBC takes the head of the post list (R185). -/
  | cellTake
  /-- The AU receives an EXCHANGE cell (R37). -/
  | exchangeAdmission (c : Fin 32)
  /-- The TE receives a TRANSFER cell (R116). -/
  | transferReceipt (c : Fin 32)
  /-- The WS receives a WATCH cell (R142). -/
  | watchReceipt (c : Fin 32)
  /-- The AU receives a CHECK cell (R38). -/
  | check (c : Fin 32)
  /-- The PS receives a COMMIT cell of mode NOW (R13). -/
  | commitNow (c : Fin 32)
  /-- The PS receives a COMMIT cell of mode AT_IGNITION (R14). -/
  | commitAtIgnition (c : Fin 32)
  /-- The AU receives a CHANNEL cell, CLEAR_ACCRUED (R46). -/
  | clearAccrued (c : Fin 32)
  /-- The AU receives a CHANNEL cell, CLEAR_LATCH (R46). -/
  | clearLatch (c : Fin 32)
  /-- The AU receives a CHANNEL cell, RELEASE_SUSPENSION (R46). -/
  | releaseSuspension (c : Fin 32)
  /-- The CM receives a CONNECTOR cell (R160). -/
  | connector (c : Fin 32)
  /-- The LR receives a THROTTLE cell, LOAD (R108). -/
  | load (c : Fin 32)
  /-- The LR receives a THROTTLE cell, FREEZE (R109). -/
  | freeze (c : Fin 32)
  /-- The LR receives a THROTTLE cell, UNFREEZE (R109). -/
  | unfreeze (c : Fin 32)
  /-- The STU receives a SEGMENT cell, DISABLE (R89). -/
  | disable (c : Fin 32)
  /-- The STU receives a SEGMENT cell, ENABLE (R90). -/
  | enable (c : Fin 32)
  /-- The STU receives a SEGMENT cell, RESTART (R91). -/
  | restart (c : Fin 32)
  /-- The deadline of the entry of cell `c` arrives (R58). -/
  | queueDeadlineExpiry (c : Fin 32)
  /-- The frame scheduler of segment `g` offers a frame, at microsecond `us` of the present millisecond (R76). -/
  | frameOffer (g : Fin 4) (us : Fin 1000)
  /-- The offered frame of segment `g` is sent and acknowledged (R77). -/
  | ownFrameAcknowledged (g : Fin 4) (us : Fin 1000)
  /-- An error while segment `g` sends its offered frame (R65). -/
  | transmitError (g : Fin 4)
  /-- An error while segment `g` receives (R65). -/
  | receiveError (g : Fin 4)
  /-- A frame of another node is completed on segment `g` (R70). -/
  | frameCompleted (g : Fin 4) (us : Fin 1000) (f : CanFrame)
  /-- The credit wait of a context expires (R78). -/
  | creditWaitExpiry (g : Fin 4) (x : Fin 4)
  /-- The response wait of a context expires (R79). -/
  | responseWaitExpiry (g : Fin 4) (x : Fin 4)
  /-- The part wait of a context expires (R82). -/
  | partWaitExpiry (g : Fin 4) (x : Fin 4)
  /-- A JOINING controller has seen 11 consecutive recessive bits (R66). -/
  | joinComplete (g : Fin 4)
  /-- An OFF controller has counted 128 recessive runs (R68). -/
  | busOffRecovery (g : Fin 4)
  /-- A sub-window of segment `g` ends (R100). -/
  | subWindowEnd (g : Fin 4)
  /-- The feed timer of the transfer of cell `c` expires (R125). -/
  | feedTimerExpiry (c : Fin 32)
  /-- The keep-alive timer of the transfer of cell `c` expires (R127). -/
  | keepaliveTimerExpiry (c : Fin 32)
  /-- The due time of the watch of cell `c` arrives (R144). -/
  | watchDue (c : Fin 32)
  /-- A millisecond passes (R191). -/
  | millisecondTick
  /-- The seconds counter advances (R191). -/
  | secondsTick
  /-- The expiry instant of the grant at index `i` is reached (R21). -/
  | grantExpiry (i : Fin 16)
  /-- The suspension of channel `ch` ends (R42). -/
  | suspensionEnd (ch : Fin 8)
  /-- A raw change of the presence or key line to `level` (R153). -/
  | connectorLineRawChange (l : ConnLine) (level : Bool)
  /-- The debounce timer of the presence or key line expires (R154). -/
  | connectorDebounceExpiry (l : ConnLine)
  /-- The departure grace timer expires (R156). -/
  | departure
  /-- A half-period of a blink ends (R158). -/
  | lampBlinkToggle
  /-- The supply good input is asserted (R159). -/
  | supplyGoodAsserted
  /-- The supply good input is withdrawn (R159). -/
  | supplyGoodWithdrawn
  /-- The overcurrent input is asserted; `stays` is its level once the event is over (R159, log 11). -/
  | overcurrentAsserted (stays : Bool)
  /-- The 100 ms start timer of the supply expires (R159). -/
  | supplyStartTimerExpiry
  /-- A raw change of the ignition line to `level` (R163). -/
  | ignitionRawChange (level : Bool)
  /-- The debounce timer of the ignition line expires (R163). -/
  | ignitionDebounceExpiry
  /-- The staleness timer of the state frame expires (R165). -/
  | stalenessTimerExpiry
  /-- An OFF controller observes one more run of 11 recessive bits (R68). -/
  | recessiveRunCounted (g : Fin 4)
  deriving DecidableEq, Repr

end Sys2Proof
end

