-- ==== Sys2Proof/Decode.lean ====
section
/-! DEFINITION. Decoding. No row of spec/opcode_table.json gives bits (every row's fields are empty), so no word spells a
command: the commands of the part come as events, not as words. -/

namespace Sys2Proof

/-- The command that a word spells by the table's bits: none, since no row of the table has bits. -/
def decodeTableWord (_nbits _w : Nat) : Option Instr := none

end Sys2Proof
end

