-- ==== Sys2Proof/Machine/Types.lean ====
section
/-! DEFINITION. The data that the blocks of the part hold (chapters 1 to 10). Codes and layouts stand in Machine/Codes.lean. -/

namespace Sys2Proof.Machine

/-! ### The policy set (11.6) -/

/-- One entry of the route map (R4). `addr` FFh marks it unused. -/
structure Route where
  addr : Nat
  seg : Nat
  /-- Format code: 0 is 11-bit, 1 is 29-bit. -/
  format : Nat
  reqId : Nat
  respId : Nat
  /-- Response wait in ms. -/
  wait : Nat
  deriving DecidableEq, Repr

/-- One entry of the grant table (R5). `id` 0 marks it unused. -/
structure Grant where
  id : Nat
  channel : Nat
  /-- Permitted classes, bit n for class n. -/
  classes : BitVec 8
  /-- Target count: FFh stands for ALL. -/
  count : Nat
  targets : Vector Nat 8
  rangePresent : Nat
  lifetime : Nat
  base : Nat
  /-- 0 stands for 2^32. -/
  length : Nat
  /-- 0 is unlimited. -/
  budget : Nat
  deriving DecidableEq, Repr

/-- Regulator settings of a segment (R8). -/
structure RegSet where
  window : Nat
  upper : Nat
  lower : Nat
  immediate : Nat
  stepUp : Nat
  stepDown : Nat
  stepImm : Nat
  leak : Int
  holdOff : Nat
  floor : Nat
  ceiling : Nat
  enabled : Bool
  deriving DecidableEq, Repr

/-- One level's entry of a pace table (R8, R103). -/
structure Pace where
  /-- Transmit gap in 100 µs units. -/
  txGap : Nat
  maxCtx : Nat
  credit : Nat
  /-- Receive gap in 100 µs units. -/
  rxGap : Nat
  /-- Pause mask: bit 1 NORMAL, bit 2 BULK. -/
  pause : BitVec 8
  stretch : Nat
  deriving DecidableEq, Repr

/-- Segment settings (R9). -/
structure SegSet where
  /-- Bit rate code 0 to 3. -/
  rate : Nat
  enabled : Bool
  autoRecovery : Bool
  creditWait : Nat
  partWait : Nat
  deriving DecidableEq, Repr

/-- Vehicle state settings (R10). -/
structure VehSet where
  seg : Nat
  format : Nat
  id : Nat
  engineOff : Nat
  roadOff : Nat
  running : Nat
  stationary : Nat
  /-- Staleness limit in ms. -/
  stale : Nat
  deriving DecidableEq, Repr

/-- A policy set, section by section in the order of 11.6. -/
structure PolicySet where
  format : Nat
  threshold : Nat
  suspension : Nat
  /-- Class of each service code 00h–7Fh, or FFh for BLOCKED (R2). -/
  classes : Vector Nat 128
  /-- The eight flags of each class (R3). -/
  rules : Vector (BitVec 8) 8
  routes : Vector Route 32
  grants : Vector Grant 16
  /-- Lane code of each class, for each segment (R7). -/
  lanes : Vector (Vector Nat 8) 4
  /-- Lane code of each phase, for each segment (R7). -/
  phases : Vector (Vector Nat 16) 4
  regs : Vector RegSet 4
  paces : Vector (Vector Pace 8) 4
  segs : Vector SegSet 4
  veh : VehSet
  deriving DecidableEq, Repr

/-- The usage record of a grant (R6). -/
structure Usage where
  count : Nat
  expiry : Option Word32
  expired : Bool
  /-- The grant was spent when a commit kept this record, and stays so under any budget (R6). -/
  spent : Bool
  deriving DecidableEq, Repr

/-- The Policy Store (chapter 1). -/
structure PS where
  active : PolicySet
  usage : Vector Usage 16
  generation : Word32
  armed : Option (Fin 32)
  deriving DecidableEq, Repr

/-! ### Names of states, kinds, stages and reasons -/

/-- True states of a cell (R178). -/
inductive CellState where
  | empty | posted | taken | queued | active | done | failed
  deriving DecidableEq, Repr

/-- Request kinds (11.4). -/
inductive Kind where
  | exchange | watch | transfer | check | commit | channel | connector | throttle | segment
  deriving DecidableEq, Repr

/-- True states of a slot (R120); FILLED is never a resting state. -/
inductive SlotState where
  | free | held | sending | rejected
  deriving DecidableEq, Repr

/-- Lanes of a segment (R7). -/
inductive Lane where
  | urgent | normal | bulk
  deriving DecidableEq, Repr

/-- Role of an entry or an exchange (R48). -/
inductive Role where
  | exchange | start | data | ending | verify | keepalive | cycle
  deriving DecidableEq, Repr

/-- Stages of a fault record (R173). -/
inductive Stage where
  | board | admission | queue | transport | ecu | transfer | policy | connector
  deriving DecidableEq, Repr

/-- Reasons of a fault record (11.4). -/
inductive Reason where
  | badKind | badChannel | badReference | badField
  | channelSuspended | recoveryPending | serviceBlocked | unknownTarget | noGrant | classNotGranted
  | targetNotGranted | rangeNotGranted | ignitionRequired | engineMustStop | engineMustRun | vehicleMoving
  | segmentUnavailable
  | queueTimeout | aborted | conditionLost | testerGone
  | creditTimeout | creditRefused | responseTimeout | frameError | sequenceError | partTimeout | holdLimit
  | segmentOff | segmentRestarted
  | ecuRefused | unexpectedResponse | verifyMismatch
  | feedTimeout | grantWithdrawn | grantExpired
  | invalidSet | notInWorkshop | superseded
  | supplyFault
  deriving DecidableEq, Repr

/-- Denial detail of NO_GRANT (R31). -/
inductive Detail where
  | noGrants | spent | expired
  deriving DecidableEq, Repr

/-- Accrued condition flags of a channel (R175). -/
inductive Flag where
  | denied | queueLost | transport | ecuRefused | transferFailed | truncated | suspended | latched
  deriving DecidableEq, Repr

/-- Event bits (R190). -/
inductive Event where
  | presence | supply | board | commit | segment | level | vehicle | channel
  deriving DecidableEq, Repr

/-- States of a CAN controller (R64). -/
inductive Ctl where
  | joining | online | warning | passive | off | disabled
  deriving DecidableEq, Repr

/-- States of a transport context (R74). -/
inductive CtxState where
  | free | sending | awaitCredit | awaitResponse | receiving
  deriving DecidableEq, Repr

/-- Kinds of transport frame (R72). -/
inductive FrameKind where
  | short | opening | part | credit
  deriving DecidableEq, Repr

/-- Forms of a message received (R84). -/
inductive Form where
  | hold | positive | refusal | other
  deriving DecidableEq, Repr

/-- Phases of a transfer (R118). -/
inductive TPhase where
  | starting | streaming | ending | verifying | done | failed
  deriving DecidableEq, Repr

/-- Lamp modes (R157); the indication is one of the last three. -/
inductive Lamp where
  | auto | off | on | blink
  deriving DecidableEq, Repr

/-- Supply states (8.4). -/
inductive Supply where
  | off | starting | on
  deriving DecidableEq, Repr

/-- Last supply fault (8.4). -/
inductive SupplyFault where
  | none | noSupplyGood | supplyLost | overcurrent
  deriving DecidableEq, Repr

/-- Engine states (R164). -/
inductive Engine where
  | unknown | stopped | running
  deriving DecidableEq, Repr

/-- Motion states (R164). -/
inductive Motion where
  | unknown | stationary | moving
  deriving DecidableEq, Repr

/-- Where the part stands between a reset and Ready (R192, R193). -/
inductive Phase where
  /-- The RAM clear after a power-on reset is under way. -/
  | clearing
  /-- A soft reset has begun and Ready is not yet set. -/
  | resetting
  /-- Ready is 1. -/
  | running
  deriving DecidableEq, Repr

/-- Cause of the last reset (R191). -/
inductive Cause where
  | powerOn | soft
  deriving DecidableEq, Repr

/-! ### The work board -/

/-- The register window and the interrupt line (R177, R190). -/
structure Regs where
  run : Bool
  retain : Bool
  doneIrqEnable : Bool
  done : Word32
  event : BitVec 8
  eventEnable : BitVec 8
  /-- The interrupt line is asserted. -/
  irq : Bool
  deriving DecidableEq, Repr

/-- The internal record of a cell (R178). -/
structure Cell where
  st : CellState
  /-- The 64 bytes of header and request fields captured at take (R185); empty when none. -/
  captured : List Byte
  takeTime : Word32
  /-- When the cell's first exchange started in a context, if one has (R187). -/
  startTime : Option Word32
  abortHeld : Bool
  abortPending : Bool
  /-- Service code and class recorded at the first admission (R26). -/
  service : Nat
  cls : Nat
  /-- Grant index of the result; FFh is none (R35). -/
  grant : Nat
  deriving DecidableEq, Repr

/-- Cells and post list (R178, R184). -/
structure Board where
  cells : Vector Cell 32
  posts : List (Fin 32)
  deriving DecidableEq, Repr

/-- The last-board-error record (R181); `word` is 0 none, 1 cell, 2 slot. -/
structure BoardError where
  word : Nat
  number : Nat
  value : Word16
  state : Nat
  deriving DecidableEq, Repr

/-- Bookkeeping of the Information Block (R191). -/
structure Info where
  counter : Word16
  /-- This event has written into the block (log 20); clear between events. -/
  dirty : Bool
  cause : Cause
  errors : Word32
  lastError : BoardError
  deriving DecidableEq, Repr

/-- Counters of time. `clock` and `us` are the model's own (log 4). -/
structure Time where
  ms : Word32
  sec : Word32
  prescale : Nat
  clock : Nat
  us : Nat
  deriving DecidableEq, Repr

/-! ### Fault records -/

/-- Transport detail: segment, context, frame kind (0 other) and index (R86). -/
structure TDetail where
  seg : Fin 4
  ctx : Fin 4
  kind : Nat
  index : Nat
  deriving DecidableEq, Repr

/-- The transfer progress part of a fault record (R174). -/
structure TProgress where
  role : Role
  block : Nat
  stage : Stage
  deriving DecidableEq, Repr

/-- A fault record but for the snapshots that are taken when it is written (R169, R170). -/
structure FaultRec where
  stage : Stage
  reason : Reason
  secondary : Option Reason
  field : Option Nat
  detail : Option Detail
  refusal : Option Nat
  transport : Option TDetail
  progress : Option TProgress
  offset : Option Nat
  touched : Bool
  /-- The segment concerned, if one is (R169). -/
  seg : Option (Fin 4)
  deriving DecidableEq, Repr

/-- What an owner reports when a cell ends (R187). -/
structure CellEnd where
  fault : Option FaultRec
  truncated : Bool
  abortTooLate : Bool
  superseded : Bool
  refused : Bool
  respLen : Nat
  /-- The kind's own result fields, bytes 100–127. -/
  kind : List Byte
  deriving DecidableEq, Repr

/-! ### Admission -/

/-- The record of a tester channel (R41) and the change counter of its Channel Status entry. -/
structure Chan where
  suspended : Bool
  run : Nat
  remaining : Nat
  latch : Option Nat
  accrued : BitVec 8
  admitted : Word32
  denied : Word32
  counter : Word16
  deriving DecidableEq, Repr

/-- Vehicle conditions (R3, R33). -/
structure Conds where
  ignition : Bool
  stopped : Bool
  running : Bool
  stationary : Bool
  deriving DecidableEq, Repr

/-- What an admission is made of (R26 to R33): channel, service codes, target and, where one is given, a range. -/
structure Request where
  channel : Fin 8
  codes : List Nat
  target : Nat
  /-- Start address and length. -/
  range : Option (Nat × Nat)
  deriving DecidableEq, Repr

/-- The outcome of an admission (R28). `grant` is the index of the grant that passed check 5, or FFh; at a denial by a
later check it is still known (R21). -/
inductive Verdict where
  | allow (grant : Nat) (seg : Fin 4)
  | deny (reason : Reason) (detail : Option Detail) (grant : Option Nat)
  deriving DecidableEq, Repr

/-! ### Lanes, transport and load -/

/-- An entry of a lane queue (R48). -/
structure Entry where
  cell : Fin 32
  target : Nat
  role : Role
  cls : Nat
  lane : Lane
  deadline : Word32
  deriving DecidableEq, Repr

/-- The three queues of a segment, oldest entry first (R48). -/
structure Lanes where
  urgent : List Entry
  normal : List Entry
  bulk : List Entry
  deriving DecidableEq, Repr

/-- Where the STU reads the bytes of a request (R75, R117). -/
inductive Payload where
  /-- Bytes of shared RAM from an address on. -/
  | ram (addr : Nat)
  /-- Data service code, block counter, then the bytes of a slot. -/
  | block (service : Nat) (counter : Nat) (slot : Fin 8)
  deriving DecidableEq, Repr

/-- A frame made ready (R76). A later PART of a credit is spaced from the end of the PART before it. The frame itself is built
when it is offered (log 7, log 8). -/
structure Ready where
  kind : FrameKind
  /-- Instant in µs: when it became ready, or, if `spaced`, the end of the PART before it. -/
  since : Nat
  spaced : Bool
  deriving DecidableEq, Repr

/-- A transport context (4.3). -/
structure Ctx where
  st : CtxState
  cell : Fin 32
  role : Role
  target : Nat
  reqId : CanId
  respId : CanId
  respWait : Nat
  payload : Payload
  length : Nat
  service : Nat
  sent : Nat
  nextPart : BitVec 8
  tag : BitVec 8
  /-- PARTs left in the current credit, none if unlimited. -/
  credit : Option Nat
  /-- ECU gap in 100 µs units. -/
  ecuGap : Nat
  /-- The end of the context's last PART, in µs of the model's clock (R76, R104). -/
  partEnd : Option Nat
  waits : Nat
  holds : Nat
  form : Form
  expected : Nat
  received : Nat
  nextIn : BitVec 8
  ecuTag : BitVec 8
  /-- PARTs left in the credit that the part granted, none if unlimited. -/
  granted : Option Nat
  truncated : Bool
  refusal : Nat
  /-- Extension of the hold being received, in 100 ms units (R80). -/
  holdExt : Nat
  /-- Kind of the first frame of the message being received. -/
  firstKind : FrameKind
  touched : Bool
  timer : Option Nat
  ready : Option Ready
  /-- Index of the last PART sent, 0 if none. -/
  lastPart : Nat
  /-- Kind code and index of the last frame sent or received (R86). -/
  last : Nat × Nat
  /-- The block bytes read for the frames sent (R129). -/
  blockBytes : List Byte
  /-- The two bytes of the response at the CRC offset (R130). -/
  verifyHi : Option Byte
  verifyLo : Option Byte
  deriving DecidableEq, Repr

/-- The frame at the controller (R76). `ctx` is none once its context has been freed. -/
structure Offered where
  ctx : Option (Fin 4)
  frame : CanFrame
  kind : FrameKind
  index : Nat
  /-- Payload bytes that it carries. -/
  carried : List Byte
  /-- The credit that a CREDIT carries, 0 for unlimited (R81). -/
  credit : Nat
  deriving DecidableEq, Repr

/-- One segment: its LS, STU and LR (chapters 3 to 5). -/
structure Seg where
  -- STU
  ctl : Ctl
  tecCount : Nat
  recCount : Nat
  recovery : Nat
  hostDisable : Bool
  sent : Word32
  received : Word32
  errorFrames : Word32
  stray : Word32
  busOff : Word32
  /-- The controller drove the acknowledge slot of the last frame of another node (R64, R69). -/
  ack : Bool
  offered : Option Offered
  /-- End of the part's last frame on the segment, in µs. -/
  lastEnd : Option Nat
  tags : Vector (BitVec 8) 4
  ctxs : Vector Ctx 4
  -- LS
  lanes : Lanes
  pointer : Fin 16
  busy : List Nat
  queueTimeouts : Word32
  pace : Pace
  -- LR
  acc : Nat
  holdOff : Nat
  freeze : Bool
  subBits : Nat
  winBits : Nat
  /-- Start of the window in progress (elapsed ms), and how many of its sub-windows have ended. -/
  winStart : Option Nat
  subIndex : Nat
  lastSubBits : Nat
  lastSubLoad : Nat
  lastWinBits : Nat
  lastLoad : Nat
  levelChanges : Word32
  /-- Change counter of the Segment Status entry. -/
  counter : Word16
  deriving DecidableEq, Repr

/-- How an exchange ends (R86). -/
inductive XOutcome where
  | response (form : Form)
  | failure (reason : Reason)
  deriving DecidableEq, Repr

/-- The STU's report to the owner of an exchange (R86). -/
structure Report where
  outcome : XOutcome
  respLen : Nat
  truncated : Bool
  refusal : Nat
  touched : Bool
  detail : TDetail
  deriving DecidableEq, Repr

/-! ### Transfers -/

/-- The slot record of the TE (R120). -/
structure Slot where
  st : SlotState
  owner : Nat
  block : Nat
  length : Nat
  deriving DecidableEq, Repr

/-- The outstanding exchange of a transfer (R116). -/
structure Outst where
  role : Role
  block : Nat
  /-- In a context, rather than waiting in a lane. -/
  inCtx : Bool
  deriving DecidableEq, Repr

/-- The service codes of a transfer, as recorded at its admission (R27). -/
structure TCodes where
  data : Nat
  start : Option Nat
  ending : Option Nat
  verify : Option Nat
  keepalive : Option Nat
  deriving DecidableEq, Repr

/-- A transfer record (R116). Its request fields stand in the cell's captured fields. -/
structure Transfer where
  channel : Fin 8
  target : Nat
  codes : TCodes
  classes : List Nat
  conds : Conds
  hold : Bool
  /-- Grant index, FFh if none, and that grant's id (log 18). -/
  grant : Nat
  grantId : Nat
  phase : TPhase
  /-- Blocks acknowledged, which is the next needed block. -/
  acked : Nat
  bytes : Nat
  crc : Word16
  out : Option Outst
  /-- The entry set aside while a keep-alive runs, with its segment and block number (R127). -/
  withdrawn : Option (Fin 4 × Entry × Nat)
  kaSent : Nat
  feed : Option Nat
  ka : Option Nat
  touched : Bool
  pending : Option Reason
  /-- The value received from the VERIFY response (R130). -/
  verify : Option Word16
  progress : Word16
  deriving DecidableEq, Repr

/-! ### Watches -/

/-- The outstanding cycle of a watch (R142). -/
inductive WOut where
  | none | lane | context
  deriving DecidableEq, Repr

/-- The last cycle fault of a watch (R173). -/
structure CycleFault where
  stage : Stage
  reason : Reason
  touched : Bool
  transport : Option TDetail
  deriving DecidableEq, Repr

/-- The sample fields of a watch (R147). -/
structure Sample where
  length : Nat
  time : Word32
  form : Nat
  refusal : Nat
  truncated : Bool
  valid : Bool
  deriving DecidableEq, Repr

/-- A watch record (R142). -/
structure Watch where
  channel : Fin 8
  target : Nat
  service : Nat
  cls : Nat
  hold : Bool
  grant : Nat
  grantId : Nat
  period : Nat
  limit : Nat
  notify : Bool
  nextDue : Word32
  /-- Effective period in 10 ms units (R151). -/
  effective : Nat
  out : WOut
  seq : Word16
  done : Nat
  skipped : Nat
  failed : Nat
  consecutive : Nat
  lastFault : Option CycleFault
  /-- ABORTED, GRANT_EXPIRED or TESTER_GONE (R149). -/
  pending : Option Reason
  touched : Bool
  sample : Sample
  deriving DecidableEq, Repr

/-! ### Connector and vehicle -/

/-- A debounced line (R153): raw level, debounced level, and the instant at which the debounce timer expires. -/
structure Line where
  raw : Bool
  level : Bool
  timer : Option Nat
  deriving DecidableEq, Repr

/-- The Connector Monitor (chapter 8). -/
structure CM where
  presence : Line
  key : Line
  grace : Option Nat
  lampMode : Lamp
  lampInd : Lamp
  /-- The lamp output. -/
  lit : Bool
  blink : Option Nat
  reqLamp : Lamp
  /-- Requested supply: ON if true, OFF if false. -/
  reqSupply : Bool
  supply : Supply
  startTimer : Option Nat
  fault : SupplyFault
  good : Bool
  overcurrent : Bool
  cell : Option (Fin 32)
  deriving DecidableEq, Repr

/-- The Vehicle State Monitor (chapter 8). -/
structure VSM where
  ignition : Line
  engine : Engine
  motion : Motion
  /-- The instant of the last accepted state frame, while the staleness timer runs (R165). -/
  lastFrame : Option Nat
  deriving DecidableEq, Repr

end Sys2Proof.Machine
end

