-- ==== Sys2Proof/Machine/Codes.lean ====
section
/-! DEFINITION. The numeric codes of names and the byte addresses of the shared RAM (chapter 11), and the byte-order helpers. -/

namespace Sys2Proof.Machine

/-! ### Bytes (little-endian, R177) -/

/-- The low byte of a number. -/
def byte (n : Nat) : Byte := BitVec.ofNat 8 n

/-- Two bytes, little-endian. -/
def le16 (n : Nat) : List Byte := [byte n, byte (n / 0x100)]

/-- Four bytes, little-endian. -/
def le32 (n : Nat) : List Byte := [byte n, byte (n / 0x100), byte (n / 0x10000), byte (n / 0x1000000)]

/-- The number that bytes spell, little-endian. -/
def ofLe : List Byte → Nat
  | [] => 0
  | b :: bs => b.toNat + 0x100 * ofLe bs

/-- The number that two bytes spell, big-endian (CAN payloads). -/
def be16 (hi lo : Byte) : Nat := hi.toNat * 0x100 + lo.toNat

/-- Bit n of a flags byte. -/
def flagBit (b : Bool) (n : Nat) : Nat := if b then 2 ^ n else 0

/-! ### Addresses (11.3) -/

/-- Cell n begins here. -/
def cellBase (c : Fin 32) : Nat := 0x0100 + c.val * 0x80
/-- Channel Status entry. -/
def chanBase (ch : Fin 8) : Nat := 0x1100 + ch.val * 0x20
/-- Slot header. -/
def slotBase (n : Fin 8) : Nat := 0x1200 + n.val * 0x10
/-- Segment Status entry. -/
def segBase (g : Fin 4) : Nat := 0x1280 + g.val * 0x80
/-- Staged Set. -/
def stagedBase : Nat := 0x1800
/-- Active Set Mirror. -/
def mirrorBase : Nat := 0x2000
/-- Data area of a block slot. -/
def blockBase (n : Fin 8) : Nat := 0x3000 + n.val * 0x800

/-- The 40 watched words: cell state words and slot state words (R179). -/
def watched (a : Nat) : Bool :=
  (List.finRange 32).any (fun c => a == cellBase c) || (List.finRange 8).any (fun n => a == slotBase n)

/-! ### Codes (11.2 to 11.9) -/

def CellState.code : CellState → Nat
  | .empty => 0 | .posted => 1 | .taken => 2 | .queued => 3 | .active => 4 | .done => 5 | .failed => 6

def Kind.ofCode : Nat → Option Kind
  | 1 => some .exchange | 2 => some .watch | 3 => some .transfer | 4 => some .check | 5 => some .commit
  | 6 => some .channel | 7 => some .connector | 8 => some .throttle | 9 => some .segment | _ => none

/-- Kinds whose header names a tester channel (R175, R182, R185). -/
def Kind.namesChannel : Kind → Bool
  | .exchange | .watch | .transfer | .check | .channel => true
  | .commit | .connector | .throttle | .segment => false

def SlotState.code : SlotState → Nat
  | .free => 0 | .held => 2 | .sending => 3 | .rejected => 4

def Lane.code : Lane → Nat
  | .urgent => 0 | .normal => 1 | .bulk => 2

/-- The lane that a lane code of a valid set names (R7). -/
def Lane.ofCode : Nat → Lane
  | 0 => .urgent | 1 => .normal | _ => .bulk

/-- Transfer roles of byte 93 (11.4). -/
def Role.code : Role → Nat
  | .start => 1 | .data => 2 | .ending => 3 | .verify => 4 | .keepalive => 5 | .exchange => 0 | .cycle => 0

def Stage.code : Stage → Nat
  | .board => 1 | .admission => 2 | .queue => 3 | .transport => 4 | .ecu => 5 | .transfer => 6 | .policy => 7
  | .connector => 8

def Reason.code : Reason → Nat
  | .badKind => 0x01 | .badChannel => 0x02 | .badReference => 0x03 | .badField => 0x04
  | .channelSuspended => 0x10 | .recoveryPending => 0x11 | .serviceBlocked => 0x12 | .unknownTarget => 0x13
  | .noGrant => 0x14 | .classNotGranted => 0x15 | .targetNotGranted => 0x16 | .rangeNotGranted => 0x17
  | .ignitionRequired => 0x18 | .engineMustStop => 0x19 | .engineMustRun => 0x1A | .vehicleMoving => 0x1B
  | .segmentUnavailable => 0x1C
  | .queueTimeout => 0x20 | .aborted => 0x21 | .conditionLost => 0x22 | .testerGone => 0x23
  | .creditTimeout => 0x30 | .creditRefused => 0x31 | .responseTimeout => 0x32 | .frameError => 0x33
  | .sequenceError => 0x34 | .partTimeout => 0x35 | .holdLimit => 0x36 | .segmentOff => 0x37 | .segmentRestarted => 0x38
  | .ecuRefused => 0x40 | .unexpectedResponse => 0x41 | .verifyMismatch => 0x42
  | .feedTimeout => 0x50 | .grantWithdrawn => 0x51 | .grantExpired => 0x52
  | .invalidSet => 0x60 | .notInWorkshop => 0x61 | .superseded => 0x62
  | .supplyFault => 0x70

/-- The reasons that check 6 gives (R33). -/
def Reason.isVehicle : Reason → Bool
  | .ignitionRequired | .engineMustStop | .engineMustRun | .vehicleMoving => true
  | _ => false

/-- The reasons that advance the denial run (R42). -/
def Reason.isCounted : Reason → Bool
  | .serviceBlocked | .unknownTarget | .noGrant | .classNotGranted | .targetNotGranted | .rangeNotGranted => true
  | _ => false

/-- The transport reasons, codes 30h–38h (11.4). -/
def Reason.isTransport (r : Reason) : Bool := 0x30 ≤ r.code && r.code ≤ 0x38

def Detail.code : Detail → Nat
  | .noGrants => 1 | .spent => 2 | .expired => 3

/-- The bit of an accrued condition (11.8). -/
def Flag.bit : Flag → BitVec 8
  | .denied => 0x01 | .queueLost => 0x02 | .transport => 0x04 | .ecuRefused => 0x08
  | .transferFailed => 0x10 | .truncated => 0x20 | .suspended => 0x40 | .latched => 0x80

/-- The bit of an event (11.2). -/
def Event.bit : Event → BitVec 8
  | .presence => 0x01 | .supply => 0x02 | .board => 0x04 | .commit => 0x08
  | .segment => 0x10 | .level => 0x20 | .vehicle => 0x40 | .channel => 0x80

def Ctl.code : Ctl → Nat
  | .joining => 0 | .online => 1 | .warning => 2 | .passive => 3 | .off => 4 | .disabled => 5

/-- The states in which the controller sends and lets contexts start, and in which the error counts run (R64, R65). -/
def Ctl.sends : Ctl → Bool
  | .online | .warning | .passive => true
  | .joining | .off | .disabled => false

def CtxState.code : CtxState → Nat
  | .free => 0 | .sending => 1 | .awaitCredit => 2 | .awaitResponse => 3 | .receiving => 4

def FrameKind.code : FrameKind → Nat
  | .short => 1 | .opening => 2 | .part => 3 | .credit => 4

/-- The states in which the controller acknowledges a frame received without error (R64, R67, R69). -/
def Ctl.acknowledges : Ctl → Bool
  | .online | .warning | .passive | .disabled => true
  | .joining | .off => false

/-- Form code of a sample (11.4). -/
def Form.code : Form → Nat
  | .hold => 0 | .positive => 1 | .refusal => 2 | .other => 3

def TPhase.code : TPhase → Nat
  | .starting => 1 | .streaming => 2 | .ending => 3 | .verifying => 4 | .done => 5 | .failed => 6

def Lamp.code : Lamp → Nat
  | .auto => 1 | .off => 2 | .on => 3 | .blink => 4

def Supply.code : Supply → Nat
  | .off => 0 | .starting => 1 | .on => 2

def SupplyFault.code : SupplyFault → Nat
  | .none => 0 | .noSupplyGood => 1 | .supplyLost => 2 | .overcurrent => 3

def Engine.code : Engine → Nat
  | .unknown => 0 | .stopped => 1 | .running => 2

def Motion.code : Motion → Nat
  | .unknown => 0 | .stationary => 1 | .moving => 2

def Cause.code : Cause → Nat
  | .powerOn => 1 | .soft => 2

/-- Bit rate in kbit/s of a bit rate code (11.6). -/
def rateOf : Nat → Nat
  | 0 => 125 | 1 => 250 | 2 => 500 | _ => 1000

/-! ### CRC-16 (R128) -/

/-- One bit step of the CRC-16: polynomial 1021h, most significant bit first. -/
def crcBit (crc : Word16) : Word16 := if crc.msb then (crc <<< 1) ^^^ 0x1021#16 else crc <<< 1

/-- Folds one byte into the CRC-16. -/
def crcByte (crc : Word16) (b : Byte) : Word16 :=
  let x := crc ^^^ (b.zeroExtend 16 <<< 8)
  crcBit (crcBit (crcBit (crcBit (crcBit (crcBit (crcBit (crcBit x)))))))

/-- The CRC-16 of bytes, going on from a value (R128, R129). -/
def crc16 (crc : Word16) (bs : List Byte) : Word16 := bs.foldl crcByte crc

/-- Initial value of the CRC-16 (R128). -/
def crcInit : Word16 := 0xFFFF#16

end Sys2Proof.Machine
end

