-- ==== Sys2Proof/Config.lean ====
section
/-! DEFINITION. What an implementation of the part fixes: identity, capability counts and fixed durations, each from the
rule that its docstring names. The spec leaves no value of a result undefined, so there is no free value here. -/

namespace Sys2Proof.Config

/-- The ID register: part code 1A0h, revision 1 (11.2). -/
def idWord : Word16 := 0x1A01#16

/-- Size of the shared RAM in bytes (R177). -/
def ramSize : Nat := 0x10000

/-- Debounce of presence and key, in ms (R153). -/
def lineDebounce : Nat := 50

/-- Debounce of ignition, in ms (R163). -/
def ignitionDebounce : Nat := 20

/-- Departure grace time, in ms (R156). -/
def graceTime : Nat := 2000

/-- Start timer of the tester supply, in ms (R159). -/
def supplyStart : Nat := 100

/-- Half-period of a blink, in ms (R158). -/
def blinkHalf : Nat := 500

/-- Transfers that may be TAKEN or ACTIVE at once (R115). -/
def transferLimit : Nat := 4

/-- Recessive runs that end OFF (R68). -/
def recoveryRuns : Nat := 128

/-- Hold replies after which one more fails the exchange (R80). -/
def holdLimit : Nat := 16

/-- CREDIT WAITs in a row after which one more fails the exchange (R78). -/
def waitLimit : Nat := 8

/-- Consecutive failed cycles that end a watch (R148). -/
def watchFailLimit : Nat := 4

/-- Default queue limit of EXCHANGE and CYCLE entries, in ms (R49). -/
def queueLimitExchange : Nat := 2000

/-- Default queue limit of a transfer's entries, in ms (R49). -/
def queueLimitTransfer : Nat := 30000

/-- Greatest queue limit, in 10 ms units (R49). -/
def queueLimitMax : Nat := 6000

/-- Default feed timeout, in ms (R114). -/
def feedTimeoutDefault : Nat := 5000

/-- Clamp of a CREDIT gap, in 100 µs units (R73). -/
def gapMax : Nat := 250

end Sys2Proof.Config
end

