-- ==== Sys2Proof/Machine/Defaults.lean ====
section
/-! DEFINITION. The values of each record after a reset: the default set (R23) and the records of the blocks. -/

namespace Sys2Proof.Machine

/-- An unused route entry (R4, R23). The spec gives its address alone; that its other fields are 0 is the model's choice (log 38). -/
def Route.unused : Route := { addr := 0xFF, seg := 0, format := 0, reqId := 0, respId := 0, wait := 0 }

/-- An unused grant entry (R5, R22, R23). The spec gives its id alone; that its other fields are 0 is the model's choice
(log 38). -/
def Grant.unused : Grant :=
  { id := 0, channel := 0, classes := 0, count := 0, targets := Vector.replicate 8 0, rangePresent := 0,
    lifetime := 0, base := 0, length := 0, budget := 0 }

/-- Default regulator settings (R23). -/
def RegSet.default : RegSet :=
  { window := 200, upper := 700, lower := 450, immediate := 900, stepUp := 2048, stepDown := 2048, stepImm := 4096,
    leak := -256, holdOff := 4, floor := 0, ceiling := 7, enabled := true }

/-- Default pace entry of level n (R23). -/
def Pace.default (n : Nat) : Pace :=
  { txGap := n * 10, maxCtx := 4 - n / 2, credit := 8, rxGap := n * 5,
    pause := if n < 4 then 0 else if n < 6 then 4 else 6, stretch := 1 + n / 2 }

/-- Default segment settings (R23). -/
def SegSet.default : SegSet :=
  { rate := 2, enabled := false, autoRecovery := true, creditWait := 150, partWait := 150 }

/-- Default vehicle state settings (R10). -/
def VehSet.default : VehSet :=
  { seg := 0, format := 0, id := 0x7FF, engineOff := 0, roadOff := 2, running := 0, stationary := 0, stale := 1000 }

/-- Default phase table: N U N B four times (R23). -/
def defaultPhases : Vector Nat 16 := #v[1, 0, 1, 2, 1, 0, 1, 2, 1, 0, 1, 2, 1, 0, 1, 2]

/-- The built-in default set (R23). -/
def PolicySet.default : PolicySet :=
  { format := 1, threshold := 8, suspension := 30
    classes := Vector.replicate 128 0xFF
    rules := Vector.replicate 8 0
    routes := Vector.replicate 32 Route.unused
    grants := Vector.replicate 16 Grant.unused
    lanes := Vector.replicate 4 (Vector.replicate 8 1)
    phases := Vector.replicate 4 defaultPhases
    regs := Vector.replicate 4 RegSet.default
    paces := Vector.replicate 4 (Vector.ofFn fun n : Fin 8 => Pace.default n.val)
    segs := Vector.replicate 4 SegSet.default
    veh := VehSet.default }

/-- A fresh usage record without expiry (R6). -/
def Usage.none : Usage := { count := 0, expiry := .none, expired := false, spent := false }

/-- The Policy Store after a power-on reset (R24). -/
def PS.reset : PS :=
  { active := PolicySet.default, usage := Vector.replicate 16 Usage.none, generation := 0, armed := none }

/-- The register window after either reset, but for RETAIN (R192, R193). -/
def Regs.reset (retain : Bool) : Regs :=
  { run := false, retain := retain, doneIrqEnable := false, done := 0, event := 0, eventEnable := 0, irq := false }

/-- An EMPTY cell's record with no marks (R192). -/
def Cell.reset : Cell :=
  { st := .empty, captured := [], takeTime := 0, startTime := none, abortHeld := false, abortPending := false,
    service := 0, cls := 0, grant := 0xFF }

/-- The board after either reset (R192, R193). -/
def Board.reset : Board := { cells := Vector.replicate 32 Cell.reset, posts := [] }

/-- No board error (R181). -/
def BoardError.none : BoardError := { word := 0, number := 0, value := 0, state := 0 }

/-- A channel record after a power-on reset (R47). -/
def Chan.reset : Chan :=
  { suspended := false, run := 0, remaining := 0, latch := none, accrued := 0, admitted := 0, denied := 0, counter := 0 }

/-- A FREE context (R93). Its other fields mean nothing until a start fills them (R75). -/
def Ctx.free : Ctx :=
  { st := .free, cell := 0, role := .exchange, target := 0, reqId := .std 0, respId := .std 0, respWait := 0,
    payload := .ram 0, length := 0, service := 0, sent := 0, nextPart := 0, tag := 0, credit := some 0, ecuGap := 0, partEnd := none,
    waits := 0, holds := 0, form := .other, expected := 0, received := 0, nextIn := 0, ecuTag := 0, granted := some 0,
    truncated := false, refusal := 0, holdExt := 0, firstKind := .short, touched := false, timer := none, ready := none,
    lastPart := 0, last := (0, 0), blockBytes := [], verifyHi := none, verifyLo := none }

/-- Empty lanes (R63). -/
def Lanes.empty : Lanes := { urgent := [], normal := [], bulk := [] }

/-- A segment after a power-on or soft reset under policy set `p` (R63, R93, R113): the accumulator at the ceiling's lowest
value, the pace entry of the ceiling, the controller JOINING if the set enables the segment. That the end of the part's previous
frame is forgotten, so that no transmit gap holds before the first frame, is the model's choice (log 46). -/
def Seg.reset (p : PolicySet) (g : Fin 4) (counter : Word16) : Seg :=
  { ctl := if p.segs[g].enabled then .joining else .disabled
    tecCount := 0, recCount := 0, recovery := 0, hostDisable := false
    sent := 0, received := 0, errorFrames := 0, stray := 0, busOff := 0, ack := false
    offered := none, lastEnd := none
    tags := Vector.replicate 4 0, ctxs := Vector.replicate 4 Ctx.free
    lanes := Lanes.empty, pointer := 0, busy := [], queueTimeouts := 0
    pace := p.paces[g][Fin.ofNat 8 p.regs[g].ceiling]
    acc := p.regs[g].ceiling * 8192
    holdOff := 0, freeze := false, subBits := 0, winBits := 0, winStart := none, subIndex := 0
    lastSubBits := 0, lastSubLoad := 0, lastWinBits := 0, lastLoad := 0, levelChanges := 0
    counter := counter }

/-- A FREE slot (R140). -/
def Slot.reset : Slot := { st := .free, owner := 0, block := 0, length := 0 }

/-- A line whose debounce starts from the deasserted level at instant `now` (R153, R167, R168): the timer runs if the raw
level is asserted. -/
def Line.reset (raw : Bool) (now len : Nat) : Line :=
  { raw := raw, level := false, timer := if raw then some (now + len) else none }

/-- The Connector Monitor after a power-on reset at instant `now` with the raw inputs as given (R167). -/
def CM.reset (presence key good overcurrent : Bool) (now : Nat) : CM :=
  { presence := Line.reset presence now Config.lineDebounce
    key := Line.reset key now Config.lineDebounce
    grace := some (now + Config.graceTime)
    lampMode := .auto, lampInd := .off, lit := false, blink := none
    reqLamp := .auto, reqSupply := false
    supply := .off, startTimer := none, fault := .none
    good := good, overcurrent := overcurrent, cell := none }

/-- The Vehicle State Monitor after either reset at instant `now` (R168). -/
def VSM.reset (ignition : Bool) (now : Nat) : VSM :=
  { ignition := Line.reset ignition now Config.ignitionDebounce, engine := .unknown, motion := .unknown, lastFrame := none }

end Sys2Proof.Machine
end

