-- ==== Sys2Proof/Machine/State.lean ====
section
/-! DEFINITION. The state of the part, the faults and refusals of a step, and the state after a power-on reset. -/

namespace Sys2Proof.Machine

/-- The shared RAM: a strictly rising list of the bytes that are not 0; an unlisted byte reads 0, as the clear of R192
leaves it. -/
abbrev Mem := List Host.Cell

/-- Everything the spec gives the part, and the queue of commands that wait. -/
structure State where
  /-- Between a reset and Ready (R192, R193). -/
  phase : Phase
  /-- Shared RAM (R177). -/
  mem : Mem
  /-- Register window and interrupt line (R177, R190). -/
  regs : Regs
  /-- Cells and post list (R178, R184). -/
  board : Board
  /-- Information Block bookkeeping (R181, R191). -/
  info : Info
  /-- Counters of time (R191). -/
  time : Time
  /-- Policy Store (chapter 1). -/
  ps : PS
  /-- Channel table (R41). -/
  chans : Vector Chan 8
  /-- The four segments (chapters 3 to 5). -/
  segs : Vector Seg 4
  /-- Transfer records, by cell (R116). -/
  transfers : Vector (Option Transfer) 32
  /-- Slot records (R120). -/
  slots : Vector Slot 8
  /-- Watch records, by cell (R142). -/
  watches : Vector (Option Watch) 32
  /-- Connector Monitor (chapter 8). -/
  cm : CM
  /-- Vehicle State Monitor (chapter 8). -/
  vsm : VSM
  /-- Commands that wait, first in, first out (log 2). -/
  pending : List Instr
  deriving DecidableEq, Repr

/-- Why a command faults. -/
inductive Fault where
  /-- Raised by HOST_RAM_WRITE for an address that is no word of the port: odd, or outside the 64 KiB (R177). Safe: the
  machine stops where no such access exists (log 27). -/
  | noSuchWord (addr : Nat)
  deriving DecidableEq, Repr

/-- Why a command is refused. -/
inductive Refusal where
  /-- Raised by an arm of `exec` whose command has no meaning yet; no arm raises it. Safe. -/
  | notModelled (mnemonic : String)
  deriving DecidableEq, Repr

/-- The part right after a power-on reset: the RAM clear is under way and every unit holds its power-on values (R192). The
raw inputs are deasserted (log 3). -/
def State.reset : State :=
  { phase := .clearing
    mem := []
    regs := Regs.reset false
    board := Board.reset
    info := { counter := 0, dirty := false, cause := .powerOn, errors := 0, lastError := BoardError.none }
    time := { ms := 0, sec := 0, prescale := 0, clock := 0, us := 0 }
    ps := PS.reset
    chans := Vector.replicate 8 Chan.reset
    segs := Vector.ofFn fun g => Seg.reset PolicySet.default g 0
    transfers := Vector.replicate 32 none
    slots := Vector.replicate 8 Slot.reset
    watches := Vector.replicate 32 none
    cm := CM.reset false false false false 0
    vsm := VSM.reset false 0
    pending := [] }

end Sys2Proof.Machine
end

