-- ==== Sys2Proof/Machine/Ops.lean ====
section
/-! DEFINITION. The operations over shared RAM and over the records of State that every block uses. -/

namespace Sys2Proof.Machine

/-! ### Shared RAM (R177) -/

/-- One byte of RAM; an unlisted byte is 0 (R192). -/
def Mem.read (m : Mem) (a : Nat) : Byte :=
  match m.find? (fun c => c.1 == a) with
  | some c => c.2
  | none => 0

/-- `n` bytes of RAM from address `a` on. -/
def Mem.bytes (m : Mem) (a n : Nat) : List Byte := (List.range n).map fun k => m.read (a + k)

/-- The part of RAM from `a` on for `n` bytes, as memory of its own. -/
def Mem.window (m : Mem) (a n : Nat) : Mem := m.filter fun c => a ≤ c.1 && c.1 < a + n

/-- The entries that list bytes from an address on: a byte of 0 or outside the 64 KiB has none. -/
def Mem.cells : Nat → List Byte → Mem
  | _, [] => []
  | a, b :: bs => if b = 0 ∨ Config.ramSize ≤ a then Mem.cells (a + 1) bs else (a, b) :: Mem.cells (a + 1) bs

/-- Stores bytes from address `a` on, and keeps the canonical form. -/
def Mem.write (m : Mem) (a : Nat) (bs : List Byte) : Mem :=
  m.filter (fun c => c.1 < a) ++ Mem.cells a bs ++ m.filter (fun c => a + bs.length ≤ c.1)

/-- The canonical form: addresses strictly rise, lie inside the 64 KiB, and no listed byte is 0. -/
abbrev Mem.wf (m : Mem) : Prop :=
  m.Pairwise (fun c d => c.1 < d.1) ∧ ∀ c ∈ m, c.2 ≠ 0 ∧ c.1 < Config.ramSize

/-- The 16-bit word at an address. -/
def Mem.word (m : Mem) (a : Nat) : Word16 := BitVec.ofNat 16 (ofLe (m.bytes a 2))

/-- A host word write: the bytes enabled are stored (R177). -/
def Mem.hostWrite (m : Mem) (a : Nat) (w : HostWrite) : Mem :=
  let m := if w.low then m.write a [byte w.data.toNat] else m
  if w.high then m.write (a + 1) [byte (w.data.toNat / 0x100)] else m

/-- `n` bytes from `a` on, of which only the bits of the mask `k` stay. -/
def Mem.kept (m : Mem) (a n : Nat) (k : Byte) : List Byte :=
  if k = 0 then List.replicate n 0 else (m.bytes a n).map (· &&& k)

/-- A run of bytes with reserved bits: its address, its length, and the mask of the bits of each byte that are not reserved. -/
abbrev Reserved := Nat × Nat × Byte

/-- Stores zeros into the reserved bits of runs. -/
def Mem.clear (m : Mem) (runs : List Reserved) : Mem := runs.foldl (fun m r => m.write r.1 (m.kept r.1 r.2.1 r.2.2)) m

/-! ### Updates of one record -/

/-- Applies `f` to element `i`. -/
def upd {α : Type} {n : Nat} (v : Vector α n) (i : Fin n) (f : α → α) : Vector α n := v.set i (f v[i])

/-- Stores bytes into RAM. -/
def State.wr (s : State) (a : Nat) (bs : List Byte) : State := { s with mem := s.mem.write a bs }

/-- Stores zeros into the reserved bytes and bits of a record that the part writes (R194). -/
def State.wrReserved (s : State) (runs : List Reserved) : State := { s with mem := s.mem.clear runs }

def State.modRegs (s : State) (f : Regs → Regs) : State := { s with regs := f s.regs }
def State.modInfo (s : State) (f : Info → Info) : State := { s with info := f s.info }
def State.modTime (s : State) (f : Time → Time) : State := { s with time := f s.time }
def State.modPs (s : State) (f : PS → PS) : State := { s with ps := f s.ps }
def State.modCm (s : State) (f : CM → CM) : State := { s with cm := f s.cm }
def State.modVsm (s : State) (f : VSM → VSM) : State := { s with vsm := f s.vsm }
def State.setPosts (s : State) (l : List (Fin 32)) : State := { s with board := { s.board with posts := l } }
def State.modCell (s : State) (c : Fin 32) (f : Cell → Cell) : State :=
  { s with board := { s.board with cells := upd s.board.cells c f } }
def State.modChan (s : State) (ch : Fin 8) (f : Chan → Chan) : State := { s with chans := upd s.chans ch f }
def State.modSeg (s : State) (g : Fin 4) (f : Seg → Seg) : State := { s with segs := upd s.segs g f }
def State.modCtx (s : State) (g x : Fin 4) (f : Ctx → Ctx) : State :=
  s.modSeg g fun q => { q with ctxs := upd q.ctxs x f }
def State.setTransfer (s : State) (c : Fin 32) (t : Option Transfer) : State :=
  { s with transfers := s.transfers.set c t }
def State.modTransfer (s : State) (c : Fin 32) (f : Transfer → Transfer) : State :=
  { s with transfers := upd s.transfers c (Option.map f) }
def State.modSlot (s : State) (n : Fin 8) (f : Slot → Slot) : State := { s with slots := upd s.slots n f }
def State.setWatch (s : State) (c : Fin 32) (w : Option Watch) : State := { s with watches := s.watches.set c w }
def State.modWatch (s : State) (c : Fin 32) (f : Watch → Watch) : State :=
  { s with watches := upd s.watches c (Option.map f) }

/-- The record of cell `c`. -/
def State.cell (s : State) (c : Fin 32) : Cell := s.board.cells[c]
/-- Segment `g`. -/
def State.seg (s : State) (g : Fin 4) : Seg := s.segs[g]
/-- Context `x` of segment `g`. -/
def State.ctx (s : State) (g x : Fin 4) : Ctx := (s.segs[g]).ctxs[x]
/-- Channel record `ch`. -/
def State.chan (s : State) (ch : Fin 8) : Chan := s.chans[ch]
/-- Transfer record of cell `c`. -/
def State.transfer (s : State) (c : Fin 32) : Option Transfer := s.transfers[c]
/-- Watch record of cell `c`. -/
def State.watch (s : State) (c : Fin 32) : Option Watch := s.watches[c]
/-- Slot record `n`. -/
def State.slot (s : State) (n : Fin 8) : Slot := s.slots[n]

/-! ### The Information Block (R191) -/

/-- Writes a field of the Information Block; the change counter follows once, at the end of the event. -/
def State.wrInfo (s : State) (off : Nat) (bs : List Byte) : State :=
  (s.wr off bs).modInfo fun i => { i with dirty := true }

/-! ### Time (R191, log 4, log 5) -/

/-- The present instant in µs since power-on, on the model's own clock. -/
def State.now (s : State) : Nat := s.time.clock * 1000 + s.time.us

/-- Moves to microsecond `us` of the present millisecond; time does not go back (log 6). -/
def State.atUs (s : State) (us : Fin 1000) : State := s.modTime fun t => { t with us := max t.us us.val }

/-- A timer that runs to an instant of the clock is due. -/
def State.due (s : State) (timer : Option Nat) : Bool :=
  match timer with
  | some t => t ≤ s.time.clock
  | none => false

/-- A 32-bit value of the millisecond counter has been reached: the counter, which wraps, stands at it or less than 2^31
after it (log 5). -/
def State.reached (s : State) (t : Word32) : Bool := (s.time.ms - t).toNat < 0x80000000

/-- The instant `n` ms ahead on the millisecond counter. -/
def State.msIn (s : State) (n : Nat) : Word32 := s.time.ms + BitVec.ofNat 32 n

/-! ### Host reads (R177, R192, R194) -/

/-- What a host read of RAM returns: zero while the RAM is being cleared, the word otherwise. -/
def hostReadRam (s : State) (a : Nat) : Word16 :=
  match s.phase with
  | .clearing => 0
  | .resetting | .running => s.mem.word a

/-- CONTROL as the host reads it; SOFT_RESET reads 0. -/
def controlWord (r : Regs) : Word16 :=
  BitVec.ofNat 16 (flagBit r.run 0 + flagBit r.retain 2 + flagBit r.doneIrqEnable 3)

/-- What a host read of the register window returns; ID is readable from the start of the power-on reset. -/
def hostReadRegister (s : State) (a : Nat) : Word16 :=
  if a = 0x00 then Config.idWord
  else match s.phase with
    | .clearing => 0
    | .resetting | .running =>
      match a with
      | 0x02 => controlWord s.regs
      | 0x04 => s.regs.done.truncate 16
      | 0x06 => (s.regs.done >>> 16).truncate 16
      | 0x08 => s.regs.event.zeroExtend 16
      | 0x0A => s.regs.eventEnable.zeroExtend 16
      | _ => 0

end Sys2Proof.Machine
end

