-- ==== Sys2Proof/Machine/Flags.lean ====
section
/-! DEFINITION. Event bits, done bits, the interrupt line and the end of an event (R189 to R191), and the flag bytes of a
result (11.4). -/

namespace Sys2Proof.Machine

/-- Sets an event bit; setting one that is set changes nothing (R190). -/
def State.event (s : State) (e : Event) : State := s.modRegs fun r => { r with event := r.event ||| e.bit }

/-- Sets a cell's bit in DONE SUMMARY (R189). -/
def State.setDone (s : State) (c : Fin 32) : State :=
  s.modRegs fun r => { r with done := r.done ||| (1#32 <<< c.val) }

/-- When the SMP asserts the interrupt line (R190). -/
def irqOf (r : Regs) : Bool := (r.doneIrqEnable && r.done != 0) || (r.event &&& r.eventEnable) != 0

/-- The line follows the registers in the event of the change (R190). -/
def State.irqUpdate (s : State) : State := s.modRegs fun r => { r with irq := irqOf r }

/-- The reserved bytes of the Information Block, and the reserved bits of the bytes of Ready and of the connector lines (11.7). -/
def infoReserved : List Reserved :=
  [(0x09, 1, 0), (0x0A, 1, 1), (0x0E, 2, 0), (0x18, 1, 7), (0x1F, 1, 0), (0x23, 1, 0), (0x35, 203, 0)]

/-- An event that has written into the Information Block writes its reserved bytes and bits as 0 and increments its change
counter once, after its fields (R191, R194). -/
def State.infoClose (s : State) : State :=
  if s.info.dirty then
    let n := s.info.counter + 1
    ((s.wrReserved infoReserved).wr 0x0C (le16 n.toNat)).modInfo fun i => { i with counter := n, dirty := false }
  else s

/-- The end of every event: the change counter of the Information Block and the interrupt line follow. -/
def State.finish (s : State) : State := s.infoClose.irqUpdate

/-- The next state of a meaning whose effect is `s`. -/
def complete (s : State) : Host.Outcome State Fault Refusal := .next s.finish

/-- What a command comes to when the event that it names cannot take place in this state: nothing happens (log 1). -/
def noEvent (s : State) : Host.Outcome State Fault Refusal := .next s

/-- Result flags, byte 65 (11.4). -/
def CellEnd.flags (e : CellEnd) : Nat :=
  flagBit e.truncated 0 + flagBit e.abortTooLate 1 + flagBit e.superseded 2 + flagBit e.refused 3

/-- Presence mask of a fault record, byte 71 (R170, 11.4). -/
def FaultRec.mask (f : FaultRec) : Nat :=
  flagBit f.secondary.isSome 0 + flagBit f.field.isSome 1 + flagBit f.detail.isSome 2 + flagBit f.refusal.isSome 3 +
    flagBit f.transport.isSome 4 + flagBit f.progress.isSome 5 + flagBit f.offset.isSome 6

/-- Vehicle state snapshot and ECU_TOUCHED, byte 85 (11.4). -/
def snapshotByte (v : VSM) (touched : Bool) : Nat :=
  flagBit v.ignition.level 0 + v.engine.code * 2 + v.motion.code * 8 + flagBit touched 7

/-- Bits of the connector byte 18h of the Information Block; workshop mode holds while both lines are asserted (R155). -/
def workshop (s : State) : Bool := s.cm.presence.level && s.cm.key.level

end Sys2Proof.Machine
end

