-- ==== Sys2Proof/Machine/Operands.lean ====
section
/-! DEFINITION. The fields of a cell as the part reads them: from the 64 bytes captured at take (R185), at the offsets of
11.4, and the effective values that the rules give them. -/

namespace Sys2Proof.Machine

/-- The byte at an offset of captured bytes. -/
def field8 (cap : List Byte) (off : Nat) : Nat := (cap.getD off 0).toNat
/-- The 16-bit field at an offset. -/
def field16 (cap : List Byte) (off : Nat) : Nat := field8 cap off + 0x100 * field8 cap (off + 1)
/-- The 32-bit field at an offset. -/
def field32 (cap : List Byte) (off : Nat) : Nat := field16 cap off + 0x10000 * field16 cap (off + 2)

/-- A reference: address and length (chapter 11). -/
structure Ref where
  addr : Nat
  len : Nat
  deriving DecidableEq, Repr

/-- The reference at an offset. -/
def refAt (cap : List Byte) (off : Nat) : Ref := { addr := field16 cap off, len := field16 cap (off + 2) }

/-- The reference lies wholly inside the Payload Area (R186). -/
def Ref.inside (r : Ref) : Bool := 0x8000 ≤ r.addr && r.addr + r.len ≤ 0x10000

/-- The kind of captured fields, if it is one of the nine codes. -/
def kindOf (cap : List Byte) : Option Kind := Kind.ofCode (field8 cap 2)

/-- A channel number, if it is one of the eight. -/
def chanOf (n : Nat) : Option (Fin 8) := if h : n < 8 then some ⟨n, h⟩ else none

/-- A segment number, if it is one of the four. -/
def segOf (n : Nat) : Option (Fin 4) := if h : n < 4 then some ⟨n, h⟩ else none

/-- The channel that captured fields name, for a kind that names one. -/
def channelNamed (cap : List Byte) : Option (Fin 8) :=
  match kindOf cap with
  | some k => if k.namesChannel then chanOf (field8 cap 3) else none
  | none => none

/-- The queue limit in ms: a field of 0 selects the default, and a value above 6000 counts as 6000 (R49, R185). -/
def queueLimit (cap : List Byte) (dflt : Nat) : Nat :=
  let f := field16 cap 8
  if f = 0 then dflt else min f Config.queueLimitMax * 10

/-- Target address of EXCHANGE, WATCH, TRANSFER and CHECK. -/
def targetOf (cap : List Byte) : Nat := field8 cap 16

/-- Request reference of EXCHANGE and WATCH. -/
def requestRef (cap : List Byte) : Ref := refAt cap 18
/-- Response reference of EXCHANGE and WATCH; its length is the response capacity. -/
def responseRef (cap : List Byte) : Ref := refAt cap 22

/-- Image length of a TRANSFER. -/
def imageLength (cap : List Byte) : Nat := field32 cap 22
/-- Block size of a TRANSFER. -/
def blockSize (cap : List Byte) : Nat := field16 cap 26
/-- Block count: ceil(image length / block size) (R117). -/
def blockCount (cap : List Byte) : Nat := (imageLength cap + blockSize cap - 1) / blockSize cap
/-- Length of block k (R117). -/
def blockLength (cap : List Byte) (k : Nat) : Nat :=
  if k + 1 = blockCount cap then imageLength cap - k * blockSize cap else blockSize cap
/-- Feed timeout in ms; 0 selects 5 s (R114). -/
def feedTimeout (cap : List Byte) : Nat :=
  if field16 cap 28 = 0 then Config.feedTimeoutDefault else field16 cap 28 * 100
/-- The four references of a TRANSFER. -/
def startRef (cap : List Byte) : Ref := refAt cap 30
def endRef (cap : List Byte) : Ref := refAt cap 34
def verifyRef (cap : List Byte) : Ref := refAt cap 38
def keepaliveRef (cap : List Byte) : Ref := refAt cap 44
/-- CRC offset of a TRANSFER. -/
def crcOffset (cap : List Byte) : Nat := field16 cap 42
/-- Keep-alive interval of a TRANSFER, in ms. -/
def keepaliveInterval (cap : List Byte) : Nat := field16 cap 48

/-! ### Checks at take (R185, R186 and the rules that they name) -/

/-- How a check at take fails: the reason, and the field detail where the reason has one (R170, 11.4). -/
abbrev TakeFault := Reason × Option Nat

/-- The first of ordered checks that fails; each check names its failure. -/
def firstFailure (checks : List (Bool × TakeFault)) : Option TakeFault :=
  (checks.find? fun c => !c.1).map Prod.snd

/-- A present reference, of length 1–4095 and inside the Payload Area. -/
def payloadRefOk (r : Ref) : Bool := 1 ≤ r.len && r.len ≤ 4095 && r.inside
/-- A response reference: inside the Payload Area, or of length 0. -/
def responseRefOk (r : Ref) : Bool := r.len == 0 || r.inside
/-- An optional payload reference: absent, or as a present one (R114). -/
def optionalRefOk (r : Ref) : Bool := r.len == 0 || payloadRefOk r

/-- BAD_FIELD and BAD_REFERENCE at an offset. -/
def badField (off : Nat) : TakeFault := (.badField, some off)
def badRef (off : Nat) : TakeFault := (.badReference, some off)

/-- The checks common to all kinds (R185), but for the kind itself. -/
def commonChecks (k : Kind) (cap : List Byte) : List (Bool × TakeFault) :=
  [(!k.namesChannel || field8 cap 3 < 8, (.badChannel, none)),
   (!(k == .exchange || k == .watch || k == .transfer) || field16 cap 8 == 0 || 10 ≤ field16 cap 8, badField 8)]

/-- The field checks of a TRANSFER, in the order of R114's table. -/
def transferChecks (cap : List Byte) : List (Bool × TakeFault) :=
  [(1 ≤ imageLength cap && imageLength cap ≤ 16777216, badField 22),
   (16 ≤ blockSize cap && blockSize cap ≤ 2048, badField 26),
   (field16 cap 28 == 0 || (5 ≤ field16 cap 28 && field16 cap 28 ≤ 300), badField 28),
   (optionalRefOk (startRef cap), badRef 30),
   (optionalRefOk (endRef cap), badRef 34),
   (optionalRefOk (verifyRef cap), badRef 38),
   ((verifyRef cap).len == 0 || crcOffset cap ≤ 4093, badField 42),
   (optionalRefOk (keepaliveRef cap), badRef 44),
   ((keepaliveRef cap).len == 0 || (500 ≤ keepaliveInterval cap && keepaliveInterval cap ≤ 10000), badField 48)]

/-- The checks of the cell's kind (R186, with R11, R45, R88, R107, R114, R141, R160). -/
def kindChecks (k : Kind) (cap : List Byte) : List (Bool × TakeFault) :=
  match k with
  | .exchange => [(payloadRefOk (requestRef cap), badRef 18), (responseRefOk (responseRef cap), badRef 22)]
  | .watch =>
    [(payloadRefOk (requestRef cap), badRef 18), (responseRefOk (responseRef cap), badRef 22),
     (5 ≤ field16 cap 26 && field16 cap 26 ≤ 6000, badField 26)]
  | .transfer => transferChecks cap
  | .check => []
  | .commit => [(field8 cap 16 == 1 || field8 cap 16 == 2, badField 16)]
  | .channel => [(1 ≤ field8 cap 16 && field8 cap 16 ≤ 3, badField 16)]
  | .connector => [(field8 cap 16 ≤ 4, badField 16), (field8 cap 17 ≤ 2, badField 17)]
  | .throttle => [(field8 cap 16 < 4, badField 16), (1 ≤ field8 cap 17 && field8 cap 17 ≤ 3, badField 17)]
  | .segment => [(field8 cap 16 < 4, badField 16), (1 ≤ field8 cap 17 && field8 cap 17 ≤ 3, badField 17)]

/-- The checks of captured fields at take, but for the limits of R115. -/
def takeFault (cap : List Byte) : Option TakeFault :=
  match kindOf cap with
  | none => some (.badKind, none)
  | some k => firstFailure (commonChecks k cap ++ kindChecks k cap)

end Sys2Proof.Machine
end

