-- ==== Sys2Proof/Machine/Policy.lean ====
section
/-! DEFINITION. Policy sets: reading the Staged Set, writing the mirror, validation, and what the blocks look up in the active
set (R1 to R10, R12, R195, 11.6). -/

namespace Sys2Proof.Machine

/-! ### From bytes and to bytes (11.6) -/

/-- A 16-bit two's complement field. -/
def signed16 (n : Nat) : Int := if n < 0x8000 then n else (n : Int) - 0x10000

/-- The bytes of a two's complement field. -/
def leInt16 (k : Int) : List Byte := le16 (k % 0x10000).toNat

/-- Reads a policy set from 2 KiB of memory beginning at address `b`. Reserved bytes and bits are passed over (R194). -/
def PolicySet.read (m : Mem) (b : Nat) : PolicySet :=
  let m := m.window b 0x800
  let u8 := fun o => (m.read (b + o)).toNat
  let u16 := fun o => u8 o + 0x100 * u8 (o + 1)
  let u32 := fun o => u16 o + 0x10000 * u16 (o + 2)
  { format := u8 0, threshold := u8 1, suspension := u8 2
    classes := Vector.ofFn fun i : Fin 128 => u8 (0x10 + i.val)
    rules := Vector.ofFn fun i : Fin 8 => m.read (b + 0x90 + i.val)
    routes := Vector.ofFn fun i : Fin 32 =>
      let o := 0x0A0 + i.val * 16
      { addr := u8 o, seg := u8 (o + 1), format := u8 (o + 2), reqId := u32 (o + 4), respId := u32 (o + 8),
        wait := u16 (o + 12) }
    grants := Vector.ofFn fun i : Fin 16 =>
      let o := 0x2A0 + i.val * 32
      { id := u8 o, channel := u8 (o + 1), classes := m.read (b + o + 2), count := u8 (o + 3)
        targets := Vector.ofFn fun j : Fin 8 => u8 (o + 4 + j.val)
        rangePresent := u8 (o + 12), lifetime := u16 (o + 14), base := u32 (o + 16), length := u32 (o + 20)
        budget := u16 (o + 24) }
    lanes := Vector.ofFn fun g : Fin 4 => Vector.ofFn fun k : Fin 8 => u8 (0x4A0 + g.val * 8 + k.val)
    phases := Vector.ofFn fun g : Fin 4 => Vector.ofFn fun k : Fin 16 => u8 (0x4C0 + g.val * 16 + k.val)
    regs := Vector.ofFn fun g : Fin 4 =>
      let o := 0x500 + g.val * 32
      { window := u16 o, upper := u16 (o + 2), lower := u16 (o + 4), immediate := u16 (o + 6), stepUp := u16 (o + 8)
        stepDown := u16 (o + 10), stepImm := u16 (o + 12), leak := signed16 (u16 (o + 14)), holdOff := u8 (o + 16)
        floor := u8 (o + 17), ceiling := u8 (o + 18), enabled := u8 (o + 19) % 2 == 1 }
    paces := Vector.ofFn fun g : Fin 4 => Vector.ofFn fun n : Fin 8 =>
      let o := 0x580 + g.val * 64 + n.val * 8
      { txGap := u8 o, maxCtx := u8 (o + 1), credit := u8 (o + 2), rxGap := u8 (o + 3), pause := m.read (b + o + 4)
        stretch := u8 (o + 5) }
    segs := Vector.ofFn fun g : Fin 4 =>
      let o := 0x680 + g.val * 8
      { rate := u8 o, enabled := u8 (o + 1) % 2 == 1, autoRecovery := u8 (o + 1) / 2 % 2 == 1, creditWait := u16 (o + 2)
        partWait := u16 (o + 4) }
    veh :=
      { seg := u8 0x6A0, format := u8 0x6A1, id := u32 0x6A4, engineOff := u8 0x6A8, roadOff := u8 0x6A9
        running := u16 0x6AA, stationary := u16 0x6AC, stale := u16 0x6AE } }

/-- Zero bytes. -/
def zeros (n : Nat) : List Byte := List.replicate n 0

/-- Header section. -/
def PolicySet.headerBytes (p : PolicySet) : List Byte := [byte p.format, byte p.threshold, byte p.suspension] ++ zeros 13

def Route.bytes (r : Route) : List Byte :=
  [byte r.addr, byte r.seg, byte r.format, 0] ++ le32 r.reqId ++ le32 r.respId ++ le16 r.wait ++ zeros 2

def Grant.bytes (q : Grant) : List Byte :=
  [byte q.id, byte q.channel, q.classes, byte q.count] ++ q.targets.toList.map byte ++ [byte q.rangePresent, 0] ++
    le16 q.lifetime ++ le32 q.base ++ le32 q.length ++ le16 q.budget ++ zeros 6

def RegSet.bytes (r : RegSet) : List Byte :=
  le16 r.window ++ le16 r.upper ++ le16 r.lower ++ le16 r.immediate ++ le16 r.stepUp ++ le16 r.stepDown ++
    le16 r.stepImm ++ leInt16 r.leak ++ [byte r.holdOff, byte r.floor, byte r.ceiling, byte (flagBit r.enabled 0)] ++ zeros 12

/-- The six bytes of a pace entry, in pace-table order. -/
def Pace.bytes (q : Pace) : List Byte :=
  [byte q.txGap, byte q.maxCtx, byte q.credit, byte q.rxGap, q.pause, byte q.stretch]

def SegSet.bytes (q : SegSet) : List Byte :=
  [byte q.rate, byte (flagBit q.enabled 0 + flagBit q.autoRecovery 1)] ++ le16 q.creditWait ++ le16 q.partWait ++ zeros 2

def VehSet.bytes (v : VehSet) : List Byte :=
  [byte v.seg, byte v.format, 0, 0] ++ le32 v.id ++ [byte v.engineOff, byte v.roadOff] ++ le16 v.running ++
    le16 v.stationary ++ le16 v.stale

/-- The 2 KiB of the Active Set Mirror: the set in its layout, reserved bytes 0 (R13, R194, 11.6). -/
def PolicySet.bytes (p : PolicySet) : List Byte :=
  p.headerBytes ++ p.classes.toList.map byte ++ p.rules.toList ++ zeros 8 ++
    p.routes.toList.flatMap Route.bytes ++ p.grants.toList.flatMap Grant.bytes ++
    p.lanes.toList.flatMap (fun v => v.toList.map byte) ++ p.phases.toList.flatMap (fun v => v.toList.map byte) ++
    p.regs.toList.flatMap RegSet.bytes ++
    p.paces.toList.flatMap (fun v => v.toList.flatMap fun q => q.bytes ++ zeros 2) ++
    p.segs.toList.flatMap SegSet.bytes ++ p.veh.bytes ++ zeros 0x150

/-- The PS writes the active set to the Active Set Mirror (R13, R22, R24, R25). -/
def State.wrMirror (s : State) : State := s.wr mirrorBase s.ps.active.bytes

/-! ### Lookups in a set -/

/-- A route entry in use (R4). -/
def Route.used (r : Route) : Bool := r.addr != 0xFF

/-- A grant entry in use (R5). -/
def Grant.used (q : Grant) : Bool := q.id != 0

/-- An identifier in the format that a format code names (R4). -/
def canId (format id : Nat) : CanId := if format = 1 then .ext (BitVec.ofNat 29 id) else .std (BitVec.ofNat 11 id)

def Route.req (r : Route) : CanId := canId r.format r.reqId
def Route.resp (r : Route) : CanId := canId r.format r.respId

/-- The segment of a used route entry. -/
def Route.segment (r : Route) : Fin 4 := Fin.ofNat 4 r.seg

/-- The used route entry of an address (R4, R30). FFh has none. -/
def PolicySet.route (p : PolicySet) (addr : Nat) : Option Route := p.routes.toList.find? fun r => r.used && r.addr == addr

/-- The class of a service code, none if it is BLOCKED (R2, R26). -/
def PolicySet.classOf (p : PolicySet) (code : Nat) : Option (Fin 8) :=
  if h : code < 128 then
    let k := p.classes[code]
    if h' : k < 8 then some ⟨k, h'⟩ else none
  else none

/-- Flags of a class rule (R3, 11.6). -/
def PolicySet.grantRequired (p : PolicySet) (k : Fin 8) : Bool := p.rules[k].getLsbD 0
def PolicySet.needsIgnition (p : PolicySet) (k : Fin 8) : Bool := p.rules[k].getLsbD 1
def PolicySet.engineStopped (p : PolicySet) (k : Fin 8) : Bool := p.rules[k].getLsbD 2
def PolicySet.engineRunning (p : PolicySet) (k : Fin 8) : Bool := p.rules[k].getLsbD 3
def PolicySet.stationary (p : PolicySet) (k : Fin 8) : Bool := p.rules[k].getLsbD 4
def PolicySet.rangeChecked (p : PolicySet) (k : Fin 8) : Bool := p.rules[k].getLsbD 5
def PolicySet.recoveryAllowed (p : PolicySet) (k : Fin 8) : Bool := p.rules[k].getLsbD 6
def PolicySet.holdWhile (p : PolicySet) (k : Fin 8) : Bool := p.rules[k].getLsbD 7

/-- The vehicle conditions of a class set: the union of those of its classes (R3, R27). -/
def PolicySet.conds (p : PolicySet) (ks : List (Fin 8)) : Conds :=
  { ignition := ks.any p.needsIgnition, stopped := ks.any p.engineStopped, running := ks.any p.engineRunning
    stationary := ks.any p.stationary }

/-- A grant permits a class. -/
def Grant.permits (q : Grant) (k : Fin 8) : Bool := q.classes.getLsbD k.val

/-- A grant permits a target: its list is ALL or holds the address (R32). -/
def Grant.hasTarget (q : Grant) (addr : Nat) : Bool :=
  q.count == 0xFF || (q.targets.toList.take q.count).contains addr

/-- The end of a grant's programming range; a length of 0 counts as 2^32 (R5, R32). -/
def Grant.rangeEnd (q : Grant) : Nat := q.base + if q.length = 0 then 0x100000000 else q.length

/-- A grant contains a range; the sums do not wrap (R32). -/
def Grant.contains (q : Grant) (start len : Nat) : Bool := q.base ≤ start && start + len ≤ q.rangeEnd

/-- Bit rate of a segment, in kbit/s (R9). -/
def PolicySet.rate (p : PolicySet) (g : Fin 4) : Nat := rateOf p.segs[g].rate

/-! ### Validation (R12, R195): the items in ascending order of their offsets, each with its own check -/

/-- One item: its offset, and whether it is valid. -/
abbrev Item := Nat × Bool

/-- The index of the first used route entry with an address, before index `n`. -/
def PolicySet.routesBefore (p : PolicySet) (n : Nat) : List Route := (p.routes.toList.take n).filter Route.used

/-- An identifier fits its format (R4, R10). -/
def idInRange (format id : Nat) : Bool := if format = 0 then id ≤ 0x7FF else id ≤ 0x1FFFFFFF

def PolicySet.headerItems (p : PolicySet) : List Item :=
  [(0, p.format == 1), (1, 1 ≤ p.threshold && p.threshold ≤ 31), (2, 1 ≤ p.suspension && p.suspension ≤ 255)]

def PolicySet.classItems (p : PolicySet) : List Item :=
  p.classes.toList.mapIdx fun i k => (0x10 + i, k ≤ 7 || k == 0xFF)

def PolicySet.ruleItems (p : PolicySet) : List Item :=
  p.rules.toList.mapIdx fun i r => (0x90 + i, !(r.getLsbD 2 && r.getLsbD 3))

/-- The items of one route entry (R4). -/
def PolicySet.routeItem (p : PolicySet) (i : Nat) (r : Route) : List Item :=
  let o := 0x0A0 + i * 16
  let before := p.routesBefore i
  let same := before.filter fun q => q.seg == r.seg
  if r.used then
    [(o, !before.any fun q => q.addr == r.addr),
     (o + 1, r.seg ≤ 3),
     (o + 2, r.format ≤ 1),
     (o + 4, idInRange r.format r.reqId && !same.any fun q => q.resp == r.req),
     (o + 8, idInRange r.format r.respId && !same.any fun q => q.resp == r.resp || q.req == r.resp),
     (o + 12, 25 ≤ r.wait && r.wait ≤ 5000)]
  else [(o, true)]

/-- The classes that a grant permits. -/
def Grant.classList (q : Grant) : List (Fin 8) := (List.finRange 8).filter q.permits

/-- Validity of a programming range (R5). -/
def Grant.rangeOk (q : Grant) : Bool :=
  if q.length = 0 then q.base == 0 else q.base + q.length ≤ 0x100000000

/-- The items of one grant entry (R5). -/
def PolicySet.grantItem (p : PolicySet) (i : Nat) (q : Grant) : List Item :=
  let o := 0x2A0 + i * 32
  let before := (p.grants.toList.take i).filter Grant.used
  let range := q.classList.any p.rangeChecked
  let head : List Item :=
    [(o, !before.any fun e => e.id == q.id), (o + 1, decide (q.channel ≤ 7)), (o + 2, q.classes != 0),
     (o + 3, q.count == 0xFF || (1 ≤ q.count && q.count ≤ 8))]
  let targets : List Item :=
    if q.count = 0xFF then []
    else (q.targets.toList.take q.count).mapIdx fun j a => (o + 4 + j, (p.route a).isSome)
  let tail : List Item :=
    (o + 12, q.rangePresent == if range then 1 else 0) :: if range then [(o + 20, q.rangeOk)] else []
  if q.used then head ++ targets ++ tail else [(o, true)]

/-- The items of one segment's lane map and of its phase table (R7). -/
def laneItems (g : Nat) (v : List Nat) : List Item := v.mapIdx fun k l => (0x4A0 + g * 8 + k, l ≤ 2)

def phaseItems (g : Nat) (v : List Nat) : List Item :=
  (v.mapIdx fun k l => (0x4C0 + g * 16 + k, decide (l ≤ 2))) ++
    [(0x4C0 + g * 16, v.contains 0 && v.contains 1 && v.contains 2)]

def regItems (g : Nat) (r : RegSet) : List Item :=
  let o := 0x500 + g * 32
  [(o, 8 ≤ r.window && r.window ≤ 1000 && r.window % 8 == 0), (o + 2, r.upper ≤ 1024),
   (o + 4, r.lower ≤ 1024 && r.lower ≤ r.upper), (o + 6, r.immediate ≤ 1024),
   (o + 14, -4096 ≤ r.leak && r.leak ≤ 4095), (o + 16, 1 ≤ r.holdOff && r.holdOff ≤ 64),
   (o + 17, r.floor ≤ 7), (o + 18, r.ceiling ≤ 7 && r.floor ≤ r.ceiling)]

def paceItems (g n : Nat) (q : Pace) : List Item :=
  let o := 0x580 + g * 64 + n * 8
  [(o + 1, 1 ≤ q.maxCtx && q.maxCtx ≤ 4), (o + 3, q.rxGap ≤ 250),
   (o + 4, !q.pause.getLsbD 0 && q.pause.toNat < 8), (o + 5, 1 ≤ q.stretch && q.stretch ≤ 8)]

def segItems (g : Nat) (q : SegSet) : List Item :=
  let o := 0x680 + g * 8
  [(o, q.rate ≤ 3), (o + 2, 10 ≤ q.creditWait && q.creditWait ≤ 1000), (o + 4, 10 ≤ q.partWait && q.partWait ≤ 1000)]

def vehItems (v : VehSet) : List Item :=
  [(0x6A0, v.seg ≤ 3), (0x6A1, v.format ≤ 1), (0x6A4, idInRange v.format v.id), (0x6A8, v.engineOff ≤ 6),
   (0x6A9, v.roadOff ≤ 6), (0x6AE, 100 ≤ v.stale && v.stale ≤ 2000)]

/-- All items of a set, in ascending order of offset; the check for a lane that no phase names stands after the last phase of
its table and reports the first (R7). -/
def PolicySet.items (p : PolicySet) : List Item :=
  p.headerItems ++ p.classItems ++ p.ruleItems ++
    (p.routes.toList.mapIdx p.routeItem).flatten ++ (p.grants.toList.mapIdx p.grantItem).flatten ++
    (p.lanes.toList.mapIdx fun g v => laneItems g v.toList).flatten ++
    (p.phases.toList.mapIdx fun g v => phaseItems g v.toList).flatten ++
    (p.regs.toList.mapIdx regItems).flatten ++
    (p.paces.toList.mapIdx fun g v => (v.toList.mapIdx (paceItems g)).flatten).flatten ++
    (p.segs.toList.mapIdx segItems).flatten ++ vehItems p.veh

/-- The offset of the first invalid item, if there is one (R12). -/
def PolicySet.invalidAt (p : PolicySet) : Option Nat := (p.items.find? fun i => !i.2).map Prod.fst

/-- A set holds at least one used grant (R13). -/
def PolicySet.hasGrant (p : PolicySet) : Bool := p.grants.toList.any Grant.used

/-- A channel holds at least one used grant of a set (R22). -/
def PolicySet.channelHasGrant (p : PolicySet) (ch : Fin 8) : Bool :=
  p.grants.toList.any fun q => q.used && q.channel == ch.val

/-! ### Lookups in the active set -/

/-- A segment is effectively enabled: its settings enable it and the host-disable mark is clear (4.1). -/
def State.enabled (s : State) (g : Fin 4) : Bool := s.ps.active.segs[g].enabled && !(s.seg g).hostDisable

/-- The segment of a target's route entry in the active set. -/
def State.segmentOf (s : State) (target : Nat) : Option (Fin 4) := (s.ps.active.route target).map Route.segment

/-- The lane of an entry that joins a segment (R49). -/
def State.laneOf (s : State) (g : Fin 4) (role : Role) (k : Fin 8) : Lane :=
  if role = .keepalive then .urgent else Lane.ofCode (s.ps.active.lanes[g])[k]

/-- Level of a throttle accumulator (R97). -/
def levelOf (acc : Nat) : Nat := acc / 8192

/-- The pace entry of the level of segment `g` in the active set (R103). -/
def State.paceAt (s : State) (g : Fin 4) : Pace := (s.ps.active.paces[g])[Fin.ofNat 8 (levelOf (s.seg g).acc)]

/-- A grant is spent: its budget is not 0 and its usage count is at least its budget, or it was spent under an earlier set from
which its usage is kept (R6, R16). -/
def Grant.spent (q : Grant) (u : Usage) : Bool := u.spent || (q.budget != 0 && q.budget ≤ u.count)

/-- A grant is live: active (present and not expired) and, unless spent grants count, not spent (R6, R28). -/
def grantLive (q : Grant) (u : Usage) (spentLive : Bool) : Bool := q.used && !u.expired && (spentLive || !q.spent u)

end Sys2Proof.Machine
end

