-- ==== Sys2Proof/Machine/Channel.lean ====
section
/-! DEFINITION. The channel table of the AU: the Channel Status entry, accrued conditions and the recovery latch (R41, R43, R44,
R175). -/

namespace Sys2Proof.Machine

/-- The 32 bytes of a Channel Status entry (11.8). -/
def Chan.bytes (r : Chan) : List Byte :=
  le16 r.counter.toNat ++
    [byte (if r.suspended then 1 else 0), byte r.run, byte r.remaining, byte (if r.latch.isSome then 1 else 0),
     byte (r.latch.getD 0xFF), r.accrued] ++
    le32 r.admitted.toNat ++ le32 r.denied.toNat ++ zeros 16

/-- A change to a channel record: the AU rewrites the entry and increments its change counter; a change that changes nothing
writes nothing (R41, log 35). That each update of the record is one write with one step, whatever number of its fields it
changes, and that an event with several updates (an outcome's flags, a latch report) takes as many steps, is the model's
choice (log 20). -/
def State.updChan (s : State) (ch : Fin 8) (f : Chan → Chan) : State :=
  let r := f (s.chan ch)
  if r = s.chan ch then s
  else
    let r := { r with counter := (s.chan ch).counter + 1 }
    (s.modChan ch fun _ => r).wr (chanBase ch) r.bytes

/-- Sets accrued conditions (R175). -/
def State.accrue (s : State) (ch : Fin 8) (fs : List Flag) : State :=
  s.updChan ch fun r => { r with accrued := fs.foldl (fun a f => a ||| f.bit) r.accrued }

/-- The TE reports a transfer that failed after touching its ECU (R43). -/
def State.latchSet (s : State) (ch : Fin 8) (ecu : Nat) : State :=
  (s.updChan ch fun r => { r with latch := some ecu, accrued := r.accrued ||| Flag.latched.bit }).event .channel

/-- The TE reports a transfer that ended DONE (R44). -/
def State.latchClear (s : State) (ch : Fin 8) (ecu : Nat) : State :=
  if (s.chan ch).latch = some ecu then (s.updChan ch fun r => { r with latch := none }).event .channel else s

end Sys2Proof.Machine
end

