-- ==== Sys2Proof/Machine/Board.lean ====
section
/-! DEFINITION. The work board's shared operations: the mirror of a cell, the end of a cell with its result, fault record and
accrued conditions, and the board error (R169, R175, R178, R181, R187). -/

namespace Sys2Proof.Machine

/-! ### True state and mirror (R178) -/

/-- The WBC writes the mirror of a cell's true state. -/
def State.wrCellWord (s : State) (c : Fin 32) : State := s.wr (cellBase c) (le16 (s.cell c).st.code)

/-- A change of a cell's true state, with its mirror. -/
def State.setCell (s : State) (c : Fin 32) (st : CellState) : State :=
  (s.modCell c fun r => { r with st := st }).wrCellWord c

/-- The cell is TAKEN and was taken as this kind: the owner can receive it. -/
def State.taken (s : State) (c : Fin 32) (k : Kind) : Bool :=
  (s.cell c).st == .taken && kindOf (s.cell c).captured == some k

/-- The cell is ACTIVE. -/
def State.active (s : State) (c : Fin 32) : Bool := (s.cell c).st == .active

/-- Records a grant index and writes it into the result (R35). That a write of one field of a result area is no write of the record
that holds its reserved bytes and bits, which the end of the cell writes, is the model's choice (log 50). -/
def State.setGrant (s : State) (c : Fin 32) (grant : Nat) : State :=
  (s.modCell c fun r => { r with grant := grant }).wr (cellBase c + 68) [byte grant]

/-- The start of a cell's first exchange in a context (R187). -/
def State.recordStart (s : State) (c : Fin 32) : State :=
  s.modCell c fun r => { r with startTime := some (r.startTime.getD s.time.ms) }

/-! ### The end of a cell (R187) -/

/-- A fault record with no optional part. -/
def FaultRec.core (stage : Stage) (reason : Reason) (seg : Option (Fin 4)) : FaultRec :=
  { stage := stage, reason := reason, secondary := none, field := none, detail := none, refusal := none, transport := none,
    progress := none, offset := none, touched := false, seg := seg }

/-- An end DONE with no flags. -/
def CellEnd.done (kind : List Byte) : CellEnd :=
  { fault := none, truncated := false, abortTooLate := false, superseded := false, refused := false, respLen := 0, kind := kind }

/-- An end FAILED with no flags. -/
def CellEnd.failed (f : FaultRec) : CellEnd := { CellEnd.done [] with fault := some f }

/-- The conditions that an outcome sets on its channel (R175). -/
def CellEnd.conditions (e : CellEnd) : List Flag :=
  let has := fun (p : FaultRec → Bool) => match e.fault with
    | some f => p f
    | none => false
  let stage := fun (st : Stage) => has fun f => f.stage == st || (match f.progress with
    | some p => p.stage == st
    | none => false)
  (if stage .admission then [.denied] else []) ++ (if stage .queue then [.queueLost] else []) ++
    (if stage .transport then [.transport] else []) ++
    (if e.refused || has (fun f => f.reason == .ecuRefused || f.secondary == some .ecuRefused) then [.ecuRefused] else []) ++
    (if stage .transfer then [.transferFailed] else []) ++ (if e.truncated then [.truncated] else [])

/-- Bytes 89–92: the transport detail. -/
def TDetail.bytes : Option TDetail → List Byte
  | some d => [byte d.seg.val, byte d.ctx.val, byte d.kind, byte d.index]
  | none => zeros 4

/-- Bytes 69–71 of a fault record. -/
def FaultRec.head (f : FaultRec) : List Byte := [byte f.stage.code, byte f.reason.code, byte f.mask]

/-- Bytes 84–99 of a fault record, with the level and the snapshot of this moment (R169, R170). -/
def FaultRec.tail (f : FaultRec) (s : State) : List Byte :=
  let level := match f.seg with
    | some g => levelOf (s.seg g).acc
    | none => 0xFF
  let code := fun (r : Option Reason) => match r with
    | some r => r.code
    | none => 0
  let shared := match f.field, f.detail with
    | some o, _ => o
    | none, some d => d.code
    | none, none => 0
  let progress := match f.progress with
    | some p => [byte p.role.code, byte p.stage.code, 0] ++ le32 p.block
    | none => zeros 3 ++ le16 (f.offset.getD 0) ++ zeros 2
  [byte level, byte (snapshotByte s.vsm f.touched), byte (code f.secondary), byte shared, byte (f.refusal.getD 0)] ++
    TDetail.bytes f.transport ++ progress

/-- The 28 bytes of the kind's own result fields; what the owner does not report is 0. -/
def pad28 (bs : List Byte) : List Byte := (bs ++ zeros 28).take 28

/-- The 64 bytes of the result area (11.4). -/
def resultBytes (s : State) (c : Fin 32) (e : CellEnd) : List Byte :=
  let r := s.cell c
  let start := match r.startTime with
    | some t => t.toNat
    | none => 0
  [byte (match e.fault with
    | some _ => CellState.failed.code
    | none => CellState.done.code), byte e.flags] ++ le16 e.respLen ++ [byte r.grant] ++
    (match e.fault with
      | some f => f.head
      | none => zeros 3) ++
    le32 r.takeTime.toNat ++ le32 start ++ le32 s.time.ms.toNat ++
    (match e.fault with
      | some f => f.tail s
      | none => zeros 16) ++ pad28 e.kind

/-- The end of a cell whose outcome belongs to channel `ch`: the accrued conditions, then the result and the fault record, then
the true state and its mirror, then the done bit (R175, R187). -/
def State.endCellOn (s : State) (ch : Option (Fin 8)) (c : Fin 32) (e : CellEnd) : State :=
  let s := match ch with
    | some ch => s.accrue ch e.conditions
    | none => s
  let s := s.wr (cellBase c + 64) (resultBytes s c e)
  let s := s.setCell c (match e.fault with
    | some _ => .failed
    | none => .done)
  s.setDone c

/-- The end of a cell that was taken: the outcome belongs to the channel of its captured header. -/
def State.endCell (s : State) (c : Fin 32) (e : CellEnd) : State := s.endCellOn (channelNamed (s.cell c).captured) c e

/-! ### The board error (R181) -/

/-- The bytes of the last-board-error record. -/
def BoardError.bytes (b : BoardError) : List Byte := [byte b.word, byte b.number] ++ le16 b.value.toNat ++ [byte b.state]

/-- Records a board error. -/
def State.boardError (s : State) (b : BoardError) : State :=
  let s := s.modInfo fun i => { i with lastError := b, errors := i.errors + 1 }
  ((s.wrInfo 0x30 b.bytes).wrInfo 0x2C (le32 s.info.errors.toNat)).event .board

/-- A board error on a cell word: the mirror is restored and the error recorded. -/
def State.cellError (s : State) (c : Fin 32) (v : Word16) : State :=
  (s.wrCellWord c).boardError { word := 1, number := c.val, value := v, state := (s.cell c).st.code }

end Sys2Proof.Machine
end

