-- ==== Sys2Proof/Machine/Lamp.lean ====
section
/-! DEFINITION. The lamp (R157, R158). -/

namespace Sys2Proof.Machine

/-- A grant of the active set is active: present and not expired (R6). -/
def State.anyActiveGrant (s : State) : Bool :=
  (List.finRange 16).any fun i => s.ps.active.grants[i].used && !s.ps.usage[i].expired

/-- The indication that AUTO derives (R157). -/
def State.autoIndication (s : State) : Lamp :=
  if s.transfers.toList.any Option.isSome || s.chans.toList.any (fun r => r.latch.isSome) then .blink
  else if s.anyActiveGrant then .on else .off

/-- The indication that the lamp mode gives (R157). -/
def State.indication (s : State) : Lamp :=
  match s.cm.lampMode with
  | .auto => s.autoIndication
  | .off => .off
  | .on => .on
  | .blink => .blink

/-- The lamp output when the indication becomes `i`: BLINK begins lit with a first half of 500 ms (R158). -/
def CM.show (m : CM) (i : Lamp) (now : Nat) : CM :=
  match i with
  | .blink => { m with lampInd := i, lit := true, blink := some (now + Config.blinkHalf) }
  | .on => { m with lampInd := i, lit := true, blink := none }
  | .auto | .off => { m with lampInd := i, lit := false, blink := none }

/-- The lamp mode and the lamp indication, written at each change of either (R158). -/
def State.wrLamp (s : State) : State := s.wrInfo 0x19 [byte s.cm.lampMode.code, byte s.cm.lampInd.code]

/-- The CM derives the indication afresh; one that is unchanged changes nothing at the lamp (R157, R158). -/
def State.lampRefresh (s : State) : State :=
  if s.indication = s.cm.lampInd then s
  else (s.modCm fun m => m.show s.indication s.time.clock).wrLamp

end Sys2Proof.Machine
end

