-- ==== Sys2Proof/Machine/Admission.lean ====
section
/-! DEFINITION. The Admission Unit: the seven checks, the grant used, and what a first admission charges and counts (R26 to R42). -/

namespace Sys2Proof.Machine

/-! ### The checks (R27 to R34) -/

/-- The classes of the codes of a request; a BLOCKED code has none (R27, log 13). -/
def State.classesOf (s : State) (codes : List Nat) : List (Fin 8) := codes.filterMap s.ps.active.classOf

/-- Vehicle conditions hold, or the first that fails, in the order of R33's table. Where both engine flags are set and the engine
is UNKNOWN, that table and R33's last sentence name different reasons; the model gives the sentence's, ENGINE_MUST_RUN
(log 39). -/
def condFailure (v : VSM) (k : Conds) : Option Reason :=
  if k.ignition && !v.ignition.level then some .ignitionRequired
  else if k.stopped && v.engine != .stopped && !(k.running && v.engine == .unknown) then some .engineMustStop
  else if k.running && v.engine != .running then some .engineMustRun
  else if k.stationary && v.motion != .stationary then some .vehicleMoving
  else none

/-- The indices of the channel's used grants. -/
def State.grantsOf (s : State) (ch : Fin 8) : List (Fin 16) :=
  (List.finRange 16).filter fun i => s.ps.active.grants[i].used && s.ps.active.grants[i].channel == ch.val

/-- Check 5 for the classes that need a grant: the index used, or the reason and its detail (R31, R32). -/
def State.grantCheck (s : State) (spentLive : Bool) (r : Request) (need : List (Fin 8)) : Except (Reason × Option Detail) Nat :=
  let mine := s.grantsOf r.channel
  let grant := fun (i : Fin 16) => s.ps.active.grants[i]
  let live := mine.filter fun i => grantLive (grant i) s.ps.usage[i] spentLive
  if live.isEmpty then
    .error (.noGrant, some (if mine.isEmpty then .noGrants
      else if mine.all fun i => s.ps.usage[i].expired then .expired else .spent))
  else
    let byClass := live.filter fun i => need.all (grant i).permits
    let byTarget := byClass.filter fun i => (grant i).hasTarget r.target
    let byRange := byTarget.filter fun i =>
      match r.range with
      | some (start, len) => !need.any s.ps.active.rangeChecked || (grant i).contains start len
      | none => true
    if byClass.isEmpty then .error (.classNotGranted, none)
    else if byTarget.isEmpty then .error (.targetNotGranted, none)
    else match byRange with
      | i :: _ => .ok i.val
      | [] => .error (.rangeNotGranted, none)

/-- Checks 6 and 7, once check 5 has passed under `grant` (R33, R34). -/
def State.lastChecks (s : State) (ks : List (Fin 8)) (seg : Fin 4) (grant : Nat) : Verdict :=
  match condFailure s.vsm (s.ps.active.conds ks) with
  | some reason => .deny reason none (some grant)
  | none => if s.enabled seg then .allow grant seg else .deny .segmentUnavailable none (some grant)

/-- An admission: the seven checks in their order (R28). -/
def State.admission (s : State) (spentLive : Bool) (r : Request) : Verdict :=
  let ks := s.classesOf r.codes
  if (s.chan r.channel).suspended then .deny .channelSuspended none none
  else if (s.chan r.channel).latch.isSome && !ks.all s.ps.active.recoveryAllowed then .deny .recoveryPending none none
  else if r.codes.any fun code => (s.ps.active.classOf code).isNone then .deny .serviceBlocked none none
  else match s.segmentOf r.target with
    | none => .deny .unknownTarget none none
    | some seg =>
      let need := ks.filter s.ps.active.grantRequired
      if need.isEmpty then s.lastChecks ks seg 0xFF
      else match s.grantCheck spentLive r need with
        | .error (reason, detail) => .deny reason detail none
        | .ok grant => s.lastChecks ks seg grant

/-- A re-admission: spent grants count as live, and nothing is charged or counted (R28, R39). -/
def State.readmission (s : State) (r : Request) : Verdict := s.admission true r

/-! ### First admission (R35, R37, R42) -/

/-- Charges a grant; the count stops at 65535 (R35). -/
def State.charge (s : State) (grant : Nat) : State :=
  if h : grant < 16 then
    s.modPs fun p => { p with usage := upd p.usage ⟨grant, h⟩ fun u => { u with count := min (u.count + 1) 0xFFFF } }
  else s

/-- The channel record after a denial, and whether the channel becomes SUSPENDED (R37, R42). -/
def denyChan (p : PolicySet) (reason : Reason) (r : Chan) : Chan :=
  let r := { r with denied := r.denied + 1, accrued := r.accrued ||| Flag.denied.bit }
  if !reason.isCounted then r
  else if r.run + 1 < p.threshold then { r with run := r.run + 1 }
  else { r with run := 0, suspended := true, remaining := p.suspension, accrued := r.accrued ||| Flag.suspended.bit }

/-- A denial suspends the channel: it is counted and brings the run count to the threshold (R42). -/
def suspends (p : PolicySet) (reason : Reason) (r : Chan) : Bool := reason.isCounted && p.threshold ≤ r.run + 1

/-- What a first admission does at the AU for its verdict: the charge and counts, or the denial (R35, R37, R42). -/
def State.countVerdict (s : State) (ch : Fin 8) (v : Verdict) : State :=
  match v with
  | .allow grant _ => (s.charge grant).updChan ch fun r => { r with run := 0, admitted := r.admitted + 1 }
  | .deny reason _ _ =>
    let t := s.updChan ch (denyChan s.ps.active reason)
    if suspends s.ps.active reason (s.chan ch) then t.event .channel else t

/-- The fault record of a denial (R37, R170). -/
def denialFault (s : State) (target : Nat) (stage : Stage) (reason : Reason) (detail : Option Detail) : FaultRec :=
  { FaultRec.core stage reason (s.segmentOf target) with detail := detail }

/-! ### The requests of cells and records -/

/-- The first byte of a referenced payload, read from RAM. -/
def State.firstByte (s : State) (r : Ref) : Nat := (s.mem.read r.addr).toNat

/-- The codes of a TRANSFER in the order of R27's table, read at its admission. -/
def State.transferCodes (s : State) (cap : List Byte) : TCodes :=
  let code := fun (r : Ref) => if r.len = 0 then none else some (s.firstByte r)
  { data := field8 cap 17, start := code (startRef cap), ending := code (endRef cap), verify := code (verifyRef cap)
    keepalive := code (keepaliveRef cap) }

/-- The present codes, in table order. -/
def TCodes.list (k : TCodes) : List Nat :=
  k.data :: (k.start.toList ++ k.ending.toList ++ k.verify.toList ++ k.keepalive.toList)

/-- The admission request of an EXCHANGE or WATCH. -/
def plainRequest (ch : Fin 8) (code target : Nat) : Request := { channel := ch, codes := [code], target := target, range := none }

/-- The admission request of a TRANSFER as a whole (R27). -/
def transferRequest (ch : Fin 8) (codes : TCodes) (cap : List Byte) : Request :=
  { channel := ch, codes := codes.list, target := targetOf cap, range := some (field32 cap 18, imageLength cap) }

/-- The admission request of a CHECK; a range length of 0 is absent (R38). -/
def checkRequest (ch : Fin 8) (cap : List Byte) : Request :=
  { channel := ch, codes := [field8 cap 17], target := targetOf cap,
    range := if field32 cap 22 = 0 then none else some (field32 cap 18, field32 cap 22) }

/-- The class of a service code, with its number; codes that were admitted are not BLOCKED. -/
def State.classIndex (s : State) (code : Nat) : Fin 8 := (s.ps.active.classOf code).getD 0

/-- The grant that an index names in the active set: its id. -/
def State.grantId (s : State) (grant : Nat) : Nat := if h : grant < 16 then s.ps.active.grants[grant].id else 0

end Sys2Proof.Machine
end

