-- ==== Sys2Proof/Machine/Lanes.lean ====
section
/-! DEFINITION. Lane queues, the arbiter and the start and free of contexts (R48 to R63, R75, R76), with the parts of Segment
Status that the STU and the LS write (R62, R92). -/

namespace Sys2Proof.Machine

/-! ### Segment Status (R62, R92, 11.9) -/

/-- A context is busy. -/
def Ctx.busy (x : Ctx) : Bool := x.st != .free

/-- The number of busy contexts. -/
def Seg.busyCount (q : Seg) : Nat := (q.ctxs.toList.filter Ctx.busy).length

/-- The STU's fields, from offset 02h (11.9). -/
def stuBytes (p : PolicySet) (g : Fin 4) (q : Seg) : List Byte :=
  [byte q.ctl.code, byte (flagBit q.hostDisable 0), byte p.segs[g].rate, byte q.recCount] ++ le16 q.tecCount ++
    le32 q.sent.toNat ++ le32 q.received.toNat ++ le32 q.errorFrames.toNat ++ le32 q.stray.toNat ++ le32 q.busOff.toNat ++
    q.ctxs.toList.map (fun x => byte x.st.code) ++
    q.ctxs.toList.map (fun x => byte (if x.busy then x.cell.val else 0xFF)) ++
    q.ctxs.toList.map (fun x => byte (if x.busy then x.target else 0xFF))

/-- The LS's fields, from offset 28h (11.9). The target-busy set has no order of its own: that its addresses stand in the order
of their starts, without gaps, is the model's choice (log 40). -/
def lsBytes (q : Seg) : List Byte :=
  [byte q.lanes.urgent.length, byte q.lanes.normal.length, byte q.lanes.bulk.length, byte q.busyCount] ++
    ((q.busy ++ List.replicate 4 0xFF).take 4).map byte ++ [byte q.pointer.val, 0, 0, 0] ++ le32 q.queueTimeouts.toNat

/-- The reserved bytes of a Segment Status entry, and the reserved bits of the bytes of the host-disable mark, of the freeze
mark and of the pause mask (11.6, 11.9). -/
def segReserved (g : Fin 4) : List Reserved :=
  [(segBase g + 0x03, 1, 1), (segBase g + 0x31, 3, 0), (segBase g + 0x48, 1, 3), (segBase g + 0x4D, 1, 6),
   (segBase g + 0x4F, 1, 0), (segBase g + 0x54, 44, 0)]

/-- After a write, its writer writes the entry's reserved bytes and bits as 0 and increments its change counter (R92, R194). -/
def State.segClose (s : State) (g : Fin 4) : State :=
  let n := (s.seg g).counter + 1
  ((s.wrReserved (segReserved g)).modSeg g fun q => { q with counter := n }).wr (segBase g) (le16 n.toNat)

/-- The STU rewrites its fields (R92). -/
def State.stuWrite (s : State) (g : Fin 4) : State :=
  (s.wr (segBase g + 0x02) (stuBytes s.ps.active g (s.seg g))).segClose g

/-- The LS rewrites its fields, and the two pace fields that it works by (R62, 11.9). -/
def State.lsWrite (s : State) (g : Fin 4) : State :=
  let q := s.seg g
  (((s.wr (segBase g + 0x28) (lsBytes q)).wr (segBase g + 0x4A) [byte q.pace.maxCtx]).wr (segBase g + 0x4D)
    [q.pace.pause]).segClose g

/-! ### Queues (R48, R49) -/

/-- The queue of a lane. -/
def Lanes.get (l : Lanes) : Lane → List Entry
  | .urgent => l.urgent
  | .normal => l.normal
  | .bulk => l.bulk

/-- Applies `f` to the queue of a lane. -/
def Lanes.mod (l : Lanes) (k : Lane) (f : List Entry → List Entry) : Lanes :=
  match k with
  | .urgent => { l with urgent := f l.urgent }
  | .normal => { l with normal := f l.normal }
  | .bulk => { l with bulk := f l.bulk }

/-- The three queues one after another. -/
def Lanes.all (l : Lanes) : List Entry := l.urgent ++ l.normal ++ l.bulk

/-- Takes the entry of a cell out, wherever it stands; the entries behind it keep their order (R48). -/
def Lanes.without (l : Lanes) (c : Fin 32) : Lanes :=
  let keep := fun (e : Entry) => e.cell != c
  { urgent := l.urgent.filter keep, normal := l.normal.filter keep, bulk := l.bulk.filter keep }

/-- The entry of a cell, and the segment whose lane holds it. -/
def State.entryOf (s : State) (c : Fin 32) : Option (Fin 4 × Entry) :=
  (List.finRange 4).findSome? fun g => ((s.seg g).lanes.all.find? fun e => e.cell == c).map fun e => (g, e)

/-- Removes the entry of a cell from its lane (R50, R60). -/
def State.dropEntry (s : State) (c : Fin 32) : State :=
  match s.entryOf c with
  | some (g, _) => (s.modSeg g fun q => { q with lanes := q.lanes.without c }).lsWrite g
  | none => s

/-- An entry joins the tail of its lane (R49). -/
def State.join (s : State) (g : Fin 4) (e : Entry) : State :=
  (s.modSeg g fun q => { q with lanes := q.lanes.mod e.lane (· ++ [e]) }).lsWrite g

/-! ### Eligibility (R51) -/

/-- The lane is named in the pause mask of the current pace entry. URGENT never is (R8). -/
def Pace.pauses (q : Pace) : Lane → Bool
  | .urgent => false
  | .normal => q.pause.getLsbD 1
  | .bulk => q.pause.getLsbD 2

/-- The segment can start an exchange (R51). -/
def Seg.canStart (q : Seg) : Bool := q.ctl.sends && q.busyCount < q.pace.maxCtx

/-- A busy context of the segment holds a response identifier. -/
def Seg.listens (q : Seg) (i : CanId) : Bool := q.ctxs.toList.any fun x => x.busy && x.respId == i

/-- An entry is eligible while the segment can start (R51). -/
def eligible (p : PolicySet) (q : Seg) (e : Entry) : Bool :=
  !q.busy.contains e.target && !q.pace.pauses e.lane &&
    match p.route e.target with
    | some r => !q.listens r.resp
    | none => false

/-- The lane that a phase of segment `g` names. -/
def PolicySet.phaseLane (p : PolicySet) (g : Fin 4) (n : Fin 16) : Lane := Lane.ofCode (p.phases[g])[n]

/-- The first of the sixteen phases from the pointer on that yields an entry, with that entry (R53). -/
def chooseEntry (p : PolicySet) (g : Fin 4) (q : Seg) : Option (Fin 16 × Entry) :=
  (List.finRange 16).findSome? fun k =>
    let n := q.pointer + k
    ((q.lanes.get (p.phaseLane g n)).find? (eligible p q)).map fun e => (n, e)

/-! ### Start (R54, R75) -/

/-- The slot that holds a block of a transfer's cell in a given state. -/
def State.slotWith (s : State) (c : Fin 32) (block : Nat) (st : SlotState) : Option (Fin 8) :=
  (List.finRange 8).find? fun n => (s.slot n).st == st && (s.slot n).owner == c.val && (s.slot n).block == block

/-- Where the STU reads the request of an entry, and its length (R75, R117). -/
def State.requestOf (s : State) (e : Entry) : Payload × Nat :=
  let cap := (s.cell e.cell).captured
  let plain := fun (r : Ref) => (Payload.ram r.addr, r.len)
  match e.role with
  | .exchange | .cycle => plain (requestRef cap)
  | .start => plain (startRef cap)
  | .ending => plain (endRef cap)
  | .verify => plain (verifyRef cap)
  | .keepalive => plain (keepaliveRef cap)
  | .data =>
    let k := match s.transfer e.cell with
      | some t => t.acked
      | none => 0
    (.block (field8 cap 17) ((k + 1) % 256) ((s.slotWith e.cell k .sending).getD 0), blockLength cap k + 2)

/-- The service code of an exchange, as recorded (R26, R27). -/
def State.serviceOf (s : State) (e : Entry) : Nat :=
  match e.role, s.transfer e.cell with
  | .exchange, _ | .cycle, _ => (s.cell e.cell).service
  | .data, some t => t.codes.data
  | .start, some t => t.codes.start.getD 0
  | .ending, some t => t.codes.ending.getD 0
  | .verify, some t => t.codes.verify.getD 0
  | .keepalive, some t => t.codes.keepalive.getD 0
  | _, none => 0

/-- The context record that a start fills: SENDING with its first frame ready (R75, R76). -/
def startCtx (s : State) (e : Entry) (r : Route) (tag : BitVec 8) : Ctx :=
  let q := s.requestOf e
  { Ctx.free with
    st := .sending, cell := e.cell, role := e.role, target := e.target, reqId := r.req, respId := r.resp,
    respWait := r.wait, payload := q.1, length := q.2, service := s.serviceOf e, nextPart := 1, tag := tag,
    ready := some
      { kind := if q.2 ≤ 7 then .short else .opening, since := s.now, spaced := false } }

/-- The start is reported to the owner of the entry (R54, R126, R127, R187). -/
def State.startReport (s : State) (e : Entry) : State :=
  let s := s.recordStart e.cell
  match e.role with
  | .exchange => s.setCell e.cell .active
  | .cycle => s.modWatch e.cell fun w => { w with out := .context }
  | .start | .data | .ending | .verify | .keepalive =>
    s.modTransfer e.cell fun t =>
      { t with
        out := t.out.map fun o => { o with inCtx := true }
        ka := none
        kaSent := if e.role = .keepalive then min (t.kaSent + 1) 0xFFFF else t.kaSent }

/-- The lowest-numbered FREE context of a segment. -/
def Seg.freeCtx (q : Seg) : Option (Fin 4) := (List.finRange 4).find? fun x => !q.ctxs[x].busy

/-- Starts an entry that phase `n` has yielded, in context `x` with route entry `r` (R54). -/
def State.startIn (s : State) (g : Fin 4) (n : Fin 16) (e : Entry) (x : Fin 4) (r : Route) : State :=
  let tag := (s.seg g).tags[x] + 1
  let ctx := startCtx s e r tag
  let s := s.modSeg g fun q =>
    { q with
      lanes := q.lanes.without e.cell, busy := q.busy ++ [e.target], pointer := n + 1, tags := q.tags.set x tag,
      ctxs := q.ctxs.set x ctx }
  ((s.startReport e).stuWrite g).lsWrite g

/-- One start of an arbitration, if a phase yields an entry (R53). -/
def State.startOne (s : State) (g : Fin 4) : Option State :=
  let q := s.seg g
  if !q.canStart then none
  else match chooseEntry s.ps.active g q with
    | none => none
    | some (n, e) =>
      match q.freeCtx, s.ps.active.route e.target with
      | some x, some r => some (s.startIn g n e x r)
      | _, _ => none

/-- An arbitration with at most `fuel` starts. -/
def State.arbitrateFuel (s : State) (g : Fin 4) : Nat → State
  | 0 => s
  | fuel + 1 =>
    match s.startOne g with
    | some t => t.arbitrateFuel g fuel
    | none => s

/-- An arbitration (R53): no segment has more than four contexts to start in. -/
def State.arbitrate (s : State) (g : Fin 4) : State := s.arbitrateFuel g 4

/-- An entry joins, and the LS arbitrates (R49, R55). -/
def State.joinRun (s : State) (g : Fin 4) (e : Entry) : State := (s.join g e).arbitrate g

/-! ### Free (R56, R76) -/

/-- A context goes FREE; what it made ready is discarded, and a frame of it that was offered acts on it no longer (R76). -/
def State.freeCtx (s : State) (g x : Fin 4) : State :=
  let target := (s.ctx g x).target
  let s := s.modSeg g fun q =>
    { q with
      ctxs := q.ctxs.set x Ctx.free
      busy := q.busy.filter (· != target)
      offered := q.offered.map fun o => if o.ctx = some x then { o with ctx := none } else o }
  ((s.stuWrite g).lsWrite g).arbitrate g

/-- An entry for the next exchange of a cell that joins segment `g`: its class, lane and fresh deadline (R48, R49). -/
def State.newEntry (s : State) (g : Fin 4) (c : Fin 32) (target : Nat) (role : Role) (code : Nat) (deadline : Word32) : Entry :=
  let k := s.classIndex code
  { cell := c, target := target, role := role, cls := k.val, lane := s.laneOf g role k, deadline := deadline }

end Sys2Proof.Machine
end

