-- ==== Sys2Proof/Machine/Load.lean ====
section
/-! DEFINITION. The Load Regulator: counting, loads, the throttle accumulator, level changes, and the THROTTLE request's
operations (R94 to R113). -/

namespace Sys2Proof.Machine

/-! ### Counting (R94, R95) -/

/-- Bits counted for a frame; a remote frame counts as DLC 0 (R94). -/
def frameBits (f : CanFrame) : Nat :=
  (match f.id with
    | .std _ => 47
    | .ext _ => 67) + if f.remote then 0 else 8 * f.dlc.val

/-- Bits counted for an error frame (R94). -/
def errorFrameBits : Nat := 20

/-- Each counted frame is added to both integrators, once the windows have begun (R95, log 31). -/
def State.countBits (s : State) (g : Fin 4) (bits : Nat) : State :=
  s.modSeg g fun q =>
    if q.winStart.isSome then { q with subBits := q.subBits + bits, winBits := q.winBits + bits } else q

/-! ### Loads (R96) -/

/-- Window capacity in bits (R96). -/
def windowCapacity (p : PolicySet) (g : Fin 4) : Nat := p.rate g * p.regs[g].window

/-- A load figure: at most 1024 (R96). -/
def loadOf (bits capacity : Nat) : Nat := min (bits * 1024 / capacity) 1024

/-! ### The accumulator (R97) -/

/-- Lower limit of the accumulator (R97). -/
def RegSet.low (r : RegSet) : Nat := r.floor * 8192
/-- Upper limit of the accumulator (R97). -/
def RegSet.high (r : RegSet) : Nat := r.ceiling * 8192 + 8191

/-- The clamp (R97). -/
def RegSet.clamp (r : RegSet) (a : Nat) : Nat := min (max a r.low) r.high

/-- Adds the signed leak; a sum below 0 is 0 (R97). -/
def addLeak (a : Nat) (k : Int) : Nat := ((a : Int) + k).toNat

/-- Updates are in effect (R101). -/
def updatesOn (r : RegSet) (q : Seg) : Bool := r.enabled && !q.freeze

/-- The immediate check with sub-window load `l` (R98, R101). -/
def immediate (r : RegSet) (l : Nat) (q : Seg) : Seg :=
  if updatesOn r q && r.immediate < l && q.holdOff == 0 then
    { q with acc := r.clamp (q.acc + r.stepImm), holdOff := r.holdOff }
  else { q with holdOff := q.holdOff - 1 }

/-- The window update with window load `l` (R99, R101). -/
def windowUpdate (r : RegSet) (l : Nat) (q : Seg) : Seg :=
  if !updatesOn r q then q
  else if r.upper < l then { q with acc := r.clamp (q.acc + r.stepUp) }
  else if l < r.lower then { q with acc := r.clamp (q.acc - r.stepDown) }
  else { q with acc := r.clamp (addLeak q.acc r.leak) }

/-! ### Segment Status and level changes (R102, R112) -/

/-- The LR's fields, from offset 38h to the end of the entry; reserved bytes 0 (11.9). That the bit 'updates in effect' shows the flag
of the active set also between a commit and the next sub-window end, is the model's choice (log 54). -/
def lrBytes (p : PolicySet) (g : Fin 4) (q : Seg) : List Byte :=
  le32 q.lastSubBits ++ le16 q.lastSubLoad ++ le16 q.lastLoad ++ le32 q.lastWinBits ++ le16 q.acc ++
    [byte (levelOf q.acc), byte q.holdOff, byte (flagBit q.freeze 0 + flagBit (updatesOn p.regs[g] q) 1)] ++
    q.pace.bytes ++ [0] ++ le32 q.levelChanges.toNat ++ zeros 44

/-- The LR rewrites its fields (R112). -/
def State.lrWrite (s : State) (g : Fin 4) : State :=
  (s.wr (segBase g + 0x38) (lrBytes s.ps.active g (s.seg g))).segClose g

/-- The LR hands the pace entry of the present level to the LS, STU and WS, which read it where they use it (R102). -/
def State.takePace (s : State) (g : Fin 4) : State := s.modSeg g fun q => { q with pace := s.paceAt g }

/-- The end of an event at the LR that began at level `old`: a level change if the level differs, else a write of the fields
(R102). The arbitration follows by `levelRun`. -/
def State.levelSettle (s : State) (g : Fin 4) (old : Nat) : State :=
  if levelOf (s.seg g).acc = old then s.lrWrite g
  else
    let s := (s.takePace g).modSeg g fun q => { q with levelChanges := q.levelChanges + 1 }
    ((((s.lrWrite g).wrInfo (0x24 + g.val) [byte (levelOf (s.seg g).acc)]).lsWrite g).event .level)

/-- The same, with the LS's arbitration after a level change (R57, R102). -/
def State.levelRun (s : State) (g : Fin 4) (old : Nat) : State :=
  let t := s.levelSettle g old
  if levelOf (s.seg g).acc = old then t else t.arbitrate g

/-! ### Sub-window ends (R95, R100) -/

/-- Length of a sub-window in ms under the active set. -/
def State.subWindow (s : State) (g : Fin 4) : Nat := s.ps.active.regs[g].window / 8

/-- The end of the present sub-window of segment `g` has been reached (R95). -/
def State.subDue (s : State) (g : Fin 4) : Bool :=
  match (s.seg g).winStart with
  | some t => t + ((s.seg g).subIndex + 1) * s.subWindow g ≤ s.time.clock
  | none => false

/-- A sub-window end at the LR: loads, immediate check and, at the eighth, the window update and the next window (R100). -/
def subEnd (p : PolicySet) (g : Fin 4) (q : Seg) : Seg :=
  let r := p.regs[g]
  let cap := windowCapacity p g
  let l := loadOf q.subBits (cap / 8)
  let q := immediate r l { q with lastSubBits := q.subBits, lastSubLoad := l }
  if q.subIndex + 1 < 8 then { q with subBits := 0, subIndex := q.subIndex + 1 }
  else
    let l := loadOf q.winBits cap
    let q := windowUpdate r l { q with lastWinBits := q.winBits, lastLoad := l }
    { q with subBits := 0, winBits := 0, subIndex := 0, winStart := q.winStart.map (· + r.window) }

/-- SUB_WINDOW_END with its reports (R92, R100). -/
def State.subWindowEnd (s : State) (g : Fin 4) : State :=
  let old := levelOf (s.seg g).acc
  ((s.modSeg g (subEnd s.ps.active g)).stuWrite g).levelRun g old

/-! ### THROTTLE (R107 to R109) -/

/-- The kind's result of a THROTTLE cell (R107, 11.4). -/
def throttleKind (s : State) (g : Fin 4) (before : Nat) : List Byte :=
  let q := s.seg g
  le16 before ++ le16 q.acc ++
    [byte (levelOf q.acc), byte (flagBit q.freeze 0 + flagBit s.ps.active.regs[g].enabled 1)]

/-- LOAD: the value, clamped, becomes A (R108). -/
def State.throttleLoad (s : State) (g : Fin 4) (v : Nat) : State :=
  let old := (s.seg g).acc
  let new := s.ps.active.regs[g].clamp v
  if new = old then s else (s.modSeg g fun q => { q with acc := new }).levelRun g (levelOf old)

/-- FREEZE and UNFREEZE: the host freeze mark (R109). -/
def State.setFreeze (s : State) (g : Fin 4) (v : Bool) : State :=
  if (s.seg g).freeze = v then s else (s.modSeg g fun q => { q with freeze := v }).lrWrite g

/-- RESET_REGULATOR: A becomes the ceiling's lowest value and the hold-off counter 0 (R111). The LR writes its fields even where
A stays as it was, which is the model's choice (log 44). -/
def State.resetRegulator (s : State) (g : Fin 4) : State :=
  let old := levelOf (s.seg g).acc
  let r := s.ps.active.regs[g]
  (s.modSeg g fun q => { q with acc := r.clamp (r.ceiling * 8192), holdOff := 0 }).levelRun g old

end Sys2Proof.Machine
end

