-- ==== Sys2Proof/Machine/Transfer.lean ====
section
/-! DEFINITION. The Transfer Engine: progress, hand-over of exchanges, slots, ends and causes (chapter 6). -/

namespace Sys2Proof.Machine

/-! ### Progress (R138, R139) -/

/-- The progress fields at 100–127 (11.4). That the verify value shows 0 while its presence mark is clear is the model's choice
(log 51). -/
def Transfer.progressBytes (t : Transfer) (cap : List Byte) : List Byte :=
  [byte t.phase.code, byte (flagBit t.verify.isSome 0)] ++ le16 t.crc.toNat ++ le32 t.acked ++ le32 t.bytes ++
    le32 (imageLength cap - t.bytes) ++ le16 t.kaSent ++
    le16 (match t.verify with
      | some v => v.toNat
      | none => 0) ++
    le16 t.progress.toNat ++ zeros 6

/-- Writes the progress, then the counter incremented (R139). -/
def State.wrProgress (s : State) (c : Fin 32) : State :=
  let s := s.modTransfer c fun t => { t with progress := t.progress + 1 }
  match s.transfer c with
  | some t => s.wr (cellBase c + 100) (t.progressBytes (s.cell c).captured)
  | none => s

/-! ### Slots (R120, R123) -/

/-- A change of a slot's true state, with its mirror (R120). -/
def State.setSlot (s : State) (n : Fin 8) (st : SlotState) : State :=
  (s.modSlot n fun r => { r with st := st }).wr (slotBase n) (le16 st.code)

/-- A slot waits for or carries a block of a cell's transfer. -/
def Slot.owned (r : Slot) (c : Fin 32) : Bool := (r.st == .held || r.st == .sending) && r.owner == c.val

/-- Frees every HELD and SENDING slot of a failed transfer (R123). -/
def State.freeSlots (s : State) (c : Fin 32) : State :=
  (List.finRange 8).foldl (fun s n => if (s.slot n).owned c then s.setSlot n .free else s) s

/-! ### Phases (R118) -/

/-- The phase that follows the last block or END. -/
def phaseAfter (cap : List Byte) : TPhase → TPhase
  | .starting => .streaming
  | .streaming => if (endRef cap).len ≠ 0 then .ending else if (verifyRef cap).len ≠ 0 then .verifying else .done
  | .ending => if (verifyRef cap).len ≠ 0 then .verifying else .done
  | .verifying => .done
  | .done => .done
  | .failed => .failed

/-- The exchange that comes next, with its block (R136). -/
def Transfer.next (t : Transfer) : Role × Nat :=
  match t.phase with
  | .starting => (.start, 0)
  | .streaming => (.data, t.acked)
  | .ending => (.ending, 0)
  | .verifying | .done | .failed => (.verify, 0)

/-- The role and block at which a transfer stands: its outstanding exchange, else the one that would come next (R136). -/
def Transfer.standing (t : Transfer) : Role × Nat :=
  match t.out with
  | some o => (o.role, o.block)
  | none =>
    match t.withdrawn with
    | some (_, e, block) => (e.role, block)
    | none => t.next

/-! ### Ends (R131, R136) -/

/-- What a transfer's failure reports besides its reason. -/
structure TFail where
  reason : Reason
  secondary : Option Reason
  /-- The exchange stage of R174. -/
  stage : Stage
  refusal : Option Nat
  transport : Option TDetail
  /-- Role and block of the exchange at which the transfer stood. -/
  role : Role × Nat
  deriving DecidableEq, Repr

/-- A failure without refusal or transport detail. -/
def TFail.plain (reason : Reason) (stage : Stage) (role : Role × Nat) : TFail :=
  { reason := reason, secondary := none, stage := stage, refusal := none, transport := none, role := role }

/-- The fault record of a failed transfer (R136, R170, R174). -/
def transferFault (s : State) (t : Transfer) (f : TFail) : FaultRec :=
  { FaultRec.core .transfer f.reason (s.segmentOf t.target) with
    secondary := f.secondary
    refusal := if f.reason = .ecuRefused then f.refusal else none
    transport := if f.reason.isTransport then f.transport else none
    progress := some { role := f.role.1, block := if f.role.1 = .data then f.role.2 else 0, stage := f.stage }
    touched := t.touched }

/-- Releases the transfer record, on which the lamp follows (R136, R157). -/
def State.releaseTransfer (s : State) (c : Fin 32) : State := (s.setTransfer c none).lampRefresh

/-- A transfer fails (R136): phase and timers, withdrawn entry, slots, progress, latch, result, release. -/
def State.transferFail (s : State) (c : Fin 32) (f : TFail) : State :=
  let s := s.modTransfer c fun t =>
    { t with phase := .failed, feed := none, ka := none, withdrawn := none, out := none, pending := none }
  let s := (s.freeSlots c).wrProgress c
  match s.transfer c with
  | none => s
  | some t =>
    let s := if t.touched then s.latchSet t.channel t.target else s
    let s := s.endCell c { CellEnd.failed (transferFault s t f) with kind := t.progressBytes (s.cell c).captured }
    s.releaseTransfer c

/-- A transfer ends DONE (R131). -/
def State.transferDone (s : State) (c : Fin 32) : State :=
  let late := match s.transfer c with
    | some t => t.pending == some .aborted
    | none => false
  let s := s.modTransfer c fun t => { t with phase := .done, feed := none, ka := none, out := none, pending := none }
  let s := s.wrProgress c
  match s.transfer c with
  | none => s
  | some t =>
    let s := s.latchClear t.channel t.target
    let s := s.endCell c { CellEnd.done (t.progressBytes (s.cell c).captured) with abortTooLate := late }
    s.releaseTransfer c

/-! ### Causes from outside (R132) -/

/-- A cause arrives: it is kept if none is pending, and acts at once unless an exchange is in a context (R132). -/
def State.transferCause (s : State) (c : Fin 32) (reason : Reason) : State :=
  match s.transfer c with
  | none => s
  | some t =>
    if t.pending.isSome then s
    else if t.out.any Outst.inCtx then s.modTransfer c fun t => { t with pending := some reason }
    else (s.dropEntry c).transferFail c (.plain reason .transfer t.standing)

/-! ### Hand-over (R118, R124, R125, R127) -/

/-- The expiry of a keep-alive timer that starts now, if the transfer runs one (R126). -/
def State.kaStart (s : State) (c : Fin 32) : Option Nat :=
  let cap := (s.cell c).captured
  if (keepaliveRef cap).len = 0 then none else some (s.time.clock + keepaliveInterval cap)

/-- The code of an exchange of a transfer (R27). -/
def TCodes.of (k : TCodes) : Role → Nat
  | .start => k.start.getD 0
  | .ending => k.ending.getD 0
  | .verify => k.verify.getD 0
  | .keepalive => k.keepalive.getD 0
  | .data | .exchange | .cycle => k.data

/-- The segment of a target's route entry, unless it is DISABLED. -/
def State.openSegment (s : State) (target : Nat) : Option (Fin 4) := (s.segmentOf target).filter fun g => s.enabled g

/-- The TE hands an exchange to the LS of the target's segment; if that segment is DISABLED the transfer fails (R118). -/
def State.handOver (s : State) (c : Fin 32) (role : Role) (block : Nat) : State :=
  match s.transfer c with
  | none => s
  | some t =>
    match s.openSegment t.target with
    | none => s.transferFail c (.plain .segmentUnavailable .transfer (role, block))
    | some g =>
      let limit := queueLimit (s.cell c).captured Config.queueLimitTransfer
      let e := s.newEntry g c t.target role (t.codes.of role) (s.msIn limit)
      (s.modTransfer c fun t => { t with out := some { role := role, block := block, inCtx := false } }).joinRun g e

/-- The TE looks for the next needed block (R124): found, its slot becomes SENDING and its exchange is handed over; not
found, the feed timer starts (R125). -/
def State.needBlock (s : State) (c : Fin 32) : State :=
  match s.transfer c with
  | none => s
  | some t =>
    match s.slotWith c t.acked .held with
    | some n =>
      ((s.setSlot n .sending).modTransfer c fun t => { t with feed := none }).handOver c .data t.acked
    | none =>
      s.modTransfer c fun t => { t with feed := some (s.time.clock + feedTimeout (s.cell c).captured) }

/-- The TE queues the withdrawn entry again with the deadline of its first join, at the tail of the lane that the active set
gives at this join (R49, R118, R127, log 28). -/
def State.requeue (s : State) (c : Fin 32) : State :=
  match s.transfer c with
  | none => s
  | some t =>
    match t.withdrawn with
    | none => s
    | some (_, e, block) =>
      match s.openSegment t.target with
      | none => s.transferFail c (.plain .segmentUnavailable .transfer (e.role, block))
      | some g =>
        let e := s.newEntry g c t.target e.role (t.codes.of e.role) e.deadline
        (s.modTransfer c fun t =>
          { t with withdrawn := none, out := some { role := e.role, block := block, inCtx := false } }).joinRun g e

/-- A transfer with nothing outstanding goes on: the withdrawn entry, or the exchange of its phase (R118, R124, R127). -/
def State.transferResume (s : State) (c : Fin 32) : State :=
  match s.transfer c with
  | none => s
  | some t =>
    if t.out.isSome then s
    else if t.withdrawn.isSome then s.requeue c
    else match t.phase with
      | .starting => s.handOver c .start 0
      | .streaming => s.needBlock c
      | .ending => s.handOver c .ending 0
      | .verifying => s.handOver c .verify 0
      | .done | .failed => s

/-! ### The outcome of an exchange (R119, R125, R127, R130, R132) -/

/-- The block of a positive DATA exchange is folded, counted and its slot freed (R125, R129). -/
def State.ackBlock (s : State) (c : Fin 32) (block : Nat) (bs : List Byte) : State :=
  let len := blockLength (s.cell c).captured block
  let s := s.modTransfer c fun t => { t with crc := crc16 t.crc bs, acked := t.acked + 1, bytes := t.bytes + len }
  match s.slotWith c block .sending with
  | some n => s.setSlot n .free
  | none => s

/-- The value received from VERIFY, if both bytes were there (R130). -/
def verifyValue (x : Ctx) : Option Word16 :=
  match x.verifyHi, x.verifyLo with
  | some hi, some lo => some (BitVec.ofNat 16 (be16 hi lo))
  | _, _ => none

/-- After a positive outcome that was not the last exchange: the pending cause acts, or the transfer waits to go on (R132). -/
def State.boundary (s : State) (c : Fin 32) : State :=
  match s.transfer c with
  | none => s
  | some t =>
    match t.pending with
    | some reason => s.transferFail c (.plain reason .transfer t.standing)
    | none => s

/-- A positive START, DATA or END: the phase that its success leads to (R118, R131). -/
def State.advance (s : State) (c : Fin 32) (phase : TPhase) : State :=
  if phase = .done then s.transferDone c
  else (((s.modTransfer c fun t => { t with phase := phase }).wrProgress c)).boundary c

/-- A positive response to an exchange of role `role` (R119). -/
def State.transferPositive (s : State) (c : Fin 32) (role : Role) (block : Nat) (x : Ctx) : State :=
  let cap := (s.cell c).captured
  let s := s.modTransfer c fun t => { t with out := none, ka := s.kaStart c }
  match role with
  | .start => s.advance c .streaming
  | .data =>
    let s := (s.ackBlock c block x.blockBytes).wrProgress c
    if block + 1 < blockCount cap then s.boundary c else s.advance c (phaseAfter cap .streaming)
  | .ending => s.advance c (phaseAfter cap .ending)
  | .verify =>
    let s := s.modTransfer c fun t => { t with verify := verifyValue x }
    match s.transfer c with
    | none => s
    | some t =>
      if t.verify = some t.crc then s.transferDone c
      else s.transferFail c { TFail.plain .verifyMismatch .ecu (.verify, 0) with secondary := t.pending }
  | .keepalive => (s.wrProgress c).boundary c
  | .exchange | .cycle => s

/-- The STU reports the outcome of an exchange of a transfer (R119, R132, R137). -/
def State.transferReport (s : State) (c : Fin 32) (r : Report) (x : Ctx) : State :=
  let s := s.modTransfer c fun t => { t with touched := t.touched || r.touched }
  match s.transfer c with
  | none => s
  | some t =>
    let at_ := t.standing
    let fail := fun (reason : Reason) (stage : Stage) =>
      s.transferFail c
        { reason := reason, secondary := t.pending, stage := stage, refusal := some r.refusal, transport := some r.detail,
          role := at_ }
    match r.outcome with
    | .response .positive => s.transferPositive c at_.1 at_.2 x
    | .response .refusal => fail .ecuRefused .ecu
    | .response .other => fail .unexpectedResponse .ecu
    | .response .hold => s
    | .failure reason => fail reason .transport

/-- The removal of a transfer's entry at its queue limit or by a SEGMENT DISABLE (R58, R61, R135). -/
def State.transferEntryLost (s : State) (c : Fin 32) (reason : Reason) : State :=
  match s.transfer c with
  | none => s
  | some t => s.transferFail c (.plain reason .queue t.standing)

/-! ### Re-check (R18, R21) -/

/-- How a failed re-check names its cause; `other` stands for any reason but a vehicle condition and check 7. -/
def recheckCause (reason other : Reason) : Reason :=
  if reason.isVehicle then .conditionLost else if reason = .segmentUnavailable then .segmentUnavailable else other

/-- The re-check of a transfer as a whole (R18). -/
def State.transferVerdict (s : State) (c : Fin 32) (t : Transfer) : Verdict :=
  s.readmission (transferRequest t.channel t.codes (s.cell c).captured)

/-- Records the grant under which a re-check passed (R18, R139). -/
def State.transferGrant (s : State) (c : Fin 32) (grant : Nat) : State :=
  (s.modTransfer c fun t => { t with grant := grant, grantId := s.grantId grant }).setGrant c grant

/-- The TE tests the combined conditions of each HOLD_WHILE transfer at a change of vehicle state (R134). That several fail in
ascending order of their cells is the model's choice (log 41). -/
def State.transfersVehicle (s : State) : State :=
  (List.finRange 32).foldl (fun s c =>
    match s.transfer c with
    | some t => if t.hold && (condFailure s.vsm t.conds).isSome then s.transferCause c .conditionLost else s
    | none => s) s

/-! ### Receipt (R116) -/

/-- The record of an admitted transfer (R116, R126). That its progress counter starts from 0, so that it reads 1 after the write at
the creation, is the model's choice (log 48). -/
def newTransfer (s : State) (c : Fin 32) (ch : Fin 8) (grant : Nat) : Transfer :=
  let cap := (s.cell c).captured
  let codes := s.transferCodes cap
  let ks := (s.classesOf codes.list).dedup
  { channel := ch, target := targetOf cap, codes := codes, classes := ks.map Fin.val, conds := s.ps.active.conds ks
    hold := ks.any s.ps.active.holdWhile, grant := grant, grantId := s.grantId grant
    phase := if (startRef cap).len = 0 then .streaming else .starting
    acked := 0, bytes := 0, crc := crcInit, out := none, withdrawn := none, kaSent := 0, feed := none, ka := s.kaStart c
    touched := false, pending := none, verify := none, progress := 0 }

/-- The TE receives a TRANSFER cell: first admission, record, progress, and the exchange of its first phase (R116, R118). -/
def State.transferReceive (s : State) (c : Fin 32) (ch : Fin 8) : State :=
  let cap := (s.cell c).captured
  let v := s.admission false (transferRequest ch (s.transferCodes cap) cap)
  let t := newTransfer s c ch
  let s := s.countVerdict ch v
  match v with
  | .deny reason detail _ => s.endCell c (.failed (denialFault s (targetOf cap) .admission reason detail))
  | .allow grant _ =>
    let s := (s.setTransfer c (some (t grant))).setCell c .active
    (((s.setGrant c grant).wrProgress c).lampRefresh).transferResume c

end Sys2Proof.Machine
end

