-- ==== Sys2Proof/Machine/Watch.lean ====
section
/-! DEFINITION. The Watch Scheduler: fields, cycles, samples and ends (chapter 7). -/

namespace Sys2Proof.Machine

/-! ### Watch fields (R151, 11.4) -/

/-- Bytes 102–107: the sample fields. -/
def Sample.bytes (p : Sample) : List Byte :=
  [byte (p.form + flagBit p.truncated 2 + flagBit p.valid 3), byte p.refusal] ++ le32 p.time.toNat

/-- Bytes 115–120: the last cycle fault (R173). That its transport detail, bytes 117–120, is 0 at stage QUEUE, and all of it 0 before
the first failed cycle, is the model's choice (log 53). -/
def CycleFault.bytes : Option CycleFault → List Byte
  | some f => [byte (f.stage.code + flagBit f.touched 7), byte f.reason.code] ++ TDetail.bytes f.transport
  | none => zeros 6

/-- Bytes 108–127: counts, last cycle fault, effective period and next due time. -/
def Watch.countBytes (w : Watch) : List Byte :=
  le16 w.done ++ le16 w.skipped ++ le16 w.failed ++ [byte w.consecutive] ++ CycleFault.bytes w.lastFault ++ [0] ++
    le16 w.effective ++ le32 w.nextDue.toNat

/-- Bytes 100–127. -/
def Watch.kindBytes (w : Watch) : List Byte := le16 w.seq.toNat ++ w.sample.bytes ++ w.countBytes

/-- Writes the counts, next due time and effective period (R151). -/
def State.wrCounts (s : State) (c : Fin 32) : State :=
  match s.watch c with
  | some w => s.wr (cellBase c + 108) w.countBytes
  | none => s

/-- Increments the sequence word and writes it (R146, R147). -/
def State.bumpSeq (s : State) (c : Fin 32) : State :=
  let s := s.modWatch c fun w => { w with seq := w.seq + 1 }
  match s.watch c with
  | some w => s.wr (cellBase c + 100) (le16 w.seq.toNat)
  | none => s

/-- Writes the sample fields (R147, R148). -/
def State.wrSample (s : State) (c : Fin 32) (p : Sample) : State :=
  ((s.modWatch c fun w => { w with sample := p }).wr (cellBase c + 66) (le16 p.length)).wr (cellBase c + 102) p.bytes

/-! ### The end of a watch (R149, R150) -/

/-- A watch ends, DONE or with a fault record. -/
def State.watchEnd (s : State) (c : Fin 32) (f : Option FaultRec) : State :=
  let s := (s.dropEntry c).wrCounts c
  match s.watch c with
  | none => s
  | some w =>
    let e := { CellEnd.done w.kindBytes with fault := f, respLen := w.sample.length }
    (s.endCell c e).setWatch c none

/-- The fault record of a watch that ends for another cause than a failed cycle (R171). -/
def watchFault (s : State) (w : Watch) (stage : Stage) (reason : Reason) (detail : Option Detail) : FaultRec :=
  { denialFault s w.target stage reason detail with touched := w.touched }

/-- The pending end acts: DONE for ABORTED, else FAILED at stage POLICY (R149). -/
def State.watchEndBy (s : State) (c : Fin 32) (reason : Reason) : State :=
  match s.watch c with
  | none => s
  | some w =>
    if reason = .aborted then s.watchEnd c none else s.watchEnd c (some (watchFault s w .policy reason none))

/-- The pending end acts, if there is one (R147, R148). -/
def State.watchBoundary (s : State) (c : Fin 32) : State :=
  match s.watch c with
  | none => s
  | some w =>
    match w.pending with
    | some reason => s.watchEndBy c reason
    | none => s

/-- A cause that ends a watch arrives (R149). -/
def State.watchCause (s : State) (c : Fin 32) (reason : Reason) : State :=
  match s.watch c with
  | none => s
  | some w =>
    if w.pending.isSome then s
    else match w.out with
      | .context => s.modWatch c fun w => { w with pending := some reason }
      | .lane | .none => s.watchEndBy c reason

/-! ### Cycles (R143 to R145) -/

/-- The watch stretch that applies to a target now (R106, R143). -/
def State.stretchOf (s : State) (target : Nat) : Nat :=
  match s.segmentOf target with
  | some g => (s.seg g).pace.stretch
  | none => 1

/-- The next due time is computed from due time `t` (R143). -/
def State.nextDue (s : State) (c : Fin 32) : State :=
  s.modWatch c fun w =>
    let units := w.period * s.stretchOf w.target
    { w with nextDue := w.nextDue + BitVec.ofNat 32 (units * 10), effective := units }

/-- A cycle is skipped; the count holds at 65535. -/
def State.skipCycle (s : State) (c : Fin 32) : State :=
  s.modWatch c fun w => { w with skipped := min (w.skipped + 1) 0xFFFF }

/-- A CYCLE entry joins the lane of its class on segment `g` (R49, R144). -/
def State.joinCycle (s : State) (g : Fin 4) (c : Fin 32) : State :=
  match s.watch c with
  | none => s
  | some w =>
    let limit := queueLimit (s.cell c).captured Config.queueLimitExchange
    (s.modWatch c fun w => { w with out := .lane }).joinRun g (s.newEntry g c w.target .cycle w.service (s.msIn limit))

/-- The re-admission of a watch's cycle (R39, R144). -/
def State.watchVerdict (s : State) (w : Watch) : Verdict := s.readmission (plainRequest w.channel w.service w.target)

/-- Records the grant that passed (R144). -/
def State.watchGrant (s : State) (c : Fin 32) (grant : Nat) : State :=
  (s.modWatch c fun w => { w with grant := grant, grantId := s.grantId grant }).modCell c fun r => { r with grant := grant }

/-- A later cycle falls due (R144). -/
def State.watchDue (s : State) (c : Fin 32) : State :=
  let s := s.nextDue c
  match s.watch c with
  | none => s
  | some w =>
    if w.out ≠ .none then (s.skipCycle c).wrCounts c
    else match s.watchVerdict w with
      | .allow grant g => ((s.watchGrant c grant).wrCounts c).joinCycle g c
      | .deny reason detail _ =>
        if reason.isVehicle then (s.skipCycle c).wrCounts c
        else s.watchEnd c (some (watchFault s w .admission reason detail))

/-- The waiting cycle is withdrawn and counted as skipped (R145). -/
def State.withdrawCycle (s : State) (c : Fin 32) : State :=
  (((s.dropEntry c).skipCycle c).modWatch c fun w => { w with out := .none }).wrCounts c

/-- The WS tests each HOLD_WHILE watch at a change of vehicle state (R145). -/
def State.watchesVehicle (s : State) : State :=
  (List.finRange 32).foldl (fun s c =>
    match s.watch c with
    | some w =>
      if w.hold && w.out == .lane && (condFailure s.vsm (s.ps.active.conds [Fin.ofNat 8 w.cls])).isSome
      then s.withdrawCycle c else s
    | none => s) s

/-! ### Outcomes of a cycle (R146 to R148) -/

/-- The first frame of a response that is not a hold: the sequence word becomes odd (R146). -/
def State.cycleResponse (s : State) (c : Fin 32) : State := s.bumpSeq c

/-- A response is published as a sample (R147). -/
def State.publish (s : State) (c : Fin 32) (form : Form) (r : Report) : State :=
  let p : Sample :=
    { length := r.respLen, time := s.time.ms, form := form.code, refusal := r.refusal, truncated := r.truncated, valid := true }
  let s := (s.wrSample c p).bumpSeq c
  let s := (s.modWatch c fun w => { w with done := min (w.done + 1) 0xFFFF, consecutive := 0, out := .none }).wrCounts c
  match s.watch c with
  | none => s
  | some w =>
    let flags := (if form = .refusal then [Flag.ecuRefused] else []) ++ if r.truncated then [Flag.truncated] else []
    let s := s.accrue w.channel flags
    let s := if w.notify then s.setDone c else s
    if w.limit ≠ 0 ∧ w.done = w.limit then s.watchEnd c none else s.watchBoundary c

/-- A cycle fails (R148). `received` and `form` describe a response under way. -/
def State.cycleFailed (s : State) (c : Fin 32) (f : CycleFault) (r : Option (Report × Form)) : State :=
  let odd := match s.watch c with
    | some w => w.seq.getLsbD 0
    | none => false
  let s := match r with
    | some (r, form) =>
      if odd then
        (s.wrSample c
          { length := r.respLen, time := s.time.ms, form := form.code, refusal := r.refusal, truncated := r.truncated,
            valid := false }).bumpSeq c
      else s
    | none => s
  let s := s.modWatch c fun w =>
    { w with
      lastFault := some f, failed := min (w.failed + 1) 0xFFFF, consecutive := w.consecutive + 1, out := .none }
  let s := s.wrCounts c
  match s.watch c with
  | none => s
  | some w =>
    let truncated := match r with
      | some (r, _) => r.truncated
      | none => false
    let flags := [if f.stage = .queue then Flag.queueLost else Flag.transport] ++ if truncated then [Flag.truncated] else []
    let s := s.accrue w.channel flags
    if w.consecutive < Config.watchFailLimit then s.watchBoundary c
    else
      s.watchEnd c (some
        { FaultRec.core f.stage f.reason (s.segmentOf w.target) with
          secondary := w.pending, transport := f.transport, touched := f.touched })

/-- The STU reports the outcome of a cycle's exchange (R147, R148). -/
def State.watchReport (s : State) (c : Fin 32) (r : Report) (form : Form) : State :=
  let s := s.modWatch c fun w => { w with touched := w.touched || r.touched }
  match r.outcome with
  | .response f => s.publish c f r
  | .failure reason =>
    s.cycleFailed c { stage := .transport, reason := reason, touched := r.touched, transport := some r.detail } (some (r, form))

/-! ### Receipt (R142) -/

/-- The record of an admitted watch (R142). That its sample starts with 0 in every field, which an end before any sample shows, is
the model's choice (log 49). -/
def newWatch (s : State) (c : Fin 32) (ch : Fin 8) (grant : Nat) : Watch :=
  let cap := (s.cell c).captured
  let code := s.firstByte (requestRef cap)
  let k := s.classIndex code
  { channel := ch, target := targetOf cap, service := code, cls := k.val, hold := s.ps.active.holdWhile k, grant := grant
    grantId := s.grantId grant, period := field16 cap 26, limit := field16 cap 28, notify := field8 cap 4 % 2 == 1
    nextDue := s.time.ms, effective := 0, out := .none, seq := 0, done := 0, skipped := 0, failed := 0, consecutive := 0
    lastFault := none, pending := none, touched := false
    sample := { length := 0, time := 0, form := 0, refusal := 0, truncated := false, valid := false } }

/-- The AU records the service code and class of a cell at its first admission (R26). -/
def State.recordService (s : State) (c : Fin 32) (code : Nat) : State :=
  s.modCell c fun r => { r with service := code, cls := (s.classIndex code).val }

/-- The WS receives a WATCH cell: first admission, record, and the first cycle, which falls due at once (R142 to R144). -/
def State.watchReceive (s : State) (c : Fin 32) (ch : Fin 8) : State :=
  let cap := (s.cell c).captured
  let code := s.firstByte (requestRef cap)
  let v := s.admission false (plainRequest ch code (targetOf cap))
  let w := newWatch s c ch
  let s := (s.countVerdict ch v).recordService c code
  match v with
  | .deny reason detail _ => s.endCell c (.failed (denialFault s (targetOf cap) .admission reason detail))
  | .allow grant g =>
    let s := (s.setWatch c (some (w grant))).setCell c .active
    let s := (s.setGrant c grant).wr (cellBase c + 100) (le16 0)
    ((s.nextDue c).wrCounts c).joinCycle g c

end Sys2Proof.Machine
end

