-- ==== Sys2Proof/Machine/Vehicle.lean ====
section
/-! DEFINITION. Lost queue entries and the Vehicle State Monitor: debounce, state frames, staleness and the report of a change
(R40, R58, R61, R153, R163 to R166). -/

namespace Sys2Proof.Machine

/-! ### The loss of an EXCHANGE entry -/

/-- An EXCHANGE entry is removed, and its cell ends FAILED at stage QUEUE (R17, R22, R40, R58, R59, R61). -/
def State.exchangeLost (s : State) (c : Fin 32) (reason : Reason) (detail : Option Detail) : State :=
  let s := s.dropEntry c
  s.endCell c (.failed (denialFault s (targetOf (s.cell c).captured) .queue reason detail))

/-! ### Change of vehicle state (R166) -/

/-- Entries of one role that wait in the lanes of any segment. -/
def State.waiting (s : State) : List Entry := (List.finRange 4).flatMap fun g => (s.seg g).lanes.all

/-- The AU tests the conditions of every waiting EXCHANGE entry (R40). -/
def State.exchangesVehicle (s : State) : State :=
  s.waiting.foldl (fun s e =>
    if e.role == .exchange && (condFailure s.vsm (s.ps.active.conds [Fin.ofNat 8 e.cls])).isSome
    then s.exchangeLost e.cell .conditionLost none else s) s

/-- The AU receives a change of vehicle state and passes it on (R166). -/
def State.vehicleChanged (s : State) : State := s.exchangesVehicle.transfersVehicle.watchesVehicle

/-- The VSM sets both states, writes them, sets EVENT VEHICLE and reports one change (R164, R165). -/
def State.putVehicle (s : State) (e : Engine) (m : Motion) : State :=
  let s := s.modVsm fun v => { v with engine := e, motion := m }
  ((s.wrInfo 0x21 [byte e.code, byte m.code]).event .vehicle).vehicleChanged

/-- The states of an accepted frame; a frame that leaves both as they were reports nothing (R164). -/
def State.setVehicle (s : State) (e : Engine) (m : Motion) : State :=
  if s.vsm.engine = e ∧ s.vsm.motion = m then s else s.putVehicle e m

/-! ### The state frame (R164) -/

/-- The identifier of the state frame (R10). -/
def VehSet.canId (v : VehSet) : CanId := Machine.canId v.format v.id

/-- A byte of a frame's data; a remote frame and the places beyond the DLC have none. -/
def byteAt (f : CanFrame) (i : Nat) : Byte := if !f.remote && i < f.dlc.val then f.data.toList.getD i 0 else 0

/-- The VSM accepts a frame (R164). -/
def accepts (v : VehSet) (f : CanFrame) : Bool :=
  !f.remote && v.engineOff + 2 ≤ f.dlc.val && v.roadOff + 2 ≤ f.dlc.val

/-- A 16-bit big-endian field of a frame. -/
def be16At (f : CanFrame) (i : Nat) : Nat := be16 (byteAt f i) (byteAt f (i + 1))

/-- The engine state of an accepted frame (R164). -/
def engineOf (v : VehSet) (f : CanFrame) : Engine := if v.running < be16At f v.engineOff then .running else .stopped

/-- The motion state of an accepted frame (R164). -/
def motionOf (v : VehSet) (f : CanFrame) : Motion := if be16At f v.roadOff ≤ v.stationary then .stationary else .moving

/-- The frame observer of segment `g` hands a frame to the VSM if it is the state frame (R70, R164). -/
def State.observeState (s : State) (g : Fin 4) (f : CanFrame) : State :=
  let v := s.ps.active.veh
  if v.seg == g.val && f.id == v.canId && accepts v f then
    (s.modVsm fun m => { m with lastFrame := some s.time.clock }).setVehicle (engineOf v f) (motionOf v f)
  else s

/-! ### Staleness (R165) -/

/-- The staleness timer has run to its limit. -/
def State.stale (s : State) : Bool :=
  match s.vsm.lastFrame with
  | some t => t + s.ps.active.veh.stale ≤ s.time.clock
  | none => false

/-- The staleness timer expires: both states become UNKNOWN, which is reported (R165). -/
def State.goStale (s : State) : State := (s.modVsm fun m => { m with lastFrame := none }).putVehicle .unknown .unknown

/-! ### Debounced lines (R153, R163) -/

/-- A raw change of a line to `level` (R153): away from the debounced level the timer starts, back to it the timer stops. -/
def Line.rawChange (l : Line) (level : Bool) (now len : Nat) : Line :=
  if level = l.raw then l
  else { l with raw := level, timer := if level = l.level then none else some (now + len) }

/-- The debounce timer of a line expires: the debounced level takes the raw level (R153). -/
def Line.expire (l : Line) : Line := { l with level := l.raw, timer := none }

end Sys2Proof.Machine
end

