-- ==== Sys2Proof/Machine/Transport.lean ====
section
/-! DEFINITION. The Segment Transport Unit: outcomes, controller states, the frame scheduler, reception, and the commands of
the bus (chapter 4). -/

namespace Sys2Proof.Machine

/-! ### Outcomes (R86, R87) -/

/-- The outcome of an EXCHANGE cell's exchange (R84, R86, R87). -/
def State.exchangeReport (s : State) (c : Fin 32) (r : Report) : State :=
  let late := (s.cell c).abortPending
  match r.outcome with
  | .response form =>
    s.endCell c
      { CellEnd.done [] with
        truncated := r.truncated, abortTooLate := late, refused := form == .refusal, respLen := r.respLen }
  | .failure reason =>
    let f :=
      { FaultRec.core .transport reason (s.segmentOf (targetOf (s.cell c).captured)) with
        secondary := if late then some .aborted else none, transport := some r.detail, touched := r.touched }
    s.endCell c { CellEnd.failed f with truncated := r.truncated, respLen := r.respLen }

/-- The response length that a context reports: the true length, or at a failure the bytes received (R85). -/
def Ctx.respLen (x : Ctx) : XOutcome → Nat
  | .response _ => x.expected
  | .failure _ => if x.st == .receiving && x.form != .hold then x.received else 0

/-- An exchange ends: the report to the owner, the free, and a transfer's next exchange as a later event (R56, R86). -/
def State.endExchange (s : State) (g x : Fin 4) (o : XOutcome) (kind index : Nat) : State :=
  let k := s.ctx g x
  let r : Report :=
    { outcome := o, respLen := k.respLen o, truncated := k.truncated, refusal := k.refusal, touched := k.touched
      detail := { seg := g, ctx := x, kind := kind, index := index } }
  match k.role with
  | .exchange => (s.exchangeReport k.cell r).freeCtx g x
  | .cycle => (s.watchReport k.cell r k.form).freeCtx g x
  | .start | .data | .ending | .verify | .keepalive =>
    ((s.transferReport k.cell r k).freeCtx g x).transferResume k.cell

/-- A failure of the exchange in a context. -/
def State.failExchange (s : State) (g x : Fin 4) (reason : Reason) (kind index : Nat) : State :=
  s.endExchange g x (.failure reason) kind index

/-- Kind and index of the frame being attempted by a context, or else of its last frame (R86). -/
def Seg.lastFrame (q : Seg) (x : Fin 4) : Nat × Nat :=
  match q.offered with
  | some o => if o.ctx = some x then (o.kind.code, o.index) else q.ctxs[x].last
  | none => q.ctxs[x].last

/-- Every busy context of a segment fails (R67, R89, R91). That they fail in ascending order is the model's choice (log 42). -/
def State.failBusy (s : State) (g : Fin 4) (reason : Reason) : State :=
  (List.finRange 4).foldl (fun s x =>
    if (s.ctx g x).busy then
      let d := (s.seg g).lastFrame x
      s.failExchange g x reason d.1 d.2
    else s) s

/-! ### Controller states (R64 to R71) -/

/-- A change of controller state (R71). -/
def State.setCtl (s : State) (g : Fin 4) (k : Ctl) : State :=
  if (s.seg g).ctl = k then s else ((s.modSeg g fun q => { q with ctl := k }).stuWrite g).event .segment

/-- The state that the error counts give (R64). -/
def errorState (tec rec_ : Nat) : Ctl :=
  if 255 < tec then .off
  else if 128 ≤ tec || 128 ≤ rec_ then .passive
  else if 96 ≤ tec || 96 ≤ rec_ then .warning
  else .online

/-- The controller enters OFF (R67). That a frame dropped here or at a restart does not count as the part's previous frame for the
transmit gap is the model's choice (log 46), and so is that the rewrite at the change to OFF shows this bus-off counted (log 55). -/
def State.busOff (s : State) (g : Fin 4) : State :=
  let s := (s.modSeg g fun q => { q with recovery := 0, busOff := q.busOff + 1 }).setCtl g .off
  (s.failBusy g .segmentOff).modSeg g fun q => { q with offered := none }

/-- After a change of an error count the state follows the counts (R64). -/
def State.settleErrors (s : State) (g : Fin 4) : State :=
  let q := s.seg g
  if !q.ctl.sends then s
  else match errorState q.tecCount q.recCount with
    | .off => s.busOff g
    | k => if k = q.ctl then s else (s.setCtl g k).arbitrate g

/-- A change of the error counts of a controller that sends (R65). -/
def State.modErrors (s : State) (g : Fin 4) (f : Seg → Seg) : State :=
  if (s.seg g).ctl.sends then (s.modSeg g f).settleErrors g else s

/-- The state that a controller takes when its segment restarts or is set up (R66). -/
def State.startState (s : State) (g : Fin 4) : Ctl := if s.enabled g then .joining else .disabled

/-- A controller leaves its state for one in which it does not send: counts 0, busy contexts failed, the frame dropped (R89,
R91, log 15). That the dropped frame does not count as the part's previous frame for the transmit gap is the model's choice
(log 46). -/
def State.restartInto (s : State) (g : Fin 4) (k : Ctl) : State :=
  let s := (s.modSeg g fun q => { q with tecCount := 0, recCount := 0, recovery := 0 }).setCtl g k
  (s.failBusy g .segmentRestarted).modSeg g fun q => { q with offered := none }

/-- A controller becomes ONLINE with both counts 0, and the LS arbitrates (R61, R66, R68). -/
def State.goOnline (s : State) (g : Fin 4) : State :=
  ((s.modSeg g fun q => { q with tecCount := 0, recCount := 0, recovery := 0 }).setCtl g .online).arbitrate g

/-! ### Building frames (R72, R76) -/

/-- A byte of a request's payload, read as the frame is built (R75, R117). -/
def State.payloadByte (s : State) (p : Payload) (i : Nat) : Byte :=
  match p with
  | .ram a => s.mem.read (a + i)
  | .block service counter slot =>
    if i = 0 then byte service else if i = 1 then byte counter else s.mem.read (blockBase slot + (i - 2))

/-- `n` payload bytes from index `i` on. -/
def State.payloadBytes (s : State) (p : Payload) (i n : Nat) : List Byte := (List.range n).map fun k => s.payloadByte p (i + k)

/-- A data frame of the part. -/
def partFrame (i : CanId) (bs : List Byte) : CanFrame :=
  { id := i, remote := false, dlc := Fin.ofNat 9 bs.length, data := Vector.ofFn fun k : Fin 8 => bs.getD k.val 0 }

/-- The frame that a context made ready, with the payload bytes that it carries; a CREDIT carries the receive credit and gap of
the pace entry `p` (R72, R81, R105). -/
def buildFrame (s : State) (p : Pace) (x : Fin 4) (k : Ctx) (r : Ready) : Offered :=
  let offer := fun (bs carried : List Byte) (index : Nat) =>
    { ctx := some x, frame := partFrame k.reqId bs, kind := r.kind, index := index, carried := carried, credit := if r.kind = .credit then p.credit else 0 }
  match r.kind with
  | .short =>
    let bs := s.payloadBytes k.payload 0 k.length
    offer (byte (0x10 + k.length) :: bs) bs 0
  | .opening =>
    let bs := s.payloadBytes k.payload 0 5
    offer ([byte (0x20 + k.length / 0x100), byte k.length, k.tag] ++ bs) bs 0
  | .part =>
    let bs := s.payloadBytes k.payload k.sent (min 6 (k.length - k.sent))
    offer ([byte (0x30 + k.tag.toNat % 16), k.nextPart] ++ bs) bs k.nextPart.toNat
  | .credit => offer [0x40, byte p.credit, byte p.rxGap] [] 0

/-! ### The frame scheduler (R76, R104) -/

/-- The spacing of two PARTs of one context, in µs: the greater of the transmit gap and the ECU gap (R76, R104). -/
def partGap (p : Pace) (k : Ctx) : Nat := max p.txGap k.ecuGap * 100

/-- When a ready frame of a context is ready: a later PART of one credit waits for the spacing (R76). -/
def readyAt (p : Pace) (k : Ctx) (r : Ready) : Nat := if r.spaced then r.since + partGap p k else r.since

/-- A PART keeps the spacing from the context's PART before it, whichever credit that was sent under (R104). A first PART of a
credit that is ready and still has to wait lets the frames of other contexts pass (log 45). -/
def partSpaced (p : Pace) (k : Ctx) (r : Ready) (now : Nat) : Bool :=
  match r.kind, k.partEnd with
  | .part, some e => e + partGap p k ≤ now
  | _, _ => true

/-- The ready frame to offer: of those that no spacing holds back the earliest, then that of the lowest context (R76, R104). -/
def chooseReady (q : Seg) (now : Nat) : Option (Fin 4 × Ready) :=
  (List.finRange 4).foldl (fun best x =>
    match q.ctxs[x].ready with
    | none => best
    | some r =>
      if now < readyAt q.pace q.ctxs[x] r || !partSpaced q.pace q.ctxs[x] r now then best
      else match best with
        | some (y, b) => if readyAt q.pace q.ctxs[x] r < readyAt q.pace q.ctxs[y] b then some (x, r) else best
        | none => some (x, r)) none

/-- The segment's transmit gap has passed since the end of the part's previous frame (R76, R104). -/
def gapPassed (q : Seg) (now : Nat) : Bool :=
  match q.lastEnd with
  | some t => t + q.pace.txGap * 100 ≤ now
  | none => true

/-- The frame that the scheduler offers now, if any. -/
def State.nextOffer (s : State) (g : Fin 4) : Option (Fin 4 × Ready) :=
  let q := s.seg g
  if q.ctl.sends && q.offered.isNone && gapPassed q s.now then chooseReady q s.now else none

/-- FRAME_OFFER (R76): the frame is built as it is offered, from RAM and the pace entry of this moment (R19, log 7, log 8). -/
def execFrameOffer (g : Fin 4) (us : Fin 1000) (s : State) : Host.Outcome State Fault Refusal :=
  let t := s.atUs us
  match t.nextOffer g with
  | none => noEvent s
  | some (x, r) =>
    let o := buildFrame t (t.seg g).pace x (t.ctx g x) r
    complete (t.modSeg g fun q => { q with offered := some o, ctxs := upd q.ctxs x fun k => { k with ready := none } })

/-! ### The part's own frames (R77, R81) -/

/-- A timer of `n` ms that starts now. -/
def State.timerIn (s : State) (n : Nat) : Option Nat := some (s.time.clock + n)

/-- The segment settings of the active set. -/
def State.segSet (s : State) (g : Fin 4) : SegSet := s.ps.active.segs[g]

/-- A context enters a state with its timer, which the STU shows (R74, R92). -/
def State.enterCtx (s : State) (g x : Fin 4) (st : CtxState) (timer : Option Nat) : State :=
  (s.modCtx g x fun k => { k with st := st, timer := timer }).stuWrite g

/-- The bytes of a block that a frame of a DATA exchange carried: all but the code and the counter (R129). -/
def blockPart (k : Ctx) (carried : List Byte) : List Byte :=
  match k.payload with
  | .block _ _ _ => carried.drop (2 - k.sent)
  | .ram _ => []

/-- What a frame sent and acknowledged at `now` does to its context, but for its state (R76, R77). -/
def sentCtx (now : Nat) (o : Offered) (k : Ctx) : Ctx :=
  { k with
    touched := true, last := (o.kind.code, o.index), blockBytes := k.blockBytes ++ blockPart k o.carried,
    sent := k.sent + o.carried.length,
    lastPart := if o.kind = .part then o.index else k.lastPart,
    nextPart := if o.kind = .part then k.nextPart + 1 else k.nextPart,
    partEnd := if o.kind = .part then some now else k.partEnd,
    credit := if o.kind = .part then k.credit.map (· - 1) else k.credit }

/-- A frame of a context has been sent and acknowledged (R77, R81). -/
def State.frameSent (s : State) (g x : Fin 4) (o : Offered) : State :=
  let s := s.modCtx g x (sentCtx s.now o)
  let k := s.ctx g x
  match o.kind with
  | .short => s.enterCtx g x .awaitResponse (s.timerIn k.respWait)
  | .opening => s.enterCtx g x .awaitCredit (s.timerIn (s.segSet g).creditWait)
  | .part =>
    if k.length ≤ k.sent then s.enterCtx g x .awaitResponse (s.timerIn k.respWait)
    else if k.credit = some 0 then s.enterCtx g x .awaitCredit (s.timerIn (s.segSet g).creditWait)
    else s.modCtx g x fun k =>
      { k with ready := some { kind := .part, since := s.now, spaced := true } }
  | .credit =>
    s.modCtx g x fun k =>
      { k with granted := if o.credit = 0 then none else some o.credit, timer := s.timerIn (s.segSet g).partWait }

/-- OWN_FRAME_ACKNOWLEDGED (R65, R70, R77). That the STU's rewrite at the context's change of state shows TEC before its decrement is
the model's choice (log 37), and so is that every rewrite in this event shows the count of frames sent with this frame in it
(log 55). -/
def execOwnFrameAcknowledged (g : Fin 4) (us : Fin 1000) (s : State) : Host.Outcome State Fault Refusal :=
  match (s.seg g).offered with
  | none => noEvent s
  | some o =>
    let s := s.atUs us
    let s := s.modSeg g fun q => { q with offered := none, sent := q.sent + 1, lastEnd := some s.now }
    let s := s.countBits g (frameBits o.frame)
    let s := match o.ctx with
      | some x => s.frameSent g x o
      | none => s
    let s := s.modErrors g fun q => { q with tecCount := q.tecCount - 1 }
    complete (s.observeState g o.frame)

/-- An error frame is observed: counted for Segment Status and for load (R70, R94). It comes before the change of the error counts,
so that a rewrite of the STU in this event shows the error frame counted, which is the model's choice (log 55). -/
def State.errorFrame (s : State) (g : Fin 4) : State :=
  (s.modSeg g fun q => { q with errorFrames := q.errorFrames + 1 }).countBits g errorFrameBits

/-- TRANSMIT_ERROR (R65, R67). -/
def execTransmitError (g : Fin 4) (s : State) : Host.Outcome State Fault Refusal :=
  if (s.seg g).offered.isSome then
    complete ((s.errorFrame g).modErrors g fun q => { q with tecCount := q.tecCount + 8 })
  else noEvent s

/-- RECEIVE_ERROR: a frame received in error is not acknowledged (R65, R69, R70). -/
def execReceiveError (g : Fin 4) (s : State) : Host.Outcome State Fault Refusal :=
  let s := s.modSeg g fun q => { q with ack := false }
  complete ((s.errorFrame g).modErrors g fun q => { q with recCount := min (q.recCount + 1) 255 })

/-! ### Frames of other nodes (R72, R73, R83) -/

/-- The kind that byte 0 of a frame names (R72). -/
def kindCode (f : CanFrame) : Option FrameKind :=
  match (byteAt f 0).toNat / 16 with
  | 1 => some .short
  | 2 => some .opening
  | 3 => some .part
  | 4 => some .credit
  | _ => none

/-- The data bytes that a frame has: none of a remote frame (log 23). -/
def dataLen (f : CanFrame) : Nat := if f.remote then 0 else f.dlc.val

/-- Low four bits of byte 0. -/
def low4 (f : CanFrame) : Nat := (byteAt f 0).toNat % 16

/-- The length that an OPEN states. -/
def openLen (f : CanFrame) : Nat := low4 f * 0x100 + (byteAt f 1).toNat

/-- A frame is malformed for a context that waits for `todo` more bytes of a message (R73). -/
def malformed (f : CanFrame) (todo : Nat) : Bool :=
  match kindCode f with
  | none => true
  | some .short => low4 f == 0 || dataLen f < low4 f + 1
  | some .opening => dataLen f < 8 || openLen f < 8
  | some .part => dataLen f < 3 || dataLen f < 2 + min 6 todo
  | some .credit => dataLen f < 3 || 3 ≤ low4 f

/-- Kind code and index of a frame received, for a detail: the index is byte 1 of a PART, else 0 (R86). That a PART without a byte 1
has index 0, and that a frame other than a PART has index 0 also in a SEQUENCE_ERROR, for which R86 gives no index, is the model's
choice (log 43). -/
def frameDetail (f : CanFrame) : Nat × Nat :=
  match kindCode f with
  | none => (0, 0)
  | some .part => (3, (byteAt f 1).toNat)
  | some k => (k.code, 0)

/-- A stray frame is counted (R83). That a rewrite at the fall of REC in the same event shows the count without it is the model's
choice (log 55). -/
def State.strayFrame (s : State) (g : Fin 4) : State := s.modSeg g fun q => { q with stray := q.stray + 1 }

/-- Payload bytes of a frame from place `i` on. -/
def frameBytes (f : CanFrame) (i n : Nat) : List Byte := (List.range n).map fun k => byteAt f (i + k)

/-! ### CREDIT in AWAIT_CREDIT (R78) -/

/-- A context takes PROCEED (R78). Its next PART is ready at once (R76). -/
def proceedCtx (now : Nat) (f : CanFrame) (k : Ctx) : Ctx :=
  { k with
    credit := if byteAt f 1 = 0 then none else some (byteAt f 1).toNat
    ecuGap := min (byteAt f 2).toNat Config.gapMax, waits := 0, last := (4, 0)
    ready := some { kind := .part, since := now, spaced := false } }

/-- A well-formed CREDIT arrives at a context that awaits it (R78). -/
def State.takeCredit (s : State) (g x : Fin 4) (f : CanFrame) : State :=
  let k := s.ctx g x
  match low4 f with
  | 0 => (s.modCtx g x (proceedCtx s.now f)).enterCtx g x .sending none
  | 1 =>
    let s := s.modCtx g x fun k => { k with waits := k.waits + 1, last := (4, 0) }
    if k.waits < Config.waitLimit then s.modCtx g x fun k => { k with timer := s.timerIn (s.segSet g).creditWait }
    else s.failExchange g x .creditTimeout 4 k.lastPart
  | _ => s.failExchange g x .creditRefused 4 k.lastPart

/-! ### Responses (R79 to R82, R84, R85) -/

/-- The form of a message from its first bytes and length (R84). -/
def classify (service len : Nat) (b0 b1 : Byte) : Form :=
  if b0 = 0xFD ∧ (len = 1 ∨ b1.toNat = service) then .hold
  else if b0 = 0xFE ∧ b1.toNat = service ∧ 3 ≤ len then .refusal
  else if b0.toNat = service + 0x80 then .positive
  else .other

/-- The extension of a hold, in 100 ms units (R80). -/
def holdExtension (len : Nat) (b2 : Byte) : Nat :=
  if len < 3 then 1 else if b2 = 0 then 1 else min b2.toNat 50

/-- Stores bytes of a response at position `pos` of the buffer; what lies beyond the capacity is not written (R85, R119). -/
def State.storeResponse (s : State) (g x : Fin 4) (pos : Nat) (bs : List Byte) : State :=
  let k := s.ctx g x
  match k.role with
  | .exchange | .cycle =>
    let r := responseRef (s.cell k.cell).captured
    let s := s.wr (r.addr + pos) (bs.take (r.len - pos))
    s.modCtx g x fun k => { k with truncated := k.truncated || r.len < pos + bs.length }
  | .verify =>
    let o := crcOffset (s.cell k.cell).captured
    let pick := fun (i : Nat) (old : Option Byte) => if pos ≤ i ∧ i < pos + bs.length then bs[i - pos]? else old
    s.modCtx g x fun k => { k with verifyHi := pick o k.verifyHi, verifyLo := pick (o + 1) k.verifyLo }
  | .start | .data | .ending | .keepalive => s

/-- Before any byte of a watch's response is written the sequence word becomes odd (R146). -/
def State.responseBegins (s : State) (g x : Fin 4) : State :=
  if (s.ctx g x).role = .cycle then s.cycleResponse (s.ctx g x).cell else s

/-- A whole hold message has been received (R80). -/
def State.holdTaken (s : State) (g x : Fin 4) : State :=
  let s := s.modCtx g x fun k => { k with holds := k.holds + 1 }
  let k := s.ctx g x
  if Config.holdLimit < k.holds then s.failExchange g x .holdLimit k.firstKind.code 0
  else if k.st = .awaitResponse then s.modCtx g x fun k => { k with timer := s.timerIn (k.holdExt * 100) }
  else s.enterCtx g x .awaitResponse (s.timerIn (k.holdExt * 100))

/-- A message is complete: a hold, or the response (R80, R86). -/
def State.messageDone (s : State) (g x : Fin 4) : State :=
  let k := s.ctx g x
  if k.form = .hold then s.holdTaken g x
  else s.endExchange g x (.response k.form) k.last.1 k.last.2

/-- The context calls for a CREDIT, which is built when it is offered (R81, log 7). -/
def State.callCredit (s : State) (g x : Fin 4) : State :=
  s.modCtx g x fun k =>
    { k with granted := some 0, timer := none, ready := some { kind := .credit, since := s.now, spaced := false } }

/-- The response fields that the first frame of a message sets (R79, R84). -/
def firstCtx (kind : FrameKind) (len : Nat) (tag : Byte) (bs : List Byte) (k : Ctx) : Ctx :=
  let form := classify k.service len (bs.getD 0 0) (bs.getD 1 0)
  { k with
    form := form, expected := len, received := bs.length, nextIn := 1, ecuTag := tag, firstKind := kind,
    refusal := if form = .refusal then (bs.getD 2 0).toNat else 0
    holdExt := holdExtension len (bs.getD 2 0), last := (kind.code, 0) }

/-- The first frame of a message is taken: its form, and its bytes unless it is a hold (R79, R84, R85). -/
def State.takeFirst (s : State) (g x : Fin 4) (kind : FrameKind) (len : Nat) (tag : Byte) (bs : List Byte) : State :=
  let s := s.modCtx g x (firstCtx kind len tag bs)
  if (s.ctx g x).form = .hold then s else (s.responseBegins g x).storeResponse g x 0 bs

/-- A PART that passes the checks is taken (R82). -/
def State.takePart (s : State) (g x : Fin 4) (f : CanFrame) : State :=
  let k := s.ctx g x
  let bs := frameBytes f 2 (min 6 (k.expected - k.received))
  let s := if k.form = .hold then s else s.storeResponse g x k.received bs
  let s := s.modCtx g x fun k =>
    { k with
      received := k.received + bs.length, nextIn := k.nextIn + 1, granted := k.granted.map (· - 1)
      timer := s.timerIn (s.segSet g).partWait, last := frameDetail f }
  let k := s.ctx g x
  if k.expected ≤ k.received then s.messageDone g x
  else if k.granted = some 0 then s.callCredit g x
  else s

/-- The checks on a frame in RECEIVING after the malformed one (R82). -/
def partInOrder (k : Ctx) (f : CanFrame) : Bool :=
  kindCode f == some .part && k.granted != some 0 && low4 f == k.ecuTag.toNat % 16 && byteAt f 1 == k.nextIn

/-- A frame on the response identifier of a context that awaits one (R78, R79, R82). -/
def State.takeFrame (s : State) (g x : Fin 4) (f : CanFrame) : State :=
  let k := s.ctx g x
  let d := frameDetail f
  match k.st with
  | .awaitCredit =>
    if malformed f 0 then s.failExchange g x .frameError d.1 d.2
    else if kindCode f = some .credit then s.takeCredit g x f
    else s.strayFrame g
  | .awaitResponse =>
    if malformed f 0 then s.failExchange g x .frameError d.1 d.2
    else match kindCode f with
      | some .short => (s.takeFirst g x .short (low4 f) 0 (frameBytes f 1 (low4 f))).messageDone g x
      | some .opening =>
        ((s.takeFirst g x .opening (openLen f) (byteAt f 2) (frameBytes f 3 5)).callCredit g x).enterCtx g x .receiving none
      | _ => s.strayFrame g
  | .receiving =>
    if malformed f (k.expected - k.received) then s.failExchange g x .frameError d.1 d.2
    else if partInOrder k f then s.takePart g x f
    else s.failExchange g x .sequenceError d.1 d.2
  | .free | .sending => s.strayFrame g

/-- The context awaits a frame on an identifier (R83). -/
def Ctx.awaits (k : Ctx) (i : CanId) : Bool :=
  (k.st == .awaitCredit || k.st == .awaitResponse || k.st == .receiving) && k.respId == i

/-- A response identifier of segment `g`: of a used route entry, or held by a busy context (R72). -/
def State.isResponseId (s : State) (g : Fin 4) (i : CanId) : Bool :=
  s.ps.active.routes.toList.any (fun r => r.used && r.seg == g.val && r.resp == i) || (s.seg g).listens i

/-- A frame of another node is offered to the transport (R70, R83). -/
def State.offerTransport (s : State) (g : Fin 4) (f : CanFrame) : State :=
  if !s.isResponseId g f.id then s
  else match (List.finRange 4).find? fun x => (s.ctx g x).awaits f.id with
    | some x => s.takeFrame g x f
    | none => s.strayFrame g

/-- FRAME_COMPLETED: a frame received without error is acknowledged as the state says, and counted (R64, R65, R69, R70). That REC
falls before the transport acts, so that a rewrite in this event shows it fallen, is the model's choice (log 37), and so are that
every rewrite in this event shows the frame counted as received (log 55), and that a frame which is both the state frame and on a
response identifier goes to the VSM before the transport (log 52). -/
def execFrameCompleted (g : Fin 4) (us : Fin 1000) (f : CanFrame) (s : State) : Host.Outcome State Fault Refusal :=
  let s := (s.atUs us).modSeg g fun q => { q with received := q.received + 1, ack := q.ctl.acknowledges }
  let s := s.countBits g (frameBits f)
  let s := s.modErrors g fun q => { q with recCount := q.recCount - 1 }
  complete ((s.observeState g f).offerTransport g f)

/-! ### Waits (R78, R79, R82) -/

/-- The timer of a context in state `st` is due. -/
def State.waitDue (s : State) (g x : Fin 4) (st : CtxState) : Bool := (s.ctx g x).st == st && s.due (s.ctx g x).timer

/-- CREDIT_WAIT_EXPIRY (R78). -/
def execCreditWaitExpiry (g x : Fin 4) (s : State) : Host.Outcome State Fault Refusal :=
  if s.waitDue g x .awaitCredit then complete (s.failExchange g x .creditTimeout 4 (s.ctx g x).lastPart) else noEvent s

/-- RESPONSE_WAIT_EXPIRY (R79). The detail is the request's last frame (R86). -/
def execResponseWaitExpiry (g x : Fin 4) (s : State) : Host.Outcome State Fault Refusal :=
  if s.waitDue g x .awaitResponse then
    let k := s.ctx g x
    let d := if k.length ≤ 7 then (1, 0) else (3, k.lastPart)
    complete (s.failExchange g x .responseTimeout d.1 d.2)
  else noEvent s

/-- PART_WAIT_EXPIRY (R82). -/
def execPartWaitExpiry (g x : Fin 4) (s : State) : Host.Outcome State Fault Refusal :=
  if s.waitDue g x .receiving then complete (s.failExchange g x .partTimeout 3 (s.ctx g x).nextIn.toNat) else noEvent s

/-! ### JOINING and OFF (R66, R68) -/

/-- JOIN_COMPLETE (R66). -/
def execJoinComplete (g : Fin 4) (s : State) : Host.Outcome State Fault Refusal :=
  if (s.seg g).ctl = .joining then complete (s.goOnline g) else noEvent s

/-- RECESSIVE_RUN_COUNTED (R68). -/
def execRecessiveRunCounted (g : Fin 4) (s : State) : Host.Outcome State Fault Refusal :=
  if (s.seg g).ctl = .off ∧ (s.segSet g).autoRecovery ∧ (s.seg g).recovery < Config.recoveryRuns then
    complete (s.modSeg g fun q => { q with recovery := q.recovery + 1 })
  else noEvent s

/-- BUS_OFF_RECOVERY (R68). -/
def execBusOffRecovery (g : Fin 4) (s : State) : Host.Outcome State Fault Refusal :=
  if (s.seg g).ctl = .off ∧ (s.segSet g).autoRecovery ∧ (s.seg g).recovery = Config.recoveryRuns then
    complete (s.goOnline g)
  else noEvent s

/-! ### The end of a sub-window (R100) -/

/-- SUB_WINDOW_END (R92, R100). -/
def execSubWindowEnd (g : Fin 4) (s : State) : Host.Outcome State Fault Refusal :=
  if s.subDue g then complete (s.subWindowEnd g) else noEvent s

end Sys2Proof.Machine
end

