-- ==== Sys2Proof/Machine/Connector.lean ====
section
/-! DEFINITION. The Connector Monitor: lines, supply, the CONNECTOR request and their commands (R153 to R162). -/

namespace Sys2Proof.Machine

/-! ### Lines (R153, R154, R156) -/

/-- Byte 18h of the Information Block: presence, key, workshop mode. -/
def linesByte (s : State) : Byte :=
  byte (flagBit s.cm.presence.level 0 + flagBit s.cm.key.level 1 + flagBit (workshop s) 2)

/-- The line that a command names. -/
def CM.line (m : CM) : ConnLine → Line
  | .presence => m.presence
  | .key => m.key

/-- Replaces the line that a command names. -/
def CM.setLine (m : CM) (l : ConnLine) (x : Line) : CM :=
  match l with
  | .presence => { m with presence := x }
  | .key => { m with key := x }

/-- CONNECTOR_LINE_RAW_CHANGE (R153). -/
def execConnectorLineRawChange (l : ConnLine) (level : Bool) (s : State) : Host.Outcome State Fault Refusal :=
  complete (s.modCm fun m => m.setLine l ((m.line l).rawChange level s.time.clock Config.lineDebounce))

/-- A change of presence starts or stops the grace timer (R156). -/
def CM.setGrace (m : CM) (now : Nat) : CM :=
  { m with grace := if m.presence.level then none else some (now + Config.graceTime) }

/-- A line's debounce expires (R154, R156). -/
def State.lineExpire (s : State) (l : ConnLine) : State :=
  let s := s.modCm fun m => m.setLine l (m.line l).expire
  let s := (s.wrInfo 0x18 [linesByte s]).event .presence
  match l with
  | .presence => s.modCm fun m => m.setGrace s.time.clock
  | .key => s

/-- CONNECTOR_DEBOUNCE_EXPIRY (R154). -/
def execConnectorDebounceExpiry (l : ConnLine) (s : State) : Host.Outcome State Fault Refusal :=
  if s.due (s.cm.line l).timer then complete (s.lineExpire l) else noEvent s

/-! ### Lamp (R158) -/

/-- LAMP_BLINK_TOGGLE: a half of 500 ms ends, and the next begins at its end (R158). -/
def execLampBlinkToggle (s : State) : Host.Outcome State Fault Refusal :=
  if s.cm.lampInd = .blink ∧ s.due s.cm.blink then
    complete (s.modCm fun m => { m with lit := !m.lit, blink := m.blink.map (· + Config.blinkHalf) })
  else noEvent s

/-! ### Supply (R159) -/

/-- The kind's result of a CONNECTOR cell (R160, 11.4). -/
def connectorKind (m : CM) : List Byte := [byte m.lampMode.code, byte m.lampInd.code, byte m.supply.code, byte m.fault.code]

/-- A change of supply state is written; the start timer runs only in STARTING (R159). -/
def State.setSupply (s : State) (v : Supply) (timer : Option Nat) : State :=
  (s.modCm fun m => { m with supply := v, startTimer := timer }).wrInfo 0x1D [byte v.code]

/-- A supply fault is recorded and sets EVENT SUPPLY (R159). -/
def State.supplyFault (s : State) (f : SupplyFault) : State :=
  ((s.modCm fun m => { m with fault := f }).wrInfo 0x1E [byte f.code]).event .supply

/-- The ACTIVE CONNECTOR cell ends with its start (R161). -/
def State.connectorEnds (s : State) (reason : Option Reason) : State :=
  match s.cm.cell with
  | none => s
  | some c =>
    let s := s.modCm fun m => { m with cell := none }
    s.endCell c
      { CellEnd.done (connectorKind s.cm) with fault := reason.map fun r => FaultRec.core .connector r none }

/-- A fault opens the switch, and a start's cell fails with it (R159, R161). -/
def State.supplyFails (s : State) (f : SupplyFault) : State :=
  ((s.setSupply .off none).supplyFault f).connectorEnds (some .supplyFault)

/-- The supply comes up, and a start's cell ends DONE (R159, R161). -/
def State.supplyUp (s : State) : State := (s.setSupply .on none).connectorEnds none

/-- SUPPLY_GOOD_ASSERTED (R159). -/
def execSupplyGoodAsserted (s : State) : Host.Outcome State Fault Refusal :=
  let t := s.modCm fun m => { m with good := true }
  complete (if s.cm.supply = .starting then t.supplyUp else t)

/-- SUPPLY_GOOD_WITHDRAWN (R159). -/
def execSupplyGoodWithdrawn (s : State) : Host.Outcome State Fault Refusal :=
  let t := s.modCm fun m => { m with good := false }
  complete (if s.cm.supply = .on then t.supplyFails .supplyLost else t)

/-- OVERCURRENT_ASSERTED (R159). -/
def execOvercurrentAsserted (stays : Bool) (s : State) : Host.Outcome State Fault Refusal :=
  let t := s.modCm fun m => { m with overcurrent := stays }
  complete (if s.cm.supply = .off then t else t.supplyFails .overcurrent)

/-- SUPPLY_START_TIMER_EXPIRY (R159). -/
def execSupplyStartTimerExpiry (s : State) : Host.Outcome State Fault Refusal :=
  if s.cm.supply = .starting ∧ s.due s.cm.startTimer then complete (s.supplyFails .noSupplyGood) else noEvent s

/-! ### CONNECTOR (R160 to R162) -/

/-- The lamp setting of a present lamp field (R160). -/
def Lamp.ofField : Nat → Option Lamp
  | 1 => some .auto
  | 2 => some .off
  | 3 => some .on
  | 4 => some .blink
  | _ => none

/-- Step 1: an earlier CONNECTOR cell still ACTIVE ends DONE with SUPERSEDED (R162). -/
def State.connectorSupersede (s : State) : State :=
  match s.cm.cell with
  | none => s
  | some c =>
    let s := s.modCm fun m => { m with cell := none }
    s.endCell c { CellEnd.done (connectorKind s.cm) with superseded := true }

/-- Step 2: the lamp mode, the indication derived afresh, and the requested lamp mode (R157, R160). -/
def State.connectorLamp (s : State) (l : Lamp) : State :=
  let s := s.modCm fun m => { m with lampMode := l, reqLamp := l }
  let s := s.lampRefresh
  s.wrLamp.wrInfo 0x1B [byte l.code]

/-- Closing the switch: STARTING with its timer; an asserted overcurrent or supply good then acts at once (R159, log 12). -/
def State.supplyStart (s : State) : State :=
  let s := s.setSupply .starting (some (s.time.clock + Config.supplyStart))
  if s.cm.overcurrent then s.supplyFails .overcurrent
  else if s.cm.good then s.supplyUp
  else s

/-- Step 3: the requested supply, and its effect on the supply (R160, R161). The cell is already the one that awaits a start. -/
def State.connectorSupply (s : State) (on : Bool) : State :=
  let s := (s.modCm fun m => { m with reqSupply := on }).wrInfo 0x1C [byte (if on then 1 else 2)]
  match on, s.cm.supply with
  | true, .off => s.supplyStart
  | true, .starting | true, .on | false, .off => s
  | false, .starting | false, .on => s.setSupply .off none

/-- A CONNECTOR cell that awaits a start is ACTIVE; any other ends DONE (R160, step 4). -/
def State.connectorSettle (s : State) (c : Fin 32) (supply : Option Bool) : State :=
  if s.cm.cell ≠ some c then s
  else if supply = some true ∧ s.cm.supply = .starting then s.setCell c .active
  else s.connectorEnds none

/-- The supply setting of a supply field (R160). -/
def supplyField : Nat → Option Bool
  | 1 => some true
  | 2 => some false
  | _ => none

/-- The CM receives a CONNECTOR cell (R160). -/
def State.connectorReceive (s : State) (c : Fin 32) : State :=
  let cap := (s.cell c).captured
  let s := s.connectorSupersede
  let s := match Lamp.ofField (field8 cap 16) with
    | some l => s.connectorLamp l
    | none => s
  let s := s.modCm fun m => { m with cell := some c }
  let s := match supplyField (field8 cap 17) with
    | some on => s.connectorSupply on
    | none => s
  s.connectorSettle c (supplyField (field8 cap 17))

/-- ABORT of the ACTIVE CONNECTOR cell: the switch opens without a fault (R162). -/
def State.connectorAbort (s : State) : State := (s.setSupply .off none).connectorEnds (some .aborted)

/-! ### Ignition line (R163) -/

/-- IGNITION_RAW_CHANGE (R163). -/
def execIgnitionRawChange (level : Bool) (s : State) : Host.Outcome State Fault Refusal :=
  complete (s.modVsm fun v => { v with ignition := v.ignition.rawChange level s.time.clock Config.ignitionDebounce })

/-- STALENESS_TIMER_EXPIRY (R165). -/
def execStalenessTimerExpiry (s : State) : Host.Outcome State Fault Refusal :=
  if s.stale then complete s.goStale else noEvent s

end Sys2Proof.Machine
end

