-- ==== Sys2Proof/Machine/Commit.lean ====
section
/-! DEFINITION. The Policy Store at work: commits and their consequences, expiry and withdrawal of grants (R11 to R22, R110). -/

namespace Sys2Proof.Machine

/-! ### Usage records of a new set (R16) -/

/-- The index of the used grant of `p` with the identity of `q` (R16). -/
def PolicySet.sameGrant (p : PolicySet) (q : Grant) : Option (Fin 16) :=
  (List.finRange 16).find? fun i => p.grants[i].used && p.grants[i].id == q.id && p.grants[i].channel == q.channel

/-- The usage record of a grant of the new set: kept by identity, else fresh (R16, log 30). A grant that was spent stays spent, also
where its new budget is above its count or 0 (R6). -/
def newUsage (p : PS) (sec : Word32) (q : Grant) : Usage :=
  if !q.used then Usage.none
  else match p.active.sameGrant q with
    | some i => { p.usage[i] with spent := p.active.grants[i].spent p.usage[i] }
    | none =>
      { Usage.none with expiry := if q.lifetime = 0 then none else some (sec + BitVec.ofNat 32 q.lifetime) }

/-- The new set comes into force with its usage records (R13, R16). -/
def State.takeSet (s : State) (p : PolicySet) : State :=
  s.modPs fun old =>
    { old with active := p, usage := Vector.ofFn fun i : Fin 16 => newUsage old s.time.sec p.grants[i] }

/-! ### Re-admission of waiting entries (R17) and re-check (R18) -/

/-- A waiting entry takes the class of its code in the new set; its place and lane stay (R17, R26). -/
def State.reclass (s : State) (g : Fin 4) (e : Entry) (code : Nat) : State :=
  let k := (s.classIndex code).val
  s.modSeg g fun q =>
    { q with lanes := q.lanes.mod e.lane fun l => l.map fun d => if d.cell = e.cell then { d with cls := k } else d }

/-- A waiting entry that passed stays, or moves to the tail of the new segment's lane with its deadline kept (R17, R118). -/
def State.settleEntry (s : State) (c : Fin 32) (code : Nat) (target : Fin 4) : State :=
  match s.entryOf c with
  | none => s
  | some (g, e) =>
    if g = target then s.reclass g e code
    else (s.dropEntry c).join target (s.newEntry target c e.target e.role code e.deadline)

/-- The re-admission of an EXCHANGE entry (R17). -/
def State.readmitExchange (s : State) (c : Fin 32) : State :=
  let r := s.cell c
  match channelNamed r.captured with
  | none => s
  | some ch =>
    match s.readmission (plainRequest ch r.service (targetOf r.captured)) with
    | .allow _ g => s.settleEntry c r.service g
    | .deny reason detail _ => s.exchangeLost c reason detail

/-- The re-admission of a CYCLE entry (R17, log 17). -/
def State.readmitCycle (s : State) (c : Fin 32) : State :=
  match s.watch c with
  | none => s
  | some w =>
    match s.watchVerdict w with
    | .allow grant g => (s.watchGrant c grant).settleEntry c w.service g
    | .deny reason detail _ =>
      if reason.isVehicle then s.withdrawCycle c else s.watchEnd c (some (watchFault s w .queue reason detail))

/-- Every EXCHANGE and CYCLE entry that waits is re-admitted, in queue order (R17, log 14). -/
def State.readmitAll (s : State) : State :=
  s.waiting.foldl (fun s e =>
    match e.role with
    | .exchange => s.readmitExchange e.cell
    | .cycle => s.readmitCycle e.cell
    | .start | .data | .ending | .verify | .keepalive => s) s

/-- The re-check of a transfer, whose failure is named `other` unless it is a vehicle condition or check 7 (R18, R21). -/
def State.recheckTransfer (s : State) (c : Fin 32) (other : Reason) : State :=
  match s.transfer c with
  | none => s
  | some t =>
    match s.transferVerdict c t with
    | .allow grant g =>
      let s := s.transferGrant c grant
      match s.entryOf c with
      | some (_, e) => s.settleEntry c (t.codes.of e.role) g
      | none => s
    | .deny reason _ _ => s.transferCause c (recheckCause reason other)

/-- Every ACTIVE transfer is re-checked (R18). -/
def State.recheckAll (s : State) : State :=
  (List.finRange 32).foldl (fun s c => s.recheckTransfer c .grantWithdrawn) s

/-! ### Segment take-up (R19, R110) -/

/-- The segment restarts at the commit: its bit rate or enabled flag differs (R19). -/
def restarts (old new : SegSet) : Bool := old.rate != new.rate || old.enabled != new.enabled

/-- The LR restarts its integrators at the commit: W or the bit rate differs (R110). -/
def rewindows (old new : PolicySet) (g : Fin 4) : Bool :=
  old.regs[g].window != new.regs[g].window || old.segs[g].rate != new.segs[g].rate

/-- The window of a regulator begins again now (R110). -/
def Seg.rewindow (q : Seg) (now : Nat) : Seg :=
  { q with subBits := 0, winBits := 0, subIndex := 0, winStart := q.winStart.map fun _ => now }

/-- The LR's settings of a segment at the commit: limits, window and host freeze (R110). -/
def regulatorTakeup (old new : PolicySet) (g : Fin 4) (now : Nat) (q : Seg) : Seg :=
  let q := { q with acc := new.regs[g].clamp q.acc }
  let q := if rewindows old new g then q.rewindow now else q
  if old.regs[g].enabled = new.regs[g].enabled then q else { q with freeze := false }

/-- The pace entry of a level is taken from the new table; with the level unchanged a different entry is handed on (R102, R110). -/
def State.paceTakeup (s : State) (g : Fin 4) : State :=
  if (s.seg g).pace = s.paceAt g then s else ((s.takePace g).lsWrite g).lrWrite g

/-- One segment takes up its new settings (R19). -/
def State.segmentTakeup (s : State) (old : PolicySet) (g : Fin 4) : State :=
  let new := s.ps.active
  let s := if restarts old.segs[g] new.segs[g] then s.restartInto g (s.startState g) else s
  let was := s.seg g
  let s := s.modSeg g (regulatorTakeup old new g s.time.clock)
  let s := if (s.seg g).acc = was.acc ∧ (s.seg g).freeze = was.freeze then s else s.levelSettle g (levelOf was.acc)
  s.paceTakeup g

/-- The four segments in order. -/
def State.segmentsTakeup (s : State) (old : PolicySet) : State :=
  (List.finRange 4).foldl (fun s g => s.segmentTakeup old g) s

/-! ### VSM and AU (R20) -/

/-- The state frame's identity changed (R20). -/
def frameChanged (a b : VehSet) : Bool :=
  a.seg != b.seg || a.format != b.format || a.id != b.id || a.engineOff != b.engineOff || a.roadOff != b.roadOff

/-- The VSM takes up the vehicle state settings (R20, R165). -/
def State.vehicleTakeup (s : State) (old : VehSet) : State :=
  let new := s.ps.active.veh
  if frameChanged old new then
    (s.modVsm fun m => { m with lastFrame := none }).setVehicle .unknown .unknown
  else if old.stale ≠ new.stale ∧ s.stale then s.goStale
  else s

/-- A run count at or above the new threshold becomes the threshold minus one (R20). -/
def State.thresholdTakeup (s : State) : State :=
  let n := s.ps.active.threshold
  (List.finRange 8).foldl (fun s ch => s.updChan ch fun r => if n ≤ r.run then { r with run := n - 1 } else r) s

/-! ### Publication (R13, R22) -/

/-- Mirror, generation number, Information Block and EVENT COMMIT (R13). -/
def State.publishSet (s : State) : State :=
  let s := s.wrMirror.modPs fun p => { p with generation := p.generation + 1 }
  (s.wrInfo 0x28 (le32 s.ps.generation.toNat)).event .commit

/-- Each LS arbitrates once (R19). -/
def State.arbitrateAll (s : State) : State := (List.finRange 4).foldl (fun s g => s.arbitrate g) s

/-- A set that passed both tests becomes the active set, with every consequence (R13, R16 to R20). -/
def State.applySet (s : State) (p : PolicySet) : State :=
  let old := s.ps.active
  let s := ((s.takeSet p).readmitAll).recheckAll
  let s := (s.segmentsTakeup old).vehicleTakeup old.veh
  (s.thresholdTakeup.lampRefresh).arbitrateAll.publishSet

/-- The Staged Set as it stands (R12). -/
def State.staged (s : State) : PolicySet := PolicySet.read s.mem stagedBase

/-- The PS carries out a commit (R12, R13). -/
def State.runCommit (s : State) (c : Fin 32) : State :=
  let p := s.staged
  match p.invalidAt with
  | some o => s.endCell c (.failed { FaultRec.core .policy .invalidSet none with offset := some o })
  | none =>
    if p.hasGrant && !workshop s then s.endCell c (.failed (FaultRec.core .policy .notInWorkshop none))
    else
      let s := s.applySet p
      s.endCell c (.done (le32 s.ps.generation.toNat))

/-! ### The armed commit (R14, R15) -/

/-- An AT_IGNITION cell supersedes the armed one, if there is one, and becomes the armed commit (R14). -/
def State.arm (s : State) (c : Fin 32) : State :=
  let s := match s.ps.armed with
    | some old => s.endCell old { CellEnd.failed (FaultRec.core .policy .superseded none) with superseded := true }
    | none => s
  (s.modPs fun p => { p with armed := some c }).setCell c .active

/-- ABORT of the armed commit: it is disarmed (R15). -/
def State.disarm (s : State) (c : Fin 32) : State :=
  if s.ps.armed = some c then
    (s.modPs fun p => { p with armed := none }).endCell c (.failed (FaultRec.core .policy .aborted none))
  else s

/-- At an ignition edge the PS carries out the armed commit and then holds none (R14). -/
def State.ignitionEdge (s : State) : State :=
  match s.ps.armed with
  | some c => (s.modPs fun p => { p with armed := none }).runCommit c
  | none => s

/-- The ignition debounce expires (R163). -/
def State.ignitionExpire (s : State) : State :=
  let s := s.modVsm fun v => { v with ignition := v.ignition.expire }
  let on := s.vsm.ignition.level
  let s := ((s.wrInfo 0x20 [byte (if on then 1 else 0)]).event .vehicle).vehicleChanged
  if on then s.ignitionEdge else s

/-- IGNITION_DEBOUNCE_EXPIRY (R163). -/
def execIgnitionDebounceExpiry (s : State) : Host.Outcome State Fault Refusal :=
  if s.due s.vsm.ignition.timer then complete s.ignitionExpire else noEvent s

/-! ### Grant expiry (R21) -/

/-- The grant at an index is due to expire: used, not yet marked, its instant at or below the counter (R21). -/
def State.expiryDue (s : State) (i : Fin 16) : Bool :=
  s.ps.active.grants[i].used && !s.ps.usage[i].expired &&
    match s.ps.usage[i].expiry with
    | some t => t.toNat ≤ s.time.sec.toNat
    | none => false

/-- The re-check of a watch whose recorded grant has expired (R21). -/
def State.recheckWatch (s : State) (c : Fin 32) (w : Watch) : State :=
  match s.watchVerdict w with
  | .allow grant _ => s.watchGrant c grant
  | .deny reason _ grant =>
    if reason.isVehicle then s.watchGrant c (grant.getD 0xFF) else s.watchCause c .grantExpired

/-- The transfers and watches whose recorded grant has just expired are re-checked (R21, log 18). That they are taken in ascending
order of their cells is the model's choice (log 41). -/
def State.recheckGrant (s : State) (ch id : Nat) : State :=
  (List.finRange 32).foldl (fun s c =>
    let s := match s.transfer c with
      | some t => if t.channel.val = ch ∧ t.grantId = id then s.recheckTransfer c .grantExpired else s
      | none => s
    match s.watch c with
    | some w => if w.channel.val = ch ∧ w.grantId = id then s.recheckWatch c w else s
    | none => s) s

/-- GRANT_EXPIRY (R21). Grants that fall due at the same seconds advance are marked and re-checked one command after the other, so
that the re-check of the first finds the next still live: the model's choice (log 47). -/
def execGrantExpiry (i : Fin 16) (s : State) : Host.Outcome State Fault Refusal :=
  if s.expiryDue i then
    let s := s.modPs fun p => { p with usage := upd p.usage i fun u => { u with expired := true } }
    let q := s.ps.active.grants[i]
    complete (s.recheckGrant q.channel q.id).lampRefresh
  else noEvent s

/-! ### Departure (R22, R156) -/

/-- The work of the channels that held grants ends TESTER_GONE (R22). The order, queue places and then cell numbers, is the
model's choice (log 41). -/
def State.testerGone (s : State) (held : Fin 8 → Bool) : State :=
  let s := s.waiting.foldl (fun s e =>
    match e.role, channelNamed (s.cell e.cell).captured with
    | .exchange, some ch => if held ch then s.exchangeLost e.cell .testerGone none else s
    | _, _ => s) s
  (List.finRange 32).foldl (fun s c =>
    let s := match s.transfer c with
      | some t => if held t.channel then s.transferCause c .testerGone else s
      | none => s
    match s.watch c with
    | some w => if held w.channel then s.watchCause c .testerGone else s
    | none => s) s

/-- The PS removes every used grant from the active set (R22). That the other fields of the entries become 0 is the model's
choice (log 38). -/
def State.withdrawGrants (s : State) : State :=
  if !s.ps.active.hasGrant then s
  else
    let old := s.ps.active
    let s := s.modPs fun p =>
      { p with
        active := { p.active with grants := Vector.replicate 16 Grant.unused }
        usage := Vector.replicate 16 Usage.none }
    ((s.testerGone old.channelHasGrant).lampRefresh).publishSet

/-- DEPARTURE (R156). -/
def execDeparture (s : State) : Host.Outcome State Fault Refusal :=
  if s.due s.cm.grace then complete (s.modCm fun m => { m with grace := none }).withdrawGrants else noEvent s

end Sys2Proof.Machine
end

