-- ==== Sys2Proof/WellFormed.lean ====
section
/-! DEFINITION. Which terms of `Instr` name a command of the table: the checks on operands that their types do not make. -/

namespace Sys2Proof

/-- A host write enables at least one byte (R177). -/
def HostWrite.ok (w : HostWrite) : Bool := w.low || w.high

/-- The word addresses of the registers that a write reaches with an effect (11.2): CONTROL, DONE SUMMARY, EVENT SUMMARY and
EVENT ENABLE. -/
def writableRegister (a : Nat) : Bool := a == 0x02 || a == 0x04 || a == 0x06 || a == 0x08 || a == 0x0A

/-- A RAM word that is not watched (R177, R179). -/
def plainWord (a : Nat) : Bool := a % 2 == 0 && a < 0x10000 && !Machine.watched a

/-- The well-formed commands. -/
def Instr.wf : Instr → Bool
  | .doneSummaryClear _ w | .eventSummaryClear w | .eventEnableWrite w => w.ok
  | .ignoredRegisterWrite a w => a % 2 == 0 && !writableRegister a && w.ok
  | .hostRamWrite a w => plainWord a && w.ok
  | .cellPost _ w | .cellEmpty _ w | .cellAbort _ w | .cellInvalidWrite _ w => w.ok
  | .slotFilled _ w | .slotFree _ w | .slotInvalidWrite _ w => w.ok
  | .powerOnReset | .ramClearDone | .softReset _ | .softResetReady | .runWrite _ | .retainWrite _
  | .doneIrqEnableWrite _ | .cellTake | .exchangeAdmission _ | .transferReceipt _ | .watchReceipt _ | .check _
  | .commitNow _ | .commitAtIgnition _ | .clearAccrued _ | .clearLatch _ | .releaseSuspension _ | .connector _
  | .load _ | .freeze _ | .unfreeze _ | .disable _ | .enable _ | .restart _ | .queueDeadlineExpiry _
  | .frameOffer _ _ | .ownFrameAcknowledged _ _ | .transmitError _ | .receiveError _ | .frameCompleted _ _ _
  | .creditWaitExpiry _ _ | .responseWaitExpiry _ _ | .partWaitExpiry _ _ | .joinComplete _ | .busOffRecovery _
  | .subWindowEnd _ | .feedTimerExpiry _ | .keepaliveTimerExpiry _ | .watchDue _ | .millisecondTick | .secondsTick
  | .grantExpiry _ | .suspensionEnd _ | .connectorLineRawChange _ _ | .connectorDebounceExpiry _ | .departure
  | .lampBlinkToggle | .supplyGoodAsserted | .supplyGoodWithdrawn | .overcurrentAsserted _ | .supplyStartTimerExpiry
  | .ignitionRawChange _ | .ignitionDebounceExpiry | .stalenessTimerExpiry | .recessiveRunCounted _ => true

end Sys2Proof
end

