-- ==== Sys2Proof/Machine/Cells.lean ====
section
/-! DEFINITION. The work board's commands: host writes to cell state words, ABORT, the take, and the receipts of cells by their
owners (R37, R38, R46, R58, R89 to R91, R108, R109, R180 to R188). -/

namespace Sys2Proof.Machine

/-! ### Host writes to watched words (R179) -/

/-- Stores a host write. -/
def State.hostWord (s : State) (a : Nat) (w : HostWrite) : State := { s with mem := s.mem.hostWrite a w }

/-- A host write to the watched word at `a` that leaves a value of which `ok` holds. It is ignored while RAM is cleared,
stored without an event while a soft reset is under way, and otherwise stored first and then acted on (R179, R192, R193). -/
def watchedWrite (s : State) (a : Nat) (w : HostWrite) (ok : Word16 → Bool) (act : State → Word16 → State) :
    Host.Outcome State Fault Refusal :=
  let t := s.hostWord a w
  let v := t.mem.word a
  if !(w.ok && ok v) then noEvent s
  else match s.phase with
    | .clearing => noEvent s
    | .resetting => noEvent t
    | .running => complete (act t v)

/-- POSTED on an EMPTY cell joins the post list; on any other it is a board error (R180, R184). -/
def State.post (s : State) (c : Fin 32) (v : Word16) : State :=
  if (s.cell c).st = .empty then (s.setCell c .posted).setPosts (s.board.posts ++ [c]) else s.cellError c v

/-- CELL_POST (R180). -/
def execCellPost (c : Fin 32) (w : HostWrite) (s : State) : Host.Outcome State Fault Refusal :=
  watchedWrite s (cellBase c) w (· == 1) fun t v => t.post c v

/-- EMPTY frees a DONE or FAILED cell; on any other it is a board error (R180, R188). -/
def State.emptyCell (s : State) (c : Fin 32) (v : Word16) : State :=
  match (s.cell c).st with
  | .done | .failed => s.modCell c fun _ => Cell.reset
  | .empty | .posted | .taken | .queued | .active => s.cellError c v

/-- CELL_EMPTY (R180, R188). -/
def execCellEmpty (c : Fin 32) (w : HostWrite) (s : State) : Host.Outcome State Fault Refusal :=
  watchedWrite s (cellBase c) w (· == 0) fun t v => t.emptyCell c v

/-- CELL_INVALID_WRITE: 02h to 06h and 08h on, and any value with a high byte (R179, R180). -/
def execCellInvalidWrite (c : Fin 32) (w : HostWrite) (s : State) : Host.Outcome State Fault Refusal :=
  watchedWrite s (cellBase c) w (fun v => v != 0 && v != 1 && v != 7) fun t v => t.cellError c v

/-! ### ABORT (R182, R183) -/

/-- The segment that a cell's fields concern (R169). -/
def State.segConcerned (s : State) (cap : List Byte) : Option (Fin 4) :=
  match kindOf cap with
  | some .exchange | some .watch | some .transfer => s.segmentOf (targetOf cap)
  | some .throttle | some .segment => segOf (field8 cap 16)
  | some .check | some .commit | some .channel | some .connector | none => none

/-- ABORT of a POSTED cell, settled at the WBC from the header in RAM (R182, log 22). -/
def State.abortPosted (s : State) (c : Fin 32) : State :=
  let s := s.setPosts (s.board.posts.filter (· != c))
  let cap := s.mem.bytes (cellBase c) 64
  let stage := if kindOf cap = some .commit then Stage.policy else Stage.queue
  s.endCellOn (channelNamed cap) c (.failed (FaultRec.core stage .aborted (s.segConcerned cap)))

/-- ABORT of an ACTIVE cell goes to the unit that holds it (R183). -/
def State.abortActive (s : State) (c : Fin 32) : State :=
  match kindOf (s.cell c).captured with
  | some .exchange => s.modCell c fun r => { r with abortPending := true }
  | some .transfer => s.transferCause c .aborted
  | some .watch => s.watchCause c .aborted
  | some .commit => s.disarm c
  | some .connector => if s.cm.cell = some c then s.connectorAbort else s
  | some .check | some .channel | some .throttle | some .segment | none => s

/-- ABORT of a cell by its true state (R180, R183): a request, a late abort or a board error. -/
def State.abortCell (s : State) (c : Fin 32) (v : Word16) : State :=
  match (s.cell c).st with
  | .empty => s.cellError c v
  | .posted => s.abortPosted c
  | .taken => (s.wrCellWord c).modCell c fun r => { r with abortHeld := true }
  | .queued => (s.wrCellWord c).exchangeLost c .aborted none
  | .active => (s.wrCellWord c).abortActive c
  | .done | .failed => s.wrCellWord c

/-- CELL_ABORT (R180, R183). -/
def execCellAbort (c : Fin 32) (w : HostWrite) (s : State) : Host.Outcome State Fault Refusal :=
  watchedWrite s (cellBase c) w (· == 7) fun t v => t.abortCell c v

/-- After an owner's receipt the WBC acts on a held abort: by the cell's state, and as a late abort if it ended (R183). -/
def State.actHeld (s : State) (c : Fin 32) : State :=
  if !(s.cell c).abortHeld then s
  else
    let s := s.modCell c fun r => { r with abortHeld := false }
    match (s.cell c).st with
    | .queued => s.exchangeLost c .aborted none
    | .active => s.abortActive c
    | .empty | .posted | .taken | .done | .failed => s

/-- The receipt of a TAKEN cell of kind `k` by its owner, then the held abort. Without such a cell there is no receipt. -/
def receive (s : State) (c : Fin 32) (k : Kind) (act : State → State) : Host.Outcome State Fault Refusal :=
  if s.taken c k then complete ((act s).actHeld c) else noEvent s

/-- A receipt that also needs the operation field at offset `off` to hold `op`. -/
def receiveOp (s : State) (c : Fin 32) (k : Kind) (off op : Nat) (act : State → State) : Host.Outcome State Fault Refusal :=
  if field8 (s.cell c).captured off = op then receive s c k act else noEvent s

/-! ### The take (R115, R184 to R186) -/

/-- Other transfers that are TAKEN or ACTIVE (R115). -/
def State.otherTransfers (s : State) (c : Fin 32) : List (Fin 32) :=
  (List.finRange 32).filter fun d =>
    d != c && (s.taken d .transfer || (s.active d && kindOf (s.cell d).captured == some .transfer))

/-- The limits on transfers (R115): the number first, then the target. -/
def State.limitFault (s : State) (c : Fin 32) : Option TakeFault :=
  let cap := (s.cell c).captured
  if kindOf cap ≠ some .transfer then none
  else if Config.transferLimit ≤ (s.otherTransfers c).length then some (.badField, some 0xF0)
  else if (s.otherTransfers c).any fun d => targetOf (s.cell d).captured == targetOf cap then some (.badField, some 0xF1)
  else none

/-- The checks of a take in their order (R185, R186, R115). -/
def State.takeCheck (s : State) (c : Fin 32) : Option TakeFault :=
  match takeFault (s.cell c).captured with
  | some f => some f
  | none => s.limitFault c

/-- Steps 1 to 4 of a take: the head leaves the list and its fields are captured (R185). -/
def State.capture (s : State) (c : Fin 32) (rest : List (Fin 32)) : State :=
  let cap := s.mem.bytes (cellBase c) 64
  ((s.setPosts rest).modCell c fun _ => { Cell.reset with captured := cap, takeTime := s.time.ms }).setCell c .taken

/-- CELL_TAKE (R184, R185). -/
def execCellTake (s : State) : Host.Outcome State Fault Refusal :=
  match s.phase, s.regs.run, s.board.posts with
  | .running, true, c :: rest =>
    let t := s.capture c rest
    match t.takeCheck c with
    | some (reason, field) =>
      complete (t.endCell c
        (.failed { FaultRec.core .board reason (t.segConcerned (t.cell c).captured) with field := field }))
    | none => complete t
  | _, _, _ => noEvent s

/-! ### Receipts at the AU (R37, R38, R46) -/

/-- The deadline of an EXCHANGE entry: take time plus queue limit (R49). -/
def exchangeDeadline (r : Cell) : Word32 :=
  r.takeTime + BitVec.ofNat 32 (queueLimit r.captured Config.queueLimitExchange)

/-- The AU receives an EXCHANGE cell (R37). -/
def State.exchangeReceive (s : State) (c : Fin 32) : State :=
  let cap := (s.cell c).captured
  match channelNamed cap with
  | none => s
  | some ch =>
    let code := s.firstByte (requestRef cap)
    let v := s.admission false (plainRequest ch code (targetOf cap))
    let s := (s.countVerdict ch v).recordService c code
    match v with
    | .deny reason detail _ => s.endCell c (.failed (denialFault s (targetOf cap) .admission reason detail))
    | .allow grant g =>
      let s := (s.setGrant c grant).setCell c .queued
      s.joinRun g (s.newEntry g c (targetOf cap) .exchange code (exchangeDeadline (s.cell c)))

/-- EXCHANGE_ADMISSION (R37). -/
def execExchangeAdmission (c : Fin 32) (s : State) : Host.Outcome State Fault Refusal :=
  receive s c .exchange fun s => s.exchangeReceive c

/-- TRANSFER_RECEIPT (R116). -/
def execTransferReceipt (c : Fin 32) (s : State) : Host.Outcome State Fault Refusal :=
  receive s c .transfer fun s =>
    match channelNamed (s.cell c).captured with
    | some ch => s.transferReceive c ch
    | none => s

/-- WATCH_RECEIPT (R142). -/
def execWatchReceipt (c : Fin 32) (s : State) : Host.Outcome State Fault Refusal :=
  receive s c .watch fun s =>
    match channelNamed (s.cell c).captured with
    | some ch => s.watchReceive c ch
    | none => s

/-- The verdict of a CHECK as its result holds it, and its grant index (R38). -/
def checkResult : Verdict → List Byte × Nat
  | .allow grant _ => ([0, 0], grant)
  | .deny reason detail _ =>
    ([byte reason.code, byte (match detail with
      | some d => d.code
      | none => 0)], 0xFF)

/-- CHECK: a dry run, which ends DONE (R38). -/
def execCheck (c : Fin 32) (s : State) : Host.Outcome State Fault Refusal :=
  receive s c .check fun s =>
    match channelNamed (s.cell c).captured with
    | some ch =>
      let r := checkResult (s.admission false (checkRequest ch (s.cell c).captured))
      (s.modCell c fun k => { k with grant := r.2 }).endCell c (.done r.1)
    | none => s

/-- The kind's result of a CHANNEL cell (R45, 11.4). -/
def channelKind (before : BitVec 8) (r : Chan) : List Byte :=
  [before, byte (if r.suspended then 1 else 0), byte r.remaining, byte (if r.latch.isSome then 1 else 0),
   byte (r.latch.getD 0xFF)]

/-- A CHANNEL cell ends DONE after its operation (R45). -/
def State.channelDone (s : State) (c : Fin 32) (before : BitVec 8) (ch : Fin 8) : State :=
  s.endCell c (.done (channelKind before (s.chan ch)))

/-- The receipt of a CHANNEL cell with an operation (R45). -/
def receiveChannel (s : State) (c : Fin 32) (op : Nat) (act : State → Fin 8 → State) : Host.Outcome State Fault Refusal :=
  receiveOp s c .channel 16 op fun s =>
    match channelNamed (s.cell c).captured with
    | some ch => act s ch
    | none => s

/-- CLEAR_ACCRUED (R46, R176). -/
def execClearAccrued (c : Fin 32) (s : State) : Host.Outcome State Fault Refusal :=
  receiveChannel s c 1 fun s ch =>
    (s.updChan ch fun r => { r with accrued := 0 }).channelDone c (s.chan ch).accrued ch

/-- CLEAR_LATCH in workshop mode: a latch that is set is cleared (R46). -/
def State.clearLatch (s : State) (ch : Fin 8) : State :=
  if (s.chan ch).latch.isSome then
    ((s.updChan ch fun r => { r with latch := none }).event .channel).lampRefresh
  else s

/-- CLEAR_LATCH (R46). -/
def execClearLatch (c : Fin 32) (s : State) : Host.Outcome State Fault Refusal :=
  receiveChannel s c 2 fun s ch =>
    if workshop s then (s.clearLatch ch).channelDone c (s.chan ch).accrued ch
    else s.endCell c (.failed (FaultRec.core .policy .notInWorkshop none))

/-- A SUSPENDED channel returns to NORMAL (R42, R46). -/
def State.unsuspend (s : State) (ch : Fin 8) : State :=
  (s.updChan ch fun r => { r with suspended := false, remaining := 0, run := 0 }).event .channel

/-- RELEASE_SUSPENSION (R46). -/
def execReleaseSuspension (c : Fin 32) (s : State) : Host.Outcome State Fault Refusal :=
  receiveChannel s c 3 fun s ch =>
    (if (s.chan ch).suspended then s.unsuspend ch else s).channelDone c (s.chan ch).accrued ch

/-! ### Receipts at the PS and the CM (R11, R160) -/

/-- COMMIT_NOW (R12, R13). -/
def execCommitNow (c : Fin 32) (s : State) : Host.Outcome State Fault Refusal :=
  receiveOp s c .commit 16 1 fun s => s.runCommit c

/-- COMMIT_AT_IGNITION (R14). -/
def execCommitAtIgnition (c : Fin 32) (s : State) : Host.Outcome State Fault Refusal :=
  receiveOp s c .commit 16 2 fun s => s.arm c

/-- CONNECTOR (R160). -/
def execConnector (c : Fin 32) (s : State) : Host.Outcome State Fault Refusal :=
  receive s c .connector fun s => s.connectorReceive c

/-! ### Receipts at the LR and the STU (R88 to R91, R107 to R109) -/

/-- The receipt of a THROTTLE or SEGMENT cell: operation at 17, segment at 16. -/
def receiveSegment (s : State) (c : Fin 32) (k : Kind) (op : Nat) (act : State → Fin 4 → State) :
    Host.Outcome State Fault Refusal :=
  receiveOp s c k 17 op fun s =>
    match segOf (field8 (s.cell c).captured 16) with
    | some g => act s g
    | none => s

/-- A THROTTLE cell ends DONE after its operation (R107). -/
def State.throttleDone (s : State) (c : Fin 32) (g : Fin 4) (before : Nat) : State :=
  s.endCell c (.done (throttleKind s g before))

/-- LOAD (R108). -/
def execLoad (c : Fin 32) (s : State) : Host.Outcome State Fault Refusal :=
  receiveSegment s c .throttle 1 fun s g =>
    (s.throttleLoad g (field16 (s.cell c).captured 18)).throttleDone c g (s.seg g).acc

/-- FREEZE (R109). -/
def execFreeze (c : Fin 32) (s : State) : Host.Outcome State Fault Refusal :=
  receiveSegment s c .throttle 2 fun s g => (s.setFreeze g true).throttleDone c g (s.seg g).acc

/-- UNFREEZE (R109). -/
def execUnfreeze (c : Fin 32) (s : State) : Host.Outcome State Fault Refusal :=
  receiveSegment s c .throttle 3 fun s g => (s.setFreeze g false).throttleDone c g (s.seg g).acc

/-- The five counts of a segment (R91). -/
def countBytes (q : Seg) : List Byte :=
  le32 q.sent.toNat ++ le32 q.received.toNat ++ le32 q.errorFrames.toNat ++ le32 q.stray.toNat ++ le32 q.busOff.toNat

/-- A SEGMENT cell ends DONE after its operation, with the counts that a RESET_COUNTERS cleared (R88). -/
def State.segmentDone (s : State) (c : Fin 32) (g : Fin 4) (counts : List Byte) : State :=
  s.endCell c (.done ([byte (s.seg g).ctl.code, byte (flagBit (s.seg g).hostDisable 0), 0, 0] ++ counts))

/-- An entry of a segment that a DISABLE request disables is removed (R61). -/
def State.entryDisabled (s : State) (e : Entry) : State :=
  match e.role with
  | .exchange => s.exchangeLost e.cell .segmentUnavailable none
  | .cycle =>
    match s.watch e.cell with
    | some w => s.watchEnd e.cell (some (watchFault s w .queue .segmentUnavailable none))
    | none => s.dropEntry e.cell
  | .start | .data | .ending | .verify | .keepalive =>
    (s.dropEntry e.cell).transferEntryLost e.cell .segmentUnavailable

/-- DISABLE at the STU (R89). The entries are removed in the order URGENT, NORMAL, BULK, oldest first, which is the model's
choice (log 41). -/
def State.disableSegment (s : State) (g : Fin 4) : State :=
  let s := s.modSeg g fun q => { q with hostDisable := true }
  if (s.seg g).ctl = .disabled then s
  else
    let s := s.restartInto g .disabled
    (s.seg g).lanes.all.foldl State.entryDisabled s

/-- DISABLE (R89). -/
def execDisable (c : Fin 32) (s : State) : Host.Outcome State Fault Refusal :=
  receiveSegment s c .segment 1 fun s g => (s.disableSegment g).segmentDone c g []

/-- ENABLE at the STU (R90). -/
def State.enableSegment (s : State) (g : Fin 4) : State :=
  let s := s.modSeg g fun q => { q with hostDisable := false }
  if (s.segSet g).enabled && (s.seg g).ctl == .disabled then
    (s.modSeg g fun q => { q with tecCount := 0, recCount := 0 }).setCtl g .joining
  else s

/-- ENABLE (R90). -/
def execEnable (c : Fin 32) (s : State) : Host.Outcome State Fault Refusal :=
  receiveSegment s c .segment 2 fun s g => (s.enableSegment g).segmentDone c g []

/-- RESET_COUNTERS: the five counts become 0 (R91). -/
def State.resetCounters (s : State) (g : Fin 4) : State :=
  (s.modSeg g fun q => { q with sent := 0, received := 0, errorFrames := 0, stray := 0, busOff := 0 }).stuWrite g

/-- RESTART with its options (R91): the counts as they stood, and the state after it. -/
def State.restartSegment (s : State) (g : Fin 4) (options : Nat) : State × List Byte :=
  let s := s.restartInto g (s.startState g)
  let counts := if options / 2 % 2 = 1 then countBytes (s.seg g) else []
  let s := if options / 2 % 2 = 1 then s.resetCounters g else s
  (if options % 2 = 1 then s.resetRegulator g else s, counts)

/-- RESTART (R91). -/
def execRestart (c : Fin 32) (s : State) : Host.Outcome State Fault Refusal :=
  receiveSegment s c .segment 3 fun s g =>
    let r := s.restartSegment g (field8 (s.cell c).captured 18)
    r.1.segmentDone c g r.2

/-! ### The queue limit (R58) -/

/-- The outcome of an entry's removal at its deadline, by its role (R58). -/
def State.entryTimeout (s : State) (e : Entry) : State :=
  match e.role with
  | .exchange =>
    s.endCell e.cell (.failed (denialFault s (targetOf (s.cell e.cell).captured) .queue .queueTimeout none))
  | .cycle =>
    s.cycleFailed e.cell { stage := .queue, reason := .queueTimeout, touched := false, transport := none } none
  | .start | .data | .ending | .verify | .keepalive => s.transferEntryLost e.cell .queueTimeout

/-- The LS removes an entry at its deadline and counts it (R58, R62). -/
def State.deadline (s : State) (g : Fin 4) (e : Entry) : State :=
  let s := s.modSeg g fun q => { q with lanes := q.lanes.without e.cell, queueTimeouts := q.queueTimeouts + 1 }
  ((s.lsWrite g).entryTimeout e).arbitrate g

/-- QUEUE_DEADLINE_EXPIRY (R58). -/
def execQueueDeadlineExpiry (c : Fin 32) (s : State) : Host.Outcome State Fault Refusal :=
  match s.entryOf c with
  | some (g, e) => if s.reached e.deadline then complete (s.deadline g e) else noEvent s
  | none => noEvent s

end Sys2Proof.Machine
end

