-- ==== Sys2Proof/Machine/Slots.lean ====
section
/-! DEFINITION. Block slots, the timers of transfers and the due times of watches (R121 to R127, R143). -/

namespace Sys2Proof.Machine

/-! ### Slots (R121, R122) -/

/-- A board error on a slot word: the mirror is restored and the error recorded (R122, R181). -/
def State.slotError (s : State) (n : Fin 8) (v : Word16) : State :=
  (s.wr (slotBase n) (le16 (s.slot n).st.code)).boardError
    { word := 2, number := n.val, value := v, state := (s.slot n).st.code }

/-- What a slot's header says: owner, block number, length and CRC (11.5). -/
structure SlotHeader where
  owner : Nat
  block : Nat
  length : Nat
  crc : Word16
  deriving DecidableEq, Repr

/-- Reads a slot's header from RAM. -/
def State.slotHeader (s : State) (n : Fin 8) : SlotHeader :=
  let b := s.mem.bytes (slotBase n) 16
  { owner := field8 b 2, block := field32 b 4, length := field16 b 8, crc := BitVec.ofNat 16 (field16 b 10) }

/-- The ACTIVE transfer that an owner number names, with its cell. -/
def State.ownerOf (s : State) (owner : Nat) : Option (Fin 32 × Transfer) :=
  if h : owner < 32 then (s.transfer ⟨owner, h⟩).map fun t => (⟨owner, h⟩, t) else none

/-- The rejection code of a filled slot, 0 if it passes (R121, 11.5). -/
def State.slotCheck (s : State) (n : Fin 8) (q : SlotHeader) : Nat :=
  match s.ownerOf q.owner with
  | none => 1
  | some (c, t) =>
    let cap := (s.cell c).captured
    if q.block < t.acked then 2
    else if blockCount cap ≤ q.block then 3
    else if q.length ≠ blockLength cap q.block then 4
    else if crc16 crcInit (s.mem.bytes (blockBase n) q.length) ≠ q.crc then 5
    else if (s.slotWith c q.block .held).isSome || (s.slotWith c q.block .sending).isSome then 6
    else 0

/-- A checked slot captures the header, shows its rejection code and takes its state (R120, R121). -/
def State.slotChecked (s : State) (n : Fin 8) (q : SlotHeader) (code : Nat) : State :=
  let s := s.modSlot n fun r => { r with owner := q.owner, block := q.block, length := q.length }
  (s.wr (slotBase n + 3) [byte code]).setSlot n (if code = 0 then .held else .rejected)

/-- A block that has become HELD: if it is the next needed one the feed timer stops, and with nothing outstanding the TE uses it
(R121, R124, R125). -/
def State.blockHeld (s : State) (c : Fin 32) (block : Nat) : State :=
  match s.transfer c with
  | none => s
  | some t =>
    if t.phase = .streaming ∧ block = t.acked then
      let s := s.modTransfer c fun t => { t with feed := none }
      if t.out.isNone then s.needBlock c else s
    else s

/-- FILLED on a FREE slot: the check and what follows it (R121). -/
def State.fillSlot (s : State) (n : Fin 8) : State :=
  let q := s.slotHeader n
  let code := s.slotCheck n q
  let t := s.slotChecked n q code
  match s.ownerOf q.owner with
  | some (c, _) => if code = 0 then t.blockHeld c q.block else t
  | none => t

/-- SLOT_FILLED (R121). -/
def execSlotFilled (n : Fin 8) (w : HostWrite) (s : State) : Host.Outcome State Fault Refusal :=
  watchedWrite s (slotBase n) w (fun v => v == 1 && (s.slot n).st == .free) fun t _ => t.fillSlot n

/-- The withdrawal of a HELD block: if it was the next needed one and nothing is outstanding the feed timer starts (R122). -/
def State.withdrawBlock (s : State) (n : Fin 8) : State :=
  let r := s.slot n
  let s := s.setSlot n .free
  match s.ownerOf r.owner with
  | none => s
  | some (c, t) =>
    if t.phase = .streaming ∧ t.out = none ∧ r.block = t.acked then
      s.modTransfer c fun t => { t with feed := some (s.time.clock + feedTimeout (s.cell c).captured) }
    else s

/-- FREE by the slot's true state (R122). -/
def State.slotFreed (s : State) (n : Fin 8) (v : Word16) : State :=
  match (s.slot n).st with
  | .rejected => s.setSlot n .free
  | .held => s.withdrawBlock n
  | .free | .sending => s.slotError n v

/-- SLOT_FREE (R122). -/
def execSlotFree (n : Fin 8) (w : HostWrite) (s : State) : Host.Outcome State Fault Refusal :=
  watchedWrite s (slotBase n) w (· == 0) fun t v => t.slotFreed n v

/-- SLOT_INVALID_WRITE (R122). -/
def execSlotInvalidWrite (n : Fin 8) (w : HostWrite) (s : State) : Host.Outcome State Fault Refusal :=
  watchedWrite s (slotBase n) w (fun v => v != 0 && !(v == 1 && (s.slot n).st == .free)) fun t v => t.slotError n v

/-! ### Timers of transfers (R125, R127) -/

/-- FEED_TIMER_EXPIRY (R125). -/
def execFeedTimerExpiry (c : Fin 32) (s : State) : Host.Outcome State Fault Refusal :=
  match s.transfer c with
  | some t =>
    if s.due t.feed then complete ((s.modTransfer c fun t => { t with feed := none }).transferCause c .feedTimeout)
    else noEvent s
  | none => noEvent s

/-- The keep-alive timer expires: the waiting entry is withdrawn, and a KEEPALIVE is handed over (R127). -/
def State.keepaliveExpire (s : State) (c : Fin 32) (t : Transfer) : State :=
  let held := match t.out, s.entryOf c with
    | some o, some (g, e) => some (g, e, o.block)
    | _, _ => none
  let s := (s.dropEntry c).modTransfer c fun t => { t with ka := none, out := none, withdrawn := held }
  s.handOver c .keepalive 0

/-- KEEPALIVE_TIMER_EXPIRY (R127). An exchange found in a context leaves the timer stopped and queues nothing. -/
def execKeepaliveTimerExpiry (c : Fin 32) (s : State) : Host.Outcome State Fault Refusal :=
  match s.transfer c with
  | some t => if s.due t.ka && !t.out.any Outst.inCtx then complete (s.keepaliveExpire c t) else noEvent s
  | none => noEvent s

/-! ### Due times of watches (R143, R144) -/

/-- WATCH_DUE (R143, R144). -/
def execWatchDue (c : Fin 32) (s : State) : Host.Outcome State Fault Refusal :=
  match s.watch c with
  | some w => if s.reached w.nextDue then complete (s.watchDue c) else noEvent s
  | none => noEvent s

end Sys2Proof.Machine
end

