-- ==== Sys2Proof/Machine/Resets.lean ====
section
/-! DEFINITION. Resets and start-up, the areas written before Ready, the register window, plain RAM writes and time (R24, R25,
R47, R63, R93, R113, R140, R152, R167, R168, R177, R189 to R194). -/

namespace Sys2Proof.Machine

/-! ### The areas written before Ready (R192, R193) -/

/-- Bytes 00h to 34h of the Information Block, and zeros to FFh (11.7). `ready` is the Ready flag. -/
def infoBytes (s : State) (ready : Bool) : List Byte :=
  le16 Config.idWord.toNat ++ [32, 8, 4, 4, 16, 32, 8, 0, byte (flagBit ready 0), byte s.info.cause.code] ++
    le16 s.info.counter.toNat ++ [0, 0] ++ le32 s.time.ms.toNat ++ le32 s.time.sec.toNat ++
    [linesByte s, byte s.cm.lampMode.code, byte s.cm.lampInd.code, byte s.cm.reqLamp.code,
     byte (if s.cm.reqSupply then 1 else 2), byte s.cm.supply.code, byte s.cm.fault.code, 0,
     byte (if s.vsm.ignition.level then 1 else 0), byte s.vsm.engine.code, byte s.vsm.motion.code, 0] ++
    s.segs.toList.map (fun q => byte (levelOf q.acc)) ++ le32 s.ps.generation.toNat ++ le32 s.info.errors.toNat ++
    s.info.lastError.bytes ++ zeros 203

/-- The 128 bytes of a Segment Status entry (11.9). -/
def segStatusBytes (s : State) (g : Fin 4) : List Byte :=
  let q := s.seg g
  le16 q.counter.toNat ++ stuBytes s.ps.active g q ++ lsBytes q ++ lrBytes s.ps.active g q

/-- The AU writes the eight Channel Status entries (R47). -/
def State.wrChannels (s : State) : State := s.wr (chanBase 0) (s.chans.toList.flatMap Chan.bytes)

/-- The units of each segment write its Segment Status entry (R63, R93, R113). -/
def State.wrSegments (s : State) : State := s.wr (segBase 0) ((List.finRange 4).flatMap (segStatusBytes s))

/-- The units of the part write the Information Block, with Ready set (R192). -/
def State.wrInfoBlock (s : State) : State := s.wr 0 (infoBytes s true)

/-- The windows of the four regulators begin (R95). -/
def State.startWindows (s : State) : State :=
  { s with segs := s.segs.map fun q => { q with winStart := some s.time.clock } }

/-- Every change counter of an area takes a step (R193). -/
def State.stepCounters (s : State) : State :=
  { s with
    chans := s.chans.map fun r => { r with counter := r.counter + 1 }
    segs := s.segs.map fun q => { q with counter := q.counter + 1 }
    info := { s.info with counter := s.info.counter + 1, dirty := false } }

/-- Every change counter is 0 (R192). -/
def State.zeroCounters (s : State) : State :=
  { s with
    chans := s.chans.map fun r => { r with counter := 0 }
    segs := s.segs.map fun q => { q with counter := 0 }
    info := { s.info with counter := 0, dirty := false } }

/-! ### Power-on (R192) -/

/-- POWER_ON_RESET: every unit takes its power-on values; the input lines stay at the levels that the world gives them, and
the queue of commands is no part of the part (R192, log 3). -/
def execPowerOnReset (s : State) : Host.Outcome State Fault Refusal :=
  .next
    { State.reset with
      cm := CM.reset s.cm.presence.raw s.cm.key.raw s.cm.good s.cm.overcurrent 0
      vsm := VSM.reset s.vsm.ignition.raw 0
      pending := s.pending }

/-- The part becomes ready with its areas written over RAM (R191, R192, R193). -/
def State.becomeReady (s : State) : State :=
  let s := { s with phase := .running, time := { s.time with ms := 0, prescale := 0 } }
  s.startWindows.wrChannels.wrSegments.wrInfoBlock

/-- RAM_CLEAR_DONE: RAM is all zero, the units write their areas with change counters 0, and Ready is set (R192). -/
def execRamClearDone (s : State) : Host.Outcome State Fault Refusal :=
  match s.phase with
  | .clearing => complete ({ s.zeroCounters with mem := [], time := { s.time with sec := 0 } }.wrMirror.becomeReady)
  | .resetting | .running => noEvent s

/-! ### Soft reset (R193) -/

/-- The channels after a soft reset; change counters go on (R47). -/
def softChan (retain : Bool) (r : Chan) : Chan :=
  if retain then
    { Chan.reset with suspended := r.suspended, remaining := r.remaining, latch := r.latch, counter := r.counter }
  else { Chan.reset with counter := r.counter }

/-- With RETAIN, each touched ACTIVE transfer leaves its latch, over any that the channel held (R140, log 24). -/
def State.softLatches (s : State) : Vector Chan 8 :=
  (List.finRange 32).foldl (fun v c =>
    match s.transfer c with
    | some t => if t.touched then upd v t.channel fun r => { r with latch := some t.target } else v
    | none => v) s.chans

/-- The policy store after a soft reset (R25). -/
def softPs (retain : Bool) (p : PS) : PS := if retain then { p with armed := none } else PS.reset

/-- The connector monitor after a soft reset at `now`, but for the lamp indication (R167). R167 gives no phase of the blink: that the
lit half and its timer go on across the reset is the model's choice (log 56). -/
def softCm (m : CM) (now : Nat) : CM :=
  { m with
    presence := Line.reset m.presence.raw now Config.lineDebounce
    key := Line.reset m.key.raw now Config.lineDebounce
    grace := some (now + Config.graceTime), cell := none }

/-- The part writes EMPTY into every cell state word and FREE into every slot state word (R193). -/
def State.clearWords (s : State) : State :=
  let s := (List.finRange 32).foldl (fun s c => s.wr (cellBase c) (le16 0)) s
  (List.finRange 8).foldl (fun s n => s.wr (slotBase n) (le16 0)) s

/-- Every unit takes its soft-reset values, and the board error fields of the Information Block become 0 (R193). The lamp indication
is derived afresh last (R167); that one which stays BLINK goes on in its phase is the model's choice (log 56). -/
def State.softReset (s : State) (retain : Bool) : State :=
  let ps := softPs retain s.ps
  let s := (s.wrInfo 0x0A [0]).wrInfo 0x2C (zeros 9)
  let s := { s with
    phase := .resetting
    regs := Regs.reset retain
    board := Board.reset
    info := { s.info with cause := .soft, errors := 0, lastError := BoardError.none }
    ps := ps
    chans := (if retain then s.softLatches else s.chans).map (softChan retain)
    segs := Vector.ofFn fun g => Seg.reset ps.active g s.segs[g].counter
    transfers := Vector.replicate 32 none
    slots := Vector.replicate 8 Slot.reset
    watches := Vector.replicate 32 none
    cm := softCm s.cm s.time.clock
    vsm := VSM.reset s.vsm.ignition.raw s.time.clock }
  s.clearWords.lampRefresh

/-- SOFT_RESET: a write of 1 to CONTROL.SOFT_RESET, with RETAIN as it stands after the write. It is ignored before Ready
(R192, R193). -/
def execSoftReset (retain : Bool) (s : State) : Host.Outcome State Fault Refusal :=
  match s.phase with
  | .running => complete (s.softReset retain)
  | .clearing | .resetting => noEvent s

/-- SOFT_RESET_READY: the units write their areas, each change counter takes a step, and Ready is set (R193). -/
def execSoftResetReady (s : State) : Host.Outcome State Fault Refusal :=
  match s.phase with
  | .resetting => complete (if s.regs.retain then s.stepCounters.becomeReady else s.stepCounters.wrMirror.becomeReady)
  | .clearing | .running => noEvent s

/-! ### The register window (R177, R189, R190, R194) -/

/-- A host write to a register takes effect only while Ready is 1 (R192, R193). -/
def registerWrite (s : State) (f : Regs → Regs) : Host.Outcome State Fault Refusal :=
  match s.phase with
  | .running => complete (s.modRegs f)
  | .clearing | .resetting => noEvent s

/-- RUN_WRITE (R177, R184). -/
def execRunWrite (v : Bool) (s : State) : Host.Outcome State Fault Refusal := registerWrite s fun r => { r with run := v }

/-- RETAIN_WRITE (R177). -/
def execRetainWrite (v : Bool) (s : State) : Host.Outcome State Fault Refusal :=
  registerWrite s fun r => { r with retain := v }

/-- DONE_IRQ_ENABLE_WRITE (R177, R190). -/
def execDoneIrqEnableWrite (v : Bool) (s : State) : Host.Outcome State Fault Refusal :=
  registerWrite s fun r => { r with doneIrqEnable := v }

/-- The bits that a host write carries in its enabled bytes; those of a byte not enabled are 0. -/
def HostWrite.bits (w : HostWrite) : Word16 :=
  (if w.low then w.data &&& 0x00FF#16 else 0) ||| (if w.high then w.data &&& 0xFF00#16 else 0)

/-- The done bits that a write to a half of DONE SUMMARY names (R189). -/
def doneMask (upper : Bool) (w : HostWrite) : Word32 :=
  if upper then (HostWrite.bits w).zeroExtend 32 <<< 16 else (HostWrite.bits w).zeroExtend 32

/-- DONE_SUMMARY_CLEAR: each bit written as 1 is cleared (R189). -/
def execDoneSummaryClear (upper : Bool) (w : HostWrite) (s : State) : Host.Outcome State Fault Refusal :=
  registerWrite s fun r => { r with done := r.done &&& ~~~doneMask upper w }

/-- EVENT_SUMMARY_CLEAR: each bit written as 1 is cleared (R190). -/
def execEventSummaryClear (w : HostWrite) (s : State) : Host.Outcome State Fault Refusal :=
  registerWrite s fun r => { r with event := r.event &&& ~~~((HostWrite.bits w).truncate 8) }

/-- EVENT_ENABLE_WRITE: the enable bits take the values written, if their byte is enabled (R177, R190). -/
def execEventEnableWrite (w : HostWrite) (s : State) : Host.Outcome State Fault Refusal :=
  registerWrite s fun r => { r with eventEnable := if w.low then w.data.truncate 8 else r.eventEnable }

/-- IGNORED_REGISTER_WRITE: ID and the unlisted words of the window take no write (R177, R194). -/
def execIgnoredRegisterWrite (_addr : Nat) (_w : HostWrite) (s : State) : Host.Outcome State Fault Refusal := noEvent s

/-- HOST_RAM_WRITE (R177). While RAM is cleared the write is ignored (R192). -/
def execHostRamWrite (addr : Nat) (w : HostWrite) (s : State) : Host.Outcome State Fault Refusal :=
  if addr % 2 ≠ 0 ∨ Config.ramSize ≤ addr then .fault (.noSuchWord addr)
  else if watched addr then noEvent s
  else match s.phase with
    | .clearing => noEvent s
    | .resetting | .running => noEvent (s.hostWord addr w)

/-! ### Time (R42, R191) -/

/-- The millisecond counter advances, which is published (R191). -/
def State.msAdvance (s : State) : State :=
  let s := s.modTime fun t => { t with ms := t.ms + 1, prescale := t.prescale + 1 }
  s.wrInfo 0x10 (le32 s.time.ms.toNat)

/-- MILLISECOND_TICK: a millisecond passes; the counter advances while Ready is 1 (R191, R192, R193, log 4). -/
def execMillisecondTick (s : State) : Host.Outcome State Fault Refusal :=
  let t := s.modTime fun t => { t with clock := t.clock + 1, us := 0 }
  match s.phase with
  | .running => complete t.msAdvance
  | .clearing | .resetting => complete t

/-- The remaining time of a SUSPENDED channel falls by one (R42). -/
def countDown (r : Chan) : Chan := if r.suspended then { r with remaining := r.remaining - 1 } else r

/-- Every channel counts down (R42). -/
def State.countDowns (s : State) : State := (List.finRange 8).foldl (fun s ch => s.updChan ch countDown) s

/-- The seconds counter advances, which is published, and suspensions count down (R42, R191). -/
def State.secAdvance (s : State) : State :=
  let s := s.modTime fun t => { t with sec := t.sec + 1, prescale := t.prescale - 1000 }
  (s.wrInfo 0x14 (le32 s.time.sec.toNat)).countDowns

/-- SECONDS_TICK: at every thousandth advance of the millisecond counter (R191, log 21). -/
def execSecondsTick (s : State) : Host.Outcome State Fault Refusal :=
  if s.phase = .running ∧ 1000 ≤ s.time.prescale then complete s.secAdvance else noEvent s

/-- SUSPENSION_END: the remaining time has reached 0 (R42). -/
def execSuspensionEnd (ch : Fin 8) (s : State) : Host.Outcome State Fault Refusal :=
  if (s.chan ch).suspended ∧ (s.chan ch).remaining = 0 then complete (s.unsuspend ch) else noEvent s

end Sys2Proof.Machine
end

