-- ==== Sys2Proof/Machine/Dispatch.lean ====
section
/-! DEFINITION. The meaning of each command: one arm for each constructor of `Instr`. -/

namespace Sys2Proof.Machine

/-- The effect of a command on everything but the queue. -/
def exec (i : Instr) (s : State) : Host.Outcome State Fault Refusal :=
  match i with
  | .powerOnReset => Sys2Proof.Machine.execPowerOnReset s
  | .ramClearDone => Sys2Proof.Machine.execRamClearDone s
  | .softReset retain => Sys2Proof.Machine.execSoftReset retain s
  | .softResetReady => Sys2Proof.Machine.execSoftResetReady s
  | .runWrite v => Sys2Proof.Machine.execRunWrite v s
  | .retainWrite v => Sys2Proof.Machine.execRetainWrite v s
  | .doneIrqEnableWrite v => Sys2Proof.Machine.execDoneIrqEnableWrite v s
  | .doneSummaryClear upper w => Sys2Proof.Machine.execDoneSummaryClear upper w s
  | .eventSummaryClear w => Sys2Proof.Machine.execEventSummaryClear w s
  | .eventEnableWrite w => Sys2Proof.Machine.execEventEnableWrite w s
  | .ignoredRegisterWrite addr w => Sys2Proof.Machine.execIgnoredRegisterWrite addr w s
  | .hostRamWrite addr w => Sys2Proof.Machine.execHostRamWrite addr w s
  | .cellPost c w => Sys2Proof.Machine.execCellPost c w s
  | .cellEmpty c w => Sys2Proof.Machine.execCellEmpty c w s
  | .cellAbort c w => Sys2Proof.Machine.execCellAbort c w s
  | .cellInvalidWrite c w => Sys2Proof.Machine.execCellInvalidWrite c w s
  | .slotFilled n w => Sys2Proof.Machine.execSlotFilled n w s
  | .slotFree n w => Sys2Proof.Machine.execSlotFree n w s
  | .slotInvalidWrite n w => Sys2Proof.Machine.execSlotInvalidWrite n w s
  | .cellTake => Sys2Proof.Machine.execCellTake s
  | .exchangeAdmission c => Sys2Proof.Machine.execExchangeAdmission c s
  | .transferReceipt c => Sys2Proof.Machine.execTransferReceipt c s
  | .watchReceipt c => Sys2Proof.Machine.execWatchReceipt c s
  | .check c => Sys2Proof.Machine.execCheck c s
  | .commitNow c => Sys2Proof.Machine.execCommitNow c s
  | .commitAtIgnition c => Sys2Proof.Machine.execCommitAtIgnition c s
  | .clearAccrued c => Sys2Proof.Machine.execClearAccrued c s
  | .clearLatch c => Sys2Proof.Machine.execClearLatch c s
  | .releaseSuspension c => Sys2Proof.Machine.execReleaseSuspension c s
  | .connector c => Sys2Proof.Machine.execConnector c s
  | .load c => Sys2Proof.Machine.execLoad c s
  | .freeze c => Sys2Proof.Machine.execFreeze c s
  | .unfreeze c => Sys2Proof.Machine.execUnfreeze c s
  | .disable c => Sys2Proof.Machine.execDisable c s
  | .enable c => Sys2Proof.Machine.execEnable c s
  | .restart c => Sys2Proof.Machine.execRestart c s
  | .queueDeadlineExpiry c => Sys2Proof.Machine.execQueueDeadlineExpiry c s
  | .frameOffer g us => Sys2Proof.Machine.execFrameOffer g us s
  | .ownFrameAcknowledged g us => Sys2Proof.Machine.execOwnFrameAcknowledged g us s
  | .transmitError g => Sys2Proof.Machine.execTransmitError g s
  | .receiveError g => Sys2Proof.Machine.execReceiveError g s
  | .frameCompleted g us f => Sys2Proof.Machine.execFrameCompleted g us f s
  | .creditWaitExpiry g x => Sys2Proof.Machine.execCreditWaitExpiry g x s
  | .responseWaitExpiry g x => Sys2Proof.Machine.execResponseWaitExpiry g x s
  | .partWaitExpiry g x => Sys2Proof.Machine.execPartWaitExpiry g x s
  | .joinComplete g => Sys2Proof.Machine.execJoinComplete g s
  | .busOffRecovery g => Sys2Proof.Machine.execBusOffRecovery g s
  | .subWindowEnd g => Sys2Proof.Machine.execSubWindowEnd g s
  | .feedTimerExpiry c => Sys2Proof.Machine.execFeedTimerExpiry c s
  | .keepaliveTimerExpiry c => Sys2Proof.Machine.execKeepaliveTimerExpiry c s
  | .watchDue c => Sys2Proof.Machine.execWatchDue c s
  | .millisecondTick => Sys2Proof.Machine.execMillisecondTick s
  | .secondsTick => Sys2Proof.Machine.execSecondsTick s
  | .grantExpiry n => Sys2Proof.Machine.execGrantExpiry n s
  | .suspensionEnd ch => Sys2Proof.Machine.execSuspensionEnd ch s
  | .connectorLineRawChange l level => Sys2Proof.Machine.execConnectorLineRawChange l level s
  | .connectorDebounceExpiry l => Sys2Proof.Machine.execConnectorDebounceExpiry l s
  | .departure => Sys2Proof.Machine.execDeparture s
  | .lampBlinkToggle => Sys2Proof.Machine.execLampBlinkToggle s
  | .supplyGoodAsserted => Sys2Proof.Machine.execSupplyGoodAsserted s
  | .supplyGoodWithdrawn => Sys2Proof.Machine.execSupplyGoodWithdrawn s
  | .overcurrentAsserted stays => Sys2Proof.Machine.execOvercurrentAsserted stays s
  | .supplyStartTimerExpiry => Sys2Proof.Machine.execSupplyStartTimerExpiry s
  | .ignitionRawChange level => Sys2Proof.Machine.execIgnitionRawChange level s
  | .ignitionDebounceExpiry => Sys2Proof.Machine.execIgnitionDebounceExpiry s
  | .stalenessTimerExpiry => Sys2Proof.Machine.execStalenessTimerExpiry s
  | .recessiveRunCounted g => Sys2Proof.Machine.execRecessiveRunCounted g s

end Sys2Proof.Machine
end

