-- ==== Sys2Proof/Safety.lean ====
section
/-! DEFINITION. What a safe run keeps, and the vocabulary of the statements: invariants, stored places, and how a cell ends. -/

namespace Sys2Proof.Machine

/-! ### Invariants -/

/-- Between events the Information Block is closed and the interrupt line stands as the registers say (R190, R191). -/
abbrev Settled (s : State) : Prop := s.info.dirty = false ∧ s.regs.irq = irqOf s.regs

/-- Every accumulator stands inside the limits of the active set, which are limits of a valid set (R8, R97). -/
abbrev ThrottleInLimits (s : State) : Prop :=
  ∀ g : Fin 4, s.ps.active.regs[g].floor ≤ s.ps.active.regs[g].ceiling ∧ s.ps.active.regs[g].ceiling ≤ 7 ∧
    s.ps.active.regs[g].floor * 8192 ≤ (s.seg g).acc ∧ (s.seg g).acc ≤ s.ps.active.regs[g].ceiling * 8192 + 8191

/-- Every denial run count is below the threshold of the active set (R42). -/
abbrev RunsBelowThreshold (s : State) : Prop :=
  1 ≤ s.ps.active.threshold ∧ ∀ ch : Fin 8, (s.chan ch).run < s.ps.active.threshold

/-- A controller is DISABLED exactly while its segment is not effectively enabled (R64). -/
abbrev DisabledAgrees (s : State) : Prop := ∀ g : Fin 4, (s.seg g).ctl = .disabled ↔ s.enabled g = false

/-- The error counts and the controller state agree: counts 0 in JOINING and DISABLED, and elsewhere the state that the counts
give, OFF above 255 (R64, R65, R67). -/
abbrev ErrorsAgree (s : State) : Prop :=
  ∀ g : Fin 4, if (s.seg g).ctl = .joining ∨ (s.seg g).ctl = .disabled then (s.seg g).tecCount = 0 ∧ (s.seg g).recCount = 0
    else (s.seg g).ctl = errorState (s.seg g).tecCount (s.seg g).recCount

/-- A channel that is NORMAL has no suspension remaining, and a SUSPENDED one has run count 0 (R41, R42). -/
abbrev SuspensionsAgree (s : State) : Prop :=
  ∀ ch : Fin 8, if (s.chan ch).suspended then (s.chan ch).run = 0 else (s.chan ch).remaining = 0

/-- The pending end of a watch, if it has one, is a cause of R149. -/
abbrev Watch.EndNamed (w : Watch) : Prop := w.pending ∈ [none, some .aborted, some .grantExpired, some .testerGone]

/-- Every watch's pending end is a cause of R149. -/
abbrev WatchEndsNamed (s : State) : Prop := ∀ c : Fin 32, ∀ w ∈ s.watch c, w.EndNamed

/-! ### Stored places -/

/-- Address `a` is one of the `n` bytes from `b` on. -/
abbrev Within (b n a : Nat) : Prop := b ≤ a ∧ a < b + n

/-- Every byte of RAM outside the stored places reads as before. -/
def MemFrame (s t : State) (stored : Nat → Prop) : Prop := ∀ a, ¬stored a → t.mem.read a = s.mem.read a

/-- The state word and the result area of a cell: what the end of a cell stores (R187). -/
abbrev EndPlaces (c : Fin 32) (a : Nat) : Prop := Within (cellBase c) 2 a ∨ Within (cellBase c + 64) 64 a

/-- The bytes that go with every write of the Information Block: its change counter (R191), its reserved bytes, and the two bytes
with reserved bits, all of which the part writes as 0 (R194, 11.7). -/
abbrev InfoShared (a : Nat) : Prop :=
  Within 0x09 7 a ∧ a ≠ 0x0B ∨ a = 0x18 ∨ a = 0x1F ∨ a = 0x23 ∨ Within 0x35 203 a

/-- A field of the Information Block, and the bytes that go with it. -/
abbrev InfoPlaces (off n a : Nat) : Prop := Within off n a ∨ InfoShared a

/-- What the end of a transfer may store besides its segment's fields: the ends of its cell, slot words, channel entries and the
lamp mode and indication (R120, R123, R136, R158). -/
abbrev TransferPlaces (c : Fin 32) (a : Nat) : Prop :=
  EndPlaces c a ∨ (∃ n : Fin 8, Within (slotBase n) 2 a) ∨ (∃ ch : Fin 8, Within (chanBase ch) 32 a) ∨
    (∃ g : Fin 4, Within (segBase g) 128 a) ∨ InfoPlaces 0x19 2 a

/-- Where the lamp indication has changed, the Information Block shows the lamp mode and the indication (R158). -/
abbrev LampShows (s t : State) : Prop :=
  t.cm.lampInd ≠ s.cm.lampInd → t.mem.bytes 0x19 2 = [byte t.cm.lampMode.code, byte t.cm.lampInd.code]

/-! ### Ends of cells (R187) -/

/-- The true state and its mirror, and the done bit, after the end of a cell. -/
def CellShows (t : State) (c : Fin 32) (st : CellState) : Prop := (t.cell c).st = st ∧ t.mem.word (cellBase c) = BitVec.ofNat 16 st.code

/-- The cell has ended DONE: state, mirror, result state, no failure bytes, done bit (R187, 11.4). -/
def EndsDone (t : State) (c : Fin 32) : Prop :=
  CellShows t c .done ∧ t.mem.read (cellBase c + 64) = 5 ∧ t.mem.bytes (cellBase c + 69) 3 = [0, 0, 0] ∧
    t.regs.done.getLsbD c.val = true

/-- The cell has ended FAILED with a stage and a reason: state, mirror, result state, stage and reason bytes, done bit (R169,
R187, 11.4). -/
def EndsFailed (t : State) (c : Fin 32) (stage : Stage) (reason : Reason) : Prop :=
  CellShows t c .failed ∧ t.mem.read (cellBase c + 64) = 6 ∧ t.mem.read (cellBase c + 69) = byte stage.code ∧
    t.mem.read (cellBase c + 70) = byte reason.code ∧ t.regs.done.getLsbD c.val = true

/-- Between `s` and `t` only cell `c` has changed on the board, and of its record only the state. -/
def OnlyCellState (s t : State) (c : Fin 32) : Prop :=
  t.board.posts = s.board.posts ∧ t.cell c = { s.cell c with st := (t.cell c).st } ∧ ∀ d, d ≠ c → t.cell d = s.cell d

/-- The end of a cell changes the register window by its done bit and `events`, and the line follows (R189, R190). -/
def EndRegs (s t : State) (c : Fin 32) (events : BitVec 8) : Prop :=
  t.regs = { s.regs with done := s.regs.done ||| (1#32 <<< c.val), event := s.regs.event ||| events, irq := irqOf t.regs }

/-- Nothing but the board, the register window and RAM has changed (the queue included). -/
def BoardOnly (s t : State) : Prop := t = { s with board := t.board, regs := t.regs, mem := t.mem }

/-! ### Lost entries, and causes at transfers and watches -/

/-- The entry of cell `c`, if one waits, has left its lane, and nothing else of the segments has changed but the change counter
of the lane's segment (R50, R62). -/
def EntryDropped (s t : State) (c : Fin 32) : Prop :=
  (s.entryOf c = none → t.segs = s.segs) ∧
    ∀ g e, s.entryOf c = some (g, e) →
      t.seg g = { s.seg g with lanes := (s.seg g).lanes.without c, counter := (s.seg g).counter + 1 } ∧
        ∀ h, h ≠ g → t.seg h = s.seg h

/-- The cell of a waiting EXCHANGE entry has ended FAILED at stage QUEUE with QUEUE_LOST accrued, and its entry has left its lane
(R17, R22, R40). -/
def EntryLost (s t : State) (c : Fin 32) (reason : Reason) : Prop :=
  EndsFailed t c .queue reason ∧ OnlyCellState s t c ∧ EntryDropped s t c ∧
    (∀ ch, channelNamed (s.cell c).captured = some ch → (t.chan ch).accrued = (s.chan ch).accrued ||| Flag.queueLost.bit) ∧
    ∀ ch, channelNamed (s.cell c).captured ≠ some ch → t.chan ch = s.chan ch

/-- The transfer `r` of cell `c` has failed (R123, R136): its cell has ended FAILED at stage TRANSFER, its record is released, its
HELD and SENDING slots are FREE, and a touched ECU leaves the latch with EVENT CHANNEL and LATCHED. -/
def TransferReleased (s t : State) (c : Fin 32) (r : Transfer) (reason : Reason) : Prop :=
  EndsFailed t c .transfer reason ∧ t.transfer c = none ∧ (∀ d, d ≠ c → t.transfer d = s.transfer d) ∧
    (∀ n : Fin 8, t.slot n = if ((s.slot n).st = .held ∨ (s.slot n).st = .sending) ∧ (s.slot n).owner = c.val
      then { s.slot n with st := .free } else s.slot n) ∧
    (t.chan r.channel).latch = (if r.touched then some r.target else (s.chan r.channel).latch) ∧
    (r.touched = true → t.regs.event.getLsbD 7 = true ∧ (t.chan r.channel).accrued.getLsbD 7 = true)

/-- The transfer `r` of cell `c` has failed, and no other cell has changed. -/
def TransferFailed (s t : State) (c : Fin 32) (r : Transfer) (reason : Reason) : Prop :=
  TransferReleased s t c r reason ∧ OnlyCellState s t c

/-- What a cause does at the transfer `r` of cell `c` (R132): it is passed over while another is pending, kept pending while an
exchange is in a context, and else the transfer fails with it at once and a waiting entry leaves its lane. -/
def CauseTaken (s t : State) (c : Fin 32) (r : Transfer) (reason : Reason) : Prop :=
  let quiet := t.board = s.board ∧ t.segs = s.segs ∧ t.slots = s.slots ∧ t.chans = s.chans
  (r.pending ≠ none → t.transfers = s.transfers ∧ quiet) ∧
    (r.pending = none → r.out.any Outst.inCtx = true →
      t.transfers = s.transfers.set c (some { r with pending := some reason }) ∧ quiet) ∧
    (r.pending = none → r.out.any Outst.inCtx = false → TransferFailed s t c r reason ∧ EntryDropped s t c)

/-- What a cause does at the watch `w` of cell `c` (R149): it is passed over while another is pending, kept pending while a cycle
is in a context, and else the watch ends with it at once, DONE for ABORTED and else FAILED at stage POLICY. -/
def WatchCauseTaken (s t : State) (c : Fin 32) (w : Watch) (reason : Reason) : Prop :=
  let quiet := t.board = s.board ∧ t.segs = s.segs
  (w.pending ≠ none → t.watches = s.watches ∧ quiet) ∧
    (w.pending = none → w.out = .context → t.watches = s.watches.set c (some { w with pending := some reason }) ∧ quiet) ∧
    (w.pending = none → w.out ≠ .context → t.watches = s.watches.set c none ∧ OnlyCellState s t c ∧ EntryDropped s t c ∧
      (reason = .aborted → EndsDone t c) ∧ (reason ≠ .aborted → EndsFailed t c .policy reason))

/-- The transfer `r` of cell `c` has ended DONE (R44, R131): its record is released, a latch that names its ECU is cleared with
EVENT CHANNEL, and an ABORT that was pending came too late. -/
def TransferEndsDone (s t : State) (c : Fin 32) (r : Transfer) : Prop :=
  EndsDone t c ∧ t.transfer c = none ∧ (∀ d, d ≠ c → t.transfer d = s.transfer d) ∧ OnlyCellState s t c ∧
    t.mem.read (cellBase c + 65) = byte (flagBit (decide (r.pending = some .aborted)) 1) ∧
    (t.chan r.channel).latch = (if (s.chan r.channel).latch = some r.target then none else (s.chan r.channel).latch) ∧
    ((s.chan r.channel).latch = some r.target → t.regs.event.getLsbD 7 = true) ∧
    ∀ ch, ch ≠ r.channel → t.chan ch = s.chan ch

/-! ### Failures of exchanges in contexts (R86) -/

/-- The role of an exchange of a transfer. -/
abbrev Role.ofTransfer (r : Role) : Prop := r ≠ .exchange ∧ r ≠ .cycle

/-- Context `x` of segment `g` is busy and the segment's other contexts are FREE. -/
abbrev LoneContext (s : State) (g x : Fin 4) : Prop := (s.ctx g x).st ≠ .free ∧ ∀ y, y ≠ x → (s.ctx g y).st = .free

/-- The transport detail of the fault record of cell `c` names segment, context, frame kind and index (R86, 11.4). -/
abbrev DetailShows (t : State) (c : Fin 32) (g x : Fin 4) (d : Nat × Nat) : Prop :=
  t.mem.bytes (cellBase c + 89) 4 = [byte g.val, byte x.val, byte d.1, byte d.2]

/-- The exchange of an EXCHANGE cell `c` has failed in context `x` of segment `g` (R86, R175): the cell has ended FAILED at stage
TRANSPORT with the detail, and TRANSPORT is accrued. -/
def ExchangeFails (s t : State) (g x : Fin 4) (c : Fin 32) (reason : Reason) (d : Nat × Nat) : Prop :=
  EndsFailed t c .transport reason ∧ DetailShows t c g x d ∧ t.cell c = { s.cell c with st := .failed } ∧
    ∀ ch, channelNamed (s.cell c).captured = some ch → (t.chan ch).accrued.getLsbD 2 = true

/-- An exchange of the transfer `r` of cell `c` has failed in context `x` of segment `g` (R119, R132, R135, R136, R174, R175): the
transfer has failed with the exchange's reason and detail, touched if the exchange was, a pending cause is the secondary
reason, the exchange stage is TRANSPORT, and TRANSPORT and TRANSFER_FAILED are accrued. -/
def TransferExchangeFails (s t : State) (g x : Fin 4) (c : Fin 32) (r : Transfer) (reason : Reason) (d : Nat × Nat) : Prop :=
  TransferReleased s t c { r with touched := r.touched || (s.ctx g x).touched } reason ∧ DetailShows t c g x d ∧
    t.cell c = { s.cell c with st := .failed } ∧
    t.mem.read (cellBase c + 86) = byte (match r.pending with
      | some p => p.code
      | none => 0) ∧
    (∀ o, r.out = some o → t.mem.read (cellBase c + 93) = byte o.role.code) ∧
    t.mem.read (cellBase c + 94) = byte Stage.transport.code ∧
    (∀ ch, channelNamed (s.cell c).captured = some ch →
      (t.chan ch).accrued.getLsbD 2 = true ∧ (t.chan ch).accrued.getLsbD 4 = true)

/-- The cycle of the watch `w` of cell `c` has failed in context `x` of segment `g` (R148 to R150): sample fields that a response
under way had opened are written as they stand and the sequence word is even again; the failure is the last cycle fault and is
counted; the fourth in a row ends the watch FAILED, a pending end acts, and else the watch goes on. TRANSPORT is accrued. -/
def CycleFails (s t : State) (g x : Fin 4) (c : Fin 32) (w : Watch) (reason : Reason) (d : Nat × Nat) : Prop :=
  let k := s.ctx g x
  let odd := w.seq.getLsbD 0
  let begun : Sample := ⟨if k.st = .receiving ∧ k.form ≠ .hold then k.received else 0, s.time.ms, k.form.code, k.refusal,
    k.truncated, false⟩
  let u := { w with
    touched := w.touched || k.touched, seq := if odd then w.seq + 1 else w.seq, sample := if odd then begun else w.sample
    lastFault := some ⟨.transport, reason, k.touched, some ⟨g, x, d.1, d.2⟩⟩, failed := min (w.failed + 1) 0xFFFF
    consecutive := w.consecutive + 1, out := .none }
  (t.chan w.channel).accrued.getLsbD 2 = true ∧ t.mem.bytes (cellBase c + 108) 20 = u.countBytes ∧
    (w.consecutive < 3 → w.pending = none → t.watches = s.watches.set c (some u) ∧ t.cell c = s.cell c) ∧
    (3 ≤ w.consecutive ∨ w.pending ≠ none → t.watches = s.watches.set c none ∧
      t.cell c = { s.cell c with st := (t.cell c).st } ∧
      (3 ≤ w.consecutive → EndsFailed t c .transport reason ∧ DetailShows t c g x d ∧
        t.mem.read (cellBase c + 86) = byte (match w.pending with
          | some p => p.code
          | none => 0)) ∧
      (w.consecutive < 3 → w.pending = some .aborted → EndsDone t c) ∧
      (∀ p, w.consecutive < 3 → w.pending = some p → p ≠ .aborted → EndsFailed t c .policy p))

/-! ### What a commit takes up -/

/-- The clamp of R97 for a segment's limits. -/
abbrev clampTo (r : RegSet) (a : Nat) : Nat := min (max a (r.floor * 8192)) (r.ceiling * 8192 + 8191)

/-- Segment `g`, with nothing queued and no busy context, has taken up its settings of the set `p` (R19, R110): a change of bit
rate or enabling restarts it, the accumulator is clamped, a change of W or bit rate begins the window again, a change of the
updates flag clears a host freeze, the pace entry is that of the level in the new table, and a level change is counted. -/
def SegmentTakesUp (s t : State) (p : PolicySet) (g : Fin 4) : Prop :=
  let old := s.ps.active
  let q := s.seg g
  let restart := old.segs[g].rate ≠ p.segs[g].rate ∨ old.segs[g].enabled ≠ p.segs[g].enabled
  let rewind := old.regs[g].window ≠ p.regs[g].window ∨ old.segs[g].rate ≠ p.segs[g].rate
  let a := clampTo p.regs[g] q.acc
  t.seg g =
    { q with
      ctl := if restart then (if p.segs[g].enabled = true ∧ q.hostDisable = false then .joining else .disabled) else q.ctl
      tecCount := if restart then 0 else q.tecCount
      recCount := if restart then 0 else q.recCount
      recovery := if restart then 0 else q.recovery
      acc := a
      subBits := if rewind then 0 else q.subBits
      winBits := if rewind then 0 else q.winBits
      subIndex := if rewind then 0 else q.subIndex
      winStart := if rewind then q.winStart.map fun _ => s.time.clock else q.winStart
      freeze := if old.regs[g].enabled = p.regs[g].enabled then q.freeze else false
      pace := (p.paces[g])[Fin.ofNat 8 (levelOf a)]
      levelChanges := if levelOf a = levelOf q.acc then q.levelChanges else q.levelChanges + 1
      counter := (t.seg g).counter } ∧
    (levelOf a ≠ levelOf q.acc → t.mem.read (0x24 + g.val) = byte (levelOf a))

/-- The VSM has taken up the vehicle state settings of the set `p` (R20, R165): a new identity of the state frame makes both states
UNKNOWN and stops the staleness timer, and so does a new limit that has already run out; else nothing changes. -/
def VehicleTakesUp (s t : State) (p : PolicySet) : Prop :=
  let a := s.ps.active.veh
  let b := p.veh
  let moved := a.seg ≠ b.seg ∨ a.format ≠ b.format ∨ a.id ≠ b.id ∨ a.engineOff ≠ b.engineOff ∨ a.roadOff ≠ b.roadOff
  let ranOut := a.stale ≠ b.stale ∧ ∃ e, s.vsm.lastFrame = some e ∧ e + b.stale ≤ s.time.clock
  let lost := { s.vsm with engine := .unknown, motion := .unknown, lastFrame := none }
  (moved ∨ ranOut → t.vsm = lost) ∧ (¬moved → ¬ranOut → t.vsm = s.vsm) ∧
    (t.vsm.engine ≠ s.vsm.engine ∨ t.vsm.motion ≠ s.vsm.motion → t.mem.bytes 0x21 2 = [0, 0] ∧ t.regs.event.getLsbD 6 = true)

/-! ### When a command meets its state -/

/-- A host write to the word at `a` enables a byte and leaves the value `v` there (R179). -/
abbrev Leaves (s : State) (a : Nat) (w : HostWrite) (v : Word16) : Prop := w.ok = true ∧ (s.mem.hostWrite a w).word a = v

/-- Between events, with Ready set. -/
abbrev Running (s : State) : Prop := s.phase = .running ∧ Settled s

/-- Between events, with cell `c` TAKEN as kind `k` and no abort held: its owner can receive it. -/
abbrev Receives (s : State) (c : Fin 32) (k : Kind) : Prop :=
  Settled s ∧ s.taken c k = true ∧ (s.cell c).abortHeld = false

/-- A board error (R181): the mirror at `a` shows the true state again, the record and its count are written, the block's reserved
bytes and bits read 0 (R194), EVENT BOARD is set, and nothing else changes. -/
def BoardErrorTaken (s t : State) (a : Nat) (b : BoardError) : Prop :=
  t.mem.word a = BitVec.ofNat 16 b.state ∧ t.mem.bytes 0x30 5 = b.bytes ∧
    t.mem.bytes 0x2C 4 = le32 (s.info.errors + 1).toNat ∧ t.mem.bytes 0x0C 4 = le16 (s.info.counter + 1).toNat ++ [0, 0] ∧
    t.mem.read 0x09 = 0 ∧ t.mem.read 0x1F = 0 ∧ t.mem.read 0x23 = 0 ∧ t.mem.bytes 0x35 203 = zeros 203 ∧
    t.mem.read 0x0A = s.mem.read 0x0A &&& 1 ∧ t.mem.read 0x18 = s.mem.read 0x18 &&& 7 ∧
    t.info = { s.info with lastError := b, errors := s.info.errors + 1, counter := s.info.counter + 1 } ∧
    t.regs = { s.regs with event := s.regs.event ||| Event.board.bit, irq := irqOf t.regs } ∧
    t = { s with info := t.info, regs := t.regs, mem := t.mem } ∧
    MemFrame s t fun x => Within a 2 x ∨ InfoPlaces 0x2C 9 x

/-- The supply switch has opened with a fault, from a connector that stood at `m` (R159, R161): OFF, no start timer, the fault
shown, EVENT SUPPLY, and a cell that awaited a start ended FAILED SUPPLY_FAULT. -/
def SupplyOpened (s t : State) (f : SupplyFault) (m : CM) : Prop :=
  t.cm = { m with supply := .off, startTimer := none, fault := f, cell := none } ∧
    t.mem.bytes 0x1D 2 = [0, byte f.code] ∧ t.regs.event = s.regs.event ||| Event.supply.bit ∧ t.regs.irq = irqOf t.regs ∧
    t.info = { s.info with counter := s.info.counter + 1 } ∧
    (m.cell = none → t.regs.done = s.regs.done ∧ t = { s with cm := t.cm, mem := t.mem, regs := t.regs, info := t.info } ∧
      MemFrame s t (InfoPlaces 0x1D 2)) ∧
    ∀ c, m.cell = some c → EndsFailed t c .connector .supplyFault ∧ OnlyCellState s t c ∧
      t.regs.done = s.regs.done ||| (1#32 <<< c.val) ∧
      t = { s with board := t.board, cm := t.cm, mem := t.mem, regs := t.regs, info := t.info } ∧
      MemFrame s t fun a => EndPlaces c a ∨ InfoPlaces 0x1D 2 a

/-! ### Effects on a segment -/

/-- Between `s` and `t` the accumulator of segment `g` has moved, and the LR has reported what R102 says: a level change if the
level differs, and else only its fields. -/
def LevelFollows (s t : State) (g : Fin 4) : Prop :=
  let old := levelOf (s.seg g).acc
  let new := levelOf (t.seg g).acc
  (new = old → (t.seg g).levelChanges = (s.seg g).levelChanges ∧ (t.seg g).pace = (s.seg g).pace ∧ t.info = s.info) ∧
    (new ≠ old → (t.seg g).levelChanges = (s.seg g).levelChanges + 1 ∧
      (t.seg g).pace = (s.ps.active.paces[g])[Fin.ofNat 8 new] ∧ t.mem.read (0x24 + g.val) = byte new ∧
      t.info = { s.info with counter := s.info.counter + 1 })

/-- What the error counts of segment `g` come to when a controller that sends takes new counts which leave it sending: the
state follows them, and a change of state sets EVENT SEGMENT (R64, R65, R71). -/
def CountsFollow (s t : State) (g : Fin 4) (tec rec_ : Nat) : Prop :=
  ((s.seg g).ctl.sends = true → (t.seg g).tecCount = tec ∧ (t.seg g).recCount = rec_ ∧ (t.seg g).ctl = errorState tec rec_) ∧
    ((s.seg g).ctl.sends = false → (t.seg g).tecCount = (s.seg g).tecCount ∧ (t.seg g).recCount = (s.seg g).recCount ∧
      (t.seg g).ctl = (s.seg g).ctl)

/-- The event bits that a change of controller state sets (R71). -/
def ctlEvents (s t : State) (g : Fin 4) : BitVec 8 := if (t.seg g).ctl = (s.seg g).ctl then 0 else Event.segment.bit

/-- The busy bits of segment `g` after `bits` more: both integrators take them once the windows have begun (R95). -/
def BitsCounted (s t : State) (g : Fin 4) (bits : Nat) : Prop :=
  let n := if (s.seg g).winStart.isSome then bits else 0
  (t.seg g).subBits = (s.seg g).subBits + n ∧ (t.seg g).winBits = (s.seg g).winBits + n

/-! ### Quiet states -/

/-- Segment `g` can start nothing, so that a join leaves the arbiter as it is (R51). -/
abbrev Waits (s : State) (g : Fin 4) : Prop := (s.seg g).canStart = false

/-- Nothing waits in a lane, no context is busy and no frame is at a controller. -/
abbrev BusIdle (s : State) : Prop :=
  ∀ g : Fin 4, (s.seg g).lanes = Lanes.empty ∧ (s.seg g).offered = none ∧ ∀ x : Fin 4, (s.ctx g x).st = .free

/-- The lanes of segment `g` hold nothing, so that an arbitration starts nothing (R53). -/
abbrev LanesEmpty (s : State) (g : Fin 4) : Prop := (s.seg g).lanes = Lanes.empty

/-- All contexts of segment `g` are FREE. -/
abbrev ContextsFree (s : State) (g : Fin 4) : Prop := ∀ x : Fin 4, (s.ctx g x).st = .free

/-- The TE and the WS hold no record. -/
abbrev NoRecords (s : State) : Prop := (∀ c, s.transfer c = none) ∧ ∀ c, s.watch c = none

/-- The lanes that hold one entry, in its own lane. -/
abbrev Lanes.only (e : Entry) : Lanes := Lanes.empty.mod e.lane (· ++ [e])

/-- Entry `e` waits in its lane of segment `g`, and no other entry waits anywhere. -/
abbrev LoneEntry (s : State) (g : Fin 4) (e : Entry) : Prop :=
  ∀ h : Fin 4, (s.seg h).lanes = if h = g then Lanes.only e else Lanes.empty

/-- No EXCHANGE entry waits. -/
abbrev NoExchangeWaits (s : State) : Prop := ∀ e ∈ s.waiting, e.role ≠ .exchange

/-- The transfer `r` of cell `c` is the only record of the TE and the WS, and no EXCHANGE entry waits. -/
abbrev LoneTransfer (s : State) (c : Fin 32) (r : Transfer) : Prop :=
  s.transfer c = some r ∧ (∀ d, d ≠ c → s.transfer d = none) ∧ (∀ d, s.watch d = none) ∧ NoExchangeWaits s

/-- The watch `w` of cell `c` is the only record of the TE and the WS, and no EXCHANGE entry waits. -/
abbrev LoneWatch (s : State) (c : Fin 32) (w : Watch) : Prop :=
  s.watch c = some w ∧ (∀ d, d ≠ c → s.watch d = none) ∧ (∀ d, s.transfer d = none) ∧ NoExchangeWaits s

/-- No work is under way that a consequence of a commit, a departure or a vehicle change could reach. -/
abbrev Idle (s : State) : Prop := BusIdle s ∧ NoRecords s

end Sys2Proof.Machine
end

