-- ==== Sys2Proof/Certificates/Slice0/Obligations.lean ====
section
/-! DEFINITION. The statements for the provers. Each is about every state and every operand that meet its hypotheses. -/

open Sys2Proof Sys2Proof.Machine

/-! ### The step and the whole machine -/

/-- A step takes the command at the front of the queue and carries it out with the rest of the queue. On an empty queue the
part idles, which is the model's choice (log 2). -/
def Obligations.StepRunsFront : Prop :=
  (∀ (c : Instr) (rest : List Instr) (s : State), s.pending = c :: rest → step s = exec c { s with pending := rest }) ∧
    ∀ s : State, s.pending = [] → step s = .next s

/-- No command touches the queue, which is the model's own (log 2). -/
def Obligations.ExecKeepsQueue : Prop :=
  ∀ (c : Instr) (s t : State), exec c s = .next t → t.pending = s.pending

/-- What stands right after a power-on reset: the values of R24, R47, R63, R93, R113, R140, R152, R167, R168 and R192. -/
def Obligations.ResetValues : Prop :=
  let s := State.reset
  s.phase = .clearing ∧ s.regs = Regs.reset false ∧ s.board.posts = [] ∧ (∀ c : Fin 32, (s.cell c).st = .empty) ∧
    s.ps.active = PolicySet.default ∧ s.ps.active.threshold = 8 ∧ s.ps.active.suspension = 30 ∧ s.ps.generation = 0 ∧
    s.ps.armed = none ∧
    (∀ ch : Fin 8, (s.chan ch).suspended = false ∧ (s.chan ch).run = 0 ∧ (s.chan ch).latch = none ∧ (s.chan ch).accrued = 0) ∧
    (∀ g : Fin 4, (s.seg g).ctl = .disabled ∧ (s.seg g).tecCount = 0 ∧ (s.seg g).recCount = 0 ∧ (s.seg g).acc = 57344 ∧
      (s.seg g).pace.maxCtx = 1 ∧ (s.seg g).pace.pauses .normal = true ∧ (s.seg g).pace.pauses .bulk = true ∧
      (s.seg g).lanes = Lanes.empty ∧ (s.seg g).busy = [] ∧ (s.seg g).pointer = 0) ∧
    (∀ c : Fin 32, s.transfer c = none ∧ s.watch c = none) ∧ (∀ n : Fin 8, (s.slot n).st = .free) ∧
    s.cm.lampMode = .auto ∧ s.cm.lampInd = .off ∧ s.cm.supply = .off ∧ s.cm.fault = .none ∧ s.cm.grace = some 2000 ∧
    s.vsm.engine = .unknown ∧ s.vsm.motion = .unknown ∧ s.info.errors = 0 ∧ s.info.cause = .powerOn

/-- Every invariant below holds right after a power-on reset. -/
def Obligations.ResetMeetsInvariants : Prop :=
  State.reset.mem.wf ∧ Settled State.reset ∧ ThrottleInLimits State.reset ∧ RunsBelowThreshold State.reset ∧
    SuspensionsAgree State.reset ∧ DisabledAgrees State.reset ∧ ErrorsAgree State.reset ∧ WatchEndsNamed State.reset ∧
    State.reset.cm.lampInd = State.reset.indication

/-- Every step keeps the canonical form of the shared RAM. -/
def Obligations.StepKeepsMemory : Prop := ∀ s t : State, s.mem.wf → step s = .next t → t.mem.wf

/-- After every command the Information Block is closed, and the interrupt line is asserted exactly while DONE IRQ ENABLE is 1
and a done bit is set, or an event bit and its enable bit are set (R190). -/
def Obligations.InterruptLine : Prop :=
  ∀ (c : Instr) (s t : State), Settled s → exec c s = .next t →
    t.info.dirty = false ∧
      (t.regs.irq = true ↔
        (t.regs.doneIrqEnable = true ∧ ∃ k < 32, t.regs.done.getLsbD k = true) ∨
          ∃ k < 8, t.regs.event.getLsbD k = true ∧ t.regs.eventEnable.getLsbD k = true)

/-- Every step keeps every throttle accumulator inside the limits of the active set, commits and resets included (R97, R110,
R113). -/
def Obligations.StepKeepsThrottleLimits : Prop :=
  ∀ s t : State, ThrottleInLimits s → step s = .next t → ThrottleInLimits t

/-- Every step keeps every denial run count below the threshold of the active set, a NORMAL channel without suspension
remaining, and a SUSPENDED channel at run count 0 (R20, R41, R42). -/
def Obligations.StepKeepsDenialRuns : Prop :=
  ∀ s t : State, RunsBelowThreshold s → SuspensionsAgree s → step s = .next t → RunsBelowThreshold t ∧ SuspensionsAgree t

/-- Every step keeps each controller DISABLED exactly while its segment is not effectively enabled (R64), and every step keeps the
error counts and the controller states in agreement (R64 to R68). -/
def Obligations.StepKeepsControllers : Prop :=
  (∀ s t : State, DisabledAgrees s → step s = .next t → DisabledAgrees t) ∧
    ∀ s t : State, ErrorsAgree s → step s = .next t → ErrorsAgree t

/-- Only a commit cell, the ignition edge of an armed commit, a departure, a power-on reset and a soft reset change the active
set, and one that changes it into a set that holds a grant does so in workshop mode (R13, R14, R22, R24, R25, R155). -/
def Obligations.ActiveSetChanges : Prop :=
  ∀ (c : Instr) (s t : State), exec c s = .next t → t.ps.active ≠ s.ps.active →
    (t.ps.active.hasGrant = true → workshop s = true) ∧
      ((∃ d, c = .commitNow d) ∨ (c = .ignitionDebounceExpiry ∧ s.ps.armed ≠ none ∧ s.vsm.ignition.raw = true) ∨
        c = .departure ∨ c = .powerOnReset ∨ ∃ r, c = .softReset r)

/-! ### Resets -/

/-- POWER_ON_RESET (R192): every unit takes its power-on values, RAM is cleared and the part is not ready. The input lines keep
the levels that the world gives them, the model's clock starts again, and a segment forgets the end of its last frame, which are the
model's choices (log 3, log 46). -/
def Obligations.PowerOnReset : Prop :=
  ∀ s : State, ∃ t, exec .powerOnReset s = .next t ∧
    t.phase = .clearing ∧ t.mem = [] ∧ t.regs = Regs.reset false ∧ t.board = Board.reset ∧ t.ps = PS.reset ∧
    (∀ ch : Fin 8, t.chan ch = Chan.reset) ∧ (∀ g : Fin 4, t.seg g = Seg.reset PolicySet.default g 0) ∧
    (∀ c : Fin 32, t.transfer c = none ∧ t.watch c = none) ∧ (∀ n : Fin 8, t.slot n = Slot.reset) ∧
    t.info = State.reset.info ∧ t.time = State.reset.time ∧
    t.cm = CM.reset s.cm.presence.raw s.cm.key.raw s.cm.good s.cm.overcurrent 0 ∧
    t.vsm = VSM.reset s.vsm.ignition.raw 0 ∧ t.pending = s.pending

/-- RAM_CLEAR_DONE (R47, R63, R93, R113, R192): the units write the Information Block, Channel Status, Segment Status and the
Active Set Mirror with change counters 0, every other byte of RAM is 0, Ready is set, the counters of time start from 0 and
the four load windows begin. -/
def Obligations.RamClearDone : Prop :=
  ∀ s : State, s.phase = .clearing → ∃ t, exec .ramClearDone s = .next t ∧
    t.phase = .running ∧ t.time = { s.time with ms := 0, sec := 0, prescale := 0 } ∧
    t.mem.read 0x0A = 1 ∧ t.mem.bytes 0 256 = infoBytes t true ∧ t.mem.bytes 0x2000 0x800 = s.ps.active.bytes ∧
    (∀ a, (0x100 ≤ a ∧ a < 0x1100) ∨ (0x1200 ≤ a ∧ a < 0x1280) ∨ (0x1480 ≤ a ∧ a < 0x2000) ∨ 0x2800 ≤ a → t.mem.read a = 0) ∧
    (∀ ch : Fin 8, t.chan ch = { s.chan ch with counter := 0 } ∧ t.mem.bytes (chanBase ch) 32 = (t.chan ch).bytes) ∧
    (∀ g : Fin 4, t.seg g = { s.seg g with counter := 0, winStart := some s.time.clock } ∧
      t.mem.bytes (segBase g) 128 = segStatusBytes t g) ∧
    t.info = { s.info with counter := 0, dirty := false } ∧ t.regs = { s.regs with irq := irqOf s.regs } ∧
    t = { s with phase := t.phase, mem := t.mem, regs := t.regs, info := t.info, time := t.time, chans := t.chans,
                 segs := t.segs }

/-- SOFT_RESET (R25, R47, R63, R93, R113, R140, R152, R193): Ready is cleared, all work is discarded, every cell and slot word
is emptied, the registers take their reset values with RETAIN as written, the active set, suspensions and latches are kept only
with RETAIN, presence and key are debounced afresh with a new grace timer, the lamp indication follows (R158, R167), the error
fields of the Information Block become 0, and every other byte of RAM is kept. With RETAIN a touched transfer leaves its latch. That
of several on one channel the latch of the highest cell stands, that a segment forgets the end of its last frame, and that the change
counters of channels and segments take no step until SOFT_RESET_READY, are the model's choices (log 24, log 46, log 20). -/
def Obligations.SoftReset : Prop :=
  ∀ (retain : Bool) (s : State), s.phase = .running → ∃ t, exec (.softReset retain) s = .next t ∧
    t.phase = .resetting ∧ t.regs = Regs.reset retain ∧ t.board = Board.reset ∧ t.mem.read 0x0A = 0 ∧
    (∀ c : Fin 32, t.transfer c = none ∧ t.watch c = none ∧ t.mem.word (cellBase c) = 0) ∧
    (∀ n : Fin 8, (t.slot n).st = .free ∧ t.mem.word (slotBase n) = 0) ∧
    t.ps = (if retain then { s.ps with armed := none } else PS.reset) ∧
    (∀ g : Fin 4, t.seg g = Seg.reset t.ps.active g (s.seg g).counter) ∧
    (∀ ch : Fin 8, (t.chan ch).run = 0 ∧ (t.chan ch).accrued = 0 ∧ (t.chan ch).admitted = 0 ∧ (t.chan ch).denied = 0 ∧
      (t.chan ch).suspended = (retain && (s.chan ch).suspended) ∧
      (t.chan ch).remaining = (if retain then (s.chan ch).remaining else 0) ∧
      (retain = false → (t.chan ch).latch = none) ∧ (t.chan ch).counter = (s.chan ch).counter ∧
      (retain = true → (∀ c r, s.transfer c = some r → r.touched = true → r.channel ≠ ch) →
        (t.chan ch).latch = (s.chan ch).latch)) ∧
    (∀ c r, retain = true → s.transfer c = some r → r.touched = true →
      (∀ d q, c < d → s.transfer d = some q → q.touched = true → q.channel ≠ r.channel) →
      (t.chan r.channel).latch = some r.target) ∧
    t.vsm = VSM.reset s.vsm.ignition.raw s.time.clock ∧
    (let line := fun (raw : Bool) => Line.mk raw false (if raw then some (s.time.clock + 50) else none)
     t.cm = { s.cm with presence := line s.cm.presence.raw, key := line s.cm.key.raw, grace := some (s.time.clock + 2000)
                        cell := none, lampInd := t.cm.lampInd, lit := t.cm.lit, blink := t.cm.blink }) ∧
    t.cm.lampInd = t.indication ∧ LampShows s t ∧
    t.info.cause = .soft ∧ t.info.errors = 0 ∧ t.info.lastError = BoardError.none ∧ t.mem.bytes 0x2C 9 = zeros 9 ∧
    t.time = s.time ∧ t.pending = s.pending ∧
    MemFrame s t fun a => InfoPlaces 0x0A 1 a ∨ Within 0x19 2 a ∨ Within 0x2C 9 a ∨ (∃ c : Fin 32, Within (cellBase c) 2 a) ∨
      ∃ n : Fin 8, Within (slotBase n) 2 a

/-- SOFT_RESET_READY (R193): the units write the Information Block, Channel Status and Segment Status, and without RETAIN the
mirror; each change counter takes one step, the millisecond counter starts
from 0 and Ready is set; the seconds counter and every other byte of RAM are kept. That each change counter takes one step
is the model's choice (log 20). -/
def Obligations.SoftResetReady : Prop :=
  ∀ s : State, s.phase = .resetting → ∃ t, exec .softResetReady s = .next t ∧
    t.phase = .running ∧ t.time = { s.time with ms := 0, prescale := 0 } ∧ t.mem.read 0x0A = 1 ∧
    t.mem.bytes 0 256 = infoBytes t true ∧
    (s.regs.retain = false → t.mem.bytes 0x2000 0x800 = s.ps.active.bytes) ∧
    (∀ ch : Fin 8, t.chan ch = { s.chan ch with counter := (s.chan ch).counter + 1 } ∧
      t.mem.bytes (chanBase ch) 32 = (t.chan ch).bytes) ∧
    (∀ g : Fin 4, t.seg g = { s.seg g with counter := (s.seg g).counter + 1, winStart := some s.time.clock } ∧
      t.mem.bytes (segBase g) 128 = segStatusBytes t g) ∧
    t.info = { s.info with counter := s.info.counter + 1, dirty := false } ∧ t.regs = { s.regs with irq := irqOf s.regs } ∧
    t = { s with phase := t.phase, mem := t.mem, regs := t.regs, info := t.info, time := t.time, chans := t.chans,
                 segs := t.segs } ∧
    MemFrame s t fun a => a < 0x100 ∨ (0x1100 ≤ a ∧ a < 0x1200) ∨ (0x1280 ≤ a ∧ a < 0x1480) ∨
      (s.regs.retain = false ∧ 0x2000 ≤ a ∧ a < 0x2800)

/-! ### The register window -/

/-- RUN_WRITE, RETAIN_WRITE and DONE_IRQ_ENABLE_WRITE write their field of CONTROL while Ready is 1, and the line follows; a
write to ID or to an unlisted word changes nothing; and before Ready every register write is ignored, those to the summaries,
to EVENT ENABLE and to SOFT_RESET among them (R177, R184, R190, R192,
R193, R194). -/
def Obligations.ControlWrites : Prop :=
  ∀ (v upper : Bool) (a : Nat) (w : HostWrite) (s : State), Settled s →
    (s.phase = .running →
      exec (.runWrite v) s = .next { s with regs := { s.regs with run := v } } ∧
      exec (.retainWrite v) s = .next { s with regs := { s.regs with retain := v } } ∧
      exec (.doneIrqEnableWrite v) s =
        .next { s with regs :=
          { s.regs with
            doneIrqEnable := v, irq := (v && s.regs.done != 0) || (s.regs.event &&& s.regs.eventEnable) != 0 } }) ∧
    exec (.ignoredRegisterWrite a w) s = .next s ∧
    (s.phase ≠ .running →
      exec (.runWrite v) s = .next s ∧ exec (.retainWrite v) s = .next s ∧ exec (.doneIrqEnableWrite v) s = .next s ∧
        exec (.doneSummaryClear upper w) s = .next s ∧ exec (.eventSummaryClear w) s = .next s ∧
        exec (.eventEnableWrite w) s = .next s ∧ exec (.softReset v) s = .next s)

/-- DONE_SUMMARY_CLEAR clears exactly the done bits written as 1 in an enabled byte, EVENT_SUMMARY_CLEAR exactly such event
bits, and EVENT_ENABLE_WRITE stores the enable bits if their byte is enabled; the line follows and nothing else changes (R177,
R189, R190). -/
def Obligations.SummaryWrites : Prop :=
  ∀ (upper : Bool) (w : HostWrite) (s : State), Running s →
    (∃ t, exec (.doneSummaryClear upper w) s = .next t ∧
      (∀ c : Fin 32, t.regs.done.getLsbD c.val =
        (s.regs.done.getLsbD c.val &&
          !(upper == decide (16 ≤ c.val) && (if c.val % 16 < 8 then w.low else w.high) && w.data.getLsbD (c.val % 16)))) ∧
      t = { s with regs := { s.regs with done := t.regs.done, irq := irqOf t.regs } }) ∧
    (∃ t, exec (.eventSummaryClear w) s = .next t ∧
      (∀ k < 8, t.regs.event.getLsbD k = (s.regs.event.getLsbD k && !(w.low && w.data.getLsbD k))) ∧
      t = { s with regs := { s.regs with event := t.regs.event, irq := irqOf t.regs } }) ∧
    (∃ t, exec (.eventEnableWrite w) s = .next t ∧
      (∀ k < 8, t.regs.eventEnable.getLsbD k = if w.low then w.data.getLsbD k else s.regs.eventEnable.getLsbD k) ∧
      t = { s with regs := { s.regs with eventEnable := t.regs.eventEnable, irq := irqOf t.regs } })

/-! ### Plain RAM writes -/

/-- HOST_RAM_WRITE to a word that is not watched stores the enabled bytes and nothing else, while RAM is not being cleared;
while it is, the write is ignored (R177, R192). An address that is no word of the port faults, which is the model's choice
(log 27). -/
def Obligations.HostRamWrite : Prop :=
  ∀ (a : Nat) (w : HostWrite) (s : State),
    (plainWord a = true → s.phase ≠ .clearing → ∃ t, exec (.hostRamWrite a w) s = .next t ∧
      t.mem.read a = (if w.low then byte w.data.toNat else s.mem.read a) ∧
      t.mem.read (a + 1) = (if w.high then byte (w.data.toNat / 0x100) else s.mem.read (a + 1)) ∧
      t = { s with mem := t.mem } ∧ MemFrame s t (Within a 2)) ∧
    (plainWord a = true → s.phase = .clearing → exec (.hostRamWrite a w) s = .next s) ∧
    (a % 2 ≠ 0 ∨ 0x10000 ≤ a → exec (.hostRamWrite a w) s = .fault (.noSuchWord a))

/-! ### Cells -/

/-- CELL_EMPTY on a DONE or FAILED cell (R188): the internal record is cleared and the cell is EMPTY, so that it can be posted
again; the result area and the done bit keep their values, and nothing else changes. -/
def Obligations.CellEmpties : Prop :=
  ∀ (c : Fin 32) (w : HostWrite) (s : State), Running s → Leaves s (cellBase c) w 0 →
    (s.cell c).st = .done ∨ (s.cell c).st = .failed → ∃ t, exec (.cellEmpty c w) s = .next t ∧
      CellShows t c .empty ∧ t.board.posts = s.board.posts ∧ t.cell c = Cell.reset ∧ (∀ d, d ≠ c → t.cell d = s.cell d) ∧
      t = { s with board := t.board, mem := t.mem } ∧ MemFrame s t (Within (cellBase c) 2)

/-- The board errors on a cell word (R180, R181): POSTED on a cell that is not EMPTY, EMPTY on one that is neither DONE nor
FAILED, ABORT on an EMPTY one, and any other value on any cell. The cell's true state and its work are not touched. -/
def Obligations.CellBoardErrors : Prop :=
  ∀ (c : Fin 32) (w : HostWrite) (v : Word16) (s : State), Running s → Leaves s (cellBase c) w v →
    let e : BoardError := { word := 1, number := c.val, value := v, state := (s.cell c).st.code }
    (v ≠ 0 → v ≠ 1 → v ≠ 7 → ∃ t, exec (.cellInvalidWrite c w) s = .next t ∧ BoardErrorTaken s t (cellBase c) e) ∧
    (v = 1 → (s.cell c).st ≠ .empty → ∃ t, exec (.cellPost c w) s = .next t ∧ BoardErrorTaken s t (cellBase c) e) ∧
    (v = 0 → (s.cell c).st ≠ .done → (s.cell c).st ≠ .failed →
      ∃ t, exec (.cellEmpty c w) s = .next t ∧ BoardErrorTaken s t (cellBase c) e) ∧
    (v = 7 → (s.cell c).st = .empty → ∃ t, exec (.cellAbort c w) s = .next t ∧ BoardErrorTaken s t (cellBase c) e)

/-- ABORT by the cell's true state. CELL_ABORT (R15, R59, R87, R133, R149, R162, R180, R182, R183): a late abort only restores the mirror;
on a TAKEN cell the abort is held; an ACTIVE exchange is marked and runs on; at an ACTIVE transfer or watch it is a cause; the
armed commit is disarmed and ends FAILED ABORTED; the CONNECTOR cell that awaits a start ends FAILED ABORTED with the supply OFF;
a POSTED cell leaves the post list and ends FAILED ABORTED; the
entry of a QUEUED exchange leaves its lane and its cell ends FAILED at stage QUEUE with QUEUE_LOST accrued. The step of the
segment's change counter, and that a POSTED cell's fields are read from RAM, are the model's choice (log 20, log 22). An abort held
on a TAKEN cell that no lane holds (R48) acts at its owner's receipt (R183): an admitted EXCHANGE or WATCH on a segment that can
start nothing leaves its lane again, FAILED at stage QUEUE or DONE; an admitted TRANSFER, a commit to be armed and a CONNECTOR cell
that starts the supply end FAILED ABORTED; and a CHECK, which ends at its receipt, ends as without it. That it acts after the join
and its arbitration is the model's choice (log 25). -/
def Obligations.CellAbort : Prop :=
  (∀ (c : Fin 32) (s : State), Settled s → (s.cell c).abortHeld = true → s.entryOf c = none →
    let cap := (s.cell c).captured
    let code := (s.mem.read (requestRef cap).addr).toNat
    let only := fun (t : State) => (t.cell c).abortHeld = false ∧ (∀ d, d ≠ c → t.cell d = s.cell d) ∧
      t.board.posts = s.board.posts
    let admitted := fun (t : State) (ch : Fin 8) => (t.chan ch).admitted = (s.chan ch).admitted + 1 ∧ (t.chan ch).run = 0 ∧
      (∀ j, j ≠ ch → t.chan j = s.chan j) ∧ t.ps = { s.ps with usage := t.ps.usage }
    let left := fun (t : State) (g : Fin 4) => t.seg g = { s.seg g with counter := (s.seg g).counter + 2 } ∧
      ∀ h, h ≠ g → t.seg h = s.seg h
    (∀ ch grant g, s.taken c .exchange = true → channelNamed cap = some ch →
      s.admission false (plainRequest ch code (targetOf cap)) = .allow grant g → Waits s g →
      ∃ t, exec (.exchangeAdmission c) s = .next t ∧ EndsFailed t c .queue .aborted ∧ only t ∧ admitted t ch ∧ left t g ∧
        (t.chan ch).accrued = (s.chan ch).accrued ||| Flag.queueLost.bit ∧ EndRegs s t c 0 ∧
        t = { s with board := t.board, regs := t.regs, mem := t.mem, ps := t.ps, chans := t.chans, segs := t.segs } ∧
        MemFrame s t fun a => EndPlaces c a ∨ Within (chanBase ch) 32 a ∨ Within (segBase g) 128 a) ∧
    (∀ ch grant g, s.taken c .watch = true → channelNamed cap = some ch →
      s.admission false (plainRequest ch code (targetOf cap)) = .allow grant g → Waits s g →
      ∃ t, exec (.watchReceipt c) s = .next t ∧ EndsDone t c ∧ only t ∧ admitted t ch ∧ left t g ∧ t.watch c = none ∧
        (∀ d, d ≠ c → t.watch d = s.watch d) ∧ EndRegs s t c 0 ∧
        t = { s with board := t.board, regs := t.regs, mem := t.mem, ps := t.ps, chans := t.chans, segs := t.segs
                     watches := t.watches } ∧
        MemFrame s t fun a => EndPlaces c a ∨ Within (chanBase ch) 32 a ∨ Within (segBase g) 128 a) ∧
    (∀ ch grant g, s.taken c .transfer = true → channelNamed cap = some ch →
      s.admission false (transferRequest ch (s.transferCodes cap) cap) = .allow grant g →
      (startRef cap).len = 0 → s.slotWith c 0 .held = none →
      ∃ t, exec (.transferReceipt c) s = .next t ∧ EndsFailed t c .transfer .aborted ∧ only t ∧ admitted t ch ∧
        t.transfer c = none ∧ (∀ d, d ≠ c → t.transfer d = s.transfer d) ∧ (t.chan ch).latch = (s.chan ch).latch ∧
        (∀ n : Fin 8, t.slot n = if ((s.slot n).st = .held ∨ (s.slot n).st = .sending) ∧ (s.slot n).owner = c.val
          then { s.slot n with st := .free } else s.slot n) ∧
        t.cm = { s.cm with lampInd := t.cm.lampInd, lit := t.cm.lit, blink := t.cm.blink } ∧
        t = { s with board := t.board, regs := t.regs, mem := t.mem, info := t.info, ps := t.ps, chans := t.chans
                     slots := t.slots, transfers := t.transfers, cm := t.cm } ∧ MemFrame s t (TransferPlaces c)) ∧
    (s.taken c .commit = true → field8 cap 16 = 2 → s.ps.armed = none →
      ∃ t, exec (.commitAtIgnition c) s = .next t ∧ EndsFailed t c .policy .aborted ∧ only t ∧ EndRegs s t c 0 ∧
        BoardOnly s t ∧ MemFrame s t (EndPlaces c)) ∧
    (s.taken c .connector = true → s.cm.cell = none → field8 cap 16 = 0 → field8 cap 17 = 1 → s.cm.supply = .off →
      s.cm.good = false → s.cm.overcurrent = false →
      ∃ t, exec (.connector c) s = .next t ∧ EndsFailed t c .connector .aborted ∧ only t ∧ EndRegs s t c 0 ∧
        t.cm = { s.cm with startTimer := none, reqSupply := true } ∧ t.mem.bytes 0x1C 2 = [1, 0] ∧
        t = { s with board := t.board, regs := t.regs, mem := t.mem, info := t.info, cm := t.cm } ∧
        MemFrame s t fun a => EndPlaces c a ∨ InfoPlaces 0x1C 2 a) ∧
    (s.taken c .check = true → (channelNamed cap).isSome = true →
      ∃ t, exec (.check c) s = .next t ∧ EndsDone t c ∧ only t ∧ EndRegs s t c 0 ∧ BoardOnly s t ∧
        MemFrame s t (EndPlaces c))) ∧
  ∀ (c : Fin 32) (w : HostWrite) (s : State), Running s → Leaves s (cellBase c) w 7 →
    let cap := (s.hostWord (cellBase c) w).mem.bytes (cellBase c) 64
    ∃ t, exec (.cellAbort c w) s = .next t ∧
      ((s.cell c).st = .done ∨ (s.cell c).st = .failed →
        t = { s with mem := t.mem } ∧ CellShows t c (s.cell c).st ∧ MemFrame s t (Within (cellBase c) 2)) ∧
      ((s.cell c).st = .taken →
        CellShows t c .taken ∧ t.cell c = { s.cell c with abortHeld := true } ∧ (∀ d, d ≠ c → t.cell d = s.cell d) ∧
        t.board.posts = s.board.posts ∧ t = { s with board := t.board, mem := t.mem } ∧
        MemFrame s t (Within (cellBase c) 2)) ∧
      ((s.cell c).st = .active → kindOf (s.cell c).captured = some .exchange →
        CellShows t c .active ∧ t.cell c = { s.cell c with abortPending := true } ∧ (∀ d, d ≠ c → t.cell d = s.cell d) ∧
        t.board.posts = s.board.posts ∧ t = { s with board := t.board, mem := t.mem } ∧
        MemFrame s t (Within (cellBase c) 2)) ∧
      ((s.cell c).st = .active → kindOf (s.cell c).captured = some .transfer → ∀ r, s.transfer c = some r →
        CauseTaken s t c r .aborted ∧
        t.cm = { s.cm with lampInd := t.cm.lampInd, lit := t.cm.lit, blink := t.cm.blink } ∧
        t = { s with board := t.board, regs := t.regs, mem := t.mem, info := t.info, chans := t.chans, segs := t.segs
                     transfers := t.transfers, slots := t.slots, cm := t.cm } ∧ MemFrame s t (TransferPlaces c)) ∧
      ((s.cell c).st = .active → kindOf (s.cell c).captured = some .watch → ∀ v, s.watch c = some v →
        WatchCauseTaken s t c v .aborted ∧
        t = { s with board := t.board, regs := t.regs, mem := t.mem, segs := t.segs, watches := t.watches } ∧
        MemFrame s t fun a => EndPlaces c a ∨ ∃ g : Fin 4, Within (segBase g) 128 a) ∧
      ((s.cell c).st = .active → kindOf (s.cell c).captured = some .commit → s.ps.armed = some c →
        EndsFailed t c .policy .aborted ∧ t.ps = { s.ps with armed := none } ∧ OnlyCellState s t c ∧ EndRegs s t c 0 ∧
        t = { s with board := t.board, regs := t.regs, mem := t.mem, ps := t.ps } ∧ MemFrame s t (EndPlaces c)) ∧
      ((s.cell c).st = .active → kindOf (s.cell c).captured = some .connector → s.cm.cell = some c →
        EndsFailed t c .connector .aborted ∧ t.cm = { s.cm with supply := .off, startTimer := none, cell := none } ∧
        t.mem.read 0x1D = 0 ∧ OnlyCellState s t c ∧ EndRegs s t c 0 ∧
        t = { s with board := t.board, regs := t.regs, mem := t.mem, info := t.info, cm := t.cm } ∧
        MemFrame s t fun a => EndPlaces c a ∨ InfoPlaces 0x1D 1 a) ∧
      ((s.cell c).st = .posted →
        EndsFailed t c (if kindOf cap = some .commit then .policy else .queue) .aborted ∧
        (kindOf cap ≠ some .commit → ∀ ch, channelNamed cap = some ch →
          (t.chan ch).accrued = (s.chan ch).accrued ||| Flag.queueLost.bit) ∧
        t.board.posts = s.board.posts.filter (· != c) ∧ (∀ d, d ≠ c → t.cell d = s.cell d) ∧ EndRegs s t c 0 ∧
        (∀ ch, channelNamed cap ≠ some ch → t.chan ch = s.chan ch) ∧
        t = { s with board := t.board, regs := t.regs, mem := t.mem, chans := t.chans } ∧
        MemFrame s t fun a => EndPlaces c a ∨ ∃ ch, channelNamed cap = some ch ∧ Within (chanBase ch) 32 a) ∧
      ((s.cell c).st = .queued → ∀ g e ch, s.entryOf c = some (g, e) → channelNamed (s.cell c).captured = some ch →
        EndsFailed t c .queue .aborted ∧ (t.seg g).lanes = (s.seg g).lanes.without c ∧
        (t.chan ch).accrued = (s.chan ch).accrued ||| Flag.queueLost.bit ∧
        OnlyCellState s t c ∧ EndRegs s t c 0 ∧ (∀ k, k ≠ g → t.seg k = s.seg k) ∧ (∀ k, k ≠ ch → t.chan k = s.chan k) ∧
        t.seg g = { s.seg g with lanes := (t.seg g).lanes, counter := (s.seg g).counter + 1 } ∧
        t = { s with board := t.board, regs := t.regs, mem := t.mem, chans := t.chans, segs := t.segs } ∧
        MemFrame s t fun a => EndPlaces c a ∨ Within (chanBase ch) 32 a ∨ Within (segBase g) 128 a)

/-- CELL_POST on an EMPTY cell: it becomes POSTED and joins the tail of the post list (R180, R184). CELL_TAKE of a cell whose
fields pass every check (R115, R184 to R186): the head leaves the post list, its 64 bytes are captured with the take time, and it
is TAKEN. -/
def Obligations.CellPostAndTake : Prop :=
  (∀ (c : Fin 32) (w : HostWrite) (s : State), Running s → Leaves s (cellBase c) w 1 → (s.cell c).st = .empty →
    ∃ t, exec (.cellPost c w) s = .next t ∧ CellShows t c .posted ∧ t.board.posts = s.board.posts ++ [c] ∧
      t.cell c = { s.cell c with st := .posted } ∧ (∀ d, d ≠ c → t.cell d = s.cell d) ∧
      t = { s with board := t.board, mem := t.mem } ∧ MemFrame s t (Within (cellBase c) 2)) ∧
  ∀ (c : Fin 32) (rest : List (Fin 32)) (s : State), Running s → s.regs.run = true → s.board.posts = c :: rest →
    let cap := s.mem.bytes (cellBase c) 64
    takeFault cap = none →
    (kindOf cap = some .transfer →
      (s.otherTransfers c).length < 4 ∧ ∀ d ∈ s.otherTransfers c, targetOf (s.cell d).captured ≠ targetOf cap) →
    ∃ t, exec .cellTake s = .next t ∧ CellShows t c .taken ∧
      t.cell c = { Cell.reset with st := .taken, captured := cap, takeTime := s.time.ms } ∧ t.board.posts = rest ∧
      (∀ d, d ≠ c → t.cell d = s.cell d) ∧ t = { s with board := t.board, mem := t.mem } ∧
      MemFrame s t (Within (cellBase c) 2)

/-- CELL_TAKE of a cell whose fields fail a check: the cell ends FAILED at stage BOARD with the reason of the first check that
fails, its offset in the field detail (R115, R185, R186); with RUN at 0 or no cell posted nothing is taken (R184). -/
def Obligations.CellTakeRefuses : Prop :=
  ∀ (c : Fin 32) (rest : List (Fin 32)) (s : State), Running s → s.regs.run = true → s.board.posts = c :: rest →
    let cap := s.mem.bytes (cellBase c) 64
    let fails := fun (reason : Reason) (field : Nat) => ∃ t, exec .cellTake s = .next t ∧ EndsFailed t c .board reason ∧
      t.mem.read (cellBase c + 87) = byte field ∧ t.board.posts = rest ∧ (∀ d, d ≠ c → t.cell d = s.cell d) ∧
      (t.cell c).captured = cap ∧ EndRegs s t c 0 ∧ BoardOnly s t ∧ MemFrame s t (EndPlaces c)
    (∀ reason field, takeFault cap = some (reason, field) → fails reason (field.getD 0)) ∧
    (takeFault cap = none → kindOf cap = some .transfer → 4 ≤ (s.otherTransfers c).length → fails .badField 0xF0) ∧
    (takeFault cap = none → kindOf cap = some .transfer → (s.otherTransfers c).length < 4 →
      (∃ d ∈ s.otherTransfers c, targetOf (s.cell d).captured = targetOf cap) → fails .badField 0xF1) ∧
    ∀ u : State, u.regs.run = false ∨ u.board.posts = [] → exec .cellTake u = .next u

/-! ### Slots -/

/-- SLOT_FILLED on a FREE slot (R120, R121): a block that fails a check makes the slot REJECTED with its code; one that passes
and is not the next needed block of a STREAMING transfer is HELD with code 0. Owner, block and length are captured. The next
needed block stops the feed timer (R125): while an exchange is outstanding it is HELD, and with nothing outstanding, on a segment
that can start nothing, its slot is SENDING and its DATA exchange joins the lane of its class (R49, R124). SLOT_FREE on a REJECTED
or HELD slot: the slot is FREE, and where the block was the next needed one of a STREAMING transfer with nothing outstanding the
feed timer starts (R122). The step of the segment's change counter is the model's choice (log 20). -/
def Obligations.SlotWrites : Prop :=
  (∀ (n : Fin 8) (w : HostWrite) (s : State), Running s → Leaves s (slotBase n) w 1 → (s.slot n).st = .free →
    let q := s.slotHeader n
    let code := s.slotCheck n q
    (∀ c r, s.ownerOf q.owner = some (c, r) → code = 0 → ¬(r.phase = .streaming ∧ q.block = r.acked)) →
    ∃ t, exec (.slotFilled n w) s = .next t ∧
      t.slot n = { st := if code = 0 then .held else .rejected, owner := q.owner, block := q.block, length := q.length } ∧
      t.mem.word (slotBase n) = (if code = 0 then 2 else 4) ∧ t.mem.read (slotBase n + 3) = byte code ∧
      (∀ k, k ≠ n → t.slot k = s.slot k) ∧ t = { s with slots := t.slots, mem := t.mem } ∧
      MemFrame s t fun a => Within (slotBase n) 2 a ∨ a = slotBase n + 3) ∧
  (∀ (n : Fin 8) (w : HostWrite) (c : Fin 32) (r : Transfer) (s : State), Running s → Leaves s (slotBase n) w 1 →
    (s.slot n).st = .free →
    let q := s.slotHeader n
    s.ownerOf q.owner = some (c, r) → s.slotCheck n q = 0 → r.phase = .streaming → q.block = r.acked →
    (r.out ≠ none → ∃ t, exec (.slotFilled n w) s = .next t ∧
      t.slot n = { st := .held, owner := q.owner, block := q.block, length := q.length } ∧ t.mem.word (slotBase n) = 2 ∧
      t.mem.read (slotBase n + 3) = 0 ∧ t.transfer c = some { r with feed := none } ∧
      (∀ d, d ≠ c → t.transfer d = s.transfer d) ∧ (∀ k, k ≠ n → t.slot k = s.slot k) ∧
      t = { s with slots := t.slots, mem := t.mem, transfers := t.transfers } ∧
      MemFrame s t fun a => Within (slotBase n) 2 a ∨ a = slotBase n + 3) ∧
    (∀ g, r.out = none → s.segmentOf r.target = some g → s.enabled g = true → Waits s g →
      ∃ t e, exec (.slotFilled n w) s = .next t ∧
        t.slot n = { st := .sending, owner := q.owner, block := q.block, length := q.length } ∧ t.mem.word (slotBase n) = 3 ∧
        t.mem.read (slotBase n + 3) = 0 ∧
        t.transfer c = some { r with feed := none, out := some ⟨.data, r.acked, false⟩ } ∧
        (t.seg g).lanes = (s.seg g).lanes.mod e.lane (· ++ [e]) ∧ e.cell = c ∧ e.role = .data ∧ e.target = r.target ∧
        e.lane = Lane.ofCode (s.ps.active.lanes[g])[s.classIndex r.codes.data] ∧
        e.deadline = s.time.ms + BitVec.ofNat 32 (queueLimit (s.cell c).captured 30000) ∧
        t.seg g = { s.seg g with lanes := (t.seg g).lanes, counter := (s.seg g).counter + 1 } ∧
        (∀ h, h ≠ g → t.seg h = s.seg h) ∧ (∀ d, d ≠ c → t.transfer d = s.transfer d) ∧ (∀ k, k ≠ n → t.slot k = s.slot k) ∧
        t = { s with slots := t.slots, mem := t.mem, transfers := t.transfers, segs := t.segs } ∧
        MemFrame s t fun a => Within (slotBase n) 2 a ∨ a = slotBase n + 3 ∨ Within (segBase g) 128 a)) ∧
  (∀ (n : Fin 8) (w : HostWrite) (c : Fin 32) (r : Transfer) (s : State), Running s → Leaves s (slotBase n) w 0 →
    (s.slot n).st = .held → s.ownerOf (s.slot n).owner = some (c, r) → r.phase = .streaming → r.out = none →
    (s.slot n).block = r.acked → ∃ t, exec (.slotFree n w) s = .next t ∧ t.slot n = { s.slot n with st := .free } ∧
      t.mem.word (slotBase n) = 0 ∧
      t.transfer c = some { r with feed := some (s.time.clock + feedTimeout (s.cell c).captured) } ∧
      (∀ d, d ≠ c → t.transfer d = s.transfer d) ∧ (∀ k, k ≠ n → t.slot k = s.slot k) ∧
      t = { s with slots := t.slots, mem := t.mem, transfers := t.transfers } ∧ MemFrame s t (Within (slotBase n) 2)) ∧
  ∀ (n : Fin 8) (w : HostWrite) (s : State), Running s → Leaves s (slotBase n) w 0 →
    (s.slot n).st = .rejected ∨
      ((s.slot n).st = .held ∧ ∀ c r, s.ownerOf (s.slot n).owner = some (c, r) →
        ¬(r.phase = .streaming ∧ r.out = none ∧ (s.slot n).block = r.acked)) →
    ∃ t, exec (.slotFree n w) s = .next t ∧ t.slot n = { s.slot n with st := .free } ∧ t.mem.word (slotBase n) = 0 ∧
      (∀ k, k ≠ n → t.slot k = s.slot k) ∧ t = { s with slots := t.slots, mem := t.mem } ∧
      MemFrame s t (Within (slotBase n) 2)

/-- The board errors on a slot word (R122, R181): FREE on a FREE or SENDING slot, FILLED on a slot that is not FREE, and any
other value on any slot. -/
def Obligations.SlotBoardErrors : Prop :=
  ∀ (n : Fin 8) (w : HostWrite) (v : Word16) (s : State), Running s → Leaves s (slotBase n) w v →
    let e : BoardError := { word := 2, number := n.val, value := v, state := (s.slot n).st.code }
    (v ≠ 0 → (v = 1 → (s.slot n).st ≠ .free) →
      ∃ t, exec (.slotInvalidWrite n w) s = .next t ∧ BoardErrorTaken s t (slotBase n) e) ∧
    (v = 0 → (s.slot n).st = .free ∨ (s.slot n).st = .sending →
      ∃ t, exec (.slotFree n w) s = .next t ∧ BoardErrorTaken s t (slotBase n) e)

/-! ### Admission -/

/-- What an admission tests, of an EXCHANGE, a WATCH, a TRANSFER or a CHECK, first admission (`b` false) or re-admission (R26 to
R34, R38, R39). The request of a TRANSFER names its data service code, the first byte of each payload that is present, and the range
of its image; that of a CHECK its code, and its range if the length is not 0. Each denial reason is given only when its own check
fails and every earlier check passes; an admission passes them all, under the lowest grant that fits or under none; and a request
that passes them all is admitted. Check 5 holds when no class needs a grant, or when one live grant permits every class that
needs one, and the target, and contains a range that is checked; its four reasons say which part no live grant meets, and NO_GRANT
carries its detail. Check 6 takes the conditions of all classes together. That a BLOCKED code has no class, so that check 2 passes
it, and that ENGINE_MUST_RUN is given where both engine conditions meet an engine that is UNKNOWN, are the model's choices (log 13,
log 39). -/
def Obligations.AdmissionOrder : Prop :=
  (∀ (ch : Fin 8) (cap : List Byte) (s : State),
    let first := fun (r : Ref) => if r.len = 0 then [] else [(s.mem.read r.addr).toNat]
    transferRequest ch (s.transferCodes cap) cap =
      { channel := ch, target := targetOf cap, range := some (field32 cap 18, field32 cap 22)
        codes := field8 cap 17 ::
          (first (startRef cap) ++ first (endRef cap) ++ first (verifyRef cap) ++ first (keepaliveRef cap)) } ∧
    checkRequest ch cap =
      { channel := ch, target := targetOf cap, codes := [field8 cap 17]
        range := if field32 cap 22 = 0 then none else some (field32 cap 18, field32 cap 22) }) ∧
  ∀ (b : Bool) (q : Request) (s : State),
    let p := s.ps.active
    let v := s.admission b q
    let has := fun (f : Fin 8 → Bool) => ∃ code ∈ q.codes, ∃ k, p.classOf code = some k ∧ f k = true
    let needs := fun (k : Fin 8) => p.grantRequired k = true ∧ ∃ code ∈ q.codes, p.classOf code = some k
    let mine := fun (i : Fin 16) => p.grants[i].used = true ∧ p.grants[i].channel = q.channel.val
    let live := fun (i : Fin 16) => mine i ∧ s.ps.usage[i].expired = false ∧
      (b = false → s.ps.usage[i].spent = false ∧ (p.grants[i].budget = 0 ∨ s.ps.usage[i].count < p.grants[i].budget))
    let permits := fun (i : Fin 16) => live i ∧ ∀ k, needs k → p.grants[i].permits k = true
    let reaches := fun (i : Fin 16) => permits i ∧ p.grants[i].hasTarget q.target = true
    let fits := fun (i : Fin 16) => reaches i ∧ ((∃ k, needs k ∧ p.rangeChecked k = true) → ∀ e ∈ q.range,
      p.grants[i].base ≤ e.1 ∧
        e.1 + e.2 ≤ p.grants[i].base + (if p.grants[i].length = 0 then 0x100000000 else p.grants[i].length))
    let check1 := (s.chan q.channel).suspended = false
    let check2 := (s.chan q.channel).latch = none ∨ ¬has fun k => !p.recoveryAllowed k
    let check3 := ∀ code ∈ q.codes, p.classOf code ≠ none
    let check4 := p.route q.target ≠ none
    let check5 := (∃ k, needs k) → ∃ i, fits i
    let ignition := has p.needsIgnition → s.vsm.ignition.level = true
    let stopped := has p.engineStopped → s.vsm.engine = .stopped ∨ (has p.engineRunning ∧ s.vsm.engine = .unknown)
    let running := has p.engineRunning → s.vsm.engine = .running
    let stationary := has p.stationary → s.vsm.motion = .stationary
    let upTo4 := check1 ∧ check2 ∧ check3 ∧ check4
    let upTo6 := upTo4 ∧ check5 ∧ ignition ∧ stopped ∧ running ∧ stationary
    (∀ d g, v = .deny .channelSuspended d g → ¬check1) ∧
    (∀ d g, v = .deny .recoveryPending d g → check1 ∧ ¬check2) ∧
    (∀ d g, v = .deny .serviceBlocked d g → check1 ∧ check2 ∧ ¬check3) ∧
    (∀ d g, v = .deny .unknownTarget d g → check1 ∧ check2 ∧ check3 ∧ ¬check4) ∧
    (∀ r d g, v = .deny r d g → r = .noGrant ∨ r = .classNotGranted ∨ r = .targetNotGranted ∨ r = .rangeNotGranted →
      upTo4 ∧ (∃ k, needs k) ∧ (∀ i, ¬fits i) ∧
        (r = .noGrant → (∀ i, ¬live i) ∧
          (d = some .noGrants ↔ ∀ i, ¬mine i) ∧
          (d = some .expired ↔ (∃ i, mine i) ∧ ∀ i, mine i → s.ps.usage[i].expired = true) ∧
          (d = some .spent ↔ ∃ i, mine i ∧ s.ps.usage[i].expired = false)) ∧
        (r = .classNotGranted → (∃ i, live i) ∧ ∀ i, ¬permits i) ∧
        (r = .targetNotGranted → (∃ i, permits i) ∧ ∀ i, ¬reaches i) ∧
        (r = .rangeNotGranted → ∃ i, reaches i)) ∧
    (∀ d g, v = .deny .ignitionRequired d g → upTo4 ∧ check5 ∧ ¬ignition) ∧
    (∀ d g, v = .deny .engineMustStop d g → upTo4 ∧ check5 ∧ ignition ∧ ¬stopped) ∧
    (∀ d g, v = .deny .engineMustRun d g → upTo4 ∧ check5 ∧ ignition ∧ stopped ∧ ¬running) ∧
    (∀ d g, v = .deny .vehicleMoving d g → upTo4 ∧ check5 ∧ ignition ∧ stopped ∧ running ∧ ¬stationary) ∧
    (∀ d g, v = .deny .segmentUnavailable d g →
      upTo6 ∧ ∃ e, p.route q.target = some e ∧ s.enabled e.segment = false) ∧
    (∀ g n, v = .allow g n → upTo6 ∧ s.enabled n = true ∧ (∃ e, p.route q.target = some e ∧ e.segment = n) ∧
      ((∀ k, ¬needs k) → g = 0xFF) ∧
      ((∃ k, needs k) → ∃ i : Fin 16, g = i.val ∧ fits i ∧ ∀ j, j < i → ¬fits j)) ∧
    ∀ e, p.route q.target = some e → s.enabled e.segment = true → upTo6 → ∃ g, v = .allow g e.segment

/-- EXCHANGE_ADMISSION admitted on a segment that can start nothing: one entry joins the tail of the class's lane with the
deadline of take time plus queue limit, the cell is QUEUED, the grant used is charged, the run count returns to 0 and the
admitted count advances (R35, R37, R49). That the segment's change counter takes one step, that the channel's takes one for the change
of run count and admitted count, and that the grant byte stands in the result from the admission on, are the model's choices (log 20,
log 35). -/
def Obligations.ExchangeAdmitted : Prop :=
  ∀ (c : Fin 32) (ch : Fin 8) (grant : Nat) (g : Fin 4) (s : State), Receives s c .exchange →
    let cap := (s.cell c).captured
    let code := (s.mem.read (requestRef cap).addr).toNat
    let k := s.classIndex code
    channelNamed cap = some ch → s.admission false (plainRequest ch code (targetOf cap)) = .allow grant g → Waits s g →
    ∃ t, exec (.exchangeAdmission c) s = .next t ∧ CellShows t c .queued ∧
      t.cell c = { s.cell c with st := .queued, service := code, cls := k.val, grant := grant } ∧
      (t.seg g).lanes = (s.seg g).lanes.mod (Lane.ofCode (s.ps.active.lanes[g])[k])
        (· ++ [{ cell := c, target := targetOf cap, role := .exchange, cls := k.val,
                 lane := Lane.ofCode (s.ps.active.lanes[g])[k],
                 deadline := (s.cell c).takeTime + BitVec.ofNat 32 (queueLimit cap 2000) }]) ∧
      t.chan ch = { s.chan ch with run := 0, admitted := (s.chan ch).admitted + 1, counter := (s.chan ch).counter + 1 } ∧
      (∀ i : Fin 16, t.ps.usage[i] = if grant = i.val
        then { s.ps.usage[i] with count := min (s.ps.usage[i].count + 1) 65535 } else s.ps.usage[i]) ∧
      t.ps = { s.ps with usage := t.ps.usage } ∧ t.mem.read (cellBase c + 68) = byte grant ∧
      t.seg g = { s.seg g with lanes := (t.seg g).lanes, counter := (s.seg g).counter + 1 } ∧
      (∀ j, j ≠ g → t.seg j = s.seg j) ∧ (∀ j, j ≠ ch → t.chan j = s.chan j) ∧ (∀ d, d ≠ c → t.cell d = s.cell d) ∧
      t.board.posts = s.board.posts ∧
      t = { s with board := t.board, mem := t.mem, ps := t.ps, chans := t.chans, segs := t.segs } ∧
      MemFrame s t fun a => Within (cellBase c) 2 a ∨ a = cellBase c + 68 ∨ Within (chanBase ch) 32 a ∨
        Within (segBase g) 128 a

/-- EXCHANGE_ADMISSION denied: the cell ends FAILED at stage ADMISSION with the reason of the check, the denied count and the
DENIED condition follow, a counted reason advances the denial run, and the increment that reaches the threshold suspends the
channel in the same event (R37, R42). Nothing is charged and nothing is queued. -/
def Obligations.ExchangeDenied : Prop :=
  ∀ (c : Fin 32) (ch : Fin 8) (reason : Reason) (d : Option Detail) (j : Option Nat) (s : State), Receives s c .exchange →
    let cap := (s.cell c).captured
    let code := (s.mem.read (requestRef cap).addr).toNat
    let r := s.chan ch
    let suspend := reason.isCounted = true ∧ s.ps.active.threshold ≤ r.run + 1
    channelNamed cap = some ch → s.admission false (plainRequest ch code (targetOf cap)) = .deny reason d j →
    ∃ t, exec (.exchangeAdmission c) s = .next t ∧ EndsFailed t c .admission reason ∧
      t.mem.read (cellBase c + 87) = byte (match d with
        | some d => d.code
        | none => 0) ∧
      (t.chan ch).denied = r.denied + 1 ∧ (t.chan ch).admitted = r.admitted ∧ (t.chan ch).latch = r.latch ∧
      (t.chan ch).accrued.getLsbD 0 = true ∧
      (reason.isCounted = false → (t.chan ch).run = r.run ∧ (t.chan ch).suspended = r.suspended) ∧
      (reason.isCounted = true → r.run + 1 < s.ps.active.threshold →
        (t.chan ch).run = r.run + 1 ∧ (t.chan ch).suspended = r.suspended) ∧
      (suspend → (t.chan ch).run = 0 ∧ (t.chan ch).suspended = true ∧ (t.chan ch).remaining = s.ps.active.suspension ∧
        (t.chan ch).accrued.getLsbD 6 = true ∧ EndRegs s t c Event.channel.bit) ∧
      (¬suspend → EndRegs s t c 0) ∧
      (∀ j, j ≠ ch → t.chan j = s.chan j) ∧ (∀ d, d ≠ c → t.cell d = s.cell d) ∧ t.board.posts = s.board.posts ∧
      t = { s with board := t.board, regs := t.regs, mem := t.mem, chans := t.chans } ∧
      MemFrame s t fun a => EndPlaces c a ∨ Within (chanBase ch) 32 a

/-- TRANSFER_RECEIPT of an admitted transfer without a start payload, no slot of which holds block 0: the transfer record is
created in STREAMING, the feed timer and any keep-alive timer start, the cell is ACTIVE, and one admission is charged and
counted (R116, R118, R124 to R126, R35, R37). With a start payload and a segment that can start nothing, its START exchange joins
the tail of the lane that the lane map gives for the class of its code (R49). A denial ends the cell FAILED at stage ADMISSION and
creates no transfer. Where the lamp indication changes, it is shown with the mode (R158). The step of the segment's change counter is
the model's choice (log 20). -/
def Obligations.TransferReceipt : Prop :=
  ∀ (c : Fin 32) (ch : Fin 8) (s : State), Receives s c .transfer →
    let cap := (s.cell c).captured
    let codes := s.transferCodes cap
    let verdict := s.admission false (transferRequest ch codes cap)
    channelNamed cap = some ch →
    (∀ grant g, verdict = .allow grant g → ((startRef cap).len = 0 ∧ s.slotWith c 0 .held = none) ∨
        ((startRef cap).len ≠ 0 ∧ Waits s g) →
      ∃ t r, exec (.transferReceipt c) s = .next t ∧ CellShows t c .active ∧ t.transfer c = some r ∧
        r.channel = ch ∧ r.target = targetOf cap ∧ r.codes = codes ∧ r.grant = grant ∧ r.acked = 0 ∧ r.bytes = 0 ∧
        r.crc = 0xFFFF#16 ∧ r.kaSent = 0 ∧ r.touched = false ∧ r.pending = none ∧ r.withdrawn = none ∧ r.verify = none ∧
        r.ka = (if (keepaliveRef cap).len = 0 then none else some (s.time.clock + keepaliveInterval cap)) ∧
        ((startRef cap).len = 0 → r.phase = .streaming ∧ r.out = none ∧
          r.feed = some (s.time.clock + feedTimeout cap) ∧ t.segs = s.segs) ∧
        ((startRef cap).len ≠ 0 → r.phase = .starting ∧ r.feed = none ∧
          r.out = some { role := .start, block := 0, inCtx := false } ∧
          ∃ e, (t.seg g).lanes = (s.seg g).lanes.mod e.lane (· ++ [e]) ∧ e.cell = c ∧ e.role = .start ∧
            e.target = targetOf cap ∧
            e.lane = Lane.ofCode (s.ps.active.lanes[g])[s.classIndex (s.mem.read (startRef cap).addr).toNat] ∧
            e.deadline = s.time.ms + BitVec.ofNat 32 (queueLimit cap 30000) ∧
            t.seg g = { s.seg g with lanes := (t.seg g).lanes, counter := (s.seg g).counter + 1 }) ∧
        (t.chan ch).run = 0 ∧ (t.chan ch).admitted = (s.chan ch).admitted + 1 ∧
        (∀ i : Fin 16, t.ps.usage[i].count = if grant = i.val then min (s.ps.usage[i].count + 1) 65535
          else s.ps.usage[i].count) ∧
        t.ps = { s.ps with usage := t.ps.usage } ∧ (∀ d, d ≠ c → t.cell d = s.cell d ∧ t.transfer d = s.transfer d) ∧
        (∀ j, j ≠ ch → t.chan j = s.chan j) ∧ (∀ j, j ≠ g → t.seg j = s.seg j) ∧ t.board.posts = s.board.posts ∧
        t.cm = { s.cm with lampInd := t.cm.lampInd, lit := t.cm.lit, blink := t.cm.blink } ∧ LampShows s t ∧
        t = { s with board := t.board, mem := t.mem, info := t.info, ps := t.ps, chans := t.chans, segs := t.segs,
                     transfers := t.transfers, cm := t.cm } ∧
        MemFrame s t fun a => EndPlaces c a ∨ Within (chanBase ch) 32 a ∨ Within (segBase g) 128 a ∨
          InfoPlaces 0x19 2 a) ∧
    (∀ reason d j, verdict = .deny reason d j → ∃ t, exec (.transferReceipt c) s = .next t ∧
      EndsFailed t c .admission reason ∧ t.transfers = s.transfers ∧ t.segs = s.segs ∧ t.ps = s.ps ∧
      (t.chan ch).denied = (s.chan ch).denied + 1)

/-- WATCH_RECEIPT of an admitted watch on a segment that can start nothing: the watch record is created, its first cycle
falls due at once and joins its lane, the next due time is one effective period ahead, and the sequence word is 0 (R142 to
R144, R151). A denial ends the cell FAILED at stage ADMISSION and creates no watch. The sequence word written at the receipt
is the model's choice (log 35). -/
def Obligations.WatchReceipt : Prop :=
  ∀ (c : Fin 32) (ch : Fin 8) (s : State), Receives s c .watch →
    let cap := (s.cell c).captured
    let code := (s.mem.read (requestRef cap).addr).toNat
    let verdict := s.admission false (plainRequest ch code (targetOf cap))
    channelNamed cap = some ch →
    (∀ grant g, verdict = .allow grant g → Waits s g →
      let units := field16 cap 26 * (s.seg g).pace.stretch
      ∃ t w e, exec (.watchReceipt c) s = .next t ∧ CellShows t c .active ∧ t.watch c = some w ∧
        w.channel = ch ∧ w.target = targetOf cap ∧ w.service = code ∧ w.grant = grant ∧ w.period = field16 cap 26 ∧
        w.limit = field16 cap 28 ∧ w.seq = 0 ∧ w.done = 0 ∧ w.skipped = 0 ∧ w.failed = 0 ∧ w.consecutive = 0 ∧
        w.pending = none ∧ w.out = .lane ∧ w.effective = units ∧ w.nextDue = s.time.ms + BitVec.ofNat 32 (units * 10) ∧
        t.mem.word (cellBase c + 100) = 0 ∧
        (t.seg g).lanes.get e.lane = (s.seg g).lanes.get e.lane ++ [e] ∧ e.cell = c ∧ e.role = .cycle ∧
        e.target = targetOf cap ∧ e.lane = Lane.ofCode (s.ps.active.lanes[g])[s.classIndex code] ∧
        e.deadline = s.time.ms + BitVec.ofNat 32 (queueLimit cap 2000) ∧
        (t.chan ch).run = 0 ∧ (t.chan ch).admitted = (s.chan ch).admitted + 1 ∧
        (∀ d, d ≠ c → t.cell d = s.cell d ∧ t.watch d = s.watch d) ∧ (∀ j, j ≠ ch → t.chan j = s.chan j) ∧
        (∀ j, j ≠ g → t.seg j = s.seg j) ∧ t.board.posts = s.board.posts ∧ t.ps = { s.ps with usage := t.ps.usage } ∧
        t = { s with board := t.board, mem := t.mem, ps := t.ps, chans := t.chans, segs := t.segs, watches := t.watches } ∧
        MemFrame s t fun a => EndPlaces c a ∨ Within (chanBase ch) 32 a ∨ Within (segBase g) 128 a) ∧
    (∀ reason d j, verdict = .deny reason d j → ∃ t, exec (.watchReceipt c) s = .next t ∧
      EndsFailed t c .admission reason ∧ t.watches = s.watches ∧ t.segs = s.segs ∧ t.ps = s.ps ∧
      (t.chan ch).denied = (s.chan ch).denied + 1)

/-- CHECK (R38): the cell ends DONE with the verdict, the detail and the grant index of a first admission, and nothing that
decides a later admission changes: no charge, no run count, no count, no condition, no suspension. -/
def Obligations.CheckIsDryRun : Prop :=
  ∀ (c : Fin 32) (ch : Fin 8) (s : State), Receives s c .check →
    let cap := (s.cell c).captured
    let verdict := s.admission false (checkRequest ch cap)
    channelNamed cap = some ch →
    ∃ t, exec (.check c) s = .next t ∧ EndsDone t c ∧
      (∀ grant g, verdict = .allow grant g →
        t.mem.bytes (cellBase c + 100) 2 = [0, 0] ∧ t.mem.read (cellBase c + 68) = byte grant) ∧
      (∀ reason d j, verdict = .deny reason d j → t.mem.read (cellBase c + 100) = byte reason.code ∧
        t.mem.read (cellBase c + 101) = byte (match d with
          | some d => d.code
          | none => 0) ∧ t.mem.read (cellBase c + 68) = 0xFF) ∧
      t.ps = s.ps ∧ t.chans = s.chans ∧ (∀ d, d ≠ c → t.cell d = s.cell d) ∧ t.board.posts = s.board.posts ∧
      EndRegs s t c 0 ∧ BoardOnly s t ∧ MemFrame s t (EndPlaces c)

/-- CLEAR_ACCRUED clears the eight conditions and shows them as they stood; RELEASE_SUSPENSION returns a SUSPENDED channel to
NORMAL with EVENT CHANNEL and leaves a NORMAL one as it is. Both end DONE and touch no other channel (R45, R46). That the change
of state and remaining time is one update, with one step of the change counter, is the model's choice (log 20). -/
def Obligations.ChannelClearAndRelease : Prop :=
  ∀ (c : Fin 32) (ch : Fin 8) (s : State), Receives s c .channel →
    let cap := (s.cell c).captured
    let r := s.chan ch
    let frame := fun (t : State) => (∀ j, j ≠ ch → t.chan j = s.chan j) ∧ OnlyCellState s t c ∧
      t = { s with board := t.board, regs := t.regs, mem := t.mem, chans := t.chans } ∧
      MemFrame s t fun a => EndPlaces c a ∨ Within (chanBase ch) 32 a
    channelNamed cap = some ch →
    (field8 cap 16 = 1 → ∃ t, exec (.clearAccrued c) s = .next t ∧ EndsDone t c ∧
      t.mem.read (cellBase c + 100) = r.accrued ∧
      t.chan ch = (if r.accrued = 0 then r else { r with accrued := 0, counter := r.counter + 1 }) ∧
      EndRegs s t c 0 ∧ frame t) ∧
    (field8 cap 16 = 3 → ∃ t, exec (.releaseSuspension c) s = .next t ∧ EndsDone t c ∧
      (r.suspended = true →
        t.chan ch = { r with suspended := false, remaining := 0, run := 0, counter := r.counter + 1 } ∧
          EndRegs s t c Event.channel.bit) ∧
      (r.suspended = false → t.chan ch = r ∧ EndRegs s t c 0) ∧ frame t)

/-- CLEAR_LATCH (R46): outside workshop mode the cell ends FAILED NOT_IN_WORKSHOP and the latch stays; in workshop mode a latch
that is set is cleared with EVENT CHANNEL, LATCHED staying accrued, and the cell ends DONE; where the lamp indication changes, it is
shown with the mode (R158). That the latch's flag and address are one update, with one step of the change counter, is the model's
choice (log 20). -/
def Obligations.ClearLatch : Prop :=
  ∀ (c : Fin 32) (ch : Fin 8) (s : State), Receives s c .channel →
    let cap := (s.cell c).captured
    let r := s.chan ch
    channelNamed cap = some ch → field8 cap 16 = 2 →
    ∃ t, exec (.clearLatch c) s = .next t ∧
      (workshop s = false → EndsFailed t c .policy .notInWorkshop ∧ t.chans = s.chans ∧ EndRegs s t c 0 ∧ BoardOnly s t ∧
        MemFrame s t (EndPlaces c)) ∧
      (workshop s = true → r.latch = none → EndsDone t c ∧ t.chans = s.chans ∧ EndRegs s t c 0 ∧ BoardOnly s t ∧
        MemFrame s t (EndPlaces c)) ∧
      (workshop s = true → r.latch ≠ none → EndsDone t c ∧ t.chan ch = { r with latch := none, counter := r.counter + 1 } ∧
        (∀ j, j ≠ ch → t.chan j = s.chan j) ∧ EndRegs s t c Event.channel.bit ∧
        t.cm = { s.cm with lampInd := t.cm.lampInd, lit := t.cm.lit, blink := t.cm.blink } ∧ LampShows s t ∧
        t = { s with board := t.board, regs := t.regs, mem := t.mem, chans := t.chans, cm := t.cm, info := t.info } ∧
        MemFrame s t fun a => EndPlaces c a ∨ Within (chanBase ch) 32 a ∨ InfoPlaces 0x19 2 a) ∧
      OnlyCellState s t c

/-! ### Commits, expiry and departure -/

/-- COMMIT_NOW of a valid Staged Set, in workshop mode if it holds a grant, on an idle part (R12, R13, R16): the Staged Set
becomes the active set, the mirror shows it byte for byte, the generation number advances, EVENT COMMIT is set, the cell ends
DONE with the new generation, a grant kept by identity keeps its usage record and stays spent if it was (R6), and any other grant
starts a fresh one. Every segment, the VSM and the channels take up the new settings (R19, R20, R110, R165), and EVENT SEGMENT,
LEVEL and VEHICLE are set where a state or a level changes; a lone EXCHANGE in a context of a segment that restarts fails with
SEGMENT_RESTARTED. On a part whose segments send nothing and whose contexts are FREE, with the vehicle settings kept (R17, R18, R49):
a lone EXCHANGE entry is judged again under the new set, and one denied ends FAILED at stage QUEUE, one allowed on its segment stays
with its new class, one allowed on another moves there with its deadline; a lone CYCLE entry that a vehicle condition denies is
withdrawn as skipped, and one denied otherwise ends its watch; a lone transfer with no entry is re-checked, records the grant that
passes, and fails by the cause that its denial names. That a re-admission records the entry's class afresh, and that the mirror shows every field of
the committed set, also of unused entries, are the model's choices (log 19, log 34). -/
def Obligations.CommitNow : Prop :=
  (∀ (c d : Fin 32) (s : State), Receives s c .commit → field8 (s.cell c).captured 16 = 1 → d ≠ c →
    let p := s.staged
    let u := s.takeSet p
    p.invalidAt = none → (p.hasGrant = true → workshop s = true) →
    let done := fun (t : State) => exec (.commitNow c) s = .next t ∧ EndsDone t c ∧ t.ps.active = p ∧
      t.ps.generation = s.ps.generation + 1
    (∀ g x, (∀ h : Fin 4, LanesEmpty s h ∧ (h ≠ g → ContextsFree s h)) → NoRecords s → LoneContext s g x →
      (s.ctx g x).role = .exchange → (s.ctx g x).cell = d →
      s.ps.active.segs[g].rate ≠ p.segs[g].rate ∨ s.ps.active.segs[g].enabled ≠ p.segs[g].enabled →
      ∃ t, done t ∧ ContextsFree t g ∧ (t.seg g).offered = none ∧
        (t.seg g).ctl = (if p.segs[g].enabled = true ∧ (s.seg g).hostDisable = false then .joining else .disabled) ∧
        (t.seg g).tecCount = 0 ∧ (t.seg g).recCount = 0 ∧
        ExchangeFails s t g x d .segmentRestarted ((s.seg g).lastFrame x)) ∧
    (p.veh = s.ps.active.veh → (∀ h : Fin 4, (s.seg h).ctl.sends = false ∧ ContextsFree s h) →
      (∀ g e ch, LoneEntry s g e → NoRecords s → e.role = .exchange → e.cell = d →
        channelNamed (s.cell d).captured = some ch → ∃ t, done t ∧
          let k := u.classIndex (s.cell d).service
          let verdict := u.readmission (plainRequest ch (s.cell d).service (targetOf (s.cell d).captured))
          (∀ reason x j, verdict = .deny reason x j →
            EndsFailed t d .queue reason ∧ (∀ h : Fin 4, (t.seg h).lanes = Lanes.empty) ∧
              (t.chan ch).accrued = (s.chan ch).accrued ||| Flag.queueLost.bit) ∧
          (∀ grant, verdict = .allow grant g → t.cell d = s.cell d ∧ LoneEntry t g { e with cls := k.val }) ∧
          (∀ grant h, verdict = .allow grant h → h ≠ g → t.cell d = s.cell d ∧
            LoneEntry t h { e with cls := k.val, lane := Lane.ofCode (p.lanes[h])[k] })) ∧
      (∀ g e w, LoneEntry s g e → LoneWatch s d w → e.role = .cycle → e.cell = d → ∃ t, done t ∧
          ∀ reason x j, u.readmission (plainRequest w.channel w.service w.target) = .deny reason x j →
            (∀ h : Fin 4, (t.seg h).lanes = Lanes.empty) ∧
            (reason.isVehicle = true → t.cell d = s.cell d ∧
              t.watch d = some { w with skipped := min (w.skipped + 1) 0xFFFF, out := .none }) ∧
            (reason.isVehicle = false → t.watch d = none ∧ EndsFailed t d .queue reason)) ∧
      ∀ r, LoneTransfer s d r → s.entryOf d = none → ∃ t, done t ∧
          let verdict := u.readmission (transferRequest r.channel r.codes (s.cell d).captured)
          (∀ grant h, verdict = .allow grant h →
            t.transfer d = some { r with grant := grant, grantId := u.grantId grant } ∧
              t.cell d = { s.cell d with grant := grant } ∧ t.mem.read (cellBase d + 68) = byte grant) ∧
          ∀ reason x j, verdict = .deny reason x j → r.pending = none →
            let cause := if reason.isVehicle then Reason.conditionLost
              else if reason = .segmentUnavailable then .segmentUnavailable else .grantWithdrawn
            (r.out.any Outst.inCtx = true → t.transfer d = some { r with pending := some cause } ∧ t.cell d = s.cell d) ∧
            (r.out.any Outst.inCtx = false → t.transfer d = none ∧ EndsFailed t d .transfer cause))) ∧
  ∀ (c : Fin 32) (s : State), Receives s c .commit → field8 (s.cell c).captured 16 = 1 → Idle s →
    let p := s.staged
    p.invalidAt = none → (p.hasGrant = true → workshop s = true) →
    ∃ t, exec (.commitNow c) s = .next t ∧ EndsDone t c ∧
      t.ps.active = p ∧ t.ps.generation = s.ps.generation + 1 ∧ t.ps.armed = s.ps.armed ∧
      t.mem.bytes 0x2000 0x800 = p.bytes ∧ t.mem.bytes (cellBase c + 100) 4 = le32 (s.ps.generation + 1).toNat ∧
      t.regs.event.getLsbD 3 = true ∧
      (∀ i j : Fin 16, p.grants[i].used = true → s.ps.active.sameGrant p.grants[i] = some j →
        t.ps.usage[i] = { s.ps.usage[j] with
          spent := s.ps.usage[j].spent ||
            decide (s.ps.active.grants[j].budget ≠ 0 ∧ s.ps.active.grants[j].budget ≤ s.ps.usage[j].count) }) ∧
      (∀ i : Fin 16, p.grants[i].used = true → s.ps.active.sameGrant p.grants[i] = none →
        t.ps.usage[i] = Usage.mk 0
          (if p.grants[i].lifetime = 0 then none else some (s.time.sec + BitVec.ofNat 32 p.grants[i].lifetime)) false false) ∧
      (∀ g, SegmentTakesUp s t p g) ∧ VehicleTakesUp s t p ∧
      (t.regs.event.getLsbD 4 = true ↔ s.regs.event.getLsbD 4 = true ∨ ∃ g, (t.seg g).ctl ≠ (s.seg g).ctl) ∧
      (t.regs.event.getLsbD 5 = true ↔
        s.regs.event.getLsbD 5 = true ∨ ∃ g, levelOf (t.seg g).acc ≠ levelOf (s.seg g).acc) ∧
      (∀ ch : Fin 8, (t.chan ch).run = if p.threshold ≤ (s.chan ch).run then p.threshold - 1 else (s.chan ch).run) ∧
      (∀ ch : Fin 8, (t.chan ch).suspended = (s.chan ch).suspended ∧ (t.chan ch).latch = (s.chan ch).latch ∧
        (t.chan ch).accrued = (s.chan ch).accrued) ∧
      OnlyCellState s t c ∧ t.cm = { s.cm with lampInd := t.cm.lampInd, lit := t.cm.lit, blink := t.cm.blink } ∧
      t = { s with board := t.board, regs := t.regs, mem := t.mem, info := t.info, ps := t.ps, chans := t.chans, segs := t.segs
                   cm := t.cm, vsm := t.vsm } ∧
      MemFrame s t fun a => EndPlaces c a ∨ (0x2000 ≤ a ∧ a < 0x2800) ∨ a < 0x100 ∨ (0x1100 ≤ a ∧ a < 0x1200) ∨
        (0x1280 ≤ a ∧ a < 0x1480)

/-- COMMIT_NOW refused (R12, R13): an invalid Staged Set fails the cell with INVALID_SET and the offset of its first invalid
item, a valid one that holds a grant fails outside workshop mode with NOT_IN_WORKSHOP, and nothing else changes.
COMMIT_AT_IGNITION (R14): the cell becomes the armed commit and is ACTIVE; a commit that was armed ends FAILED SUPERSEDED. -/
def Obligations.CommitNotCarriedOut : Prop :=
  (∀ (c : Fin 32) (s : State), Receives s c .commit → field8 (s.cell c).captured 16 = 1 →
    let p := s.staged
    (∀ o, p.invalidAt = some o → ∃ t, exec (.commitNow c) s = .next t ∧ EndsFailed t c .policy .invalidSet ∧
      t.mem.bytes (cellBase c + 96) 2 = le16 o ∧ t.ps = s.ps ∧ OnlyCellState s t c ∧ EndRegs s t c 0 ∧ BoardOnly s t ∧
      MemFrame s t (EndPlaces c)) ∧
    (p.invalidAt = none → p.hasGrant = true → workshop s = false → ∃ t, exec (.commitNow c) s = .next t ∧
      EndsFailed t c .policy .notInWorkshop ∧ t.ps = s.ps ∧ OnlyCellState s t c ∧ EndRegs s t c 0 ∧ BoardOnly s t ∧
      MemFrame s t (EndPlaces c))) ∧
  ∀ (c : Fin 32) (s : State), Receives s c .commit → field8 (s.cell c).captured 16 = 2 →
    (s.ps.armed = none → ∃ t, exec (.commitAtIgnition c) s = .next t ∧ CellShows t c .active ∧
      t.ps = { s.ps with armed := some c } ∧ OnlyCellState s t c ∧ t = { s with board := t.board, mem := t.mem, ps := t.ps } ∧
      MemFrame s t (Within (cellBase c) 2)) ∧
    (∀ d, s.ps.armed = some d → d ≠ c → ∃ t, exec (.commitAtIgnition c) s = .next t ∧ CellShows t c .active ∧
      EndsFailed t d .policy .superseded ∧ t.mem.read (cellBase d + 65) = 4 ∧ t.ps = { s.ps with armed := some c } ∧
      EndRegs s t d 0 ∧ (∀ e, e ≠ c → e ≠ d → t.cell e = s.cell e) ∧
      t = { s with board := t.board, regs := t.regs, mem := t.mem, ps := t.ps } ∧
      MemFrame s t fun a => EndPlaces d a ∨ Within (cellBase c) 2 a)

/-- IGNITION_DEBOUNCE_EXPIRY (R163): the ignition takes the raw level, the Information Block shows it, and EVENT VEHICLE is
set; an assertion carries out an armed commit, which is then armed no longer (R14). STALENESS_TIMER_EXPIRY (R165): engine and
motion become UNKNOWN, are shown so, and EVENT VEHICLE is set. Each is reported (R166): a lone EXCHANGE entry whose class conditions
fail is lost with CONDITION_LOST (R40), a lone HOLD_WHILE transfer whose conditions fail takes that cause (R134), and a lone
HOLD_WHILE watch whose conditions fail has its waiting cycle withdrawn as skipped (R145). That an expiry acts at or after its
instant, that an entry and a watch are tested by the active rules of their recorded class and a transfer by its recorded conditions,
that the mirror shows every field of a committed set, also of unused entries, and that a dropped entry is one step of its segment's
change counter, are the model's choices (log 4, log 19, log 34, log 20). -/
def Obligations.VehicleTimers : Prop :=
  ∀ s : State, Settled s →
    let raw := s.vsm.ignition.raw
    let line : VSM := { s.vsm with ignition := { raw := raw, level := raw, timer := none } }
    let stale : VSM := { s.vsm with engine := .unknown, motion := .unknown, lastFrame := none }
    let shown := fun (i : Instr) (t : State) (v : VSM) (off : Nat) (bs : List Byte) =>
      exec i s = .next t ∧ t.vsm = v ∧ t.mem.bytes off bs.length = bs ∧ t.regs.event.getLsbD 6 = true ∧
        t.info = { s.info with counter := s.info.counter + 1 }
    let reports := fun (i : Instr) (v : VSM) (off : Nat) (bs : List Byte) =>
      (Idle s → ∃ t, shown i t v off bs ∧
        t.regs = { s.regs with event := s.regs.event ||| Event.vehicle.bit, irq := irqOf t.regs } ∧
        t = { s with vsm := t.vsm, mem := t.mem, regs := t.regs, info := t.info } ∧ MemFrame s t (InfoPlaces off bs.length)) ∧
      (∀ g e, LoneEntry s g e → NoRecords s → e.role = .exchange → ∃ t, shown i t v off bs ∧
        ((condFailure v (s.ps.active.conds [Fin.ofNat 8 e.cls])).isSome = true → EntryLost s t e.cell .conditionLost) ∧
        (condFailure v (s.ps.active.conds [Fin.ofNat 8 e.cls]) = none →
          t = { s with vsm := t.vsm, mem := t.mem, regs := t.regs, info := t.info })) ∧
      (∀ c r, LoneTransfer s c r → ∃ t, shown i t v off bs ∧
        (r.hold = true → (condFailure v r.conds).isSome = true → CauseTaken s t c r .conditionLost) ∧
        (r.hold = false ∨ condFailure v r.conds = none →
          t = { s with vsm := t.vsm, mem := t.mem, regs := t.regs, info := t.info })) ∧
      (∀ c w, LoneWatch s c w → ∃ t, shown i t v off bs ∧
        let failing := w.hold = true ∧ w.out = .lane ∧
          (condFailure v (s.ps.active.conds [Fin.ofNat 8 w.cls])).isSome = true
        (failing → EntryDropped s t c ∧ t.board = s.board ∧
          t.watches = s.watches.set c (some { w with skipped := min (w.skipped + 1) 0xFFFF, out := .none })) ∧
        (¬failing → t = { s with vsm := t.vsm, mem := t.mem, regs := t.regs, info := t.info }))
    (s.due s.vsm.ignition.timer = true →
      (s.ps.armed = none ∨ raw = false → reports .ignitionDebounceExpiry line 0x20 [if raw then 1 else 0]) ∧
      (∀ c, s.ps.armed = some c → raw = true → Idle s →
        let p := s.staged
        ∃ t, exec .ignitionDebounceExpiry s = .next t ∧ t.vsm.ignition = line.ignition ∧ t.mem.read 0x20 = 1 ∧
          t.regs.event.getLsbD 6 = true ∧ t.ps.armed = none ∧
          (p.invalidAt = none → (p.hasGrant = true → workshop s = true) → EndsDone t c ∧ t.ps.active = p ∧
            t.ps.generation = s.ps.generation + 1 ∧ t.mem.bytes 0x2000 0x800 = p.bytes ∧
            t.mem.bytes (cellBase c + 100) 4 = le32 (s.ps.generation + 1).toNat ∧ t.regs.event.getLsbD 3 = true) ∧
          (∀ o, p.invalidAt = some o → EndsFailed t c .policy .invalidSet ∧ t.mem.bytes (cellBase c + 96) 2 = le16 o ∧
            t.ps = { s.ps with armed := none }) ∧
          (p.invalidAt = none → p.hasGrant = true → workshop s = false → EndsFailed t c .policy .notInWorkshop ∧
            t.ps = { s.ps with armed := none }))) ∧
    (s.stale = true → reports .stalenessTimerExpiry stale 0x21 [0, 0])

/-- GRANT_EXPIRY (R6, R21): the used grant whose instant has been reached is marked expired; the grant itself and every other usage
record stay. With no transfer and no watch only the lamp can follow; a lone transfer or watch whose recorded grant it is is
re-checked: it records the grant that passes, or takes the cause that its denial names, GRANT_EXPIRED for a grant reason; a vehicle
condition leaves a watch going on. DEPARTURE (R22, R156): every used grant leaves the active set, whose other sections stay; the
generation number advances, the mirror shows the new set and EVENT COMMIT is set. A lone EXCHANGE entry, transfer or watch of a
channel that held a grant ends by TESTER_GONE, and one of any other channel stays. With no grant in the set only the timer stops.
That instants of seconds are compared as unsigned numbers, that an expiry acts at or after its instant, that the recorded grant is
told by channel and id, that the other fields of a withdrawn entry become 0, that of several grants which fall due at once each is
marked and its work re-checked on its own, so that every other usage record stays, that the mirror shows every field of the set that
remains, also of unused entries, and that a dropped entry is one step of its segment's change counter, are the model's choices (log
30, log 4, log 18, log 38, log 47, log 34, log 20). Where the lamp indication changes, it is shown with the mode (R158). -/
def Obligations.GrantsEnd : Prop :=
  (∀ (i : Fin 16) (e : Word32) (s : State), Settled s → s.ps.active.grants[i].used = true →
    s.ps.usage[i].expired = false → s.ps.usage[i].expiry = some e → e.toNat ≤ s.time.sec.toNat →
    let q := s.ps.active.grants[i]
    let u := { s with ps := { s.ps with usage := s.ps.usage.set i { s.ps.usage[i] with expired := true } } }
    let marked := fun (t : State) => exec (.grantExpiry i) s = .next t ∧ t.ps = u.ps ∧
      t.cm = { s.cm with lampInd := t.cm.lampInd, lit := t.cm.lit, blink := t.cm.blink } ∧ LampShows s t
    (NoRecords s → ∃ t, marked t ∧ t.regs = s.regs ∧ t = { s with ps := t.ps, cm := t.cm, mem := t.mem, info := t.info } ∧
      MemFrame s t (InfoPlaces 0x19 2)) ∧
    (∀ c r, LoneTransfer s c r → r.channel.val = q.channel → r.grantId = q.id → ∃ t, marked t ∧
      let verdict := u.readmission (transferRequest r.channel r.codes (s.cell c).captured)
      (∀ grant h, verdict = .allow grant h → s.entryOf c = none →
        t.transfers = s.transfers.set c (some { r with grant := grant, grantId := s.grantId grant }) ∧
          t.cell c = { s.cell c with grant := grant } ∧ t.mem.read (cellBase c + 68) = byte grant ∧
          t = { s with ps := t.ps, cm := t.cm, mem := t.mem, info := t.info, transfers := t.transfers, board := t.board } ∧
          MemFrame s t fun a => a = cellBase c + 68 ∨ InfoPlaces 0x19 2 a) ∧
      ∀ reason d j, verdict = .deny reason d j →
        CauseTaken s t c r (if reason.isVehicle then .conditionLost
          else if reason = .segmentUnavailable then .segmentUnavailable else .grantExpired) ∧
        t = { s with board := t.board, regs := t.regs, mem := t.mem, info := t.info, chans := t.chans, segs := t.segs
                     transfers := t.transfers, slots := t.slots, cm := t.cm, ps := t.ps } ∧ MemFrame s t (TransferPlaces c)) ∧
    ∀ c w, LoneWatch s c w → w.channel.val = q.channel → w.grantId = q.id → ∃ t, marked t ∧
      let verdict := u.readmission (plainRequest w.channel w.service w.target)
      let goesOn := fun (grant : Nat) => t.cell c = { s.cell c with grant := grant } ∧ t.segs = s.segs ∧
        t.watches = s.watches.set c (some { w with grant := grant, grantId := s.grantId grant })
      (∀ grant h, verdict = .allow grant h → goesOn grant) ∧
      (∀ reason d j, verdict = .deny reason d j → reason.isVehicle = true → goesOn (j.getD 0xFF)) ∧
      ∀ reason d j, verdict = .deny reason d j → reason.isVehicle = false → WatchCauseTaken s t c w .grantExpired) ∧
  ∀ s : State, Settled s → s.due s.cm.grace = true →
    let p := s.ps.active
    let departed := fun (t : State) => exec .departure s = .next t ∧
      t.ps.active = { p with grants := Vector.replicate 16 Grant.unused } ∧ t.ps.active.hasGrant = false ∧
      (∀ i : Fin 16, t.ps.usage[i] = Usage.none) ∧ t.ps.generation = s.ps.generation + 1 ∧ t.ps.armed = s.ps.armed ∧
      t.mem.bytes 0x2000 0x800 = t.ps.active.bytes ∧ t.mem.bytes 0x28 4 = le32 (s.ps.generation + 1).toNat ∧
      t.regs.event.getLsbD 3 = true ∧
      t.cm = { s.cm with grace := none, lampInd := t.cm.lampInd, lit := t.cm.lit, blink := t.cm.blink } ∧ LampShows s t
    (p.hasGrant = true →
      (Idle s → ∃ t, departed t ∧
        t.regs = { s.regs with event := s.regs.event ||| Event.commit.bit, irq := irqOf t.regs } ∧
        t = { s with ps := t.ps, mem := t.mem, regs := t.regs, info := t.info, cm := t.cm } ∧
        MemFrame s t fun a => (0x2000 ≤ a ∧ a < 0x2800) ∨ Within 0x28 4 a ∨ InfoPlaces 0x19 2 a) ∧
      (∀ g e ch, LoneEntry s g e → NoRecords s → e.role = .exchange → channelNamed (s.cell e.cell).captured = some ch →
        ∃ t, departed t ∧ (p.channelHasGrant ch = true → EntryLost s t e.cell .testerGone) ∧
          (p.channelHasGrant ch = false →
            t = { s with ps := t.ps, mem := t.mem, regs := t.regs, info := t.info, cm := t.cm })) ∧
      (∀ c r, LoneTransfer s c r → ∃ t, departed t ∧ (p.channelHasGrant r.channel = true → CauseTaken s t c r .testerGone) ∧
        (p.channelHasGrant r.channel = false →
          t = { s with ps := t.ps, mem := t.mem, regs := t.regs, info := t.info, cm := t.cm })) ∧
      (∀ c w, LoneWatch s c w → ∃ t, departed t ∧
        (p.channelHasGrant w.channel = true → WatchCauseTaken s t c w .testerGone) ∧
        (p.channelHasGrant w.channel = false →
          t = { s with ps := t.ps, mem := t.mem, regs := t.regs, info := t.info, cm := t.cm }))) ∧
    (p.hasGrant = false → exec .departure s = .next { s with cm := { s.cm with grace := none } })

/-! ### Connector -/

/-- Every command keeps the lamp indication that the lamp mode, the transfers, the latches and the grants give (R157, R158). -/
def Obligations.LampFollows : Prop :=
  ∀ (c : Instr) (s t : State), s.cm.lampInd = s.indication → exec c s = .next t → t.cm.lampInd = t.indication

/-- CONNECTOR (R160, R161): a lamp setting alone sets the lamp mode and ends DONE; a supply ON from OFF starts the supply with
its 100 ms timer and leaves the cell ACTIVE; a supply OFF opens the switch and ends DONE. -/
def Obligations.ConnectorCell : Prop :=
  ∀ (c : Fin 32) (s : State), Receives s c .connector → s.cm.cell = none →
    let cap := (s.cell c).captured
    (∀ l, Lamp.ofField (field8 cap 16) = some l → field8 cap 17 = 0 → ∃ t, exec (.connector c) s = .next t ∧ EndsDone t c ∧
      t.cm = { s.cm with lampMode := l, reqLamp := l, lampInd := t.cm.lampInd, lit := t.cm.lit, blink := t.cm.blink } ∧
      t.mem.read 0x19 = byte l.code ∧ t.mem.read 0x1A = byte t.cm.lampInd.code ∧ t.mem.read 0x1B = byte l.code ∧
      t.mem.bytes (cellBase c + 100) 4 = [byte l.code, byte t.cm.lampInd.code, byte s.cm.supply.code, byte s.cm.fault.code] ∧
      OnlyCellState s t c ∧ EndRegs s t c 0 ∧
      t = { s with board := t.board, regs := t.regs, mem := t.mem, info := t.info, cm := t.cm } ∧
      MemFrame s t fun a => EndPlaces c a ∨ InfoPlaces 0x19 3 a) ∧
    (field8 cap 16 = 0 → field8 cap 17 = 1 → s.cm.supply = .off → s.cm.good = false → s.cm.overcurrent = false →
      ∃ t, exec (.connector c) s = .next t ∧ CellShows t c .active ∧
        t.cm = { s.cm with supply := .starting, startTimer := some (s.time.clock + 100), reqSupply := true, cell := some c } ∧
        t.mem.bytes 0x1C 2 = [1, 1] ∧ OnlyCellState s t c ∧ t.regs = s.regs ∧
        t = { s with board := t.board, mem := t.mem, info := t.info, cm := t.cm } ∧
        MemFrame s t fun a => Within (cellBase c) 2 a ∨ InfoPlaces 0x1C 2 a) ∧
    (field8 cap 16 = 0 → field8 cap 17 = 2 → s.cm.supply ≠ .off → ∃ t, exec (.connector c) s = .next t ∧ EndsDone t c ∧
      t.cm = { s.cm with supply := .off, startTimer := none, reqSupply := false } ∧ t.mem.bytes 0x1C 2 = [2, 0] ∧
      OnlyCellState s t c ∧ EndRegs s t c 0 ∧
      t = { s with board := t.board, regs := t.regs, mem := t.mem, info := t.info, cm := t.cm } ∧
      MemFrame s t fun a => EndPlaces c a ∨ InfoPlaces 0x1C 2 a)

/-- The two debounced lines of the connector and the ignition line (R153, R154, R156, R163): a raw change away from the
debounced level starts the timer, one back to it stops it; at the expiry the debounced level takes the raw level, EVENT
PRESENCE is set, and a change of presence starts or stops the grace timer. That an expiry acts at or after its instant, and that a
raw change to the level which the line already has changes nothing, are the model's choices (log 4, log 1). -/
def Obligations.DebouncedLines : Prop :=
  ∀ (l : ConnLine) (v : Bool) (s : State), Settled s →
    (v ≠ (s.cm.line l).raw → exec (.connectorLineRawChange l v) s = .next { s with
      cm := s.cm.setLine l
        ⟨v, (s.cm.line l).level, if v = (s.cm.line l).level then none else some (s.time.clock + 50)⟩ }) ∧
    (v = (s.cm.line l).raw → exec (.connectorLineRawChange l v) s = .next s) ∧
    (v ≠ s.vsm.ignition.raw → exec (.ignitionRawChange v) s = .next { s with
      vsm := { s.vsm with ignition :=
        ⟨v, s.vsm.ignition.level, if v = s.vsm.ignition.level then none else some (s.time.clock + 20)⟩ } }) ∧
    (v = s.vsm.ignition.raw → exec (.ignitionRawChange v) s = .next s) ∧
    (s.due (s.cm.line l).timer = true → ∃ t, exec (.connectorDebounceExpiry l) s = .next t ∧
      t.cm.line l = { raw := (s.cm.line l).raw, level := (s.cm.line l).raw, timer := none } ∧
      (∀ k, k ≠ l → t.cm.line k = s.cm.line k) ∧
      t.cm.grace = (if l = .key then s.cm.grace else if s.cm.presence.raw then none else some (s.time.clock + 2000)) ∧
      t.cm = { s.cm with presence := t.cm.presence, key := t.cm.key, grace := t.cm.grace } ∧
      (t.mem.read 0x18).getLsbD 0 = t.cm.presence.level ∧ (t.mem.read 0x18).getLsbD 1 = t.cm.key.level ∧
      (t.mem.read 0x18).getLsbD 2 = (t.cm.presence.level && t.cm.key.level) ∧
      t.regs = { s.regs with event := s.regs.event ||| Event.presence.bit, irq := irqOf t.regs } ∧
      t = { s with cm := t.cm, mem := t.mem, regs := t.regs, info := t.info } ∧ MemFrame s t (InfoPlaces 0x18 1))

/-- The supply's events (R159, R161): good in STARTING brings it ON and ends a waiting cell DONE; the loss of good in ON, an
overcurrent in STARTING or ON, and the start timer's expiry open the switch with their fault and EVENT SUPPLY, and end a
waiting cell FAILED SUPPLY_FAULT. In any other state the input is only taken. That the overcurrent input stays as the
command says, and that the start timer acts at or after its instant, are the model's choices (log 11, log 4). -/
def Obligations.SupplyEvents : Prop :=
  ∀ (stays : Bool) (s : State), Settled s →
    (s.cm.supply ≠ .starting → exec .supplyGoodAsserted s = .next { s with cm := { s.cm with good := true } }) ∧
    (s.cm.supply ≠ .on → exec .supplyGoodWithdrawn s = .next { s with cm := { s.cm with good := false } }) ∧
    (s.cm.supply = .off → exec (.overcurrentAsserted stays) s = .next { s with cm := { s.cm with overcurrent := stays } }) ∧
    (s.cm.supply = .starting → ∃ t, exec .supplyGoodAsserted s = .next t ∧
      t.cm = { s.cm with good := true, supply := .on, startTimer := none, cell := none } ∧ t.mem.read 0x1D = 2 ∧
      (s.cm.cell = none → t = { s with cm := t.cm, mem := t.mem, info := t.info } ∧ MemFrame s t (InfoPlaces 0x1D 1)) ∧
      (∀ c, s.cm.cell = some c → EndsDone t c ∧ OnlyCellState s t c ∧ EndRegs s t c 0 ∧
        t = { s with board := t.board, regs := t.regs, cm := t.cm, mem := t.mem, info := t.info } ∧
        MemFrame s t fun a => EndPlaces c a ∨ InfoPlaces 0x1D 1 a)) ∧
    (s.cm.supply = .on → ∃ t, exec .supplyGoodWithdrawn s = .next t ∧
      SupplyOpened s t .supplyLost { s.cm with good := false }) ∧
    (s.cm.supply ≠ .off → ∃ t, exec (.overcurrentAsserted stays) s = .next t ∧
      SupplyOpened s t .overcurrent { s.cm with overcurrent := stays }) ∧
    (s.cm.supply = .starting → s.due s.cm.startTimer = true → ∃ t, exec .supplyStartTimerExpiry s = .next t ∧
      SupplyOpened s t .noSupplyGood s.cm)

/-! ### The load regulator -/

/-- LOAD (R108): the value, clamped into the segment's limits, becomes A whether or not updates are in effect; the hold-off
counter and the integrators stay; a change of level is reported; and the result shows A before and after. On a segment with
nothing queued nothing else changes. -/
def Obligations.Load : Prop :=
  ∀ (c : Fin 32) (g : Fin 4) (s : State), Receives s c .throttle →
    let cap := (s.cell c).captured
    let r := s.ps.active.regs[g]
    let q := s.seg g
    let a := clampTo r (field16 cap 18)
    field8 cap 16 = g.val → field8 cap 17 = 1 →
    ∃ t, exec (.load c) s = .next t ∧ EndsDone t c ∧ (t.seg g).acc = a ∧ LevelFollows s t g ∧
      (levelOf a ≠ levelOf q.acc → t.regs.event.getLsbD 5 = true) ∧
      (t.seg g).holdOff = q.holdOff ∧ (t.seg g).subBits = q.subBits ∧ (t.seg g).winBits = q.winBits ∧
      t.mem.bytes (cellBase c + 100) 6 =
        le16 q.acc ++ le16 a ++ [byte (levelOf a), byte (flagBit q.freeze 0 + flagBit r.enabled 1)] ∧
      (LanesEmpty s g →
        t.seg g = { q with acc := a, pace := (t.seg g).pace, levelChanges := (t.seg g).levelChanges,
                           counter := (t.seg g).counter } ∧
        (∀ k, k ≠ g → t.seg k = s.seg k) ∧ OnlyCellState s t c ∧
        EndRegs s t c (if levelOf a = levelOf q.acc then 0 else Event.level.bit) ∧
        t = { s with board := t.board, regs := t.regs, mem := t.mem, segs := t.segs, info := t.info } ∧
        MemFrame s t fun x => EndPlaces c x ∨ Within (segBase g) 128 x ∨ InfoPlaces (0x24 + g.val) 1 x)

/-- FREEZE sets and UNFREEZE clears the host freeze mark and ends the cell DONE; where the mark already stands so nothing
changes (R109). The step of the segment's change counter is the model's choice (log 20). -/
def Obligations.FreezeUnfreeze : Prop :=
  ∀ (c : Fin 32) (g : Fin 4) (v : Bool) (s : State), Receives s c .throttle →
    let cap := (s.cell c).captured
    let q := s.seg g
    field8 cap 16 = g.val → field8 cap 17 = (if v then 2 else 3) →
    ∃ t, exec (if v then .freeze c else .unfreeze c) s = .next t ∧ EndsDone t c ∧
      t.seg g = (if q.freeze = v then q else { q with freeze := v, counter := q.counter + 1 }) ∧
      t.mem.bytes (cellBase c + 100) 6 = le16 q.acc ++ le16 q.acc ++
        [byte (levelOf q.acc), byte (flagBit v 0 + flagBit s.ps.active.regs[g].enabled 1)] ∧
      (∀ k, k ≠ g → t.seg k = s.seg k) ∧ OnlyCellState s t c ∧ EndRegs s t c 0 ∧
      t = { s with board := t.board, regs := t.regs, mem := t.mem, segs := t.segs } ∧
      MemFrame s t fun x => EndPlaces c x ∨ (q.freeze ≠ v ∧ Within (segBase g) 128 x)

/-- SUB_WINDOW_END on a segment with nothing queued (R95 to R101): the sub-window load, the immediate check with its hold-
off, at the eighth sub-window the window load and the window update on what the check left, the integrators, and at most one
level change. That the end acts at or after its instant is the model's choice (log 4). -/
def Obligations.SubWindowEnd : Prop :=
  ∀ (g : Fin 4) (w : Nat) (s : State), Settled s → LanesEmpty s g →
    let r := s.ps.active.regs[g]
    let q := s.seg g
    let capacity := s.ps.active.rate g * r.window
    let load := fun (bits cap : Nat) => min (bits * 1024 / cap) 1024
    let subLoad := load q.subBits (capacity / 8)
    let winLoad := load q.winBits capacity
    let on := r.enabled = true ∧ q.freeze = false
    let burst := on ∧ r.immediate < subLoad ∧ q.holdOff = 0
    let a := if burst then clampTo r (q.acc + r.stepImm) else q.acc
    let b := if ¬on then a
      else if r.upper < winLoad then clampTo r (a + r.stepUp)
      else if winLoad < r.lower then clampTo r (a - r.stepDown)
      else clampTo r ((a : Int) + r.leak).toNat
    q.winStart = some w → w + (q.subIndex + 1) * (r.window / 8) ≤ s.time.clock →
    ∃ t, exec (.subWindowEnd g) s = .next t ∧ LevelFollows s t g ∧
      (q.subIndex < 7 → t.seg g =
        { q with acc := a, holdOff := if burst then r.holdOff else q.holdOff - 1, lastSubBits := q.subBits,
                 lastSubLoad := subLoad, subBits := 0, subIndex := q.subIndex + 1, pace := (t.seg g).pace,
                 levelChanges := (t.seg g).levelChanges, counter := (t.seg g).counter }) ∧
      (7 ≤ q.subIndex → t.seg g =
        { q with acc := b, holdOff := if burst then r.holdOff else q.holdOff - 1, lastSubBits := q.subBits,
                 lastSubLoad := subLoad, lastWinBits := q.winBits, lastLoad := winLoad, subBits := 0, winBits := 0,
                 subIndex := 0, winStart := some (w + r.window), pace := (t.seg g).pace,
                 levelChanges := (t.seg g).levelChanges, counter := (t.seg g).counter }) ∧
      (∀ k, k ≠ g → t.seg k = s.seg k) ∧
      t.regs = { s.regs with
        event := s.regs.event ||| (if levelOf (t.seg g).acc = levelOf q.acc then 0 else Event.level.bit), irq := irqOf t.regs } ∧
      t = { s with regs := t.regs, mem := t.mem, segs := t.segs, info := t.info } ∧
      MemFrame s t fun x => Within (segBase g) 128 x ∨ InfoPlaces (0x24 + g.val) 1 x

/-! ### Segment requests -/

/-- DISABLE, ENABLE and RESTART on a segment with nothing queued and no busy context (R88 to R91, R111): the host-disable
mark, the controller state with both error counts at 0, the offered frame dropped, the options of a restart with the counts
that it cleared in the result, and the cell DONE. DISABLE and RESTART fail a lone busy context with SEGMENT_RESTARTED (R86): the
EXCHANGE cell ends, the transfer fails, or the cycle fails, and the context is FREE; a RESTART keeps the entries that wait. DISABLE
removes a lone waiting entry (R61): an EXCHANGE cell and a watch end FAILED at stage QUEUE with SEGMENT_UNAVAILABLE, and a transfer
fails with that reason. On a segment that is DISABLED already it sets the mark and nothing else. The step of the segment's change
counter, the order in which the state moves before the contexts fail, that a frame dropped here does not move the end of the last
frame, and the sample fields of a cycle that fails with part of its response written, are the model's choices (log 20, log 15, log
46, log 35). -/
def Obligations.SegmentRequests : Prop :=
  (∀ (c : Fin 32) (g x : Fin 4) (s : State), Receives s c .segment → LoneContext s g x →
    let cap := (s.cell c).captured
    let q := s.seg g
    let k := s.ctx g x
    let d := k.cell
    let fails := fun (i : Instr) (st : Ctl) (mark : Bool) =>
      let after := fun (t : State) => EndsDone t c ∧ ContextsFree t g ∧ (t.seg g).offered = none ∧
        (t.seg g).ctl = st ∧ (t.seg g).hostDisable = mark ∧ (t.seg g).tecCount = 0 ∧ (t.seg g).recCount = 0 ∧
        (t.seg g).recovery = 0 ∧ (t.seg g).lanes = q.lanes ∧ (t.seg g).busy = q.busy.filter (· != k.target) ∧
        (st ≠ q.ctl → t.regs.event.getLsbD 4 = true) ∧ (∀ h, h ≠ g → t.seg h = s.seg h) ∧
        (∀ e, e ≠ c → e ≠ d → t.cell e = s.cell e) ∧ t.board.posts = s.board.posts ∧
        t = { s with board := t.board, regs := t.regs, mem := t.mem, info := t.info, chans := t.chans, segs := t.segs
                     transfers := t.transfers, slots := t.slots, watches := t.watches, cm := t.cm } ∧
        MemFrame s t fun a => EndPlaces c a ∨ TransferPlaces d a ∨ InfoPlaces (0x24 + g.val) 1 a
      (k.role = .exchange → ∃ t, exec i s = .next t ∧ after t ∧ ExchangeFails s t g x d .segmentRestarted (q.lastFrame x) ∧
        t.transfers = s.transfers ∧ t.watches = s.watches ∧ t.slots = s.slots) ∧
      (∀ r, k.role.ofTransfer → s.transfer d = some r → ∃ t, exec i s = .next t ∧ after t ∧
        TransferExchangeFails s t g x d r .segmentRestarted (q.lastFrame x) ∧ t.watches = s.watches) ∧
      (∀ w, k.role = .cycle → s.watch d = some w → s.entryOf d = none → ∃ t, exec i s = .next t ∧ after t ∧
        CycleFails s t g x d w .segmentRestarted (q.lastFrame x) ∧ t.transfers = s.transfers ∧ t.slots = s.slots)
    d ≠ c → field8 cap 16 = g.val →
    (field8 cap 17 = 1 → q.ctl ≠ .disabled → LanesEmpty s g → fails (.disable c) .disabled true) ∧
    (field8 cap 17 = 3 → fails (.restart c) (if s.enabled g then .joining else .disabled) q.hostDisable)) ∧
  (∀ (c : Fin 32) (g : Fin 4) (e : Entry) (s : State), Receives s c .segment → ContextsFree s g →
    let cap := (s.cell c).captured
    let q := s.seg g
    let d := e.cell
    q.lanes = Lanes.only e → s.entryOf d = some (g, e) → d ≠ c → field8 cap 16 = g.val →
    (field8 cap 17 = 3 → ∃ t, exec (.restart c) s = .next t ∧ EndsDone t c ∧ (t.seg g).lanes = q.lanes ∧
      (t.seg g).ctl = (if s.enabled g then .joining else .disabled) ∧ OnlyCellState s t c ∧ (∀ h, h ≠ g → t.seg h = s.seg h)) ∧
    (field8 cap 17 = 1 → q.ctl = .disabled → ∃ t, exec (.disable c) s = .next t ∧ EndsDone t c ∧
      t.seg g = { q with hostDisable := true } ∧ OnlyCellState s t c ∧ (∀ h, h ≠ g → t.seg h = s.seg h)) ∧
    (field8 cap 17 = 1 → q.ctl ≠ .disabled →
      let after := fun (t : State) => EndsDone t c ∧ LanesEmpty t g ∧
        (t.seg g).ctl = .disabled ∧ (t.seg g).hostDisable = true ∧ (t.seg g).tecCount = 0 ∧ (t.seg g).recCount = 0 ∧
        t.regs.event.getLsbD 4 = true ∧ (∀ h, h ≠ g → t.seg h = s.seg h) ∧
        t.cell d = { s.cell d with st := .failed } ∧ (∀ f, f ≠ c → f ≠ d → t.cell f = s.cell f) ∧
        (∀ ch, channelNamed (s.cell d).captured = some ch → (t.chan ch).accrued.getLsbD 1 = true) ∧
        t = { s with board := t.board, regs := t.regs, mem := t.mem, info := t.info, chans := t.chans, segs := t.segs
                     transfers := t.transfers, slots := t.slots, watches := t.watches, cm := t.cm } ∧
        MemFrame s t fun a => EndPlaces c a ∨ TransferPlaces d a
      (e.role = .exchange → ∃ t, exec (.disable c) s = .next t ∧ after t ∧ EndsFailed t d .queue .segmentUnavailable ∧
        t.transfers = s.transfers ∧ t.watches = s.watches ∧ t.slots = s.slots) ∧
      (∀ r, e.role.ofTransfer → s.transfer d = some r → ∃ t, exec (.disable c) s = .next t ∧ after t ∧
        TransferReleased s t d r .segmentUnavailable ∧ t.mem.read (cellBase d + 94) = byte Stage.queue.code ∧
        t.watches = s.watches) ∧
      (∀ w, e.role = .cycle → s.watch d = some w → ∃ t, exec (.disable c) s = .next t ∧ after t ∧
        EndsFailed t d .queue .segmentUnavailable ∧ t.watches = s.watches.set d none ∧ t.transfers = s.transfers ∧
        t.slots = s.slots))) ∧
  ∀ (c : Fin 32) (g : Fin 4) (s : State), Receives s c .segment → LanesEmpty s g → ContextsFree s g →
    let cap := (s.cell c).captured
    let q := s.seg g
    let r := s.ps.active.regs[g]
    let level := fun (t : State) => if levelOf (t.seg g).acc = levelOf q.acc then 0#8 else Event.level.bit
    let frame := fun (t : State) => EndsDone t c ∧ OnlyCellState s t c ∧ EndRegs s t c (ctlEvents s t g ||| level t) ∧
      (∀ k, k ≠ g → t.seg k = s.seg k) ∧
      t = { s with board := t.board, regs := t.regs, mem := t.mem, segs := t.segs, info := t.info } ∧
      MemFrame s t fun x => EndPlaces c x ∨ Within (segBase g) 128 x ∨ InfoPlaces (0x24 + g.val) 1 x
    field8 cap 16 = g.val →
    (field8 cap 17 = 1 → ∃ t, exec (.disable c) s = .next t ∧ frame t ∧ t.mem.bytes (cellBase c + 100) 2 = [5, 1] ∧
      t.seg g = if q.ctl = .disabled then { q with hostDisable := true }
        else { q with hostDisable := true, ctl := .disabled, tecCount := 0, recCount := 0, recovery := 0, offered := none,
                      counter := q.counter + 1 }) ∧
    (field8 cap 17 = 2 → ∃ t, exec (.enable c) s = .next t ∧ frame t ∧
      t.mem.bytes (cellBase c + 100) 2 = [byte (t.seg g).ctl.code, 0] ∧
      t.seg g = if q.ctl = .disabled ∧ s.ps.active.segs[g].enabled = true
        then { q with hostDisable := false, ctl := .joining, tecCount := 0, recCount := 0, counter := q.counter + 1 }
        else { q with hostDisable := false }) ∧
    (field8 cap 17 = 3 →
      let clear := field8 cap 18 / 2 % 2 = 1
      let regulator := field8 cap 18 % 2 = 1
      ∃ t, exec (.restart c) s = .next t ∧ frame t ∧ LevelFollows s t g ∧
        t.mem.bytes (cellBase c + 100) 4 =
          [byte (t.seg g).ctl.code, byte (flagBit q.hostDisable 0), 0, 0] ∧
        t.mem.bytes (cellBase c + 104) 20 = (if clear then countBytes q else zeros 20) ∧
        t.seg g =
          { q with
            ctl := if s.enabled g then .joining else .disabled
            tecCount := 0, recCount := 0, recovery := 0, offered := none
            sent := if clear then 0 else q.sent, received := if clear then 0 else q.received
            errorFrames := if clear then 0 else q.errorFrames, stray := if clear then 0 else q.stray
            busOff := if clear then 0 else q.busOff
            acc := if regulator then clampTo r (r.ceiling * 8192) else q.acc
            holdOff := if regulator then 0 else q.holdOff
            pace := (t.seg g).pace, levelChanges := (t.seg g).levelChanges, counter := (t.seg g).counter })

/-! ### Queues -/

/-- One start of an arbitration (R51, R53, R54, R75): none while the segment cannot start; else the first phase from the pointer
on whose lane holds an eligible entry yields the oldest such entry; the pointer moves past that phase, the entry leaves its lane,
its target becomes busy, and the lowest FREE context takes it with a fresh tag and its first frame ready. -/
def Obligations.ArbitrationStarts : Prop :=
  ∀ (g : Fin 4) (s : State),
    let p := s.ps.active
    let q := s.seg g
    let can := fun (e : Entry) => e.target ∉ q.busy ∧ q.pace.pauses e.lane = false ∧
      ∃ r, p.route e.target = some r ∧ ∀ x : Fin 4, q.ctxs[x].st = .free ∨ q.ctxs[x].respId ≠ r.resp
    let lane := fun (n : Fin 16) => q.lanes.get (Lane.ofCode (p.phases[g])[n])
    (q.canStart = false → s.startOne g = none) ∧
    (s.startOne g = none → q.canStart = true → (∃ x : Fin 4, q.ctxs[x].st = .free) → ∀ n, ∀ e ∈ lane n, ¬can e) ∧
    ∀ t, s.startOne g = some t → ∃ (k : Fin 16) (e : Entry) (before after : List Entry) (x : Fin 4) (r : Route),
      (∀ j, j < k → ∀ d ∈ lane (q.pointer + j), ¬can d) ∧ lane (q.pointer + k) = before ++ e :: after ∧
      (∀ d ∈ before, ¬can d) ∧ can e ∧ p.route e.target = some r ∧
      q.ctxs[x].st = .free ∧ (∀ y, y < x → q.ctxs[y].st ≠ .free) ∧
      (t.seg g).pointer = q.pointer + k + 1 ∧ (t.seg g).lanes = q.lanes.without e.cell ∧ (t.seg g).busy = q.busy ++ [e.target] ∧
      (t.ctx g x).st = .sending ∧ (t.ctx g x).cell = e.cell ∧ (t.ctx g x).role = e.role ∧ (t.ctx g x).target = e.target ∧
      (t.ctx g x).reqId = r.req ∧ (t.ctx g x).respId = r.resp ∧ (t.ctx g x).respWait = r.wait ∧
      (t.ctx g x).tag = q.tags[x] + 1 ∧ (t.ctx g x).length = (s.requestOf e).2 ∧
      (t.ctx g x).ready = some ⟨if (s.requestOf e).2 ≤ 7 then .short else .opening, s.now, false⟩ ∧
      (∀ y, y ≠ x → t.ctx g y = s.ctx g y) ∧ (∀ h, h ≠ g → t.seg h = s.seg h) ∧
      (e.role = .exchange → CellShows t e.cell .active)

/-- QUEUE_DEADLINE_EXPIRY on a segment that can start nothing (R58, R62, R135, R148): the entry leaves its lane and is
counted; an exchange's cell ends FAILED QUEUE_TIMEOUT with QUEUE_LOST accrued, a transfer ends with it, and a cycle is a
failed cycle, of which the fourth in a row ends its watch FAILED with the cycle's stage and reason, and after which a pending cause
ends it. That an instant is reached is read modulo 2^32, that an expiry acts at or after it, and that the transport detail of the last
cycle fault is then 0, are the model's choices (log 5, log 4, log 53). Another segment stays as it is unless an entry of the same cell waits there, which R48 rules out. -/
def Obligations.QueueDeadline : Prop :=
  ∀ (c : Fin 32) (g : Fin 4) (e : Entry) (s : State), Settled s → s.entryOf c = some (g, e) → s.reached e.deadline = true →
    Waits s g → ∃ t, exec (.queueDeadlineExpiry c) s = .next t ∧
      (t.seg g).lanes = (s.seg g).lanes.without c ∧ (t.seg g).queueTimeouts = (s.seg g).queueTimeouts + 1 ∧
      t.seg g = { s.seg g with lanes := (t.seg g).lanes, queueTimeouts := (t.seg g).queueTimeouts,
                               counter := (t.seg g).counter } ∧
      (∀ k, k ≠ g → (∀ d ∈ (s.seg k).lanes.all, d.cell ≠ c) → t.seg k = s.seg k) ∧ (∀ d, d ≠ c → t.cell d = s.cell d) ∧
      t.board.posts = s.board.posts ∧
      (e.role = .exchange → (∀ k, k ≠ g → t.seg k = s.seg k) ∧ EndsFailed t c .queue .queueTimeout ∧ OnlyCellState s t c ∧ EndRegs s t c 0 ∧
        (∀ ch, channelNamed (s.cell c).captured = some ch → (t.chan ch).accrued = (s.chan ch).accrued ||| Flag.queueLost.bit) ∧
        (∀ ch, channelNamed (s.cell c).captured ≠ some ch → t.chan ch = s.chan ch) ∧
        t = { s with board := t.board, regs := t.regs, mem := t.mem, chans := t.chans, segs := t.segs } ∧
        MemFrame s t fun a => EndPlaces c a ∨ Within (segBase g) 128 a ∨
          ∃ ch, channelNamed (s.cell c).captured = some ch ∧ Within (chanBase ch) 32 a) ∧
      (∀ r, e.role = .start ∨ e.role = .data ∨ e.role = .ending ∨ e.role = .verify ∨ e.role = .keepalive →
        s.transfer c = some r → (∀ k, k ≠ g → t.seg k = s.seg k) ∧ EndsFailed t c .transfer .queueTimeout ∧ t.transfer c = none ∧ OnlyCellState s t c ∧
          t.mem.read (cellBase c + 94) = byte Stage.queue.code ∧ (∀ d, d ≠ c → t.transfer d = s.transfer d) ∧
          t = { s with board := t.board, regs := t.regs, mem := t.mem, chans := t.chans, segs := t.segs, slots := t.slots,
                       transfers := t.transfers, cm := t.cm, info := t.info }) ∧
      (∀ w, e.role = .cycle → s.watch c = some w → w.consecutive < 3 → w.pending = none → ∃ u, t.watch c = some u ∧
        u = { w with lastFault := some ⟨.queue, .queueTimeout, false, none⟩, failed := min (w.failed + 1) 0xFFFF,
                     consecutive := w.consecutive + 1, out := .none } ∧
        t.mem.bytes (cellBase c + 108) 20 = u.countBytes ∧ t.cell c = s.cell c ∧ t.regs = s.regs ∧
        (∀ k, k ≠ g → t.seg k = s.seg k) ∧ (∀ d, d ≠ c → t.watch d = s.watch d) ∧
        t = { s with mem := t.mem, chans := t.chans, segs := t.segs, watches := t.watches } ∧
        MemFrame s t fun a => Within (cellBase c + 108) 20 a ∨ Within (segBase g) 128 a ∨ Within (chanBase w.channel) 32 a) ∧
      (∀ w, e.role = .cycle → s.watch c = some w → 3 ≤ w.consecutive ∨ w.pending ≠ none →
        t.watches = s.watches.set c none ∧ OnlyCellState s t c ∧
        (3 ≤ w.consecutive → EndsFailed t c .queue .queueTimeout) ∧
        (w.consecutive < 3 → w.pending = some .aborted → EndsDone t c) ∧
        (∀ reason, w.consecutive < 3 → w.pending = some reason → reason ≠ .aborted → EndsFailed t c .policy reason))

/-- Every step keeps the pending end of every watch among the causes that R149 names: ABORTED, GRANT_EXPIRED and TESTER_GONE. -/
def Obligations.StepKeepsWatchEnds : Prop := ∀ s t : State, WatchEndsNamed s → step s = .next t → WatchEndsNamed t

/-! ### The bus -/

/-- FRAME_OFFER (R19, R72, R76, R81, R104, R105): a controller that sends, with no frame offered and its transmit gap passed, is offered the
frame that became ready first, of the lowest context among equals; a PART is offered only once the greater of both gaps has passed
since the PART before it of its context; and the frame of each kind is laid out as R72 says. The
instants in microseconds, that the payload bytes are read at the offer, and that a CREDIT takes the receive credit and gap of
the pace entry of that moment, are the model's choices (log 6, log 8, log 7), and so are that a PART which this spacing alone holds
back lets other contexts pass, and that an offer of a PART that is held back is no event (log 45, log 1). -/
def Obligations.FrameOffer : Prop :=
  ∀ (g : Fin 4) (us : Fin 1000) (x : Fin 4) (r : Ready) (s : State), Settled s →
    let q := s.seg g
    let k := s.ctx g x
    let at_ := s.time.clock * 1000 + max s.time.us us.val
    let due := fun (y : Fin 4) (n : Ready) =>
      if n.spaced then n.since + max q.pace.txGap (s.ctx g y).ecuGap * 100 else n.since
    let held := fun (y : Fin 4) (n : Ready) => n.kind = .part ∧
      ∃ e, (s.ctx g y).partEnd = some e ∧ at_ < e + max q.pace.txGap (s.ctx g y).ecuGap * 100
    q.ctl.sends = true → q.offered = none → (∀ e, q.lastEnd = some e → e + q.pace.txGap * 100 ≤ at_) →
    k.ready = some r → due x r ≤ at_ →
    (held x r → (∀ y, y ≠ x → (s.ctx g y).ready = none) → exec (.frameOffer g us) s = .next s) ∧
    (¬held x r →
    (∀ y n, y ≠ x → (s.ctx g y).ready = some n → due x r < due y n ∨ (due x r = due y n ∧ x < y) ∨ held y n) →
    ∃ t o, exec (.frameOffer g us) s = .next t ∧ (t.seg g).offered = some o ∧ o.ctx = some x ∧ o.kind = r.kind ∧
      o.frame.id = k.reqId ∧ o.frame.remote = false ∧
      (let bytes := o.frame.data.toList.take o.frame.dlc.val
       (r.kind = .short → k.length ≤ 7 → bytes = byte (0x10 + k.length) :: s.payloadBytes k.payload 0 k.length) ∧
       (r.kind = .opening →
         bytes = [byte (0x20 + k.length / 256), byte k.length, k.tag] ++ s.payloadBytes k.payload 0 5) ∧
       (r.kind = .part → bytes = [byte (0x30 + k.tag.toNat % 16), k.nextPart] ++
         s.payloadBytes k.payload k.sent (min 6 (k.length - k.sent))) ∧
       (r.kind = .credit → bytes = [0x40, byte q.pace.credit, byte q.pace.rxGap] ∧ o.credit = q.pace.credit)) ∧
      t.ctx g x = { k with ready := none } ∧ (∀ y, y ≠ x → t.ctx g y = s.ctx g y) ∧
      t.seg g = { q with offered := some o, ctxs := (t.seg g).ctxs } ∧ (∀ h, h ≠ g → t.seg h = s.seg h) ∧
      t.time = { s.time with us := max s.time.us us.val } ∧ t = { s with segs := t.segs, time := t.time })

/-- OWN_FRAME_ACKNOWLEDGED on a segment with nothing queued, for a frame that is not the state frame (R65, R70, R76, R77,
R81, R94): the frame is counted, TEC falls by 1 and the state follows, and the context goes on by the kind of its frame. The
instants in microseconds are the model's choice (log 6). -/
def Obligations.OwnFrameAcknowledged : Prop :=
  ∀ (g : Fin 4) (us : Fin 1000) (o : Offered) (s : State), Settled s → ErrorsAgree s → LanesEmpty s g →
    let q := s.seg g
    q.offered = some o → o.frame.id ≠ s.ps.active.veh.canId →
    ∃ t, exec (.ownFrameAcknowledged g us) s = .next t ∧
      (t.seg g).offered = none ∧ (t.seg g).sent = q.sent + 1 ∧ BitsCounted s t g (frameBits o.frame) ∧
      (t.seg g).lastEnd = some (s.time.clock * 1000 + max s.time.us us.val) ∧
      CountsFollow s t g (q.tecCount - 1) q.recCount ∧
      (∀ x, o.ctx ≠ some x → t.ctx g x = s.ctx g x) ∧
      (∀ x, o.ctx = some x →
        let k := s.ctx g x
        let sent := k.sent + o.carried.length
        let credit := if o.kind = .part then k.credit.map (· - 1) else k.credit
        let wait := fun (n : Nat) => some (s.time.clock + n)
        (t.ctx g x).touched = true ∧ (t.ctx g x).sent = sent ∧ (t.ctx g x).credit = credit ∧
        (t.ctx g x).nextPart = (if o.kind = .part then k.nextPart + 1 else k.nextPart) ∧
        (t.ctx g x).partEnd = (if o.kind = .part then some (s.time.clock * 1000 + max s.time.us us.val) else k.partEnd) ∧
        (o.kind = .short ∨ (o.kind = .part ∧ k.length ≤ sent) →
          (t.ctx g x).st = .awaitResponse ∧ (t.ctx g x).timer = wait k.respWait) ∧
        (o.kind = .opening ∨ (o.kind = .part ∧ sent < k.length ∧ credit = some 0) →
          (t.ctx g x).st = .awaitCredit ∧ (t.ctx g x).timer = wait s.ps.active.segs[g].creditWait) ∧
        (o.kind = .part → sent < k.length → credit ≠ some 0 → (t.ctx g x).st = k.st ∧
          (t.ctx g x).ready = some ⟨.part, s.time.clock * 1000 + max s.time.us us.val, true⟩) ∧
        (o.kind = .credit → (t.ctx g x).st = k.st ∧ (t.ctx g x).timer = wait s.ps.active.segs[g].partWait ∧
          (t.ctx g x).granted = if o.credit = 0 then none else some o.credit)) ∧
      t.seg g = { q with offered := none, sent := (t.seg g).sent, lastEnd := (t.seg g).lastEnd, subBits := (t.seg g).subBits
                         winBits := (t.seg g).winBits, ctl := (t.seg g).ctl, tecCount := (t.seg g).tecCount
                         recCount := (t.seg g).recCount, ctxs := (t.seg g).ctxs, counter := (t.seg g).counter } ∧
      (∀ h, h ≠ g → t.seg h = s.seg h) ∧ t.time = { s.time with us := max s.time.us us.val } ∧
      t.regs = { s.regs with event := s.regs.event ||| ctlEvents s t g, irq := irqOf t.regs } ∧
      t = { s with segs := t.segs, time := t.time, regs := t.regs, mem := t.mem } ∧ MemFrame s t (Within (segBase g) 128)

/-- TRANSMIT_ERROR and RECEIVE_ERROR that leave the controller sending, on a segment with nothing queued (R64, R65, R70, R94): the
error frame is counted, TEC rises by 8 or REC by 1 up to 255, and the state follows; a frame received in error is not
acknowledged (R69). In a state that does not send neither count
moves. TRANSMIT_ERROR that brings TEC above 255 (R67): the controller is OFF, the frame is dropped, the bus-off is counted, the
recovery count is 0, EVENT SEGMENT is set, every context is FREE, and a lone busy context has failed with SEGMENT_OFF (R86): the
EXCHANGE cell has ended, the transfer has failed (R119, R135), or the cycle has failed (R148). The entries that wait stay. The sample
fields of a cycle that fails with part of its response written are the model's choice (log 35). -/
def Obligations.BusErrors : Prop :=
  (∀ (g : Fin 4) (s : State), Settled s → ErrorsAgree s → LanesEmpty s g →
    let q := s.seg g
    let effect := fun (t : State) (tec rec_ : Nat) (ack : Bool) =>
      (t.seg g).errorFrames = q.errorFrames + 1 ∧ BitsCounted s t g 20 ∧ CountsFollow s t g tec rec_ ∧
        t.seg g = { q with errorFrames := (t.seg g).errorFrames, subBits := (t.seg g).subBits, winBits := (t.seg g).winBits,
                           ctl := (t.seg g).ctl, tecCount := (t.seg g).tecCount, recCount := (t.seg g).recCount,
                           ack := ack, counter := (t.seg g).counter } ∧
        (∀ h, h ≠ g → t.seg h = s.seg h) ∧
        t.regs = { s.regs with event := s.regs.event ||| ctlEvents s t g, irq := irqOf t.regs } ∧
        t = { s with segs := t.segs, regs := t.regs, mem := t.mem } ∧ MemFrame s t (Within (segBase g) 128)
    (q.offered ≠ none → q.tecCount + 8 ≤ 255 →
      ∃ t, exec (.transmitError g) s = .next t ∧ effect t (q.tecCount + 8) q.recCount q.ack) ∧
    ∃ t, exec (.receiveError g) s = .next t ∧ effect t q.tecCount (min (q.recCount + 1) 255) false) ∧
  ∀ (g : Fin 4) (s : State), Settled s →
    let q := s.seg g
    q.offered ≠ none → q.ctl.sends = true → 255 < q.tecCount + 8 →
    ∃ t, exec (.transmitError g) s = .next t ∧ (t.seg g).ctl = .off ∧ (t.seg g).offered = none ∧
      (t.seg g).busOff = q.busOff + 1 ∧ (t.seg g).recovery = 0 ∧ (t.seg g).tecCount = q.tecCount + 8 ∧
      t.regs.event.getLsbD 4 = true ∧ ContextsFree t g ∧
      (∀ x, (s.ctx g x).st ≠ .free → (∀ y, y ≠ x → (s.ctx g y).st = .free) → (s.ctx g x).role = .exchange →
        let c := (s.ctx g x).cell
        EndsFailed t c .transport .segmentOff ∧ (t.seg g).lanes = q.lanes ∧ (∀ d, d ≠ c → t.cell d = s.cell d) ∧
        (∀ h, h ≠ g → t.seg h = s.seg h) ∧
        t = { s with board := t.board, regs := t.regs, mem := t.mem, chans := t.chans, segs := t.segs } ∧
        MemFrame s t fun a => EndPlaces c a ∨ Within (segBase g) 128 a ∨
          ∃ ch, channelNamed (s.cell c).captured = some ch ∧ Within (chanBase ch) 32 a) ∧
      ∀ x, LoneContext s g x →
        let k := s.ctx g x
        let c := k.cell
        let frame := (t.seg g).lanes = q.lanes ∧ (∀ d, d ≠ c → t.cell d = s.cell d) ∧ (∀ h, h ≠ g → t.seg h = s.seg h) ∧
          t = { s with board := t.board, regs := t.regs, mem := t.mem, info := t.info, chans := t.chans, segs := t.segs
                       transfers := t.transfers, slots := t.slots, watches := t.watches, cm := t.cm } ∧
          MemFrame s t (TransferPlaces c)
        (∀ r, k.role.ofTransfer → s.transfer c = some r →
          TransferExchangeFails s t g x c r .segmentOff (q.lastFrame x) ∧ t.watches = s.watches ∧ frame) ∧
        ∀ w, k.role = .cycle → s.watch c = some w → s.entryOf c = none →
          CycleFails s t g x c w .segmentOff (q.lastFrame x) ∧ t.transfers = s.transfers ∧ t.slots = s.slots ∧ frame

/-- FRAME_COMPLETED that no context takes, on a segment with nothing queued (R64, R65, R69, R70, R83, R94, R164): the frame is
acknowledged in every state but JOINING and OFF, and counted; REC falls by 1 and the state follows; a response identifier makes it stray; and an accepted state frame on an idle
part brings the vehicle states up to date, with EVENT VEHICLE if one changed. The instants in microseconds are the model's
choice (log 6). -/
def Obligations.FrameObserved : Prop :=
  ∀ (g : Fin 4) (us : Fin 1000) (f : CanFrame) (s : State), Settled s → ErrorsAgree s → LanesEmpty s g →
    let q := s.seg g
    let v := s.ps.active.veh
    let isState := v.seg = g.val ∧ f.id = v.canId ∧ f.remote = false ∧ v.engineOff + 2 ≤ f.dlc.val ∧ v.roadOff + 2 ≤ f.dlc.val
    let field := fun (i : Nat) => (f.data.toList.getD i 0).toNat * 256 + (f.data.toList.getD (i + 1) 0).toNat
    let engine := if v.running < field v.engineOff then Engine.running else .stopped
    let motion := if field v.roadOff ≤ v.stationary then Motion.stationary else .moving
    let response := s.isResponseId g f.id = true
    (∀ x, (s.ctx g x).respId = f.id → (s.ctx g x).st = .free ∨ (s.ctx g x).st = .sending) → (isState → Idle s) →
    ∃ t, exec (.frameCompleted g us f) s = .next t ∧
      (t.seg g).received = q.received + 1 ∧ BitsCounted s t g (frameBits f) ∧
      CountsFollow s t g q.tecCount (q.recCount - 1) ∧
      (t.seg g).stray = q.stray + (if response then 1 else 0) ∧
      t.seg g = { q with received := (t.seg g).received, subBits := (t.seg g).subBits, winBits := (t.seg g).winBits,
                         ctl := (t.seg g).ctl, tecCount := (t.seg g).tecCount, recCount := (t.seg g).recCount,
                         stray := (t.seg g).stray, ack := decide (q.ctl ≠ .joining ∧ q.ctl ≠ .off)
                         counter := (t.seg g).counter } ∧
      (∀ h, h ≠ g → t.seg h = s.seg h) ∧ t.time = { s.time with us := max s.time.us us.val } ∧
      (¬isState → t.vsm = s.vsm ∧ t.info = s.info ∧
        t.regs = { s.regs with event := s.regs.event ||| ctlEvents s t g, irq := irqOf t.regs } ∧
        MemFrame s t (Within (segBase g) 128)) ∧
      (isState → t.vsm = { s.vsm with engine := engine, motion := motion, lastFrame := some s.time.clock } ∧
        (¬(s.vsm.engine = engine ∧ s.vsm.motion = motion) →
          t.mem.bytes 0x21 2 = [byte engine.code, byte motion.code] ∧ t.regs.event.getLsbD 6 = true ∧
            t.info = { s.info with counter := s.info.counter + 1 }) ∧
        (s.vsm.engine = engine ∧ s.vsm.motion = motion →
          t.info = s.info ∧ t.regs.event = s.regs.event ||| ctlEvents s t g) ∧
        MemFrame s t fun a => Within (segBase g) 128 a ∨ InfoPlaces 0x21 2 a) ∧
      t = { s with segs := t.segs, time := t.time, vsm := t.vsm, info := t.info, regs := t.regs, mem := t.mem }

/-- FRAME_COMPLETED with a CREDIT for a lone context that awaits one (R78): PROCEED lets it send its next PART, a WAIT
within the limit restarts the credit wait, and one beyond it or a REFUSE ends its EXCHANGE cell FAILED; with an OPEN for one
that awaits a response that is no hold (R79, R81, R84, R85, R105): the first five bytes are stored, it is RECEIVING, and it
makes a CREDIT ready. For one that is RECEIVING such a response (R73, R81, R82, R84 to R86): a malformed frame ends its cell FAILED
FRAME_ERROR, any frame but the next PART of the credit FAILED SEQUENCE_ERROR, and that PART is stored; the last one ends the cell
DONE with the response length, and one that spends the credit makes a CREDIT ready. The instants in microseconds, and the moment
at which the CREDIT is built, are the model's choice (log 6, log 7). -/
def Obligations.CreditAndOpen : Prop :=
  ∀ (g x : Fin 4) (us : Fin 1000) (f : CanFrame) (s : State), Settled s → ErrorsAgree s → LanesEmpty s g →
    let q := s.seg g
    let k := s.ctx g x
    let at_ := s.time.clock * 1000 + max s.time.us us.val
    let b := fun (i : Nat) => f.data.toList.getD i 0
    let frame := fun (t : State) => (∀ y, y ≠ x → t.ctx g y = s.ctx g y) ∧ (∀ h, h ≠ g → t.seg h = s.seg h) ∧
      (t.seg g).lanes = q.lanes ∧ (∀ d, d ≠ k.cell → t.cell d = s.cell d) ∧ t.board.posts = s.board.posts ∧
      (∀ ch, channelNamed (s.cell k.cell).captured ≠ some ch → t.chan ch = s.chan ch) ∧
      t = { s with board := t.board, regs := t.regs, mem := t.mem, chans := t.chans, segs := t.segs, time := t.time }
    let quiet := fun (t : State) => frame t ∧ t.board = s.board ∧ t.chans = s.chans ∧ MemFrame s t (Within (segBase g) 128)
    let ended := fun (t : State) => frame t ∧ (t.ctx g x).st = .free ∧ MemFrame s t fun a => EndPlaces k.cell a ∨
      Within (segBase g) 128 a ∨ ∃ ch, channelNamed (s.cell k.cell).captured = some ch ∧ Within (chanBase ch) 32 a
    f.remote = false → f.id = k.respId → f.id ≠ s.ps.active.veh.canId → k.role = .exchange →
    (∀ y, y ≠ x → (s.ctx g y).st = .free) →
    (k.st = .awaitCredit → 3 ≤ f.dlc.val →
      (b 0 = 0x40 → ∃ t, exec (.frameCompleted g us f) s = .next t ∧ quiet t ∧
        t.ctx g x = { k with st := .sending, timer := none, waits := 0, last := (4, 0)
                             credit := if b 1 = 0 then none else some (b 1).toNat
                             ecuGap := min (b 2).toNat 250, ready := some ⟨.part, at_, false⟩ }) ∧
      (b 0 = 0x41 → k.waits < 8 → ∃ t, exec (.frameCompleted g us f) s = .next t ∧ quiet t ∧
        t.ctx g x = { k with waits := k.waits + 1, last := (4, 0)
                             timer := some (s.time.clock + s.ps.active.segs[g].creditWait) }) ∧
      (b 0 = 0x41 → 8 ≤ k.waits → ∃ t, exec (.frameCompleted g us f) s = .next t ∧
        EndsFailed t k.cell .transport .creditTimeout ∧ ended t) ∧
      (b 0 = 0x42 → ∃ t, exec (.frameCompleted g us f) s = .next t ∧
        EndsFailed t k.cell .transport .creditRefused ∧ ended t)) ∧
    (k.st = .awaitResponse → f.dlc.val = 8 → (b 0).toNat / 16 = 2 →
      let len := (b 0).toNat % 16 * 256 + (b 1).toNat
      let buffer := responseRef (s.cell k.cell).captured
      let form := if b 3 = 0xFE ∧ (b 4).toNat = k.service then Form.refusal
        else if (b 3).toNat = k.service + 0x80 then .positive else .other
      8 ≤ len → ¬(b 3 = 0xFD ∧ (b 4).toNat = k.service) → 0x8000 ≤ buffer.addr → buffer.addr + buffer.len ≤ 0x10000 →
      ∃ t, exec (.frameCompleted g us f) s = .next t ∧ frame t ∧ (t.ctx g x).st = .receiving ∧ (t.ctx g x).timer = none ∧
        (t.ctx g x).form = form ∧ (t.ctx g x).expected = len ∧ (t.ctx g x).received = 5 ∧ (t.ctx g x).nextIn = 1 ∧
        (t.ctx g x).ecuTag = b 2 ∧ (t.ctx g x).truncated = (k.truncated || decide (buffer.len < 5)) ∧
        (t.ctx g x).ready = some ⟨.credit, at_, false⟩ ∧
        t.mem.bytes buffer.addr (min 5 buffer.len) = ([b 3, b 4, b 5, b 6, b 7].take buffer.len) ∧
        t.board = s.board ∧ t.chans = s.chans ∧
        MemFrame s t fun a => Within (segBase g) 128 a ∨ Within buffer.addr (min 5 buffer.len) a) ∧
    (k.st = .receiving → k.form ≠ .hold →
      let todo := k.expected - k.received
      let n := min 6 todo
      let kind := (b 0).toNat / 16
      let low := (b 0).toNat % 16
      let badForm := f.dlc.val = 0 ∨ kind = 0 ∨ 5 ≤ kind ∨ (kind = 1 ∧ (low = 0 ∨ f.dlc.val < low + 1)) ∨
        (kind = 2 ∧ (f.dlc.val < 8 ∨ low * 256 + (b 1).toNat < 8)) ∨ (kind = 3 ∧ (f.dlc.val < 3 ∨ f.dlc.val < 2 + n)) ∨
        (kind = 4 ∧ (f.dlc.val < 3 ∨ 3 ≤ low))
      let inOrder := kind = 3 ∧ k.granted ≠ some 0 ∧ low = k.ecuTag.toNat % 16 ∧ b 1 = k.nextIn
      let buffer := responseRef (s.cell k.cell).captured
      let held := min n (buffer.len - k.received)
      (badForm → ∃ t, exec (.frameCompleted g us f) s = .next t ∧ EndsFailed t k.cell .transport .frameError ∧ ended t) ∧
      (¬badForm → ¬inOrder →
        ∃ t, exec (.frameCompleted g us f) s = .next t ∧ EndsFailed t k.cell .transport .sequenceError ∧ ended t) ∧
      (¬badForm → inOrder → 0x8000 ≤ buffer.addr → buffer.addr + buffer.len ≤ 0x10000 →
        ∃ t, exec (.frameCompleted g us f) s = .next t ∧ frame t ∧
          t.mem.bytes (buffer.addr + k.received) held = (f.data.toList.drop 2).take held ∧
          (k.received + n < k.expected → (t.ctx g x).st = .receiving ∧ (t.ctx g x).received = k.received + n ∧
            (t.ctx g x).nextIn = k.nextIn + 1 ∧ (t.ctx g x).truncated = (k.truncated || decide (buffer.len < k.received + n)) ∧
            (if k.granted = some 1 then (t.ctx g x).ready = some ⟨.credit, at_, false⟩ ∧ (t.ctx g x).timer = none
              else (t.ctx g x).ready = k.ready ∧ (t.ctx g x).granted = k.granted.map (· - 1) ∧
                (t.ctx g x).timer = some (s.time.clock + s.ps.active.segs[g].partWait)) ∧
            t.board = s.board ∧ t.chans = s.chans ∧
            MemFrame s t fun a => Within (segBase g) 128 a ∨ Within (buffer.addr + k.received) held a) ∧
          (k.expected ≤ k.received + n → (t.ctx g x).st = .free ∧ EndsDone t k.cell ∧
            t.mem.bytes (cellBase k.cell + 66) 2 = le16 k.expected ∧
            MemFrame s t fun a => EndPlaces k.cell a ∨ Within (segBase g) 128 a ∨
              Within (buffer.addr + k.received) held a ∨
              ∃ ch, channelNamed (s.cell k.cell).captured = some ch ∧ Within (chanBase ch) 32 a)))

/-- FRAME_COMPLETED with a whole SHORT response for a lone context of an EXCHANGE that awaits one (R73, R79, R84 to R86): its
bytes are stored up to the capacity, the cell ends DONE with the response length, a refusal is flagged and accrued, and the
context is FREE. For a lone context of a watch's cycle (R146, R147, R149, R150): its bytes are stored, the sequence word moves on by
two, the sample fields, counts and any notification are published, and the watch goes on, or ends DONE at its cycle limit, or ends by
a pending cause, which is one of R149's; its cell has no entry in a lane, as R48 says of a cell in a context. For a lone context of
any exchange (R80): a hold reply is counted and starts the wait afresh, with the extension that it asks for, and after sixteen holds
the next fails the exchange with HOLD_LIMIT, and with it the cell, the transfer (R119, R135) or the cycle (R148). That the count of
cycles done holds at 65,535, the sample fields of a cycle that fails, and the bytes of the last cycle fault before one or at stage
QUEUE, are the model's choices (log 35, log 53). -/
def Obligations.ShortResponse : Prop :=
  (∀ (g x : Fin 4) (us : Fin 1000) (f : CanFrame) (w : Watch) (s : State), Settled s → ErrorsAgree s → LanesEmpty s g →
    let k := s.ctx g x
    let c := k.cell
    let b := fun (i : Nat) => f.data.toList.getD i 0
    let n := (b 0).toNat % 16
    let buffer := responseRef (s.cell c).captured
    let m := min n buffer.len
    let refusal := b 1 = 0xFE ∧ (b 2).toNat = k.service ∧ 3 ≤ n
    let form := if refusal then 2 else if (b 1).toNat = k.service + 0x80 then 1 else 3
    let cut := k.truncated || decide (buffer.len < n)
    let u := { w with
      touched := w.touched || k.touched, seq := w.seq + 2, done := min (w.done + 1) 0xFFFF, consecutive := 0, out := .none
      sample := { length := n, time := s.time.ms, form := form, refusal := if refusal then (b 3).toNat else 0
                  truncated := cut, valid := true } }
    let limit := w.limit ≠ 0 ∧ u.done = w.limit
    f.remote = false → f.id = k.respId → f.id ≠ s.ps.active.veh.canId → k.role = .cycle → k.st = .awaitResponse →
    s.watch c = some w → w.EndNamed → s.entryOf c = none → (∀ y, y ≠ x → (s.ctx g y).st = .free) →
    (b 0).toNat / 16 = 1 → 1 ≤ n → n + 1 ≤ f.dlc.val → ¬(b 1 = 0xFD ∧ (n = 1 ∨ (b 2).toNat = k.service)) →
    0x8000 ≤ buffer.addr → buffer.addr + buffer.len ≤ 0x10000 →
    ∃ t, exec (.frameCompleted g us f) s = .next t ∧ t.mem.bytes buffer.addr m = ((f.data.toList.drop 1).take m) ∧
      t.mem.bytes (cellBase c + 66) 2 = le16 n ∧ t.mem.bytes (cellBase c + 100) 28 = u.kindBytes ∧
      t.ctx g x = Ctx.free ∧ (∀ y, y ≠ x → t.ctx g y = s.ctx g y) ∧ (∀ h, h ≠ g → t.seg h = s.seg h) ∧
      (t.chan w.channel).accrued = (s.chan w.channel).accrued ||| (if refusal then Flag.ecuRefused.bit else 0) |||
        (if cut then Flag.truncated.bit else 0) ∧ (∀ ch, ch ≠ w.channel → t.chan ch = s.chan ch) ∧
      (w.notify = true → t.regs.done.getLsbD c.val = true) ∧
      (¬limit → w.pending = none → t.watches = s.watches.set c (some u) ∧ t.board = s.board ∧
        (w.notify = false → t.regs.done = s.regs.done)) ∧
      (limit → t.watches = s.watches.set c none ∧ EndsDone t c ∧ OnlyCellState s t c) ∧
      (∀ reason, ¬limit → w.pending = some reason → t.watches = s.watches.set c none ∧ OnlyCellState s t c ∧
        (reason = .aborted → EndsDone t c) ∧ (reason ≠ .aborted → EndsFailed t c .policy reason)) ∧
      t = { s with board := t.board, regs := t.regs, mem := t.mem, chans := t.chans, segs := t.segs, time := t.time
                   watches := t.watches } ∧
      MemFrame s t fun a => EndPlaces c a ∨ Within (segBase g) 128 a ∨ Within buffer.addr m a ∨
        Within (chanBase w.channel) 32 a) ∧
  (∀ (g x : Fin 4) (us : Fin 1000) (f : CanFrame) (s : State), Settled s → ErrorsAgree s → LanesEmpty s g →
    let k := s.ctx g x
    let c := k.cell
    let b := fun (i : Nat) => f.data.toList.getD i 0
    let n := (b 0).toNat % 16
    let buffer := responseRef (s.cell c).captured
    let m := min n buffer.len
    let hold := b 1 = 0xFD ∧ (n = 1 ∨ (b 2).toNat = k.service)
    let refusal := b 1 = 0xFE ∧ (b 2).toNat = k.service ∧ 3 ≤ n
    f.remote = false → f.id = k.respId → f.id ≠ s.ps.active.veh.canId → k.role = .exchange → k.st = .awaitResponse →
    (∀ y, y ≠ x → (s.ctx g y).st = .free) →
    (b 0).toNat / 16 = 1 → 1 ≤ n → n + 1 ≤ f.dlc.val → 0x8000 ≤ buffer.addr → buffer.addr + buffer.len ≤ 0x10000 →
    ¬hold → ∃ t, exec (.frameCompleted g us f) s = .next t ∧ EndsDone t c ∧
      t.mem.bytes buffer.addr m = ((f.data.toList.drop 1).take m) ∧ t.mem.bytes (cellBase c + 66) 2 = le16 n ∧
      t.mem.read (cellBase c + 65) = byte (flagBit (k.truncated || decide (buffer.len < n)) 0 +
        flagBit (s.cell c).abortPending 1 + flagBit (decide refusal) 3) ∧
      (∀ ch, channelNamed (s.cell c).captured = some ch → refusal → (t.chan ch).accrued.getLsbD 3 = true) ∧
      (∀ ch, channelNamed (s.cell c).captured ≠ some ch → t.chan ch = s.chan ch) ∧
      t.ctx g x = Ctx.free ∧ (∀ y, y ≠ x → t.ctx g y = s.ctx g y) ∧ (∀ h, h ≠ g → t.seg h = s.seg h) ∧
      (t.seg g).received = (s.seg g).received + 1 ∧ (t.seg g).busy = (s.seg g).busy.filter (· != k.target) ∧
      OnlyCellState s t c ∧
      t = { s with board := t.board, regs := t.regs, mem := t.mem, chans := t.chans, segs := t.segs, time := t.time } ∧
      MemFrame s t fun a => EndPlaces c a ∨ Within (segBase g) 128 a ∨ Within buffer.addr m a ∨
        ∃ ch, channelNamed (s.cell c).captured = some ch ∧ Within (chanBase ch) 32 a) ∧
  ∀ (g x : Fin 4) (us : Fin 1000) (f : CanFrame) (s : State), Settled s → ErrorsAgree s → LanesEmpty s g →
    let k := s.ctx g x
    let c := k.cell
    let b := fun (i : Nat) => f.data.toList.getD i 0
    let n := (b 0).toNat % 16
    let others := fun (t : State) => (∀ y, y ≠ x → t.ctx g y = s.ctx g y) ∧ (∀ h, h ≠ g → t.seg h = s.seg h) ∧
      (t.seg g).received = (s.seg g).received + 1
    f.remote = false → f.id = k.respId → f.id ≠ s.ps.active.veh.canId → k.st = .awaitResponse →
    (∀ y, y ≠ x → (s.ctx g y).st = .free) →
    (b 0).toNat / 16 = 1 → 1 ≤ n → n + 1 ≤ f.dlc.val → b 1 = 0xFD → n = 1 ∨ (b 2).toNat = k.service →
    (k.holds < 16 → ∃ t, exec (.frameCompleted g us f) s = .next t ∧ (t.ctx g x).st = .awaitResponse ∧
      (t.ctx g x).holds = k.holds + 1 ∧
      (t.ctx g x).timer = some (s.time.clock + (if n < 3 ∨ b 3 = 0 then 1 else min (b 3).toNat 50) * 100) ∧
      (t.seg g).busy = (s.seg g).busy ∧ others t ∧
      t = { s with regs := t.regs, mem := t.mem, segs := t.segs, time := t.time } ∧ MemFrame s t (Within (segBase g) 128)) ∧
    (16 ≤ k.holds →
      let ends := fun (t : State) => exec (.frameCompleted g us f) s = .next t ∧ t.ctx g x = Ctx.free ∧ others t ∧
        OnlyCellState s t c
      (k.role = .exchange → ∃ t, ends t ∧ ExchangeFails s t g x c .holdLimit (1, 0) ∧
        (∀ ch, channelNamed (s.cell c).captured ≠ some ch → t.chan ch = s.chan ch) ∧
        t = { s with board := t.board, regs := t.regs, mem := t.mem, chans := t.chans, segs := t.segs, time := t.time } ∧
        MemFrame s t fun a => EndPlaces c a ∨ Within (segBase g) 128 a ∨
          ∃ ch, channelNamed (s.cell c).captured = some ch ∧ Within (chanBase ch) 32 a) ∧
      (∀ r, k.role.ofTransfer → s.transfer c = some r → ∃ t, ends t ∧ TransferExchangeFails s t g x c r .holdLimit (1, 0) ∧
        t = { s with board := t.board, regs := t.regs, mem := t.mem, info := t.info, chans := t.chans, segs := t.segs
                     transfers := t.transfers, slots := t.slots, cm := t.cm, time := t.time } ∧
        MemFrame s t (TransferPlaces c)) ∧
      (∀ w, k.role = .cycle → s.watch c = some w → s.entryOf c = none → ∃ t, ends t ∧
        CycleFails (s.modCtx g x fun k => { k with form := .hold, refusal := 0 }) t g x c w .holdLimit (1, 0) ∧
        t = { s with board := t.board, regs := t.regs, mem := t.mem, chans := t.chans, segs := t.segs, time := t.time
                     watches := t.watches } ∧
        MemFrame s t fun a => EndPlaces c a ∨ Within (segBase g) 128 a ∨
          ∃ ch, (ch = w.channel ∨ channelNamed (s.cell c).captured = some ch) ∧ Within (chanBase ch) 32 a))

/-- FRAME_COMPLETED with a positive SHORT response to the DATA exchange of a streaming transfer (R119, R125, R129, R137 to R139):
the block is acknowledged and folded into the CRC, and its slot and the context are FREE. With blocks left, of which the next is not
yet HELD, the progress shows it and the feed timer starts; with the next HELD and its lane paused, its slot is SENDING and its DATA
exchange joins the lane (R49, R124, R126); after the last block of a transfer without END and VERIFY the cell ends DONE and a latch
that names its ECU is cleared (R44, R131). To the VERIFY exchange (R130, R131): the two bytes at the CRC offset are taken, and where
they equal the CRC the cell ends DONE so, and else FAILED at stage TRANSFER with VERIFY_MISMATCH. That what comes next is handed
over in the same step, how often the progress is written, and that the verify value in the progress is 0 while its presence mark is
clear, are the model's choices (log 16, log 20, log 51). -/
def Obligations.BlockAcknowledged : Prop :=
  ∀ (g x : Fin 4) (us : Fin 1000) (f : CanFrame) (r : Transfer) (s : State),
    Settled s → ErrorsAgree s → LanesEmpty s g →
    let k := s.ctx g x
    let c := k.cell
    let cap := (s.cell c).captured
    let b := fun (i : Nat) => f.data.toList.getD i 0
    let len := (b 0).toNat % 16
    let others := fun (t : State) => (∀ d, d ≠ c → t.transfer d = s.transfer d) ∧
      (∀ y, y ≠ x → t.ctx g y = s.ctx g y) ∧ (∀ h, h ≠ g → t.seg h = s.seg h) ∧ t.ctx g x = Ctx.free
    f.remote = false → f.id = k.respId → f.id ≠ s.ps.active.veh.canId → k.st = .awaitResponse →
    (∀ y, y ≠ x → (s.ctx g y).st = .free) → (b 0).toNat / 16 = 1 → 1 ≤ len →
    len + 1 ≤ f.dlc.val → (b 1).toNat = k.service + 0x80 → b 1 ≠ 0xFD → b 1 ≠ 0xFE →
    s.transfer c = some r → r.withdrawn = none →
    (∀ n : Fin 8, k.role = .data → r.phase = .streaming → r.out = some ⟨.data, r.acked, true⟩ →
      s.slotWith c r.acked .sending = some n →
      let u := { r with
        touched := r.touched || k.touched, out := none, acked := r.acked + 1
        bytes := r.bytes + blockLength cap r.acked, crc := crc16 r.crc k.blockBytes, progress := r.progress + 1
        ka := if (keepaliveRef cap).len = 0 then none else some (s.time.clock + keepaliveInterval cap) }
      (r.pending = none → r.acked + 1 < blockCount cap → s.slotWith c (r.acked + 1) .held = none →
        ∃ t v, exec (.frameCompleted g us f) s = .next t ∧ t.transfer c = some v ∧
          v = { u with feed := some (s.time.clock + feedTimeout cap) } ∧
          t.slot n = { s.slot n with st := .free } ∧ t.mem.word (slotBase n) = 0 ∧
          t.mem.bytes (cellBase c + 100) 28 = v.progressBytes cap ∧ (∀ m, m ≠ n → t.slot m = s.slot m) ∧ others t ∧
          t = { s with mem := t.mem, regs := t.regs, segs := t.segs, time := t.time, slots := t.slots
                       transfers := t.transfers } ∧
          MemFrame s t fun a => Within (cellBase c + 100) 28 a ∨ Within (slotBase n) 2 a ∨ Within (segBase g) 128 a) ∧
      (∀ m, r.pending = none → r.acked + 1 < blockCount cap → s.slotWith c (r.acked + 1) .held = some m →
        s.segmentOf r.target = some g → s.enabled g = true →
        let lane := Lane.ofCode (s.ps.active.lanes[g])[s.classIndex r.codes.data]
        (s.seg g).pace.pauses lane = true →
        ∃ t v e, exec (.frameCompleted g us f) s = .next t ∧ t.transfer c = some v ∧
          v = { u with feed := none, out := some ⟨.data, r.acked + 1, false⟩ } ∧
          t.slot n = { s.slot n with st := .free } ∧ t.slot m = { s.slot m with st := .sending } ∧
          t.mem.word (slotBase n) = 0 ∧ t.mem.word (slotBase m) = 3 ∧
          t.mem.bytes (cellBase c + 100) 28 = v.progressBytes cap ∧
          (∀ j, j ≠ n → j ≠ m → t.slot j = s.slot j) ∧ (t.seg g).lanes = Lanes.only e ∧ e.cell = c ∧ e.role = .data ∧
          e.target = r.target ∧ e.lane = lane ∧ e.deadline = s.time.ms + BitVec.ofNat 32 (queueLimit cap 30000) ∧ others t ∧
          t = { s with mem := t.mem, regs := t.regs, segs := t.segs, time := t.time, slots := t.slots
                       transfers := t.transfers } ∧
          MemFrame s t fun a => Within (cellBase c + 100) 28 a ∨ Within (slotBase n) 2 a ∨ Within (slotBase m) 2 a ∨
            Within (segBase g) 128 a) ∧
      (r.acked + 1 = blockCount cap → (endRef cap).len = 0 → (verifyRef cap).len = 0 →
        ∃ t, exec (.frameCompleted g us f) s = .next t ∧ TransferEndsDone s t c r ∧
          t.slot n = { s.slot n with st := .free } ∧ (∀ m, m ≠ n → t.slot m = s.slot m) ∧ others t ∧
          t.mem.bytes (cellBase c + 100) 28 = ({ u with phase := .done, progress := r.progress + 2 }).progressBytes cap)) ∧
    (k.role = .verify → r.phase = .verifying → r.out = some ⟨.verify, 0, true⟩ → k.verifyHi = none → k.verifyLo = none →
      let o := crcOffset cap
      let value := if o + 2 ≤ len then some (BitVec.ofNat 16 ((b (o + 1)).toNat * 256 + (b (o + 2)).toNat)) else none
      ∃ t, exec (.frameCompleted g us f) s = .next t ∧ others t ∧
        (value = some r.crc → TransferEndsDone s t c r ∧ t.slots = s.slots ∧
          t.mem.bytes (cellBase c + 100) 28 =
            ({ r with phase := .done, verify := value, progress := r.progress + 1 }).progressBytes cap) ∧
        (value ≠ some r.crc → TransferFailed s t c { r with touched := r.touched || k.touched } .verifyMismatch ∧
          t.mem.bytes (cellBase c + 100) 28 =
            ({ r with phase := .failed, verify := value, progress := r.progress + 1 }).progressBytes cap))

/-- The CRC-16 (R128), stated bit by bit: over the bytes most significant bit first, each step shifts left and takes in 1021h
when the bit that leaves differs from the bit that enters. Over 31h to 39h it gives 29B1h, and over no bytes FFFFh. -/
def Obligations.CrcBitSerial : Prop :=
  let bit := fun (crc : Word16) (b : Bool) => if crc.msb != b then (crc <<< 1) ^^^ 0x1021#16 else crc <<< 1
  (∀ (crc : Word16) (bs : List Byte),
    crc16 crc bs = (bs.flatMap fun b => (List.range 8).map fun i => b.getLsbD (7 - i)).foldl bit crc) ∧
    crc16 crcInit ((List.range 9).map fun i => byte (0x31 + i)) = 0x29B1#16 ∧ crc16 crcInit [] = 0xFFFF#16

/-- The three waits of a context, on a segment with nothing queued (R78, R79, R82, R86): each ends its exchange with its own reason
and transport detail, and the context is FREE. The cell of an EXCHANGE ends FAILED; a transfer fails (R119, R135, R136); and a cycle of
a watch is a failed cycle (R148). That an expiry acts at or after its instant, and the sample fields of a cycle that fails with
part of its response written, are the model's choices (log 4, log 35). -/
def Obligations.WaitExpiries : Prop :=
  ∀ (g x : Fin 4) (s : State), Settled s → LanesEmpty s g →
    let k := s.ctx g x
    let c := k.cell
    let freed := fun (t : State) => t.ctx g x = Ctx.free ∧ (∀ y, y ≠ x → t.ctx g y = s.ctx g y) ∧
      t.seg g = { s.seg g with ctxs := (t.seg g).ctxs, busy := (s.seg g).busy.filter (· != k.target),
                               offered := (t.seg g).offered, counter := (t.seg g).counter } ∧
      (∀ h, h ≠ g → t.seg h = s.seg h)
    let fails := fun (i : Instr) (reason : Reason) (detail : Nat × Nat) =>
      (k.role = .exchange → ∃ t, exec i s = .next t ∧ freed t ∧ ExchangeFails s t g x c reason detail ∧
        (∀ ch, channelNamed (s.cell c).captured ≠ some ch → t.chan ch = s.chan ch) ∧ OnlyCellState s t c ∧ EndRegs s t c 0 ∧
        t = { s with board := t.board, regs := t.regs, mem := t.mem, chans := t.chans, segs := t.segs } ∧
        MemFrame s t fun a => EndPlaces c a ∨ Within (segBase g) 128 a ∨
          ∃ ch, channelNamed (s.cell c).captured = some ch ∧ Within (chanBase ch) 32 a) ∧
      (∀ r, k.role.ofTransfer → s.transfer c = some r → ∃ t, exec i s = .next t ∧ freed t ∧
        TransferExchangeFails s t g x c r reason detail ∧ OnlyCellState s t c ∧
        t = { s with board := t.board, regs := t.regs, mem := t.mem, info := t.info, chans := t.chans, segs := t.segs
                     transfers := t.transfers, slots := t.slots, cm := t.cm } ∧ MemFrame s t (TransferPlaces c)) ∧
      (∀ w, k.role = .cycle → s.watch c = some w → s.entryOf c = none → ∃ t, exec i s = .next t ∧ freed t ∧
        CycleFails s t g x c w reason detail ∧ OnlyCellState s t c ∧
        t = { s with board := t.board, regs := t.regs, mem := t.mem, chans := t.chans, segs := t.segs, watches := t.watches } ∧
        MemFrame s t fun a => EndPlaces c a ∨ Within (segBase g) 128 a ∨
          ∃ ch, (ch = w.channel ∨ channelNamed (s.cell c).captured = some ch) ∧ Within (chanBase ch) 32 a)
    s.due k.timer = true →
    (k.st = .awaitCredit → fails (.creditWaitExpiry g x) .creditTimeout (4, k.lastPart)) ∧
    (k.st = .awaitResponse →
      fails (.responseWaitExpiry g x) .responseTimeout (if k.length ≤ 7 then (1, 0) else (3, k.lastPart))) ∧
    (k.st = .receiving → fails (.partWaitExpiry g x) .partTimeout (3, k.nextIn.toNat))

/-- JOIN_COMPLETE, RECESSIVE_RUN_COUNTED and BUS_OFF_RECOVERY on a segment with nothing queued (R66, R68): JOINING becomes
ONLINE; in OFF with automatic recovery each run is counted, and at 128 the controller is ONLINE; both with error counts 0
and EVENT SEGMENT. Without the flag the count stays. That the count stops at 128, and the step of the segment's change
counter, are the model's choice (log 32, log 20). -/
def Obligations.JoinAndRecovery : Prop :=
  ∀ (g : Fin 4) (s : State), Settled s → LanesEmpty s g →
    let q := s.seg g
    let online := fun (t : State) =>
      t.seg g = { q with ctl := .online, tecCount := 0, recCount := 0, recovery := 0, counter := q.counter + 1 } ∧
        t.mem.read (segBase g + 2) = 1 ∧ (∀ h, h ≠ g → t.seg h = s.seg h) ∧
        t.regs = { s.regs with event := s.regs.event ||| Event.segment.bit, irq := irqOf t.regs } ∧
        t = { s with segs := t.segs, regs := t.regs, mem := t.mem } ∧ MemFrame s t (Within (segBase g) 128)
    (q.ctl = .joining → ∃ t, exec (.joinComplete g) s = .next t ∧ online t) ∧
    (q.ctl = .off → s.ps.active.segs[g].autoRecovery = true → q.recovery < 128 →
      exec (.recessiveRunCounted g) s = .next { s with segs := upd s.segs g fun q => { q with recovery := q.recovery + 1 } }) ∧
    (q.ctl = .off → s.ps.active.segs[g].autoRecovery = true → q.recovery = 128 →
      ∃ t, exec (.busOffRecovery g) s = .next t ∧ online t) ∧
    (s.ps.active.segs[g].autoRecovery = false →
      exec (.recessiveRunCounted g) s = .next s ∧ exec (.busOffRecovery g) s = .next s)

/-! ### Timers of transfers, watches and time -/

/-- FEED_TIMER_EXPIRY (R123, R125, R132, R136): a streaming transfer with nothing outstanding ends FAILED FEED_TIMEOUT and is
released, its HELD and SENDING slots are FREE, and a lamp indication that changes is shown with the mode (R158).
KEEPALIVE_TIMER_EXPIRY (R126, R127) on a segment that can start nothing: the waiting entry is withdrawn from its lane and a KEEPALIVE entry joins URGENT, behind the entries that wait there. That an expiry
acts at or after its instant, and the step of the segment's change counter, are the model's choice (log 4, log 20). -/
def Obligations.TransferTimers : Prop :=
  ∀ (c : Fin 32) (r : Transfer) (g : Fin 4) (s : State), Settled s → s.transfer c = some r →
    (s.due r.feed = true → r.out = none → r.pending = none → s.entryOf c = none →
      ∃ t, exec (.feedTimerExpiry c) s = .next t ∧ TransferFailed s t c r .feedTimeout ∧ t.segs = s.segs ∧
        t.cm = { s.cm with lampInd := t.cm.lampInd, lit := t.cm.lit, blink := t.cm.blink } ∧ LampShows s t ∧
        t = { s with board := t.board, regs := t.regs, mem := t.mem, info := t.info, chans := t.chans, slots := t.slots,
                     transfers := t.transfers, cm := t.cm } ∧
        MemFrame s t fun a => EndPlaces c a ∨ (∃ n : Fin 8, (s.slot n).owner = c.val ∧ Within (slotBase n) 2 a) ∨
          (∃ ch, (ch = r.channel ∨ channelNamed (s.cell c).captured = some ch) ∧ Within (chanBase ch) 32 a) ∨
          InfoPlaces 0x19 2 a) ∧
    (s.due r.ka = true → s.segmentOf r.target = some g → s.enabled g = true → Waits s g →
      let joins := fun (t : State) (lanes : Lanes) => ∃ e, (t.seg g).lanes = { lanes with urgent := lanes.urgent ++ [e] } ∧
        e.cell = c ∧ e.role = .keepalive ∧ e.target = r.target ∧ e.lane = .urgent ∧
        e.deadline = s.time.ms + BitVec.ofNat 32 (queueLimit (s.cell c).captured 30000)
      (r.out = none → s.entryOf c = none → ∃ t, exec (.keepaliveTimerExpiry c) s = .next t ∧
        t.transfer c = some { r with ka := none, withdrawn := none, out := some ⟨.keepalive, 0, false⟩ } ∧
        joins t (s.seg g).lanes ∧
        t.seg g = { s.seg g with lanes := (t.seg g).lanes, counter := (s.seg g).counter + 1 } ∧
        (∀ d, d ≠ c → t.transfer d = s.transfer d) ∧ (∀ h, h ≠ g → t.seg h = s.seg h) ∧
        t = { s with mem := t.mem, segs := t.segs, transfers := t.transfers } ∧ MemFrame s t (Within (segBase g) 128)) ∧
      (∀ o h e, r.out = some o → o.inCtx = false → s.entryOf c = some (h, e) →
        ∃ t, exec (.keepaliveTimerExpiry c) s = .next t ∧
          t.transfer c = some { r with ka := none, withdrawn := some (h, e, o.block), out := some ⟨.keepalive, 0, false⟩ } ∧
          joins t (if h = g then (s.seg g).lanes.without c else (s.seg g).lanes) ∧
          (h ≠ g →
            t.seg h = { s.seg h with lanes := (s.seg h).lanes.without c, counter := (s.seg h).counter + 1 }) ∧
          t.seg g = { s.seg g with
            lanes := (t.seg g).lanes, counter := (s.seg g).counter + (if h = g then 2 else 1) } ∧
          (∀ d, d ≠ c → t.transfer d = s.transfer d) ∧ (∀ j, j ≠ g → j ≠ h → t.seg j = s.seg j) ∧
          t = { s with mem := t.mem, segs := t.segs, transfers := t.transfers } ∧
          MemFrame s t fun a => Within (segBase g) 128 a ∨ Within (segBase h) 128 a))

/-- WATCH_DUE (R143, R144, R151): the next due time is one effective period after the one reached; a cycle that finds the
last one outstanding is skipped; one that is admitted joins its lane on a segment that can start nothing; one that a vehicle
condition denies is skipped; and one denied for any other reason ends the watch FAILED at stage ADMISSION with that reason (R150,
R171, R175). That an instant is reached is read modulo 2^32, and the bytes of the last cycle fault before one or at stage QUEUE, are
the model's choices (log 5, log 53). -/
def Obligations.WatchDue : Prop :=
  ∀ (c : Fin 32) (w : Watch) (s : State), Settled s → s.watch c = some w → s.reached w.nextDue = true →
    let units := w.period * s.stretchOf w.target
    let next := { w with nextDue := w.nextDue + BitVec.ofNat 32 (units * 10), effective := units }
    (w.out ≠ .none → ∃ t u, exec (.watchDue c) s = .next t ∧ t.watch c = some u ∧
      u = { next with skipped := min (w.skipped + 1) 0xFFFF } ∧ t.mem.bytes (cellBase c + 108) 20 = u.countBytes ∧
      (∀ d, d ≠ c → t.watch d = s.watch d) ∧ t = { s with watches := t.watches, mem := t.mem } ∧
      MemFrame s t (Within (cellBase c + 108) 20)) ∧
    (∀ grant g, w.out = .none → s.admission true (plainRequest w.channel w.service w.target) = .allow grant g → Waits s g →
      ∃ t u e, exec (.watchDue c) s = .next t ∧ t.watch c = some u ∧
        u = { next with grant := grant, grantId := u.grantId, out := .lane } ∧
        (t.seg g).lanes = (s.seg g).lanes.mod e.lane (· ++ [e]) ∧ e.cell = c ∧ e.role = .cycle ∧ e.target = w.target ∧
        e.lane = Lane.ofCode (s.ps.active.lanes[g])[s.classIndex w.service] ∧
        e.deadline = s.time.ms + BitVec.ofNat 32 (queueLimit (s.cell c).captured 2000) ∧
        t.cell c = { s.cell c with grant := grant } ∧ (∀ d, d ≠ c → t.cell d = s.cell d ∧ t.watch d = s.watch d) ∧
        t.board.posts = s.board.posts ∧ (∀ h, h ≠ g → t.seg h = s.seg h) ∧
        t = { s with board := t.board, watches := t.watches, mem := t.mem, segs := t.segs } ∧
        MemFrame s t fun a => Within (cellBase c + 108) 20 a ∨ Within (segBase g) 128 a) ∧
    ∀ reason d j, w.out = .none → s.admission true (plainRequest w.channel w.service w.target) = .deny reason d j →
      (reason.isVehicle = true → ∃ t u, exec (.watchDue c) s = .next t ∧ t.watch c = some u ∧
        u = { next with skipped := min (w.skipped + 1) 0xFFFF } ∧ t.mem.bytes (cellBase c + 108) 20 = u.countBytes ∧
        (∀ e, e ≠ c → t.watch e = s.watch e) ∧ t = { s with watches := t.watches, mem := t.mem } ∧
        MemFrame s t (Within (cellBase c + 108) 20)) ∧
      (reason.isVehicle = false → s.entryOf c = none → ∃ t, exec (.watchDue c) s = .next t ∧
        EndsFailed t c .admission reason ∧ t.watches = s.watches.set c none ∧
        t.mem.read (cellBase c + 87) = byte (match d with
          | some d => d.code
          | none => 0) ∧
        (t.mem.read (cellBase c + 85)).getLsbD 7 = w.touched ∧ t.mem.bytes (cellBase c + 108) 20 = next.countBytes ∧
        (∀ ch, channelNamed (s.cell c).captured = some ch → (t.chan ch).accrued = (s.chan ch).accrued ||| Flag.denied.bit) ∧
        (∀ ch, channelNamed (s.cell c).captured ≠ some ch → t.chan ch = s.chan ch) ∧ OnlyCellState s t c ∧ EndRegs s t c 0 ∧
        t = { s with board := t.board, regs := t.regs, mem := t.mem, chans := t.chans, watches := t.watches } ∧
        MemFrame s t fun a => EndPlaces c a ∨ ∃ ch, channelNamed (s.cell c).captured = some ch ∧ Within (chanBase ch) 32 a)

/-- The commands of time (R42, R158, R191): a millisecond advances the counter and its field, a second the seconds counter and the
remaining times of suspended channels, the end of a suspension returns its channel to NORMAL with EVENT CHANNEL, and the end of a
blink half turns the lamp over. That a tick moves the model's clock, that SECONDS_TICK waits for a thousand milliseconds, and that the
end of a suspension is one update of its channel's record, with one step of the change counter, are the model's choices (log 4, log
21, log 20). -/
def Obligations.TimeCommands : Prop :=
  ∀ s : State, Settled s →
    (s.phase = .running → ∃ t, exec .millisecondTick s = .next t ∧
      t.time = { s.time with ms := s.time.ms + 1, prescale := s.time.prescale + 1, clock := s.time.clock + 1, us := 0 } ∧
      t.mem.bytes 0x10 4 = le32 (s.time.ms + 1).toNat ∧ t.info = { s.info with counter := s.info.counter + 1 } ∧
      t = { s with time := t.time, mem := t.mem, info := t.info } ∧ MemFrame s t (InfoPlaces 0x10 4)) ∧
    (s.phase ≠ .running →
      exec .millisecondTick s = .next { s with time := { s.time with clock := s.time.clock + 1, us := 0 } }) ∧
    (s.phase = .running → 1000 ≤ s.time.prescale → ∃ t, exec .secondsTick s = .next t ∧
      t.time = { s.time with sec := s.time.sec + 1, prescale := s.time.prescale - 1000 } ∧
      t.mem.bytes 0x14 4 = le32 (s.time.sec + 1).toNat ∧
      (∀ ch, t.chan ch = if (s.chan ch).suspended = true ∧ (s.chan ch).remaining ≠ 0
        then { s.chan ch with remaining := (s.chan ch).remaining - 1, counter := (s.chan ch).counter + 1 } else s.chan ch) ∧
      t.info = { s.info with counter := s.info.counter + 1 } ∧
      t = { s with time := t.time, mem := t.mem, info := t.info, chans := t.chans } ∧
      MemFrame s t fun a => InfoPlaces 0x14 4 a ∨ ∃ ch : Fin 8, (s.chan ch).suspended = true ∧ Within (chanBase ch) 32 a) ∧
    (∀ ch : Fin 8, (s.chan ch).suspended = true → (s.chan ch).remaining = 0 → ∃ t, exec (.suspensionEnd ch) s = .next t ∧
      t.chan ch = { s.chan ch with suspended := false, remaining := 0, run := 0, counter := (s.chan ch).counter + 1 } ∧
      (∀ j, j ≠ ch → t.chan j = s.chan j) ∧
      t.regs = { s.regs with event := s.regs.event ||| Event.channel.bit, irq := irqOf t.regs } ∧
      t = { s with chans := t.chans, mem := t.mem, regs := t.regs } ∧ MemFrame s t (Within (chanBase ch) 32)) ∧
    (∀ d : Nat, s.cm.lampInd = .blink → s.cm.blink = some d → d ≤ s.time.clock →
      exec .lampBlinkToggle s = .next { s with cm := { s.cm with lit := !s.cm.lit, blink := some (d + 500) } })
end

