-- ==== Sys2Proof/Laws/State.lean ====
section
/-! SUPPORT. One lemma for each field under each update of State, and what a record reads after an update of its table. -/

namespace Sys2Proof.Machine

variable (s : State)

@[simp] theorem State.wr_phase (a : Nat) (bs : List Byte) : (s.wr a bs).phase = s.phase := rfl
@[simp] theorem State.wr_mem (a : Nat) (bs : List Byte) : (s.wr a bs).mem = s.mem.write a bs := rfl
@[simp] theorem State.wr_regs (a : Nat) (bs : List Byte) : (s.wr a bs).regs = s.regs := rfl
@[simp] theorem State.wr_board (a : Nat) (bs : List Byte) : (s.wr a bs).board = s.board := rfl
@[simp] theorem State.wr_info (a : Nat) (bs : List Byte) : (s.wr a bs).info = s.info := rfl
@[simp] theorem State.wr_time (a : Nat) (bs : List Byte) : (s.wr a bs).time = s.time := rfl
@[simp] theorem State.wr_ps (a : Nat) (bs : List Byte) : (s.wr a bs).ps = s.ps := rfl
@[simp] theorem State.wr_chans (a : Nat) (bs : List Byte) : (s.wr a bs).chans = s.chans := rfl
@[simp] theorem State.wr_segs (a : Nat) (bs : List Byte) : (s.wr a bs).segs = s.segs := rfl
@[simp] theorem State.wr_transfers (a : Nat) (bs : List Byte) : (s.wr a bs).transfers = s.transfers := rfl
@[simp] theorem State.wr_slots (a : Nat) (bs : List Byte) : (s.wr a bs).slots = s.slots := rfl
@[simp] theorem State.wr_watches (a : Nat) (bs : List Byte) : (s.wr a bs).watches = s.watches := rfl
@[simp] theorem State.wr_cm (a : Nat) (bs : List Byte) : (s.wr a bs).cm = s.cm := rfl
@[simp] theorem State.wr_vsm (a : Nat) (bs : List Byte) : (s.wr a bs).vsm = s.vsm := rfl
@[simp] theorem State.wr_pending (a : Nat) (bs : List Byte) : (s.wr a bs).pending = s.pending := rfl

@[simp] theorem State.wrReserved_phase (runs : List Reserved) : (s.wrReserved runs).phase = s.phase := rfl
@[simp] theorem State.wrReserved_mem (runs : List Reserved) : (s.wrReserved runs).mem = s.mem.clear runs := rfl
@[simp] theorem State.wrReserved_regs (runs : List Reserved) : (s.wrReserved runs).regs = s.regs := rfl
@[simp] theorem State.wrReserved_board (runs : List Reserved) : (s.wrReserved runs).board = s.board := rfl
@[simp] theorem State.wrReserved_info (runs : List Reserved) : (s.wrReserved runs).info = s.info := rfl
@[simp] theorem State.wrReserved_time (runs : List Reserved) : (s.wrReserved runs).time = s.time := rfl
@[simp] theorem State.wrReserved_ps (runs : List Reserved) : (s.wrReserved runs).ps = s.ps := rfl
@[simp] theorem State.wrReserved_chans (runs : List Reserved) : (s.wrReserved runs).chans = s.chans := rfl
@[simp] theorem State.wrReserved_segs (runs : List Reserved) : (s.wrReserved runs).segs = s.segs := rfl
@[simp] theorem State.wrReserved_transfers (runs : List Reserved) : (s.wrReserved runs).transfers = s.transfers := rfl
@[simp] theorem State.wrReserved_slots (runs : List Reserved) : (s.wrReserved runs).slots = s.slots := rfl
@[simp] theorem State.wrReserved_watches (runs : List Reserved) : (s.wrReserved runs).watches = s.watches := rfl
@[simp] theorem State.wrReserved_cm (runs : List Reserved) : (s.wrReserved runs).cm = s.cm := rfl
@[simp] theorem State.wrReserved_vsm (runs : List Reserved) : (s.wrReserved runs).vsm = s.vsm := rfl
@[simp] theorem State.wrReserved_pending (runs : List Reserved) : (s.wrReserved runs).pending = s.pending := rfl

/-- Zeros stored in runs of RAM are so many stores. -/
theorem State.wrReserved_foldl (runs : List Reserved) :
    s.wrReserved runs = runs.foldl (fun s r => s.wr r.1 (s.mem.kept r.1 r.2.1 r.2.2)) s := by
  unfold State.wrReserved Mem.clear
  induction runs generalizing s with
  | nil => rfl
  | cons r runs ih => exact ih (s.wr r.1 _)

@[simp] theorem State.modRegs_phase (f : Regs → Regs) : (s.modRegs f).phase = s.phase := rfl
@[simp] theorem State.modRegs_mem (f : Regs → Regs) : (s.modRegs f).mem = s.mem := rfl
@[simp] theorem State.modRegs_regs (f : Regs → Regs) : (s.modRegs f).regs = f s.regs := rfl
@[simp] theorem State.modRegs_board (f : Regs → Regs) : (s.modRegs f).board = s.board := rfl
@[simp] theorem State.modRegs_info (f : Regs → Regs) : (s.modRegs f).info = s.info := rfl
@[simp] theorem State.modRegs_time (f : Regs → Regs) : (s.modRegs f).time = s.time := rfl
@[simp] theorem State.modRegs_ps (f : Regs → Regs) : (s.modRegs f).ps = s.ps := rfl
@[simp] theorem State.modRegs_chans (f : Regs → Regs) : (s.modRegs f).chans = s.chans := rfl
@[simp] theorem State.modRegs_segs (f : Regs → Regs) : (s.modRegs f).segs = s.segs := rfl
@[simp] theorem State.modRegs_transfers (f : Regs → Regs) : (s.modRegs f).transfers = s.transfers := rfl
@[simp] theorem State.modRegs_slots (f : Regs → Regs) : (s.modRegs f).slots = s.slots := rfl
@[simp] theorem State.modRegs_watches (f : Regs → Regs) : (s.modRegs f).watches = s.watches := rfl
@[simp] theorem State.modRegs_cm (f : Regs → Regs) : (s.modRegs f).cm = s.cm := rfl
@[simp] theorem State.modRegs_vsm (f : Regs → Regs) : (s.modRegs f).vsm = s.vsm := rfl
@[simp] theorem State.modRegs_pending (f : Regs → Regs) : (s.modRegs f).pending = s.pending := rfl

@[simp] theorem State.modInfo_phase (f : Info → Info) : (s.modInfo f).phase = s.phase := rfl
@[simp] theorem State.modInfo_mem (f : Info → Info) : (s.modInfo f).mem = s.mem := rfl
@[simp] theorem State.modInfo_regs (f : Info → Info) : (s.modInfo f).regs = s.regs := rfl
@[simp] theorem State.modInfo_board (f : Info → Info) : (s.modInfo f).board = s.board := rfl
@[simp] theorem State.modInfo_info (f : Info → Info) : (s.modInfo f).info = f s.info := rfl
@[simp] theorem State.modInfo_time (f : Info → Info) : (s.modInfo f).time = s.time := rfl
@[simp] theorem State.modInfo_ps (f : Info → Info) : (s.modInfo f).ps = s.ps := rfl
@[simp] theorem State.modInfo_chans (f : Info → Info) : (s.modInfo f).chans = s.chans := rfl
@[simp] theorem State.modInfo_segs (f : Info → Info) : (s.modInfo f).segs = s.segs := rfl
@[simp] theorem State.modInfo_transfers (f : Info → Info) : (s.modInfo f).transfers = s.transfers := rfl
@[simp] theorem State.modInfo_slots (f : Info → Info) : (s.modInfo f).slots = s.slots := rfl
@[simp] theorem State.modInfo_watches (f : Info → Info) : (s.modInfo f).watches = s.watches := rfl
@[simp] theorem State.modInfo_cm (f : Info → Info) : (s.modInfo f).cm = s.cm := rfl
@[simp] theorem State.modInfo_vsm (f : Info → Info) : (s.modInfo f).vsm = s.vsm := rfl
@[simp] theorem State.modInfo_pending (f : Info → Info) : (s.modInfo f).pending = s.pending := rfl

@[simp] theorem State.modTime_phase (f : Time → Time) : (s.modTime f).phase = s.phase := rfl
@[simp] theorem State.modTime_mem (f : Time → Time) : (s.modTime f).mem = s.mem := rfl
@[simp] theorem State.modTime_regs (f : Time → Time) : (s.modTime f).regs = s.regs := rfl
@[simp] theorem State.modTime_board (f : Time → Time) : (s.modTime f).board = s.board := rfl
@[simp] theorem State.modTime_info (f : Time → Time) : (s.modTime f).info = s.info := rfl
@[simp] theorem State.modTime_time (f : Time → Time) : (s.modTime f).time = f s.time := rfl
@[simp] theorem State.modTime_ps (f : Time → Time) : (s.modTime f).ps = s.ps := rfl
@[simp] theorem State.modTime_chans (f : Time → Time) : (s.modTime f).chans = s.chans := rfl
@[simp] theorem State.modTime_segs (f : Time → Time) : (s.modTime f).segs = s.segs := rfl
@[simp] theorem State.modTime_transfers (f : Time → Time) : (s.modTime f).transfers = s.transfers := rfl
@[simp] theorem State.modTime_slots (f : Time → Time) : (s.modTime f).slots = s.slots := rfl
@[simp] theorem State.modTime_watches (f : Time → Time) : (s.modTime f).watches = s.watches := rfl
@[simp] theorem State.modTime_cm (f : Time → Time) : (s.modTime f).cm = s.cm := rfl
@[simp] theorem State.modTime_vsm (f : Time → Time) : (s.modTime f).vsm = s.vsm := rfl
@[simp] theorem State.modTime_pending (f : Time → Time) : (s.modTime f).pending = s.pending := rfl

@[simp] theorem State.modPs_phase (f : PS → PS) : (s.modPs f).phase = s.phase := rfl
@[simp] theorem State.modPs_mem (f : PS → PS) : (s.modPs f).mem = s.mem := rfl
@[simp] theorem State.modPs_regs (f : PS → PS) : (s.modPs f).regs = s.regs := rfl
@[simp] theorem State.modPs_board (f : PS → PS) : (s.modPs f).board = s.board := rfl
@[simp] theorem State.modPs_info (f : PS → PS) : (s.modPs f).info = s.info := rfl
@[simp] theorem State.modPs_time (f : PS → PS) : (s.modPs f).time = s.time := rfl
@[simp] theorem State.modPs_ps (f : PS → PS) : (s.modPs f).ps = f s.ps := rfl
@[simp] theorem State.modPs_chans (f : PS → PS) : (s.modPs f).chans = s.chans := rfl
@[simp] theorem State.modPs_segs (f : PS → PS) : (s.modPs f).segs = s.segs := rfl
@[simp] theorem State.modPs_transfers (f : PS → PS) : (s.modPs f).transfers = s.transfers := rfl
@[simp] theorem State.modPs_slots (f : PS → PS) : (s.modPs f).slots = s.slots := rfl
@[simp] theorem State.modPs_watches (f : PS → PS) : (s.modPs f).watches = s.watches := rfl
@[simp] theorem State.modPs_cm (f : PS → PS) : (s.modPs f).cm = s.cm := rfl
@[simp] theorem State.modPs_vsm (f : PS → PS) : (s.modPs f).vsm = s.vsm := rfl
@[simp] theorem State.modPs_pending (f : PS → PS) : (s.modPs f).pending = s.pending := rfl

@[simp] theorem State.modCm_phase (f : CM → CM) : (s.modCm f).phase = s.phase := rfl
@[simp] theorem State.modCm_mem (f : CM → CM) : (s.modCm f).mem = s.mem := rfl
@[simp] theorem State.modCm_regs (f : CM → CM) : (s.modCm f).regs = s.regs := rfl
@[simp] theorem State.modCm_board (f : CM → CM) : (s.modCm f).board = s.board := rfl
@[simp] theorem State.modCm_info (f : CM → CM) : (s.modCm f).info = s.info := rfl
@[simp] theorem State.modCm_time (f : CM → CM) : (s.modCm f).time = s.time := rfl
@[simp] theorem State.modCm_ps (f : CM → CM) : (s.modCm f).ps = s.ps := rfl
@[simp] theorem State.modCm_chans (f : CM → CM) : (s.modCm f).chans = s.chans := rfl
@[simp] theorem State.modCm_segs (f : CM → CM) : (s.modCm f).segs = s.segs := rfl
@[simp] theorem State.modCm_transfers (f : CM → CM) : (s.modCm f).transfers = s.transfers := rfl
@[simp] theorem State.modCm_slots (f : CM → CM) : (s.modCm f).slots = s.slots := rfl
@[simp] theorem State.modCm_watches (f : CM → CM) : (s.modCm f).watches = s.watches := rfl
@[simp] theorem State.modCm_cm (f : CM → CM) : (s.modCm f).cm = f s.cm := rfl
@[simp] theorem State.modCm_vsm (f : CM → CM) : (s.modCm f).vsm = s.vsm := rfl
@[simp] theorem State.modCm_pending (f : CM → CM) : (s.modCm f).pending = s.pending := rfl

@[simp] theorem State.modVsm_phase (f : VSM → VSM) : (s.modVsm f).phase = s.phase := rfl
@[simp] theorem State.modVsm_mem (f : VSM → VSM) : (s.modVsm f).mem = s.mem := rfl
@[simp] theorem State.modVsm_regs (f : VSM → VSM) : (s.modVsm f).regs = s.regs := rfl
@[simp] theorem State.modVsm_board (f : VSM → VSM) : (s.modVsm f).board = s.board := rfl
@[simp] theorem State.modVsm_info (f : VSM → VSM) : (s.modVsm f).info = s.info := rfl
@[simp] theorem State.modVsm_time (f : VSM → VSM) : (s.modVsm f).time = s.time := rfl
@[simp] theorem State.modVsm_ps (f : VSM → VSM) : (s.modVsm f).ps = s.ps := rfl
@[simp] theorem State.modVsm_chans (f : VSM → VSM) : (s.modVsm f).chans = s.chans := rfl
@[simp] theorem State.modVsm_segs (f : VSM → VSM) : (s.modVsm f).segs = s.segs := rfl
@[simp] theorem State.modVsm_transfers (f : VSM → VSM) : (s.modVsm f).transfers = s.transfers := rfl
@[simp] theorem State.modVsm_slots (f : VSM → VSM) : (s.modVsm f).slots = s.slots := rfl
@[simp] theorem State.modVsm_watches (f : VSM → VSM) : (s.modVsm f).watches = s.watches := rfl
@[simp] theorem State.modVsm_cm (f : VSM → VSM) : (s.modVsm f).cm = s.cm := rfl
@[simp] theorem State.modVsm_vsm (f : VSM → VSM) : (s.modVsm f).vsm = f s.vsm := rfl
@[simp] theorem State.modVsm_pending (f : VSM → VSM) : (s.modVsm f).pending = s.pending := rfl

@[simp] theorem State.setPosts_phase (l : List (Fin 32)) : (s.setPosts l).phase = s.phase := rfl
@[simp] theorem State.setPosts_mem (l : List (Fin 32)) : (s.setPosts l).mem = s.mem := rfl
@[simp] theorem State.setPosts_regs (l : List (Fin 32)) : (s.setPosts l).regs = s.regs := rfl
@[simp] theorem State.setPosts_board (l : List (Fin 32)) : (s.setPosts l).board = { s.board with posts := l } := rfl
@[simp] theorem State.setPosts_info (l : List (Fin 32)) : (s.setPosts l).info = s.info := rfl
@[simp] theorem State.setPosts_time (l : List (Fin 32)) : (s.setPosts l).time = s.time := rfl
@[simp] theorem State.setPosts_ps (l : List (Fin 32)) : (s.setPosts l).ps = s.ps := rfl
@[simp] theorem State.setPosts_chans (l : List (Fin 32)) : (s.setPosts l).chans = s.chans := rfl
@[simp] theorem State.setPosts_segs (l : List (Fin 32)) : (s.setPosts l).segs = s.segs := rfl
@[simp] theorem State.setPosts_transfers (l : List (Fin 32)) : (s.setPosts l).transfers = s.transfers := rfl
@[simp] theorem State.setPosts_slots (l : List (Fin 32)) : (s.setPosts l).slots = s.slots := rfl
@[simp] theorem State.setPosts_watches (l : List (Fin 32)) : (s.setPosts l).watches = s.watches := rfl
@[simp] theorem State.setPosts_cm (l : List (Fin 32)) : (s.setPosts l).cm = s.cm := rfl
@[simp] theorem State.setPosts_vsm (l : List (Fin 32)) : (s.setPosts l).vsm = s.vsm := rfl
@[simp] theorem State.setPosts_pending (l : List (Fin 32)) : (s.setPosts l).pending = s.pending := rfl

@[simp] theorem State.modCell_phase (c : Fin 32) (f : Cell → Cell) : (s.modCell c f).phase = s.phase := rfl
@[simp] theorem State.modCell_mem (c : Fin 32) (f : Cell → Cell) : (s.modCell c f).mem = s.mem := rfl
@[simp] theorem State.modCell_regs (c : Fin 32) (f : Cell → Cell) : (s.modCell c f).regs = s.regs := rfl
@[simp] theorem State.modCell_board (c : Fin 32) (f : Cell → Cell) : (s.modCell c f).board = { s.board with cells := upd s.board.cells c f } := rfl
@[simp] theorem State.modCell_info (c : Fin 32) (f : Cell → Cell) : (s.modCell c f).info = s.info := rfl
@[simp] theorem State.modCell_time (c : Fin 32) (f : Cell → Cell) : (s.modCell c f).time = s.time := rfl
@[simp] theorem State.modCell_ps (c : Fin 32) (f : Cell → Cell) : (s.modCell c f).ps = s.ps := rfl
@[simp] theorem State.modCell_chans (c : Fin 32) (f : Cell → Cell) : (s.modCell c f).chans = s.chans := rfl
@[simp] theorem State.modCell_segs (c : Fin 32) (f : Cell → Cell) : (s.modCell c f).segs = s.segs := rfl
@[simp] theorem State.modCell_transfers (c : Fin 32) (f : Cell → Cell) : (s.modCell c f).transfers = s.transfers := rfl
@[simp] theorem State.modCell_slots (c : Fin 32) (f : Cell → Cell) : (s.modCell c f).slots = s.slots := rfl
@[simp] theorem State.modCell_watches (c : Fin 32) (f : Cell → Cell) : (s.modCell c f).watches = s.watches := rfl
@[simp] theorem State.modCell_cm (c : Fin 32) (f : Cell → Cell) : (s.modCell c f).cm = s.cm := rfl
@[simp] theorem State.modCell_vsm (c : Fin 32) (f : Cell → Cell) : (s.modCell c f).vsm = s.vsm := rfl
@[simp] theorem State.modCell_pending (c : Fin 32) (f : Cell → Cell) : (s.modCell c f).pending = s.pending := rfl

@[simp] theorem State.modChan_phase (ch : Fin 8) (f : Chan → Chan) : (s.modChan ch f).phase = s.phase := rfl
@[simp] theorem State.modChan_mem (ch : Fin 8) (f : Chan → Chan) : (s.modChan ch f).mem = s.mem := rfl
@[simp] theorem State.modChan_regs (ch : Fin 8) (f : Chan → Chan) : (s.modChan ch f).regs = s.regs := rfl
@[simp] theorem State.modChan_board (ch : Fin 8) (f : Chan → Chan) : (s.modChan ch f).board = s.board := rfl
@[simp] theorem State.modChan_info (ch : Fin 8) (f : Chan → Chan) : (s.modChan ch f).info = s.info := rfl
@[simp] theorem State.modChan_time (ch : Fin 8) (f : Chan → Chan) : (s.modChan ch f).time = s.time := rfl
@[simp] theorem State.modChan_ps (ch : Fin 8) (f : Chan → Chan) : (s.modChan ch f).ps = s.ps := rfl
@[simp] theorem State.modChan_chans (ch : Fin 8) (f : Chan → Chan) : (s.modChan ch f).chans = upd s.chans ch f := rfl
@[simp] theorem State.modChan_segs (ch : Fin 8) (f : Chan → Chan) : (s.modChan ch f).segs = s.segs := rfl
@[simp] theorem State.modChan_transfers (ch : Fin 8) (f : Chan → Chan) : (s.modChan ch f).transfers = s.transfers := rfl
@[simp] theorem State.modChan_slots (ch : Fin 8) (f : Chan → Chan) : (s.modChan ch f).slots = s.slots := rfl
@[simp] theorem State.modChan_watches (ch : Fin 8) (f : Chan → Chan) : (s.modChan ch f).watches = s.watches := rfl
@[simp] theorem State.modChan_cm (ch : Fin 8) (f : Chan → Chan) : (s.modChan ch f).cm = s.cm := rfl
@[simp] theorem State.modChan_vsm (ch : Fin 8) (f : Chan → Chan) : (s.modChan ch f).vsm = s.vsm := rfl
@[simp] theorem State.modChan_pending (ch : Fin 8) (f : Chan → Chan) : (s.modChan ch f).pending = s.pending := rfl

@[simp] theorem State.modSeg_phase (g : Fin 4) (f : Seg → Seg) : (s.modSeg g f).phase = s.phase := rfl
@[simp] theorem State.modSeg_mem (g : Fin 4) (f : Seg → Seg) : (s.modSeg g f).mem = s.mem := rfl
@[simp] theorem State.modSeg_regs (g : Fin 4) (f : Seg → Seg) : (s.modSeg g f).regs = s.regs := rfl
@[simp] theorem State.modSeg_board (g : Fin 4) (f : Seg → Seg) : (s.modSeg g f).board = s.board := rfl
@[simp] theorem State.modSeg_info (g : Fin 4) (f : Seg → Seg) : (s.modSeg g f).info = s.info := rfl
@[simp] theorem State.modSeg_time (g : Fin 4) (f : Seg → Seg) : (s.modSeg g f).time = s.time := rfl
@[simp] theorem State.modSeg_ps (g : Fin 4) (f : Seg → Seg) : (s.modSeg g f).ps = s.ps := rfl
@[simp] theorem State.modSeg_chans (g : Fin 4) (f : Seg → Seg) : (s.modSeg g f).chans = s.chans := rfl
@[simp] theorem State.modSeg_segs (g : Fin 4) (f : Seg → Seg) : (s.modSeg g f).segs = upd s.segs g f := rfl
@[simp] theorem State.modSeg_transfers (g : Fin 4) (f : Seg → Seg) : (s.modSeg g f).transfers = s.transfers := rfl
@[simp] theorem State.modSeg_slots (g : Fin 4) (f : Seg → Seg) : (s.modSeg g f).slots = s.slots := rfl
@[simp] theorem State.modSeg_watches (g : Fin 4) (f : Seg → Seg) : (s.modSeg g f).watches = s.watches := rfl
@[simp] theorem State.modSeg_cm (g : Fin 4) (f : Seg → Seg) : (s.modSeg g f).cm = s.cm := rfl
@[simp] theorem State.modSeg_vsm (g : Fin 4) (f : Seg → Seg) : (s.modSeg g f).vsm = s.vsm := rfl
@[simp] theorem State.modSeg_pending (g : Fin 4) (f : Seg → Seg) : (s.modSeg g f).pending = s.pending := rfl

@[simp] theorem State.modCtx_phase (g x : Fin 4) (f : Ctx → Ctx) : (s.modCtx g x f).phase = s.phase := rfl
@[simp] theorem State.modCtx_mem (g x : Fin 4) (f : Ctx → Ctx) : (s.modCtx g x f).mem = s.mem := rfl
@[simp] theorem State.modCtx_regs (g x : Fin 4) (f : Ctx → Ctx) : (s.modCtx g x f).regs = s.regs := rfl
@[simp] theorem State.modCtx_board (g x : Fin 4) (f : Ctx → Ctx) : (s.modCtx g x f).board = s.board := rfl
@[simp] theorem State.modCtx_info (g x : Fin 4) (f : Ctx → Ctx) : (s.modCtx g x f).info = s.info := rfl
@[simp] theorem State.modCtx_time (g x : Fin 4) (f : Ctx → Ctx) : (s.modCtx g x f).time = s.time := rfl
@[simp] theorem State.modCtx_ps (g x : Fin 4) (f : Ctx → Ctx) : (s.modCtx g x f).ps = s.ps := rfl
@[simp] theorem State.modCtx_chans (g x : Fin 4) (f : Ctx → Ctx) : (s.modCtx g x f).chans = s.chans := rfl
@[simp] theorem State.modCtx_segs (g x : Fin 4) (f : Ctx → Ctx) : (s.modCtx g x f).segs = upd s.segs g fun q => { q with ctxs := upd q.ctxs x f } := rfl
@[simp] theorem State.modCtx_transfers (g x : Fin 4) (f : Ctx → Ctx) : (s.modCtx g x f).transfers = s.transfers := rfl
@[simp] theorem State.modCtx_slots (g x : Fin 4) (f : Ctx → Ctx) : (s.modCtx g x f).slots = s.slots := rfl
@[simp] theorem State.modCtx_watches (g x : Fin 4) (f : Ctx → Ctx) : (s.modCtx g x f).watches = s.watches := rfl
@[simp] theorem State.modCtx_cm (g x : Fin 4) (f : Ctx → Ctx) : (s.modCtx g x f).cm = s.cm := rfl
@[simp] theorem State.modCtx_vsm (g x : Fin 4) (f : Ctx → Ctx) : (s.modCtx g x f).vsm = s.vsm := rfl
@[simp] theorem State.modCtx_pending (g x : Fin 4) (f : Ctx → Ctx) : (s.modCtx g x f).pending = s.pending := rfl

@[simp] theorem State.setTransfer_phase (c : Fin 32) (t : Option Transfer) : (s.setTransfer c t).phase = s.phase := rfl
@[simp] theorem State.setTransfer_mem (c : Fin 32) (t : Option Transfer) : (s.setTransfer c t).mem = s.mem := rfl
@[simp] theorem State.setTransfer_regs (c : Fin 32) (t : Option Transfer) : (s.setTransfer c t).regs = s.regs := rfl
@[simp] theorem State.setTransfer_board (c : Fin 32) (t : Option Transfer) : (s.setTransfer c t).board = s.board := rfl
@[simp] theorem State.setTransfer_info (c : Fin 32) (t : Option Transfer) : (s.setTransfer c t).info = s.info := rfl
@[simp] theorem State.setTransfer_time (c : Fin 32) (t : Option Transfer) : (s.setTransfer c t).time = s.time := rfl
@[simp] theorem State.setTransfer_ps (c : Fin 32) (t : Option Transfer) : (s.setTransfer c t).ps = s.ps := rfl
@[simp] theorem State.setTransfer_chans (c : Fin 32) (t : Option Transfer) : (s.setTransfer c t).chans = s.chans := rfl
@[simp] theorem State.setTransfer_segs (c : Fin 32) (t : Option Transfer) : (s.setTransfer c t).segs = s.segs := rfl
@[simp] theorem State.setTransfer_transfers (c : Fin 32) (t : Option Transfer) : (s.setTransfer c t).transfers = s.transfers.set c t := rfl
@[simp] theorem State.setTransfer_slots (c : Fin 32) (t : Option Transfer) : (s.setTransfer c t).slots = s.slots := rfl
@[simp] theorem State.setTransfer_watches (c : Fin 32) (t : Option Transfer) : (s.setTransfer c t).watches = s.watches := rfl
@[simp] theorem State.setTransfer_cm (c : Fin 32) (t : Option Transfer) : (s.setTransfer c t).cm = s.cm := rfl
@[simp] theorem State.setTransfer_vsm (c : Fin 32) (t : Option Transfer) : (s.setTransfer c t).vsm = s.vsm := rfl
@[simp] theorem State.setTransfer_pending (c : Fin 32) (t : Option Transfer) : (s.setTransfer c t).pending = s.pending := rfl

@[simp] theorem State.modTransfer_phase (c : Fin 32) (f : Transfer → Transfer) : (s.modTransfer c f).phase = s.phase := rfl
@[simp] theorem State.modTransfer_mem (c : Fin 32) (f : Transfer → Transfer) : (s.modTransfer c f).mem = s.mem := rfl
@[simp] theorem State.modTransfer_regs (c : Fin 32) (f : Transfer → Transfer) : (s.modTransfer c f).regs = s.regs := rfl
@[simp] theorem State.modTransfer_board (c : Fin 32) (f : Transfer → Transfer) : (s.modTransfer c f).board = s.board := rfl
@[simp] theorem State.modTransfer_info (c : Fin 32) (f : Transfer → Transfer) : (s.modTransfer c f).info = s.info := rfl
@[simp] theorem State.modTransfer_time (c : Fin 32) (f : Transfer → Transfer) : (s.modTransfer c f).time = s.time := rfl
@[simp] theorem State.modTransfer_ps (c : Fin 32) (f : Transfer → Transfer) : (s.modTransfer c f).ps = s.ps := rfl
@[simp] theorem State.modTransfer_chans (c : Fin 32) (f : Transfer → Transfer) : (s.modTransfer c f).chans = s.chans := rfl
@[simp] theorem State.modTransfer_segs (c : Fin 32) (f : Transfer → Transfer) : (s.modTransfer c f).segs = s.segs := rfl
@[simp] theorem State.modTransfer_transfers (c : Fin 32) (f : Transfer → Transfer) : (s.modTransfer c f).transfers = upd s.transfers c (Option.map f) := rfl
@[simp] theorem State.modTransfer_slots (c : Fin 32) (f : Transfer → Transfer) : (s.modTransfer c f).slots = s.slots := rfl
@[simp] theorem State.modTransfer_watches (c : Fin 32) (f : Transfer → Transfer) : (s.modTransfer c f).watches = s.watches := rfl
@[simp] theorem State.modTransfer_cm (c : Fin 32) (f : Transfer → Transfer) : (s.modTransfer c f).cm = s.cm := rfl
@[simp] theorem State.modTransfer_vsm (c : Fin 32) (f : Transfer → Transfer) : (s.modTransfer c f).vsm = s.vsm := rfl
@[simp] theorem State.modTransfer_pending (c : Fin 32) (f : Transfer → Transfer) : (s.modTransfer c f).pending = s.pending := rfl

@[simp] theorem State.modSlot_phase (n : Fin 8) (f : Slot → Slot) : (s.modSlot n f).phase = s.phase := rfl
@[simp] theorem State.modSlot_mem (n : Fin 8) (f : Slot → Slot) : (s.modSlot n f).mem = s.mem := rfl
@[simp] theorem State.modSlot_regs (n : Fin 8) (f : Slot → Slot) : (s.modSlot n f).regs = s.regs := rfl
@[simp] theorem State.modSlot_board (n : Fin 8) (f : Slot → Slot) : (s.modSlot n f).board = s.board := rfl
@[simp] theorem State.modSlot_info (n : Fin 8) (f : Slot → Slot) : (s.modSlot n f).info = s.info := rfl
@[simp] theorem State.modSlot_time (n : Fin 8) (f : Slot → Slot) : (s.modSlot n f).time = s.time := rfl
@[simp] theorem State.modSlot_ps (n : Fin 8) (f : Slot → Slot) : (s.modSlot n f).ps = s.ps := rfl
@[simp] theorem State.modSlot_chans (n : Fin 8) (f : Slot → Slot) : (s.modSlot n f).chans = s.chans := rfl
@[simp] theorem State.modSlot_segs (n : Fin 8) (f : Slot → Slot) : (s.modSlot n f).segs = s.segs := rfl
@[simp] theorem State.modSlot_transfers (n : Fin 8) (f : Slot → Slot) : (s.modSlot n f).transfers = s.transfers := rfl
@[simp] theorem State.modSlot_slots (n : Fin 8) (f : Slot → Slot) : (s.modSlot n f).slots = upd s.slots n f := rfl
@[simp] theorem State.modSlot_watches (n : Fin 8) (f : Slot → Slot) : (s.modSlot n f).watches = s.watches := rfl
@[simp] theorem State.modSlot_cm (n : Fin 8) (f : Slot → Slot) : (s.modSlot n f).cm = s.cm := rfl
@[simp] theorem State.modSlot_vsm (n : Fin 8) (f : Slot → Slot) : (s.modSlot n f).vsm = s.vsm := rfl
@[simp] theorem State.modSlot_pending (n : Fin 8) (f : Slot → Slot) : (s.modSlot n f).pending = s.pending := rfl

@[simp] theorem State.setWatch_phase (c : Fin 32) (w : Option Watch) : (s.setWatch c w).phase = s.phase := rfl
@[simp] theorem State.setWatch_mem (c : Fin 32) (w : Option Watch) : (s.setWatch c w).mem = s.mem := rfl
@[simp] theorem State.setWatch_regs (c : Fin 32) (w : Option Watch) : (s.setWatch c w).regs = s.regs := rfl
@[simp] theorem State.setWatch_board (c : Fin 32) (w : Option Watch) : (s.setWatch c w).board = s.board := rfl
@[simp] theorem State.setWatch_info (c : Fin 32) (w : Option Watch) : (s.setWatch c w).info = s.info := rfl
@[simp] theorem State.setWatch_time (c : Fin 32) (w : Option Watch) : (s.setWatch c w).time = s.time := rfl
@[simp] theorem State.setWatch_ps (c : Fin 32) (w : Option Watch) : (s.setWatch c w).ps = s.ps := rfl
@[simp] theorem State.setWatch_chans (c : Fin 32) (w : Option Watch) : (s.setWatch c w).chans = s.chans := rfl
@[simp] theorem State.setWatch_segs (c : Fin 32) (w : Option Watch) : (s.setWatch c w).segs = s.segs := rfl
@[simp] theorem State.setWatch_transfers (c : Fin 32) (w : Option Watch) : (s.setWatch c w).transfers = s.transfers := rfl
@[simp] theorem State.setWatch_slots (c : Fin 32) (w : Option Watch) : (s.setWatch c w).slots = s.slots := rfl
@[simp] theorem State.setWatch_watches (c : Fin 32) (w : Option Watch) : (s.setWatch c w).watches = s.watches.set c w := rfl
@[simp] theorem State.setWatch_cm (c : Fin 32) (w : Option Watch) : (s.setWatch c w).cm = s.cm := rfl
@[simp] theorem State.setWatch_vsm (c : Fin 32) (w : Option Watch) : (s.setWatch c w).vsm = s.vsm := rfl
@[simp] theorem State.setWatch_pending (c : Fin 32) (w : Option Watch) : (s.setWatch c w).pending = s.pending := rfl

@[simp] theorem State.modWatch_phase (c : Fin 32) (f : Watch → Watch) : (s.modWatch c f).phase = s.phase := rfl
@[simp] theorem State.modWatch_mem (c : Fin 32) (f : Watch → Watch) : (s.modWatch c f).mem = s.mem := rfl
@[simp] theorem State.modWatch_regs (c : Fin 32) (f : Watch → Watch) : (s.modWatch c f).regs = s.regs := rfl
@[simp] theorem State.modWatch_board (c : Fin 32) (f : Watch → Watch) : (s.modWatch c f).board = s.board := rfl
@[simp] theorem State.modWatch_info (c : Fin 32) (f : Watch → Watch) : (s.modWatch c f).info = s.info := rfl
@[simp] theorem State.modWatch_time (c : Fin 32) (f : Watch → Watch) : (s.modWatch c f).time = s.time := rfl
@[simp] theorem State.modWatch_ps (c : Fin 32) (f : Watch → Watch) : (s.modWatch c f).ps = s.ps := rfl
@[simp] theorem State.modWatch_chans (c : Fin 32) (f : Watch → Watch) : (s.modWatch c f).chans = s.chans := rfl
@[simp] theorem State.modWatch_segs (c : Fin 32) (f : Watch → Watch) : (s.modWatch c f).segs = s.segs := rfl
@[simp] theorem State.modWatch_transfers (c : Fin 32) (f : Watch → Watch) : (s.modWatch c f).transfers = s.transfers := rfl
@[simp] theorem State.modWatch_slots (c : Fin 32) (f : Watch → Watch) : (s.modWatch c f).slots = s.slots := rfl
@[simp] theorem State.modWatch_watches (c : Fin 32) (f : Watch → Watch) : (s.modWatch c f).watches = upd s.watches c (Option.map f) := rfl
@[simp] theorem State.modWatch_cm (c : Fin 32) (f : Watch → Watch) : (s.modWatch c f).cm = s.cm := rfl
@[simp] theorem State.modWatch_vsm (c : Fin 32) (f : Watch → Watch) : (s.modWatch c f).vsm = s.vsm := rfl
@[simp] theorem State.modWatch_pending (c : Fin 32) (f : Watch → Watch) : (s.modWatch c f).pending = s.pending := rfl

@[simp] theorem State.event_phase (e : Event) : (s.event e).phase = s.phase := rfl
@[simp] theorem State.event_mem (e : Event) : (s.event e).mem = s.mem := rfl
@[simp] theorem State.event_regs (e : Event) : (s.event e).regs = { s.regs with event := s.regs.event ||| e.bit } := rfl
@[simp] theorem State.event_board (e : Event) : (s.event e).board = s.board := rfl
@[simp] theorem State.event_info (e : Event) : (s.event e).info = s.info := rfl
@[simp] theorem State.event_time (e : Event) : (s.event e).time = s.time := rfl
@[simp] theorem State.event_ps (e : Event) : (s.event e).ps = s.ps := rfl
@[simp] theorem State.event_chans (e : Event) : (s.event e).chans = s.chans := rfl
@[simp] theorem State.event_segs (e : Event) : (s.event e).segs = s.segs := rfl
@[simp] theorem State.event_transfers (e : Event) : (s.event e).transfers = s.transfers := rfl
@[simp] theorem State.event_slots (e : Event) : (s.event e).slots = s.slots := rfl
@[simp] theorem State.event_watches (e : Event) : (s.event e).watches = s.watches := rfl
@[simp] theorem State.event_cm (e : Event) : (s.event e).cm = s.cm := rfl
@[simp] theorem State.event_vsm (e : Event) : (s.event e).vsm = s.vsm := rfl
@[simp] theorem State.event_pending (e : Event) : (s.event e).pending = s.pending := rfl

@[simp] theorem State.setDone_phase (c : Fin 32) : (s.setDone c).phase = s.phase := rfl
@[simp] theorem State.setDone_mem (c : Fin 32) : (s.setDone c).mem = s.mem := rfl
@[simp] theorem State.setDone_regs (c : Fin 32) : (s.setDone c).regs = { s.regs with done := s.regs.done ||| (1#32 <<< c.val) } := rfl
@[simp] theorem State.setDone_board (c : Fin 32) : (s.setDone c).board = s.board := rfl
@[simp] theorem State.setDone_info (c : Fin 32) : (s.setDone c).info = s.info := rfl
@[simp] theorem State.setDone_time (c : Fin 32) : (s.setDone c).time = s.time := rfl
@[simp] theorem State.setDone_ps (c : Fin 32) : (s.setDone c).ps = s.ps := rfl
@[simp] theorem State.setDone_chans (c : Fin 32) : (s.setDone c).chans = s.chans := rfl
@[simp] theorem State.setDone_segs (c : Fin 32) : (s.setDone c).segs = s.segs := rfl
@[simp] theorem State.setDone_transfers (c : Fin 32) : (s.setDone c).transfers = s.transfers := rfl
@[simp] theorem State.setDone_slots (c : Fin 32) : (s.setDone c).slots = s.slots := rfl
@[simp] theorem State.setDone_watches (c : Fin 32) : (s.setDone c).watches = s.watches := rfl
@[simp] theorem State.setDone_cm (c : Fin 32) : (s.setDone c).cm = s.cm := rfl
@[simp] theorem State.setDone_vsm (c : Fin 32) : (s.setDone c).vsm = s.vsm := rfl
@[simp] theorem State.setDone_pending (c : Fin 32) : (s.setDone c).pending = s.pending := rfl

@[simp] theorem State.irqUpdate_phase : (s.irqUpdate).phase = s.phase := rfl
@[simp] theorem State.irqUpdate_mem : (s.irqUpdate).mem = s.mem := rfl
@[simp] theorem State.irqUpdate_regs : (s.irqUpdate).regs = { s.regs with irq := irqOf s.regs } := rfl
@[simp] theorem State.irqUpdate_board : (s.irqUpdate).board = s.board := rfl
@[simp] theorem State.irqUpdate_info : (s.irqUpdate).info = s.info := rfl
@[simp] theorem State.irqUpdate_time : (s.irqUpdate).time = s.time := rfl
@[simp] theorem State.irqUpdate_ps : (s.irqUpdate).ps = s.ps := rfl
@[simp] theorem State.irqUpdate_chans : (s.irqUpdate).chans = s.chans := rfl
@[simp] theorem State.irqUpdate_segs : (s.irqUpdate).segs = s.segs := rfl
@[simp] theorem State.irqUpdate_transfers : (s.irqUpdate).transfers = s.transfers := rfl
@[simp] theorem State.irqUpdate_slots : (s.irqUpdate).slots = s.slots := rfl
@[simp] theorem State.irqUpdate_watches : (s.irqUpdate).watches = s.watches := rfl
@[simp] theorem State.irqUpdate_cm : (s.irqUpdate).cm = s.cm := rfl
@[simp] theorem State.irqUpdate_vsm : (s.irqUpdate).vsm = s.vsm := rfl
@[simp] theorem State.irqUpdate_pending : (s.irqUpdate).pending = s.pending := rfl

@[simp] theorem State.atUs_phase (us : Fin 1000) : (s.atUs us).phase = s.phase := rfl
@[simp] theorem State.atUs_mem (us : Fin 1000) : (s.atUs us).mem = s.mem := rfl
@[simp] theorem State.atUs_regs (us : Fin 1000) : (s.atUs us).regs = s.regs := rfl
@[simp] theorem State.atUs_board (us : Fin 1000) : (s.atUs us).board = s.board := rfl
@[simp] theorem State.atUs_info (us : Fin 1000) : (s.atUs us).info = s.info := rfl
@[simp] theorem State.atUs_time (us : Fin 1000) : (s.atUs us).time = { s.time with us := max s.time.us us.val } := rfl
@[simp] theorem State.atUs_ps (us : Fin 1000) : (s.atUs us).ps = s.ps := rfl
@[simp] theorem State.atUs_chans (us : Fin 1000) : (s.atUs us).chans = s.chans := rfl
@[simp] theorem State.atUs_segs (us : Fin 1000) : (s.atUs us).segs = s.segs := rfl
@[simp] theorem State.atUs_transfers (us : Fin 1000) : (s.atUs us).transfers = s.transfers := rfl
@[simp] theorem State.atUs_slots (us : Fin 1000) : (s.atUs us).slots = s.slots := rfl
@[simp] theorem State.atUs_watches (us : Fin 1000) : (s.atUs us).watches = s.watches := rfl
@[simp] theorem State.atUs_cm (us : Fin 1000) : (s.atUs us).cm = s.cm := rfl
@[simp] theorem State.atUs_vsm (us : Fin 1000) : (s.atUs us).vsm = s.vsm := rfl
@[simp] theorem State.atUs_pending (us : Fin 1000) : (s.atUs us).pending = s.pending := rfl

@[simp] theorem State.hostWord_phase (a : Nat) (w : HostWrite) : (s.hostWord a w).phase = s.phase := rfl
@[simp] theorem State.hostWord_mem (a : Nat) (w : HostWrite) : (s.hostWord a w).mem = s.mem.hostWrite a w := rfl
@[simp] theorem State.hostWord_regs (a : Nat) (w : HostWrite) : (s.hostWord a w).regs = s.regs := rfl
@[simp] theorem State.hostWord_board (a : Nat) (w : HostWrite) : (s.hostWord a w).board = s.board := rfl
@[simp] theorem State.hostWord_info (a : Nat) (w : HostWrite) : (s.hostWord a w).info = s.info := rfl
@[simp] theorem State.hostWord_time (a : Nat) (w : HostWrite) : (s.hostWord a w).time = s.time := rfl
@[simp] theorem State.hostWord_ps (a : Nat) (w : HostWrite) : (s.hostWord a w).ps = s.ps := rfl
@[simp] theorem State.hostWord_chans (a : Nat) (w : HostWrite) : (s.hostWord a w).chans = s.chans := rfl
@[simp] theorem State.hostWord_segs (a : Nat) (w : HostWrite) : (s.hostWord a w).segs = s.segs := rfl
@[simp] theorem State.hostWord_transfers (a : Nat) (w : HostWrite) : (s.hostWord a w).transfers = s.transfers := rfl
@[simp] theorem State.hostWord_slots (a : Nat) (w : HostWrite) : (s.hostWord a w).slots = s.slots := rfl
@[simp] theorem State.hostWord_watches (a : Nat) (w : HostWrite) : (s.hostWord a w).watches = s.watches := rfl
@[simp] theorem State.hostWord_cm (a : Nat) (w : HostWrite) : (s.hostWord a w).cm = s.cm := rfl
@[simp] theorem State.hostWord_vsm (a : Nat) (w : HostWrite) : (s.hostWord a w).vsm = s.vsm := rfl
@[simp] theorem State.hostWord_pending (a : Nat) (w : HostWrite) : (s.hostWord a w).pending = s.pending := rfl

@[simp] theorem State.wrInfo_phase (off : Nat) (bs : List Byte) : (s.wrInfo off bs).phase = s.phase := rfl
@[simp] theorem State.wrInfo_mem (off : Nat) (bs : List Byte) : (s.wrInfo off bs).mem = s.mem.write off bs := rfl
@[simp] theorem State.wrInfo_regs (off : Nat) (bs : List Byte) : (s.wrInfo off bs).regs = s.regs := rfl
@[simp] theorem State.wrInfo_board (off : Nat) (bs : List Byte) : (s.wrInfo off bs).board = s.board := rfl
@[simp] theorem State.wrInfo_info (off : Nat) (bs : List Byte) : (s.wrInfo off bs).info = { s.info with dirty := true } := rfl
@[simp] theorem State.wrInfo_time (off : Nat) (bs : List Byte) : (s.wrInfo off bs).time = s.time := rfl
@[simp] theorem State.wrInfo_ps (off : Nat) (bs : List Byte) : (s.wrInfo off bs).ps = s.ps := rfl
@[simp] theorem State.wrInfo_chans (off : Nat) (bs : List Byte) : (s.wrInfo off bs).chans = s.chans := rfl
@[simp] theorem State.wrInfo_segs (off : Nat) (bs : List Byte) : (s.wrInfo off bs).segs = s.segs := rfl
@[simp] theorem State.wrInfo_transfers (off : Nat) (bs : List Byte) : (s.wrInfo off bs).transfers = s.transfers := rfl
@[simp] theorem State.wrInfo_slots (off : Nat) (bs : List Byte) : (s.wrInfo off bs).slots = s.slots := rfl
@[simp] theorem State.wrInfo_watches (off : Nat) (bs : List Byte) : (s.wrInfo off bs).watches = s.watches := rfl
@[simp] theorem State.wrInfo_cm (off : Nat) (bs : List Byte) : (s.wrInfo off bs).cm = s.cm := rfl
@[simp] theorem State.wrInfo_vsm (off : Nat) (bs : List Byte) : (s.wrInfo off bs).vsm = s.vsm := rfl
@[simp] theorem State.wrInfo_pending (off : Nat) (bs : List Byte) : (s.wrInfo off bs).pending = s.pending := rfl

/-! ### Tables -/

theorem upd_same {α : Type} {n : Nat} (v : Vector α n) (i : Fin n) (f : α → α) : (upd v i f)[i] = f v[i] := by simp [upd]

theorem upd_ne {α : Type} {n : Nat} (v : Vector α n) {i j : Fin n} (f : α → α) (h : j ≠ i) : (upd v i f)[j] = v[j] := by
  have : i.val ≠ j.val := fun e => h (Fin.ext e.symm)
  simp [upd, this]

theorem set_ne {α : Type} {n : Nat} (v : Vector α n) {i j : Fin n} (x : α) (h : j ≠ i) : (v.set i x)[j] = v[j] := by
  have : i.val ≠ j.val := fun e => h (Fin.ext e.symm)
  simp [this]

@[simp] theorem State.cell_modCell (c : Fin 32) (f : Cell → Cell) : (s.modCell c f).cell c = f (s.cell c) := upd_same _ _ _
theorem State.cell_modCell_ne {c d : Fin 32} (f : Cell → Cell) (h : d ≠ c) : (s.modCell c f).cell d = s.cell d := upd_ne _ _ h
@[simp] theorem State.chan_modChan (c : Fin 8) (f : Chan → Chan) : (s.modChan c f).chan c = f (s.chan c) := upd_same _ _ _
theorem State.chan_modChan_ne {c d : Fin 8} (f : Chan → Chan) (h : d ≠ c) : (s.modChan c f).chan d = s.chan d := upd_ne _ _ h
@[simp] theorem State.seg_modSeg (c : Fin 4) (f : Seg → Seg) : (s.modSeg c f).seg c = f (s.seg c) := upd_same _ _ _
theorem State.seg_modSeg_ne {c d : Fin 4} (f : Seg → Seg) (h : d ≠ c) : (s.modSeg c f).seg d = s.seg d := upd_ne _ _ h
@[simp] theorem State.slot_modSlot (c : Fin 8) (f : Slot → Slot) : (s.modSlot c f).slot c = f (s.slot c) := upd_same _ _ _
theorem State.slot_modSlot_ne {c d : Fin 8} (f : Slot → Slot) (h : d ≠ c) : (s.modSlot c f).slot d = s.slot d := upd_ne _ _ h
@[simp] theorem State.transfer_modTransfer (c : Fin 32) (f : Transfer → Transfer) : (s.modTransfer c f).transfer c = (s.transfer c).map f := upd_same _ _ _
theorem State.transfer_modTransfer_ne {c d : Fin 32} (f : Transfer → Transfer) (h : d ≠ c) : (s.modTransfer c f).transfer d = s.transfer d := upd_ne _ _ h
@[simp] theorem State.watch_modWatch (c : Fin 32) (f : Watch → Watch) : (s.modWatch c f).watch c = (s.watch c).map f := upd_same _ _ _
theorem State.watch_modWatch_ne {c d : Fin 32} (f : Watch → Watch) (h : d ≠ c) : (s.modWatch c f).watch d = s.watch d := upd_ne _ _ h
@[simp] theorem State.transfer_setTransfer (c : Fin 32) (v : Option Transfer) : (s.setTransfer c v).transfer c = v := by simp [State.transfer, State.setTransfer]
theorem State.transfer_setTransfer_ne {c d : Fin 32} (v : Option Transfer) (h : d ≠ c) : (s.setTransfer c v).transfer d = s.transfer d := set_ne _ _ h
@[simp] theorem State.watch_setWatch (c : Fin 32) (v : Option Watch) : (s.setWatch c v).watch c = v := by simp [State.watch, State.setWatch]
theorem State.watch_setWatch_ne {c d : Fin 32} (v : Option Watch) (h : d ≠ c) : (s.setWatch c v).watch d = s.watch d := set_ne _ _ h

/-- A context after an update of its segment's contexts. -/
theorem State.ctx_modCtx (g x : Fin 4) (f : Ctx → Ctx) : (s.modCtx g x f).ctx g x = f (s.ctx g x) := by
  show (upd s.segs g _)[g].ctxs[x] = _
  rw [upd_same]; exact upd_same _ _ _

/-! ### The end of an event -/

/-- The end of an event touches only RAM, the register window and the Information Block's bookkeeping. -/
theorem State.finish_fields :
    s.finish.phase = s.phase ∧ s.finish.board = s.board ∧ s.finish.time = s.time ∧ s.finish.ps = s.ps ∧
      s.finish.chans = s.chans ∧ s.finish.segs = s.segs ∧ s.finish.transfers = s.transfers ∧ s.finish.slots = s.slots ∧
      s.finish.watches = s.watches ∧ s.finish.cm = s.cm ∧ s.finish.vsm = s.vsm ∧ s.finish.pending = s.pending ∧
      s.finish.regs = { s.regs with irq := irqOf s.regs } := by
  unfold State.finish State.infoClose
  split <;> simp

/-- An event that wrote nothing into the Information Block leaves RAM and its counter alone. -/
theorem State.finish_clean (h : s.info.dirty = false) : s.finish = s.irqUpdate := by
  simp [State.finish, State.infoClose, h]

/-- Every event ends settled. -/
theorem State.finish_settled : Settled s.finish := by
  unfold State.finish State.infoClose Settled
  split <;> simp_all [irqOf]

/-- With nothing written into the Information Block and the line as it should be, the end of an event changes nothing. -/
theorem Settled.finish {s : State} (h : Settled s) : s.finish = s := by
  rw [s.finish_clean h.1]
  show { s with regs := { s.regs with irq := irqOf s.regs } } = s
  rw [← h.2]

end Sys2Proof.Machine
end

