-- ==== Sys2Proof/Laws/Mem.lean ====
section
/-! SUPPORT. Shared RAM: what a byte reads after a store, and that every memory operation keeps the canonical form. -/

namespace Sys2Proof.Machine

/-! ### The entries of a store -/

theorem Mem.cells_bounds (bs : List Byte) (a : Nat) :
    ∀ c ∈ Mem.cells a bs, a ≤ c.1 ∧ c.1 < a + bs.length ∧ c.2 ≠ 0 ∧ c.1 < Config.ramSize := by
  induction bs generalizing a with
  | nil => simp [Mem.cells]
  | cons b bs ih =>
    intro c hc
    have step : c ∈ Mem.cells (a + 1) bs → a ≤ c.1 ∧ c.1 < a + (b :: bs).length ∧ c.2 ≠ 0 ∧ c.1 < Config.ramSize := by
      intro h
      have := ih (a + 1) c h
      refine ⟨by omega, ?_, this.2.2⟩
      simp only [List.length_cons]
      omega
    unfold Mem.cells at hc
    split at hc
    · exact step hc
    · rename_i hb
      rw [not_or, not_le] at hb
      rcases List.mem_cons.1 hc with rfl | h
      · exact ⟨le_refl _, by simp, hb.1, hb.2⟩
      · exact step h

theorem Mem.cells_sorted (bs : List Byte) (a : Nat) : (Mem.cells a bs).Pairwise (fun c d => c.1 < d.1) := by
  induction bs generalizing a with
  | nil => simp [Mem.cells]
  | cons b bs ih =>
    unfold Mem.cells
    split
    · exact ih _
    · refine List.pairwise_cons.2 ⟨fun c hc => ?_, ih _⟩
      have := (Mem.cells_bounds bs (a + 1) c hc).1
      exact this

/-- A store keeps the canonical form. -/
theorem Mem.write_wf {m : Mem} (h : m.wf) (a : Nat) (bs : List Byte) : (m.write a bs).wf := by
  have bounds := Mem.cells_bounds bs a
  unfold Mem.write Mem.wf
  refine ⟨?_, fun c hc => ?_⟩
  · rw [List.pairwise_append, List.pairwise_append]
    refine ⟨⟨h.1.filter _, Mem.cells_sorted bs a, ?_⟩, h.1.filter _, ?_⟩
    · intro c hc d hd
      have := (bounds d hd).1
      simp only [List.mem_filter, decide_eq_true_eq] at hc
      omega
    · intro c hc d hd
      simp only [List.mem_filter, decide_eq_true_eq] at hd
      rcases List.mem_append.1 hc with hc | hc
      · simp only [List.mem_filter, decide_eq_true_eq] at hc
        omega
      · have := (bounds c hc).2.1
        omega
  · rcases List.mem_append.1 hc with hc | hc
    · rcases List.mem_append.1 hc with hc | hc
      · exact h.2 c (List.mem_filter.1 hc).1
      · exact (bounds c hc).2.2
    · exact h.2 c (List.mem_filter.1 hc).1

/-- A host write keeps the canonical form. -/
theorem Mem.hostWrite_wf {m : Mem} (h : m.wf) (a : Nat) (w : HostWrite) : (m.hostWrite a w).wf := by
  unfold Mem.hostWrite
  split <;> split <;> first | exact h | exact Mem.write_wf h _ _ | exact Mem.write_wf (Mem.write_wf h _ _) _ _

/-- Clearing runs keeps the canonical form. -/
theorem Mem.clear_wf {m : Mem} (h : m.wf) (runs : List Reserved) : (m.clear runs).wf := by
  unfold Mem.clear
  induction runs generalizing m with
  | nil => exact h
  | cons r runs ih => exact ih (Mem.write_wf h _ _)

/-- Cleared RAM has the canonical form. -/
theorem Mem.nil_wf : Mem.wf [] := by simp [Mem.wf]

/-- The memory right after a power-on reset has the canonical form. -/
theorem State.reset_mem_wf : State.reset.mem.wf := Mem.nil_wf

/-! ### Reads -/

/-- The value of the entry that lists an address, or 0. -/
theorem Mem.read_eq (m : Mem) (a : Nat) : m.read a = ((m.find? fun c => c.1 == a).map Prod.snd).getD 0 := by
  unfold Mem.read
  cases m.find? (fun c => c.1 == a) <;> rfl

theorem Mem.find_cells (bs : List Byte) (b a : Nat) :
    (((Mem.cells b bs).find? fun c => c.1 == a).map Prod.snd).getD 0 =
      if b ≤ a ∧ a < b + bs.length ∧ a < Config.ramSize then bs.getD (a - b) 0 else 0 := by
  induction bs generalizing b with
  | nil => simp [Mem.cells]
  | cons x bs ih =>
    unfold Mem.cells
    rcases Nat.lt_trichotomy a b with h | rfl | h
    · split
      · rw [ih, if_neg (by omega), if_neg (by omega)]
      · rw [List.find?_cons_of_neg (by simp; omega), ih, if_neg (by omega), if_neg (by omega)]
    · split
      · rename_i hx
        rw [ih, if_neg (by omega)]
        split
        · rcases hx with hx | hx
          · simp [hx]
          · omega
        · rfl
      · rename_i hx
        rw [not_or, not_le] at hx
        rw [List.find?_cons_of_pos (by simp), if_pos (by simp [hx.2])]
        simp
    · have e : a - b = a - (b + 1) + 1 := by omega
      have step : (if b + 1 ≤ a ∧ a < b + 1 + bs.length ∧ a < Config.ramSize then bs.getD (a - (b + 1)) 0 else 0) =
          if b ≤ a ∧ a < b + (x :: bs).length ∧ a < Config.ramSize then (x :: bs).getD (a - b) 0 else 0 := by
        rw [e, List.getD_cons_succ]
        congr 1
        simp only [List.length_cons, eq_iff_iff]
        omega
      split
      · rw [ih, step]
      · rw [List.find?_cons_of_neg (by simp; omega), ih, step]

/-- What a byte reads after a store: the byte stored, if its place is one of those stored and RAM has it, else what it read
before. A store beyond the 64 KiB leaves nothing. -/
theorem Mem.read_write (m : Mem) (b : Nat) (bs : List Byte) (a : Nat) :
    (m.write b bs).read a =
      if Within b bs.length a then (if a < Config.ramSize then bs.getD (a - b) 0 else 0) else m.read a := by
  have outside : ∀ p : Host.Cell → Bool, (∀ c, p c = true → (c.1 == a) = false) →
      (m.filter p).find? (fun c => c.1 == a) = none := by
    intro p hp
    rw [List.find?_eq_none]
    intro c hc
    simp [hp c (List.mem_filter.1 hc).2]
  have inside : ∀ p : Host.Cell → Bool, (∀ c : Host.Cell, (c.1 == a) = true → p c = true) →
      (m.filter p).find? (fun c => c.1 == a) = m.find? (fun c => c.1 == a) := by
    intro p hp
    rw [List.find?_filter]
    congr 1
    funext c
    by_cases h : (c.1 == a) = true
    · simp [h, hp c h]
    · simp [h]
  have cellsNone : ¬ Within b bs.length a → (Mem.cells b bs).find? (fun c => c.1 == a) = none := by
    intro h
    rw [List.find?_eq_none]
    intro c hc
    have := Mem.cells_bounds bs b c hc
    simp only [Within] at h
    simp
    omega
  rw [Mem.read_eq, Mem.write, List.find?_append, List.find?_append]
  by_cases h : Within b bs.length a
  · rw [if_pos h, outside (fun c => decide (c.1 < b)) (by intro c hc; simp at hc ⊢; unfold Within at h; omega),
      outside (fun c => decide (b + bs.length ≤ c.1)) (by intro c hc; simp at hc ⊢; unfold Within at h; omega)]
    have := Mem.find_cells bs b a
    simp only [Option.none_or, Option.or_none, this]
    unfold Within at h
    split <;> split <;> first | rfl | omega
  · rw [if_neg h, cellsNone h, Mem.read_eq]
    by_cases hb : a < b
    · rw [inside (fun c => decide (c.1 < b)) (by intro c hc; simp at hc ⊢; omega),
        outside (fun c => decide (b + bs.length ≤ c.1)) (by intro c hc; simp at hc ⊢; omega)]
      simp
    · have hb : b + bs.length ≤ a := by unfold Within at h; omega
      rw [outside (fun c => decide (c.1 < b)) (by intro c hc; simp at hc ⊢; omega),
        inside (fun c => decide (b + bs.length ≤ c.1)) (by intro c hc; simp at hc ⊢; omega)]
      simp

/-- A byte outside the stored places reads as before. -/
theorem Mem.read_write_outside (m : Mem) {b : Nat} {bs : List Byte} {a : Nat} (h : ¬ Within b bs.length a) :
    (m.write b bs).read a = m.read a := by rw [Mem.read_write, if_neg h]

/-- The bytes of a run whose reserved bits are cleared are as many as the run has. -/
@[simp] theorem Mem.kept_length (m : Mem) (a n : Nat) (k : Byte) : (m.kept a n k).length = n := by
  unfold Mem.kept
  split <;> simp [Mem.bytes]

/-- A byte outside the cleared runs reads as before. -/
theorem Mem.read_clear_outside (m : Mem) {runs : List Reserved} {a : Nat} (h : ∀ r ∈ runs, ¬ Within r.1 r.2.1 a) :
    (m.clear runs).read a = m.read a := by
  unfold Mem.clear
  induction runs generalizing m with
  | nil => rfl
  | cons r runs ih =>
    rw [List.foldl_cons, ih _ fun q e => h q (List.mem_cons_of_mem _ e)]
    exact m.read_write_outside (by rw [Mem.kept_length]; exact h r List.mem_cons_self)

end Sys2Proof.Machine
end

