-- ==== Sys2Proof/Laws/Closure.lean ====
section
/-! SUPPORT. A property of State that the primitive updates keep is kept by every shared operation that leaves the active set
alone. One lemma for each operation; a whole-machine invariant then needs only its `Closed` and the few places where the
active set, a controller's state or a reset is concerned. -/

namespace Sys2Proof.Machine

set_option Elab.async false

/-! ### What a channel record and a segment keep -/

/-- Of one channel record: NORMAL has nothing remaining, SUSPENDED has run count 0. -/
abbrev ChanAgrees (r : Chan) : Prop := if r.suspended then r.run = 0 else r.remaining = 0

/-- An update of a channel record that keeps what R42 says of it under policy set `p`. -/
def ChanOk (p : PolicySet) (r r' : Chan) : Prop :=
  (1 ≤ p.threshold → r.run < p.threshold → r'.run < p.threshold) ∧ (ChanAgrees r → ChanAgrees r')

/-- The accumulator stands inside the limits of set `p`. -/
abbrev InLimits (p : PolicySet) (g : Fin 4) (q : Seg) : Prop := p.regs[g].low ≤ q.acc ∧ q.acc ≤ p.regs[g].high

/-- DISABLED exactly while not effectively enabled under set `p`. -/
abbrev CtlAgrees (p : PolicySet) (g : Fin 4) (q : Seg) : Prop :=
  q.ctl = .disabled ↔ (p.segs[g].enabled && !q.hostDisable) = false

/-- An update of a segment that keeps what R64 and R97 say of it under set `p`. -/
def SegOk (p : PolicySet) (g : Fin 4) (q q' : Seg) : Prop :=
  (p.regs[g].low ≤ p.regs[g].high → InLimits p g q → InLimits p g q') ∧ (CtlAgrees p g q → CtlAgrees p g q')

theorem ChanOk.of_eq {p : PolicySet} {r r' : Chan} (h₁ : r'.run = r.run) (h₂ : r'.suspended = r.suspended)
    (h₃ : r'.remaining = r.remaining) : ChanOk p r r' := by
  unfold ChanOk ChanAgrees
  rw [h₁, h₂, h₃]
  exact ⟨fun _ h => h, fun h => h⟩

theorem SegOk.of_eq {p : PolicySet} {g : Fin 4} {q q' : Seg} (h₁ : q'.acc = q.acc := by rfl) (h₂ : q'.ctl = q.ctl := by rfl)
    (h₃ : q'.hostDisable = q.hostDisable := by rfl) : SegOk p g q q' := by
  unfold SegOk InLimits CtlAgrees
  rw [h₁, h₂, h₃]
  exact ⟨fun _ h => h, fun h => h⟩

theorem SegOk.trans {p : PolicySet} {g : Fin 4} {a b c : Seg} (x : SegOk p g a b) (y : SegOk p g b c) : SegOk p g a c :=
  ⟨fun e i => y.1 e (x.1 e i), fun i => y.2 (x.2 i)⟩

/-- A property that the primitive updates keep. -/
structure Closed (P : State → Prop) : Prop where
  wr : ∀ {s a bs}, P s → P (s.wr a bs)
  regs : ∀ {s f}, P s → P (s.modRegs f)
  info : ∀ {s f}, P s → P (s.modInfo f)
  time : ∀ {s f}, P s → P (s.modTime f)
  posts : ∀ {s l}, P s → P (s.setPosts l)
  cell : ∀ {s c f}, P s → P (s.modCell c f)
  cm : ∀ {s f}, P s → P (s.modCm f)
  vsm : ∀ {s f}, P s → P (s.modVsm f)
  setTransfer : ∀ {s c t}, P s → P (s.setTransfer c t)
  transfer : ∀ {s c f}, P s → P (s.modTransfer c f)
  slot : ∀ {s n f}, P s → P (s.modSlot n f)
  setWatch : ∀ {s c w}, P s → P (s.setWatch c w)
  watch : ∀ {s c f}, P s → P (s.modWatch c f)
  ps : ∀ {s f}, (∀ p : PS, (f p).active = p.active) → P s → P (s.modPs f)
  chan : ∀ {s ch f}, ChanOk s.ps.active (s.chan ch) (f (s.chan ch)) → P s → P (s.modChan ch f)
  seg : ∀ {s g f}, SegOk s.ps.active g (s.seg g) (f (s.seg g)) → P s → P (s.modSeg g f)

namespace Closed

variable {P : State → Prop} (h : Closed P) {s : State} (hs : P s)

include h in
theorem segEq {g : Fin 4} {f : Seg → Seg} (hs : P s)
    (e : ∀ q, (f q).acc = q.acc ∧ (f q).ctl = q.ctl ∧ (f q).hostDisable = q.hostDisable := by exact fun _ => ⟨rfl, rfl, rfl⟩) :
    P (s.modSeg g f) := h.seg (.of_eq (e _).1 (e _).2.1 (e _).2.2) hs

include h in
theorem psEq {f : PS → PS} (hs : P s) (e : ∀ p : PS, (f p).active = p.active := by exact fun _ => rfl) : P (s.modPs f) :=
  h.ps e hs

include h in
theorem ctx {g x : Fin 4} {f : Ctx → Ctx} (hs : P s) : P (s.modCtx g x f) := h.segEq hs

/-- A fold of kept steps is kept. -/
theorem foldl {α : Type} (l : List α) (f : State → α → State) (hf : ∀ t a, P t → P (f t a)) (hs : P s) : P (l.foldl f s) := by
  induction l generalizing s with
  | nil => exact hs
  | cons a l ih => exact ih (hf _ _ hs)

include h hs

/-! ### Flags and the end of an event -/

theorem wrReserved (runs : List Reserved) : P (s.wrReserved runs) := by
  rw [s.wrReserved_foldl]
  exact foldl _ _ (fun _ _ e => h.wr e) hs
theorem wrInfo (off : Nat) (bs : List Byte) : P (s.wrInfo off bs) := h.info (h.wr hs)
theorem event (e : Event) : P (s.event e) := h.regs hs
theorem setDone (c : Fin 32) : P (s.setDone c) := h.regs hs

theorem finish : P s.finish := by
  unfold State.finish State.infoClose
  split
  · exact h.regs (h.info (h.wr (h.wrReserved hs _)))
  · exact h.regs hs

/-! ### Channels -/

theorem updChan (ch : Fin 8) (f : Chan → Chan) (e : ChanOk s.ps.active (s.chan ch) (f (s.chan ch))) : P (s.updChan ch f) := by
  unfold State.updChan
  dsimp only
  split
  · exact hs
  · exact h.wr (h.chan e hs)

theorem updChanEq (ch : Fin 8) (f : Chan → Chan)
    (e : ∀ r, (f r).run = r.run ∧ (f r).suspended = r.suspended ∧ (f r).remaining = r.remaining := by
      exact fun _ => ⟨rfl, rfl, rfl⟩) : P (s.updChan ch f) :=
  h.updChan hs ch f (.of_eq (e _).1 (e _).2.1 (e _).2.2)

theorem accrue (ch : Fin 8) (fs : List Flag) : P (s.accrue ch fs) := h.updChanEq hs _ _
theorem latchSet (ch : Fin 8) (ecu : Nat) : P (s.latchSet ch ecu) :=
  h.event (h.updChanEq hs _ _) _

theorem latchClear (ch : Fin 8) (ecu : Nat) : P (s.latchClear ch ecu) := by
  unfold State.latchClear
  split
  · exact h.regs (h.updChanEq hs _ _)
  · exact hs

/-! ### The board -/

theorem wrCellWord (c : Fin 32) : P (s.wrCellWord c) := h.wr hs
theorem setCell (c : Fin 32) (st : CellState) : P (s.setCell c st) := h.wr (h.cell hs)
theorem setGrant (c : Fin 32) (g : Nat) : P (s.setGrant c g) := h.wr (h.cell hs)
theorem recordStart (c : Fin 32) : P (s.recordStart c) := h.cell hs

theorem endCellOn (ch : Option (Fin 8)) (c : Fin 32) (e : CellEnd) : P (s.endCellOn ch c e) := by
  unfold State.endCellOn
  cases ch
  · exact h.setDone (h.setCell (h.wr hs) _ _) _
  · exact h.setDone (h.setCell (h.wr (h.accrue hs _ _)) _ _) _

theorem endCell (c : Fin 32) (e : CellEnd) : P (s.endCell c e) := h.endCellOn hs _ c e
theorem boardError (b : BoardError) : P (s.boardError b) := h.event (h.wrInfo (h.wrInfo (h.info hs) _ _) _ _) _
theorem cellError (c : Fin 32) (v : Word16) : P (s.cellError c v) := h.boardError (h.wr hs) _

theorem wrLamp : P s.wrLamp := h.wrInfo hs _ _

theorem lampRefresh : P s.lampRefresh := by
  unfold State.lampRefresh
  split
  · exact hs
  · exact h.wrLamp (h.cm hs)

/-! ### Admission -/

theorem charge (g : Nat) : P (s.charge g) := by
  unfold State.charge
  split
  · exact h.psEq hs
  · exact hs

omit h hs in
/-- A denial keeps what R42 says, if a SUSPENDED channel is denied for no counted reason. -/
theorem denyChanOk (p : PolicySet) {reason : Reason} {r : Chan} (e : r.suspended = true → reason.isCounted = false) :
    ChanOk p r (denyChan p reason r) := by
  unfold ChanOk ChanAgrees denyChan
  dsimp only
  cases hc : reason.isCounted
  · simp
  · have hn : r.suspended = false := by
      cases hr : r.suspended
      · rfl
      · rw [e hr] at hc; contradiction
    by_cases hl : r.run + 1 < p.threshold
    · simp [hl, hn]
    · simp [hl, hn]
      omega

theorem countVerdict (ch : Fin 8) (v : Verdict)
    (e : ∀ reason d g, v = .deny reason d g → (s.chan ch).suspended = true → reason.isCounted = false) :
    P (s.countVerdict ch v) := by
  unfold State.countVerdict
  cases v with
  | allow g k =>
    refine h.updChan (h.charge hs g) ch _ ⟨fun a _ => a, ?_⟩
    unfold ChanAgrees
    dsimp only
    split <;> intro e <;> first | rfl | exact e
  | deny reason d g =>
    have hd := h.updChan hs ch _ (denyChanOk s.ps.active (e reason d g rfl))
    dsimp only
    split
    · exact h.event hd _
    · exact hd

omit h hs in
/-- On a SUSPENDED channel an admission is denied CHANNEL_SUSPENDED, which is not counted (R29, R42). -/
theorem admissionUncounted (b : Bool) (r : Request) :
    ∀ reason d g, s.admission b r = .deny reason d g → (s.chan r.channel).suspended = true → reason.isCounted = false := by
  intro reason d g hv hsus
  unfold State.admission at hv
  simp only [hsus, if_true, Verdict.deny.injEq] at hv
  rw [← hv.1]
  rfl

/-! ### Lanes -/

theorem segClose (g : Fin 4) : P (s.segClose g) := by
  unfold State.segClose
  exact h.wr (h.segEq (h.wrReserved hs _))
theorem stuWrite (g : Fin 4) : P (s.stuWrite g) := by
  unfold State.stuWrite
  exact h.segClose (h.wr hs) g
theorem lsWrite (g : Fin 4) : P (s.lsWrite g) := by
  unfold State.lsWrite
  exact h.segClose (h.wr (h.wr (h.wr hs))) g

theorem dropEntry (c : Fin 32) : P (s.dropEntry c) := by
  unfold State.dropEntry
  split
  · exact h.lsWrite (h.segEq hs) _
  · exact hs

theorem join (g : Fin 4) (e : Entry) : P (s.join g e) := by
  unfold State.join
  exact h.lsWrite (h.segEq hs) g

theorem startReport (e : Entry) : P (s.startReport e) := by
  unfold State.startReport
  dsimp only
  split
  · exact h.setCell (h.recordStart hs _) _ _
  · exact h.watch (h.recordStart hs _)
  all_goals exact h.transfer (h.recordStart hs _)

theorem startIn (g : Fin 4) (n : Fin 16) (e : Entry) (x : Fin 4) (r : Route) : P (s.startIn g n e x r) := by
  unfold State.startIn
  exact h.lsWrite (h.stuWrite (h.startReport (h.segEq hs) e) g) g

theorem startOne {g : Fin 4} {t : State} (e : s.startOne g = some t) : P t := by
  unfold State.startOne at e
  dsimp only at e
  split at e
  · cases e
  · split at e
    · cases e
    · split at e
      · cases e; exact h.startIn hs _ _ _ _ _
      · cases e

theorem arbitrateFuel (g : Fin 4) (n : Nat) : P (s.arbitrateFuel g n) := by
  induction n generalizing s with
  | zero => exact hs
  | succ n ih =>
    unfold State.arbitrateFuel
    split
    · rename_i t e
      exact ih (h.startOne hs e)
    · exact hs

theorem arbitrate (g : Fin 4) : P (s.arbitrate g) := h.arbitrateFuel hs g 4
theorem joinRun (g : Fin 4) (e : Entry) : P (s.joinRun g e) := by
  unfold State.joinRun
  exact h.arbitrate (h.join hs g e) g

theorem freeCtx (g x : Fin 4) : P (s.freeCtx g x) := by
  unfold State.freeCtx
  exact h.arbitrate (h.lsWrite (h.stuWrite (h.segEq hs) g) g) g

/-! ### Load -/

theorem countBits (g : Fin 4) (n : Nat) : P (s.countBits g n) := by
  unfold State.countBits
  exact h.segEq hs (by intro q; split <;> exact ⟨rfl, rfl, rfl⟩)
theorem lrWrite (g : Fin 4) : P (s.lrWrite g) := by
  unfold State.lrWrite
  exact h.segClose (h.wr hs) g
theorem takePace (g : Fin 4) : P (s.takePace g) := h.segEq hs

theorem levelSettle (g : Fin 4) (old : Nat) : P (s.levelSettle g old) := by
  unfold State.levelSettle
  split
  · exact h.lrWrite hs g
  · exact h.event (h.lsWrite (h.wrInfo (h.lrWrite (h.segEq (h.takePace hs g)) g) _ _) g) _

theorem levelRun (g : Fin 4) (old : Nat) : P (s.levelRun g old) := by
  unfold State.levelRun
  dsimp only
  split
  · exact h.levelSettle hs g old
  · exact h.arbitrate (h.levelSettle hs g old) g

omit h hs in
theorem clamp_low {r : RegSet} (a : Nat) (e : r.low ≤ r.high) : r.low ≤ r.clamp a ∧ r.clamp a ≤ r.high := by
  unfold RegSet.clamp
  omega

omit h hs in
theorem segOk_clamp {p : PolicySet} {g : Fin 4} {q q' : Seg} (a : Nat) (h₁ : q'.acc = p.regs[g].clamp a := by rfl)
    (h₂ : q'.ctl = q.ctl := by rfl) (h₃ : q'.hostDisable = q.hostDisable := by rfl) : SegOk p g q q' := by
  refine ⟨fun e _ => ?_, ?_⟩
  · rw [InLimits, h₁]; exact clamp_low a e
  · rw [CtlAgrees, CtlAgrees, h₂, h₃]; exact id

omit h hs in
theorem immediateOk {p : PolicySet} {g : Fin 4} (l : Nat) (q : Seg) : SegOk p g q (immediate p.regs[g] l q) := by
  unfold Machine.immediate
  split
  · exact segOk_clamp _
  · exact .of_eq

omit h hs in
theorem windowUpdateOk {p : PolicySet} {g : Fin 4} (l : Nat) (q : Seg) : SegOk p g q (windowUpdate p.regs[g] l q) := by
  unfold Machine.windowUpdate
  split
  · exact .of_eq
  · split
    · exact segOk_clamp _
    · split <;> exact segOk_clamp _

omit h hs in
theorem subEndOk (p : PolicySet) (g : Fin 4) (q : Seg) : SegOk p g q (subEnd p g q) := by
  unfold Machine.subEnd
  dsimp only
  have first : SegOk p g q (immediate p.regs[g] (loadOf q.subBits (windowCapacity p g / 8))
      { q with lastSubBits := q.subBits, lastSubLoad := loadOf q.subBits (windowCapacity p g / 8) }) :=
    SegOk.trans (b := { q with lastSubBits := q.subBits, lastSubLoad := loadOf q.subBits (windowCapacity p g / 8) })
      .of_eq (immediateOk _ _)
  revert first
  generalize immediate p.regs[g] _ _ = q₁
  intro first
  split
  · exact SegOk.trans (b := q₁) first .of_eq
  · refine SegOk.trans (b := q₁) first ?_
    have second := windowUpdateOk (p := p) (g := g) (loadOf q₁.winBits (windowCapacity p g))
      { q₁ with lastWinBits := q₁.winBits, lastLoad := loadOf q₁.winBits (windowCapacity p g) }
    revert second
    generalize windowUpdate p.regs[g] _ _ = q₂
    intro second
    exact SegOk.trans (b := q₂) (SegOk.trans (b := { q₁ with lastWinBits := q₁.winBits, lastLoad := _ }) .of_eq second) .of_eq

theorem subWindowEnd (g : Fin 4) : P (s.subWindowEnd g) := by
  unfold State.subWindowEnd
  exact h.levelRun (h.stuWrite (h.seg (subEndOk _ _ _) hs) g) g _

theorem throttleLoad (g : Fin 4) (v : Nat) : P (s.throttleLoad g v) := by
  unfold State.throttleLoad
  dsimp only
  split
  · exact hs
  · exact h.levelRun (h.seg (segOk_clamp v) hs) g _

theorem setFreeze (g : Fin 4) (v : Bool) : P (s.setFreeze g v) := by
  unfold State.setFreeze
  split
  · exact hs
  · exact h.lrWrite (h.segEq hs) g

theorem resetRegulator (g : Fin 4) : P (s.resetRegulator g) := by
  unfold State.resetRegulator
  exact h.levelRun (h.seg (segOk_clamp _) hs) g _

end Closed

end Sys2Proof.Machine
end

