-- ==== Sys2Proof/Laws/ClosureUnits.lean ====
section
/-! SUPPORT. The lemmas of Laws/Closure.lean for the operations of the units: transfers, watches, vehicle state, transport,
connector. -/

namespace Sys2Proof.Machine.Closed

set_option Elab.async false

variable {P : State → Prop} (h : Closed P) {s : State} (hs : P s)

include h hs

/-! ### Transfers -/

theorem wrProgress (c : Fin 32) : P (s.wrProgress c) := by
  unfold State.wrProgress
  dsimp only
  split
  · exact h.wr (h.transfer hs)
  · exact h.transfer hs

theorem setSlot (n : Fin 8) (st : SlotState) : P (s.setSlot n st) := h.wr (h.slot hs)

theorem freeSlots (c : Fin 32) : P (s.freeSlots c) := by
  unfold State.freeSlots
  refine foldl (P := P) _ _ (fun t n ht => ?_) hs
  split
  · exact h.setSlot ht n _
  · exact ht

theorem releaseTransfer (c : Fin 32) : P (s.releaseTransfer c) := h.lampRefresh (h.setTransfer hs)

theorem transferFail (c : Fin 32) (f : TFail) : P (s.transferFail c f) := by
  unfold State.transferFail
  dsimp only
  have h₁ := h.wrProgress (h.freeSlots (h.transfer (c := c)
    (f := fun t => { t with phase := .failed, feed := none, ka := none, withdrawn := none, out := none, pending := none }) hs) c) c
  split
  · exact h₁
  · refine h.releaseTransfer (h.endCell ?_ c _) c
    split
    · exact h.latchSet h₁ _ _
    · exact h₁

theorem transferDone (c : Fin 32) : P (s.transferDone c) := by
  unfold State.transferDone
  dsimp only
  have h₁ := h.wrProgress (h.transfer (c := c)
    (f := fun t => { t with phase := .done, feed := none, ka := none, out := none, pending := none }) hs) c
  split
  · exact h₁
  · exact h.releaseTransfer (h.endCell (h.latchClear h₁ _ _) c _) c

theorem transferCause (c : Fin 32) (r : Reason) : P (s.transferCause c r) := by
  unfold State.transferCause
  split
  · exact hs
  · split
    · exact hs
    · split
      · exact h.transfer hs
      · exact h.transferFail (h.dropEntry hs c) c _

theorem handOver (c : Fin 32) (role : Role) (block : Nat) : P (s.handOver c role block) := by
  unfold State.handOver
  split
  · exact hs
  · split
    · exact h.transferFail hs c _
    · exact h.joinRun (h.transfer hs) _ _

theorem needBlock (c : Fin 32) : P (s.needBlock c) := by
  unfold State.needBlock
  split
  · exact hs
  · split
    · exact h.handOver (h.transfer (h.setSlot hs _ _)) c _ _
    · exact h.transfer hs

theorem requeue (c : Fin 32) : P (s.requeue c) := by
  unfold State.requeue
  split
  · exact hs
  · split
    · exact hs
    · split
      · exact h.transferFail hs c _
      · exact h.joinRun (h.transfer hs) _ _

theorem transferResume (c : Fin 32) : P (s.transferResume c) := by
  unfold State.transferResume
  split
  · exact hs
  · split
    · exact hs
    · split
      · exact h.requeue hs c
      · split <;> first | exact h.handOver hs c _ _ | exact h.needBlock hs c | exact hs

theorem ackBlock (c : Fin 32) (k : Nat) (bs : List Byte) : P (s.ackBlock c k bs) := by
  unfold State.ackBlock
  dsimp only
  split
  · exact h.setSlot (h.transfer hs) _ _
  · exact h.transfer hs

theorem boundary (c : Fin 32) : P (s.boundary c) := by
  unfold State.boundary
  split
  · exact hs
  · split
    · exact h.transferFail hs c _
    · exact hs

theorem advance (c : Fin 32) (p : TPhase) : P (s.advance c p) := by
  unfold State.advance
  split
  · exact h.transferDone hs c
  · exact h.boundary (h.wrProgress (h.transfer hs) c) c

theorem transferPositive (c : Fin 32) (role : Role) (k : Nat) (x : Ctx) : P (s.transferPositive c role k x) := by
  unfold State.transferPositive
  dsimp only
  have h₁ := h.transfer (c := c) (f := fun t => { t with out := none, ka := s.kaStart c }) hs
  split
  · exact h.advance h₁ c _
  · split
    · exact h.boundary (h.wrProgress (h.ackBlock h₁ c _ _) c) c
    · exact h.advance (h.wrProgress (h.ackBlock h₁ c _ _) c) c _
  · exact h.advance h₁ c _
  · split
    · exact h.transfer h₁
    · split
      · exact h.transferDone (h.transfer h₁) c
      · exact h.transferFail (h.transfer h₁) c _
  · exact h.boundary (h.wrProgress h₁ c) c
  · exact h₁
  · exact h₁

theorem transferReport (c : Fin 32) (r : Report) (x : Ctx) : P (s.transferReport c r x) := by
  unfold State.transferReport
  dsimp only
  have h₁ := h.transfer (c := c) (f := fun t => { t with touched := t.touched || r.touched }) hs
  split
  · exact h₁
  · split
    · exact h.transferPositive h₁ c _ _ x
    · exact h.transferFail h₁ c _
    · exact h.transferFail h₁ c _
    · exact h₁
    · exact h.transferFail h₁ c _

theorem transferEntryLost (c : Fin 32) (r : Reason) : P (s.transferEntryLost c r) := by
  unfold State.transferEntryLost
  split
  · exact hs
  · exact h.transferFail hs c _

theorem transferGrant (c : Fin 32) (g : Nat) : P (s.transferGrant c g) := h.setGrant (h.transfer hs) c g

theorem transfersVehicle : P s.transfersVehicle := by
  unfold State.transfersVehicle
  refine foldl (P := P) _ _ (fun t c ht => ?_) hs
  split
  · split
    · exact h.transferCause ht c _
    · exact ht
  · exact ht

theorem transferReceive (c : Fin 32) (ch : Fin 8) : P (s.transferReceive c ch) := by
  unfold State.transferReceive
  dsimp only
  have h₁ := h.countVerdict hs ch (s.admission false (transferRequest ch (s.transferCodes (s.cell c).captured) (s.cell c).captured))
    (admissionUncounted _ _)
  split
  · exact h.endCell h₁ c _
  · exact h.transferResume (h.lampRefresh (h.wrProgress (h.setGrant (h.setCell (h.setTransfer h₁) c _) c _) c)) c

/-! ### Watches -/

theorem wrCounts (c : Fin 32) : P (s.wrCounts c) := by
  unfold State.wrCounts
  split
  · exact h.wr hs
  · exact hs

theorem bumpSeq (c : Fin 32) : P (s.bumpSeq c) := by
  unfold State.bumpSeq
  dsimp only
  split
  · exact h.wr (h.watch hs)
  · exact h.watch hs

theorem wrSample (c : Fin 32) (p : Sample) : P (s.wrSample c p) := h.wr (h.wr (h.watch hs))

theorem watchEnd (c : Fin 32) (f : Option FaultRec) : P (s.watchEnd c f) := by
  unfold State.watchEnd
  dsimp only
  split
  · exact h.wrCounts (h.dropEntry hs c) c
  · exact h.setWatch (h.endCell (h.wrCounts (h.dropEntry hs c) c) c _)

theorem watchEndBy (c : Fin 32) (r : Reason) : P (s.watchEndBy c r) := by
  unfold State.watchEndBy
  split
  · exact hs
  · split
    · exact h.watchEnd hs c _
    · exact h.watchEnd hs c _

theorem watchBoundary (c : Fin 32) : P (s.watchBoundary c) := by
  unfold State.watchBoundary
  split
  · exact hs
  · split
    · exact h.watchEndBy hs c _
    · exact hs

theorem watchCause (c : Fin 32) (r : Reason) : P (s.watchCause c r) := by
  unfold State.watchCause
  split
  · exact hs
  · split
    · exact hs
    · split
      · exact h.watch hs
      · exact h.watchEndBy hs c r
      · exact h.watchEndBy hs c r

theorem nextDue (c : Fin 32) : P (s.nextDue c) := h.watch hs
theorem skipCycle (c : Fin 32) : P (s.skipCycle c) := h.watch hs

theorem joinCycle (g : Fin 4) (c : Fin 32) : P (s.joinCycle g c) := by
  unfold State.joinCycle
  split
  · exact hs
  · exact h.joinRun (h.watch hs) g _

theorem watchGrant (c : Fin 32) (g : Nat) : P (s.watchGrant c g) := h.cell (h.watch hs)

theorem watchDue (c : Fin 32) : P (s.watchDue c) := by
  unfold State.watchDue
  dsimp only
  split
  · exact h.nextDue hs c
  · split
    · exact h.wrCounts (h.skipCycle (h.nextDue hs c) c) c
    · split
      · exact h.joinCycle (h.wrCounts (h.watchGrant (h.nextDue hs c) c _) c) _ c
      · split
        · exact h.wrCounts (h.skipCycle (h.nextDue hs c) c) c
        · exact h.watchEnd (h.nextDue hs c) c _

theorem withdrawCycle (c : Fin 32) : P (s.withdrawCycle c) := h.wrCounts (h.watch (h.skipCycle (h.dropEntry hs c) c)) c

theorem watchesVehicle : P s.watchesVehicle := by
  unfold State.watchesVehicle
  refine foldl (P := P) _ _ (fun t c ht => ?_) hs
  split
  · split
    · exact h.withdrawCycle ht c
    · exact ht
  · exact ht

theorem publish (c : Fin 32) (f : Form) (r : Report) : P (s.publish c f r) := by
  unfold State.publish
  extract_lets p s₁ s₂
  have h₂ : P s₂ := h.wrCounts (h.watch (h.bumpSeq (h.wrSample hs c _) c)) c
  clear_value s₂
  split
  · exact h₂
  · extract_lets s₃ s₄
    have h₄ : P s₄ := by
      unfold s₄
      split
      · exact h.setDone (h.accrue h₂ _ _) c
      · exact h.accrue h₂ _ _
    split
    · exact h.watchEnd h₄ c _
    · exact h.watchBoundary h₄ c

theorem cycleFailed (c : Fin 32) (f : CycleFault) (r : Option (Report × Form)) : P (s.cycleFailed c f r) := by
  unfold State.cycleFailed
  extract_lets odd s₁ s₂ s₃
  have h₁ : P s₁ := by
    unfold s₁
    split
    · split
      · exact h.bumpSeq (h.wrSample hs c _) c
      · exact hs
    · exact hs
  have h₃ : P s₃ := h.wrCounts (h.watch h₁) c
  clear_value s₃
  split
  · exact h₃
  · extract_lets s₄
    have h₄ : P s₄ := h.accrue h₃ _ _
    split
    · exact h.watchBoundary h₄ c
    · exact h.watchEnd h₄ c _

theorem watchReport (c : Fin 32) (r : Report) (f : Form) : P (s.watchReport c r f) := by
  unfold State.watchReport
  dsimp only
  split
  · exact h.publish (h.watch hs) c _ r
  · exact h.cycleFailed (h.watch hs) c _ _

theorem recordService (c : Fin 32) (k : Nat) : P (s.recordService c k) := h.cell hs

theorem watchReceive (c : Fin 32) (ch : Fin 8) : P (s.watchReceive c ch) := by
  unfold State.watchReceive
  dsimp only
  have h₁ := h.recordService (h.countVerdict hs ch (s.admission false (plainRequest ch
    (s.firstByte (requestRef (s.cell c).captured)) (targetOf (s.cell c).captured))) (admissionUncounted _ _)) c
    (s.firstByte (requestRef (s.cell c).captured))
  split
  · exact h.endCell h₁ c _
  · exact h.joinCycle (h.wrCounts (h.nextDue (h.wr (h.setGrant (h.setCell (h.setWatch h₁) c _) c _)) c) c) _ c

/-! ### Vehicle state -/

theorem exchangeLost (c : Fin 32) (r : Reason) (d : Option Detail) : P (s.exchangeLost c r d) := h.endCell (h.dropEntry hs c) c _

theorem exchangesVehicle : P s.exchangesVehicle := by
  unfold State.exchangesVehicle
  refine foldl (P := P) _ _ (fun t e ht => ?_) hs
  split
  · exact h.exchangeLost ht _ _ _
  · exact ht

theorem vehicleChanged : P s.vehicleChanged := h.watchesVehicle (h.transfersVehicle (h.exchangesVehicle hs))

theorem putVehicle (e : Engine) (m : Motion) : P (s.putVehicle e m) := h.vehicleChanged (h.event (h.wrInfo (h.vsm hs) _ _) _)

theorem setVehicle (e : Engine) (m : Motion) : P (s.setVehicle e m) := by
  unfold State.setVehicle
  split
  · exact hs
  · exact h.putVehicle hs e m

theorem observeState (g : Fin 4) (f : CanFrame) : P (s.observeState g f) := by
  unfold State.observeState
  dsimp only
  split
  · exact h.setVehicle (h.vsm hs) _ _
  · exact hs

theorem goStale : P s.goStale := h.putVehicle (h.vsm hs) _ _

/-! ### Transport -/

theorem exchangeReport (c : Fin 32) (r : Report) : P (s.exchangeReport c r) := by
  unfold State.exchangeReport
  dsimp only
  split
  · exact h.endCell hs c _
  · exact h.endCell hs c _

theorem endExchange (g x : Fin 4) (o : XOutcome) (k i : Nat) : P (s.endExchange g x o k i) := by
  unfold State.endExchange
  dsimp only
  split
  · exact h.freeCtx (h.exchangeReport hs _ _) g x
  · exact h.freeCtx (h.watchReport hs _ _ _) g x
  all_goals exact h.transferResume (h.freeCtx (h.transferReport hs _ _ _) g x) _

theorem failExchange (g x : Fin 4) (r : Reason) (k i : Nat) : P (s.failExchange g x r k i) := h.endExchange hs g x _ k i

theorem failBusy (g : Fin 4) (r : Reason) : P (s.failBusy g r) := by
  unfold State.failBusy
  refine foldl (P := P) _ _ (fun t x ht => ?_) hs
  split
  · exact h.failExchange ht g x r _ _
  · exact ht

/-- A change of controller state between states that are not DISABLED. -/
theorem setCtl (g : Fin 4) (k : Ctl) (h₁ : (s.seg g).ctl ≠ .disabled) (h₂ : k ≠ .disabled) : P (s.setCtl g k) := by
  unfold State.setCtl
  split
  · exact hs
  · refine h.event (h.stuWrite (h.seg ⟨fun _ e => e, fun e => ?_⟩ hs) g) _
    exact ⟨fun a => absurd a h₂, fun a => absurd (e.2 a) h₁⟩

theorem busOff (g : Fin 4) (h₁ : (s.seg g).ctl ≠ .disabled) : P (s.busOff g) := by
  unfold State.busOff
  refine h.segEq (h.failBusy (h.setCtl (h.segEq hs) g .off ?_ (by decide)) g _)
  rw [State.seg_modSeg]
  exact h₁

omit h hs in
theorem sends_ne {k : Ctl} (e : k.sends = true) : k ≠ .disabled := by rintro rfl; cases e

theorem settleErrors (g : Fin 4) : P (s.settleErrors g) := by
  unfold State.settleErrors
  dsimp only
  split
  · exact hs
  · rename_i hq
    have hn : (s.seg g).ctl ≠ .disabled := sends_ne (by simpa using hq)
    split
    · exact h.busOff hs g hn
    · split
      · exact hs
      · refine h.arbitrate (h.setCtl hs g _ hn ?_) g
        unfold errorState
        split
        · decide
        · split
          · decide
          · split <;> decide

theorem modErrors (g : Fin 4) (f : Seg → Seg) (e : ∀ q, (f q).acc = q.acc ∧ (f q).ctl = q.ctl ∧ (f q).hostDisable = q.hostDisable) :
    P (s.modErrors g f) := by
  unfold State.modErrors
  split
  · exact h.settleErrors (h.segEq hs e) g
  · exact hs

theorem goOnline (g : Fin 4) (h₁ : (s.seg g).ctl ≠ .disabled) : P (s.goOnline g) := by
  unfold State.goOnline
  refine h.arbitrate (h.setCtl (h.segEq hs) g .online ?_ (by decide)) g
  rw [State.seg_modSeg]
  exact h₁

theorem enterCtx (g x : Fin 4) (st : CtxState) (t : Option Nat) : P (s.enterCtx g x st t) := h.stuWrite (h.ctx hs) g

theorem frameSent (g x : Fin 4) (o : Offered) : P (s.frameSent g x o) := by
  unfold State.frameSent
  dsimp only
  split
  · exact h.enterCtx (h.ctx hs) g x _ _
  · exact h.enterCtx (h.ctx hs) g x _ _
  · split
    · exact h.enterCtx (h.ctx hs) g x _ _
    · split
      · exact h.enterCtx (h.ctx hs) g x _ _
      · exact h.ctx (h.ctx hs)
  · exact h.ctx (h.ctx hs)

theorem errorFrame (g : Fin 4) : P (s.errorFrame g) := h.countBits (h.segEq hs) g _
theorem strayFrame (g : Fin 4) : P (s.strayFrame g) := h.segEq hs

theorem takeCredit (g x : Fin 4) (f : CanFrame) : P (s.takeCredit g x f) := by
  unfold State.takeCredit
  dsimp only
  split
  · exact h.enterCtx (h.ctx hs) g x _ _
  · split
    · exact h.ctx (h.ctx hs)
    · exact h.failExchange (h.ctx hs) g x _ _ _
  · exact h.failExchange hs g x _ _ _

theorem storeResponse (g x : Fin 4) (pos : Nat) (bs : List Byte) : P (s.storeResponse g x pos bs) := by
  unfold State.storeResponse
  dsimp only
  split
  · exact h.ctx (h.wr hs)
  · exact h.ctx (h.wr hs)
  · exact h.ctx hs
  all_goals exact hs

theorem responseBegins (g x : Fin 4) : P (s.responseBegins g x) := by
  unfold State.responseBegins
  split
  · exact h.bumpSeq hs _
  · exact hs

theorem holdTaken (g x : Fin 4) : P (s.holdTaken g x) := by
  unfold State.holdTaken
  dsimp only
  split
  · exact h.failExchange (h.ctx hs) g x _ _ _
  · split
    · exact h.ctx (h.ctx hs)
    · exact h.enterCtx (h.ctx hs) g x _ _

theorem messageDone (g x : Fin 4) : P (s.messageDone g x) := by
  unfold State.messageDone
  dsimp only
  split
  · exact h.holdTaken hs g x
  · exact h.endExchange hs g x _ _ _

theorem callCredit (g x : Fin 4) : P (s.callCredit g x) := h.ctx hs

theorem takeFirst (g x : Fin 4) (k : FrameKind) (n : Nat) (b : Byte) (bs : List Byte) : P (s.takeFirst g x k n b bs) := by
  unfold State.takeFirst
  dsimp only
  split
  · exact h.ctx hs
  · exact h.storeResponse (h.responseBegins (h.ctx hs) g x) g x _ _

theorem takePart (g x : Fin 4) (f : CanFrame) : P (s.takePart g x f) := by
  unfold State.takePart
  extract_lets k bs s₁ s₂ k₂
  have h₁ : P s₁ := by
    unfold s₁
    split
    · exact hs
    · exact h.storeResponse hs g x _ _
  have h₂ : P s₂ := h.ctx h₁
  clear_value s₂
  split
  · exact h.messageDone h₂ g x
  · split
    · exact h.callCredit h₂ g x
    · exact h₂

theorem takeFrame (g x : Fin 4) (f : CanFrame) : P (s.takeFrame g x f) := by
  unfold State.takeFrame
  dsimp only
  split
  · split
    · exact h.failExchange hs g x _ _ _
    · split
      · exact h.takeCredit hs g x f
      · exact h.strayFrame hs g
  · split
    · exact h.failExchange hs g x _ _ _
    · split
      · exact h.messageDone (h.takeFirst hs g x _ _ _ _) g x
      · exact h.enterCtx (h.callCredit (h.takeFirst hs g x _ _ _ _) g x) g x _ _
      · exact h.strayFrame hs g
  · split
    · exact h.failExchange hs g x _ _ _
    · split
      · exact h.takePart hs g x f
      · exact h.failExchange hs g x _ _ _
  · exact h.strayFrame hs g
  · exact h.strayFrame hs g

theorem offerTransport (g : Fin 4) (f : CanFrame) : P (s.offerTransport g f) := by
  unfold State.offerTransport
  split
  · exact hs
  · split
    · exact h.takeFrame hs g _ f
    · exact h.strayFrame hs g

/-! ### Connector -/

theorem setSupply (v : Supply) (t : Option Nat) : P (s.setSupply v t) := h.wrInfo (h.cm hs) _ _
theorem supplyFault (f : SupplyFault) : P (s.supplyFault f) := h.event (h.wrInfo (h.cm hs) _ _) _

theorem connectorEnds (r : Option Reason) : P (s.connectorEnds r) := by
  unfold State.connectorEnds
  split
  · exact hs
  · exact h.endCell (h.cm hs) _ _

theorem supplyFails (f : SupplyFault) : P (s.supplyFails f) := h.connectorEnds (h.supplyFault (h.setSupply hs _ _) f) _
theorem supplyUp : P s.supplyUp := h.connectorEnds (h.setSupply hs _ _) _

theorem connectorSupersede : P s.connectorSupersede := by
  unfold State.connectorSupersede
  split
  · exact hs
  · exact h.endCell (h.cm hs) _ _

theorem connectorLamp (l : Lamp) : P (s.connectorLamp l) := h.wrInfo (h.wrLamp (h.lampRefresh (h.cm hs))) _ _

theorem supplyStart : P s.supplyStart := by
  unfold State.supplyStart
  dsimp only
  split
  · exact h.supplyFails (h.setSupply hs _ _) _
  · split
    · exact h.supplyUp (h.setSupply hs _ _)
    · exact h.setSupply hs _ _

theorem connectorSupply (on : Bool) : P (s.connectorSupply on) := by
  unfold State.connectorSupply
  dsimp only
  split
  · exact h.supplyStart (h.wrInfo (h.cm hs) _ _)
  all_goals first | exact h.wrInfo (h.cm hs) _ _ | exact h.setSupply (h.wrInfo (h.cm hs) _ _) _ _

theorem connectorSettle (c : Fin 32) (v : Option Bool) : P (s.connectorSettle c v) := by
  unfold State.connectorSettle
  split
  · exact hs
  · split
    · exact h.setCell hs c _
    · exact h.connectorEnds hs _

theorem connectorReceive (c : Fin 32) : P (s.connectorReceive c) := by
  unfold State.connectorReceive
  extract_lets cap s₁ s₂ s₃ s₄
  have h₂ : P s₂ := by
    unfold s₂
    split
    · exact h.connectorLamp (h.connectorSupersede hs) _
    · exact h.connectorSupersede hs
  have h₄ : P s₄ := by
    unfold s₄
    split
    · exact h.connectorSupply (h.cm h₂) _
    · exact h.cm h₂
  exact h.connectorSettle h₄ c _

theorem connectorAbort : P s.connectorAbort := h.connectorEnds (h.setSupply hs _ _) _

end Sys2Proof.Machine.Closed
end

