-- ==== Sys2Proof/Laws/ClosureCommands.lean ====
section
/-! SUPPORT. The lemmas of Laws/Closure.lean for the commands themselves, but for those that change the active set, reset the
part, or take a controller into or out of DISABLED. -/

namespace Sys2Proof.Machine

/-- The commands at which the active set, a reset or the DISABLED state of a controller is concerned. -/
def structural : Instr → Bool
  | .powerOnReset | .ramClearDone | .softReset _ | .softResetReady | .commitNow _ | .ignitionDebounceExpiry | .departure
  | .disable _ | .enable _ | .restart _ => true
  | _ => false

namespace Closed

set_option Elab.async false

variable {P : State → Prop} (h : Closed P) {s : State} (hs : P s)

include h hs

/-! ### Policy store -/

theorem reclass (g : Fin 4) (e : Entry) (k : Nat) : P (s.reclass g e k) := by
  unfold State.reclass
  exact h.segEq hs

theorem settleEntry (c : Fin 32) (k : Nat) (g : Fin 4) : P (s.settleEntry c k g) := by
  unfold State.settleEntry
  split
  · exact hs
  · split
    · exact h.reclass hs _ _ _
    · exact h.join (h.dropEntry hs c) _ _

theorem readmitExchange (c : Fin 32) : P (s.readmitExchange c) := by
  unfold State.readmitExchange
  dsimp only
  split
  · exact hs
  · split
    · exact h.settleEntry hs c _ _
    · exact h.exchangeLost hs c _ _

theorem readmitCycle (c : Fin 32) : P (s.readmitCycle c) := by
  unfold State.readmitCycle
  split
  · exact hs
  · split
    · exact h.settleEntry (h.watchGrant hs c _) c _ _
    · split
      · exact h.withdrawCycle hs c
      · exact h.watchEnd hs c _

theorem readmitAll : P s.readmitAll := by
  unfold State.readmitAll
  refine foldl (P := P) _ _ (fun t e ht => ?_) hs
  split
  · exact h.readmitExchange ht _
  · exact h.readmitCycle ht _
  all_goals exact ht

theorem recheckTransfer (c : Fin 32) (r : Reason) : P (s.recheckTransfer c r) := by
  unfold State.recheckTransfer
  split
  · exact hs
  · split
    · dsimp only
      split
      · exact h.settleEntry (h.transferGrant hs c _) c _ _
      · exact h.transferGrant hs c _
    · exact h.transferCause hs c _

theorem recheckAll : P s.recheckAll := by
  unfold State.recheckAll
  exact foldl (P := P) _ _ (fun t c ht => h.recheckTransfer ht c _) hs

theorem paceTakeup (g : Fin 4) : P (s.paceTakeup g) := by
  unfold State.paceTakeup
  split
  · exact hs
  · exact h.lrWrite (h.lsWrite (h.takePace hs g) g) g

theorem vehicleTakeup (v : VehSet) : P (s.vehicleTakeup v) := by
  unfold State.vehicleTakeup
  dsimp only
  split
  · exact h.setVehicle (h.vsm hs) _ _
  · split
    · exact h.goStale hs
    · exact hs

theorem arbitrateAll : P s.arbitrateAll := by
  unfold State.arbitrateAll
  exact foldl (P := P) _ _ (fun t g ht => h.arbitrate ht g) hs

theorem wrMirror : P s.wrMirror := h.wr hs

theorem publishSet : P s.publishSet := by
  unfold State.publishSet
  exact h.event (h.wrInfo (h.psEq (h.wrMirror hs)) _ _) _

theorem arm (c : Fin 32) : P (s.arm c) := by
  unfold State.arm
  dsimp only
  split
  · exact h.setCell (h.psEq (h.endCell hs _ _)) c _
  · exact h.setCell (h.psEq hs) c _

theorem disarm (c : Fin 32) : P (s.disarm c) := by
  unfold State.disarm
  split
  · exact h.endCell (h.psEq hs) c _
  · exact hs

theorem recheckWatch (c : Fin 32) (w : Watch) : P (s.recheckWatch c w) := by
  unfold State.recheckWatch
  split
  · exact h.watchGrant hs c _
  · split
    · exact h.watchGrant hs c _
    · exact h.watchCause hs c _

theorem recheckGrant (ch id : Nat) : P (s.recheckGrant ch id) := by
  unfold State.recheckGrant
  refine foldl (P := P) _ _ (fun t c ht => ?_) hs
  extract_lets t₁
  have h₁ : P t₁ := by
    unfold t₁
    split
    · split
      · exact h.recheckTransfer ht c _
      · exact ht
    · exact ht
  split
  · split
    · exact h.recheckWatch h₁ c _
    · exact h₁
  · exact h₁

theorem testerGone (held : Fin 8 → Bool) : P (s.testerGone held) := by
  unfold State.testerGone
  extract_lets s₁
  have h₁ : P s₁ := by
    refine foldl (P := P) _ _ (fun t e ht => ?_) hs
    split
    · split
      · exact h.exchangeLost ht _ _ _
      · exact ht
    · exact ht
  refine foldl (P := P) _ _ (fun t c ht => ?_) h₁
  extract_lets t₁
  have h₂ : P t₁ := by
    unfold t₁
    split
    · split
      · exact h.transferCause ht c _
      · exact ht
    · exact ht
  split
  · split
    · exact h.watchCause h₂ c _
    · exact h₂
  · exact h₂

/-! ### The board -/

theorem hostWord (a : Nat) (w : HostWrite) : P (s.hostWord a w) := by
  have e : s.hostWord a w =
      if w.low then (if w.high then (s.wr a [byte w.data.toNat]).wr (a + 1) [byte (w.data.toNat / 0x100)]
        else s.wr a [byte w.data.toNat])
      else if w.high then s.wr (a + 1) [byte (w.data.toNat / 0x100)] else s := by
    unfold State.hostWord Mem.hostWrite
    dsimp only
    split <;> split <;> rfl
  rw [e]
  split <;> split <;> first | exact h.wr (h.wr hs) | exact h.wr hs | exact hs

omit h hs in
/-- A host write to a watched word ends in a next state that keeps what its action keeps. -/
theorem watchedWrite {t : State} {a : Nat} {w : HostWrite} {ok : Word16 → Bool} {act : State → Word16 → State}
    (h : Closed P) (hs : P s) (ha : ∀ u v, P u → P (act u v)) (e : watchedWrite s a w ok act = .next t) : P t := by
  unfold Machine.watchedWrite at e
  dsimp only at e
  split at e
  · cases e; exact hs
  · split at e
    · cases e; exact hs
    · cases e; exact h.hostWord hs a w
    · cases e; exact h.finish (ha _ _ (h.hostWord hs a w))

theorem post (c : Fin 32) (v : Word16) : P (s.post c v) := by
  unfold State.post
  split
  · exact h.posts (h.setCell hs c _)
  · exact h.cellError hs c v

theorem emptyCell (c : Fin 32) (v : Word16) : P (s.emptyCell c v) := by
  unfold State.emptyCell
  split <;> first | exact h.cell hs | exact h.cellError hs c v

theorem abortActive (c : Fin 32) : P (s.abortActive c) := by
  unfold State.abortActive
  split
  · exact h.cell hs
  · exact h.transferCause hs c _
  · exact h.watchCause hs c _
  · exact h.disarm hs c
  · split
    · exact h.connectorAbort hs
    · exact hs
  all_goals exact hs

theorem abortCell (c : Fin 32) (v : Word16) : P (s.abortCell c v) := by
  unfold State.abortCell
  split
  · exact h.cellError hs c v
  · exact h.endCellOn (h.posts hs) _ c _
  · exact h.cell (h.wrCellWord hs c)
  · exact h.exchangeLost (h.wrCellWord hs c) c _ _
  · exact h.abortActive (h.wrCellWord hs c) c
  · exact h.wrCellWord hs c
  · exact h.wrCellWord hs c

theorem actHeld (c : Fin 32) : P (s.actHeld c) := by
  unfold State.actHeld
  dsimp only
  split
  · exact hs
  · split
    · exact h.exchangeLost (h.cell hs) c _ _
    · exact h.abortActive (h.cell hs) c
    all_goals exact h.cell hs

omit h hs in
/-- A receipt ends in a next state that keeps what the owner's action keeps. -/
theorem receive {t : State} {c : Fin 32} {k : Kind} {act : State → State} (h : Closed P) (hs : P s) (ha : P (act s))
    (e : receive s c k act = .next t) : P t := by
  unfold Machine.receive at e
  split at e
  · cases e; exact h.finish (h.actHeld ha c)
  · cases e; exact hs

omit h hs in
theorem receiveOp {t : State} {c : Fin 32} {k : Kind} {off op : Nat} {act : State → State} (h : Closed P) (hs : P s)
    (ha : P (act s)) (e : receiveOp s c k off op act = .next t) : P t := by
  unfold Machine.receiveOp at e
  split at e
  · exact h.receive hs ha e
  · cases e; exact hs

omit h hs in
theorem receiveChannel {t : State} {c : Fin 32} {op : Nat} {act : State → Fin 8 → State} (h : Closed P) (hs : P s)
    (ha : ∀ ch, P (act s ch)) (e : receiveChannel s c op act = .next t) : P t := by
  refine h.receiveOp hs ?_ e
  split
  · exact ha _
  · exact hs

omit h hs in
theorem receiveSegment {t : State} {c : Fin 32} {k : Kind} {op : Nat} {act : State → Fin 4 → State} (h : Closed P) (hs : P s)
    (ha : ∀ g, P (act s g)) (e : receiveSegment s c k op act = .next t) : P t := by
  refine h.receiveOp hs ?_ e
  split
  · exact ha _
  · exact hs

theorem exchangeReceive (c : Fin 32) : P (s.exchangeReceive c) := by
  unfold State.exchangeReceive
  dsimp only
  split
  · exact hs
  · rename_i ch _
    have h₁ := h.recordService (h.countVerdict hs ch (s.admission false (plainRequest ch
      (s.firstByte (requestRef (s.cell c).captured)) (targetOf (s.cell c).captured))) (admissionUncounted _ _)) c
      (s.firstByte (requestRef (s.cell c).captured))
    split
    · exact h.endCell h₁ c _
    · exact h.joinRun (h.setCell (h.setGrant h₁ c _) c _) _ _

theorem clearLatch (ch : Fin 8) : P (s.clearLatch ch) := by
  unfold State.clearLatch
  split
  · exact h.lampRefresh (h.event (h.updChanEq hs _ _) _)
  · exact hs

theorem unsuspend (ch : Fin 8) : P (s.unsuspend ch) := by
  unfold State.unsuspend
  refine h.event (h.updChan hs ch _ ?_) _
  exact ⟨fun a _ => a, fun _ => by simp [ChanAgrees]⟩

theorem capture (c : Fin 32) (l : List (Fin 32)) : P (s.capture c l) := h.setCell (h.cell (h.posts hs)) c _

theorem entryTimeout (e : Entry) : P (s.entryTimeout e) := by
  unfold State.entryTimeout
  split
  · exact h.endCell hs _ _
  · exact h.cycleFailed hs _ _ _
  all_goals exact h.transferEntryLost hs _ _

theorem deadline (g : Fin 4) (e : Entry) : P (s.deadline g e) := by
  unfold State.deadline
  exact h.arbitrate (h.entryTimeout (h.lsWrite (h.segEq hs) g) e) g

/-! ### Slots -/

theorem slotError (n : Fin 8) (v : Word16) : P (s.slotError n v) := h.boardError (h.wr hs) _

theorem blockHeld (c : Fin 32) (k : Nat) : P (s.blockHeld c k) := by
  unfold State.blockHeld
  dsimp only
  split
  · exact hs
  · split
    · split
      · exact h.needBlock (h.transfer hs) c
      · exact h.transfer hs
    · exact hs

theorem fillSlot (n : Fin 8) : P (s.fillSlot n) := by
  unfold State.fillSlot
  extract_lets q code t
  have h₁ : P t := h.setSlot (h.wr (h.slot hs)) n _
  split
  · split
    · exact h.blockHeld h₁ _ _
    · exact h₁
  · exact h₁

theorem slotFreed (n : Fin 8) (v : Word16) : P (s.slotFreed n v) := by
  unfold State.slotFreed
  split
  · exact h.setSlot hs n _
  · unfold State.withdrawBlock
    dsimp only
    split
    · exact h.setSlot hs n _
    · split
      · exact h.transfer (h.setSlot hs n _)
      · exact h.setSlot hs n _
  · exact h.slotError hs n v
  · exact h.slotError hs n v

theorem keepaliveExpire (c : Fin 32) (t : Transfer) : P (s.keepaliveExpire c t) := by
  unfold State.keepaliveExpire
  exact h.handOver (h.transfer (h.dropEntry hs c)) c _ _

/-! ### Time -/

theorem atUs (us : Fin 1000) : P (s.atUs us) := h.time hs

theorem countDowns : P s.countDowns := by
  unfold State.countDowns
  refine foldl (P := P) _ _ (fun t ch ht => h.updChan ht ch _ ?_) hs
  unfold countDown
  split
  · rename_i e
    refine ⟨fun _ a => a, fun a => ?_⟩
    simpa [ChanAgrees, e] using a
  · exact .of_eq rfl rfl rfl

theorem lineExpire (l : ConnLine) : P (s.lineExpire l) := by
  unfold State.lineExpire
  dsimp only
  split
  · exact h.cm (h.event (h.wrInfo (h.cm hs) _ _) _)
  · exact h.event (h.wrInfo (h.cm hs) _ _) _

/-! ### Commands -/

omit hs in
theorem ifEvent {t u : State} {b : Prop} [Decidable b] (hs : P s) (hu : P u)
    (e : (if b then complete u else noEvent s) = .next t) : P t := by
  split at e
  · cases e; exact h.finish hu
  · cases e; exact hs

theorem ownFrame {g : Fin 4} {us : Fin 1000} {t : State} (e : execOwnFrameAcknowledged g us s = .next t) : P t := by
  unfold execOwnFrameAcknowledged at e
  split at e
  · cases e; exact hs
  · rename_i o _
    extract_lets s₁ s₂ s₃ s₄ s₅ at e
    have h₃ : P s₃ := h.countBits (h.segEq (h.atUs hs us)) g _
    have h₄ : P s₄ := by
      unfold s₄
      split
      · exact h.frameSent h₃ g _ _
      · exact h₃
    have h₅ : P s₅ := h.modErrors h₄ g _ fun _ => ⟨rfl, rfl, rfl⟩
    clear_value s₅
    cases e
    exact h.finish (h.observeState h₅ g _)

theorem otherFrame {g : Fin 4} {us : Fin 1000} {f : CanFrame} {t : State} (e : execFrameCompleted g us f s = .next t) :
    P t := by
  unfold execFrameCompleted at e
  extract_lets s₁ s₂ s₃ at e
  have h₂ : P s₂ := h.countBits (h.segEq (h.atUs hs us)) g _
  have h₃ : P s₃ := h.modErrors h₂ g _ fun _ => ⟨rfl, rfl, rfl⟩
  clear_value s₃
  cases e
  exact h.finish (h.offerTransport (h.observeState h₃ g f) g f)

/-- Every command that is not structural keeps what the primitive updates keep. -/
theorem exec {c : Instr} {t : State} (hc : structural c = false) (e : exec c s = .next t) : P t := by
  cases c <;> simp only [structural, Bool.true_eq_false] at hc <;> unfold Machine.exec at e <;> dsimp only at e
  case runWrite v =>
    unfold execRunWrite registerWrite at e
    split at e <;> cases e <;> first | exact h.finish (h.regs hs) | exact hs
  case retainWrite v =>
    unfold execRetainWrite registerWrite at e
    split at e <;> cases e <;> first | exact h.finish (h.regs hs) | exact hs
  case doneIrqEnableWrite v =>
    unfold execDoneIrqEnableWrite registerWrite at e
    split at e <;> cases e <;> first | exact h.finish (h.regs hs) | exact hs
  case doneSummaryClear u w =>
    unfold execDoneSummaryClear registerWrite at e
    split at e <;> cases e <;> first | exact h.finish (h.regs hs) | exact hs
  case eventSummaryClear w =>
    unfold execEventSummaryClear registerWrite at e
    split at e <;> cases e <;> first | exact h.finish (h.regs hs) | exact hs
  case eventEnableWrite w =>
    unfold execEventEnableWrite registerWrite at e
    split at e <;> cases e <;> first | exact h.finish (h.regs hs) | exact hs
  case ignoredRegisterWrite a w =>
    cases e; exact hs
  case hostRamWrite a w =>
    unfold execHostRamWrite at e
    split at e
    · cases e
    · split at e
      · cases e; exact hs
      · split at e <;> cases e <;> first | exact hs | exact h.hostWord hs a w
  case cellPost c w => exact h.watchedWrite hs (fun _ _ hu => h.post hu _ _) e
  case cellEmpty c w => exact h.watchedWrite hs (fun _ _ hu => h.emptyCell hu _ _) e
  case cellAbort c w => exact h.watchedWrite hs (fun _ _ hu => h.abortCell hu _ _) e
  case cellInvalidWrite c w => exact h.watchedWrite hs (fun _ _ hu => h.cellError hu _ _) e
  case slotFilled n w => exact h.watchedWrite hs (fun _ _ hu => h.fillSlot hu _) e
  case slotFree n w => exact h.watchedWrite hs (fun _ _ hu => h.slotFreed hu _ _) e
  case slotInvalidWrite n w => exact h.watchedWrite hs (fun _ _ hu => h.slotError hu _ _) e
  case cellTake =>
    unfold execCellTake at e
    split at e
    · dsimp only at e
      split at e
      · cases e; exact h.finish (h.endCell (h.capture hs _ _) _ _)
      · cases e; exact h.finish (h.capture hs _ _)
    · cases e; exact hs
  case exchangeAdmission c => exact h.receive hs (h.exchangeReceive hs c) e
  case transferReceipt c =>
    refine h.receive hs ?_ e
    split
    · exact h.transferReceive hs c _
    · exact hs
  case watchReceipt c =>
    refine h.receive hs ?_ e
    split
    · exact h.watchReceive hs c _
    · exact hs
  case check c =>
    refine h.receive hs ?_ e
    split
    · exact h.endCell (h.cell hs) c _
    · exact hs
  case commitAtIgnition c => exact h.receiveOp hs (h.arm hs c) e
  case clearAccrued c => exact h.receiveChannel hs (fun ch => h.endCell (h.updChanEq hs ch _) c _) e
  case clearLatch c =>
    refine h.receiveChannel hs (fun ch => ?_) e
    split
    · exact h.endCell (h.clearLatch hs ch) c _
    · exact h.endCell hs c _
  case releaseSuspension c =>
    refine h.receiveChannel hs (fun ch => ?_) e
    split
    · exact h.endCell (h.unsuspend hs ch) c _
    · exact h.endCell hs c _
  case connector c => exact h.receive hs (h.connectorReceive hs c) e
  case load c => exact h.receiveSegment hs (fun g => h.endCell (h.throttleLoad hs g _) c _) e
  case freeze c => exact h.receiveSegment hs (fun g => h.endCell (h.setFreeze hs g _) c _) e
  case unfreeze c => exact h.receiveSegment hs (fun g => h.endCell (h.setFreeze hs g _) c _) e
  case queueDeadlineExpiry c =>
    unfold execQueueDeadlineExpiry at e
    split at e
    · exact h.ifEvent hs (h.deadline hs _ _) e
    · cases e; exact hs
  case frameOffer g us =>
    unfold execFrameOffer at e
    dsimp only at e
    split at e
    · cases e; exact hs
    · cases e; exact h.finish (h.segEq (h.atUs hs us))
  case ownFrameAcknowledged g us => exact h.ownFrame hs e
  case transmitError g =>
    unfold execTransmitError at e
    refine h.ifEvent hs ?_ e
    exact h.modErrors (h.errorFrame hs g) g _ fun _ => ⟨rfl, rfl, rfl⟩
  case receiveError g =>
    unfold execReceiveError complete at e
    cases e
    exact h.finish (h.modErrors (h.errorFrame (h.segEq hs) g) g _ fun _ => ⟨rfl, rfl, rfl⟩)
  case frameCompleted g us f => exact h.otherFrame hs e
  case creditWaitExpiry g x => exact h.ifEvent hs (h.failExchange hs g x _ _ _) e
  case responseWaitExpiry g x => exact h.ifEvent hs (h.failExchange hs g x _ _ _) e
  case partWaitExpiry g x => exact h.ifEvent hs (h.failExchange hs g x _ _ _) e
  case joinComplete g =>
    unfold execJoinComplete at e
    split at e
    · rename_i hj
      cases e; exact h.finish (h.goOnline hs g (by rw [hj]; decide))
    · cases e; exact hs
  case busOffRecovery g =>
    unfold execBusOffRecovery at e
    split at e
    · rename_i hj
      cases e; exact h.finish (h.goOnline hs g (by rw [hj.1]; decide))
    · cases e; exact hs
  case subWindowEnd g => exact h.ifEvent hs (h.subWindowEnd hs g) e
  case feedTimerExpiry c =>
    unfold execFeedTimerExpiry at e
    split at e
    · exact h.ifEvent hs (h.transferCause (h.transfer hs) c _) e
    · cases e; exact hs
  case keepaliveTimerExpiry c =>
    unfold execKeepaliveTimerExpiry at e
    split at e
    · exact h.ifEvent hs (h.keepaliveExpire hs c _) e
    · cases e; exact hs
  case watchDue c =>
    unfold execWatchDue at e
    split at e
    · exact h.ifEvent hs (h.watchDue hs c) e
    · cases e; exact hs
  case millisecondTick =>
    unfold execMillisecondTick at e
    dsimp only at e
    split at e
    · cases e; exact h.finish (h.wrInfo (h.time (h.time hs)) _ _)
    · cases e; exact h.finish (h.time hs)
    · cases e; exact h.finish (h.time hs)
  case secondsTick => exact h.ifEvent hs (h.countDowns (h.wrInfo (h.time hs) _ _)) e
  case grantExpiry i =>
    unfold execGrantExpiry at e
    dsimp only at e
    exact h.ifEvent hs (h.lampRefresh (h.recheckGrant (h.psEq hs) _ _)) e
  case suspensionEnd ch => exact h.ifEvent hs (h.unsuspend hs ch) e
  case connectorLineRawChange l v => cases e; exact h.finish (h.cm hs)
  case connectorDebounceExpiry l => exact h.ifEvent hs (h.lineExpire hs l) e
  case lampBlinkToggle => exact h.ifEvent hs (h.cm hs) e
  case supplyGoodAsserted =>
    unfold execSupplyGoodAsserted complete at e
    dsimp only at e
    rw [Host.Outcome.next.injEq] at e
    rw [← e]
    refine h.finish ?_
    split
    · exact h.supplyUp (h.cm hs)
    · exact h.cm hs
  case supplyGoodWithdrawn =>
    unfold execSupplyGoodWithdrawn complete at e
    dsimp only at e
    rw [Host.Outcome.next.injEq] at e
    rw [← e]
    refine h.finish ?_
    split
    · exact h.supplyFails (h.cm hs) _
    · exact h.cm hs
  case overcurrentAsserted v =>
    unfold execOvercurrentAsserted complete at e
    dsimp only at e
    rw [Host.Outcome.next.injEq] at e
    rw [← e]
    refine h.finish ?_
    split
    · exact h.cm hs
    · exact h.supplyFails (h.cm hs) _
  case supplyStartTimerExpiry => exact h.ifEvent hs (h.supplyFails hs _) e
  case ignitionRawChange v => cases e; exact h.finish (h.vsm hs)
  case stalenessTimerExpiry => exact h.ifEvent hs (h.goStale hs) e
  case recessiveRunCounted g => exact h.ifEvent hs (h.segEq hs) e

end Closed

end Sys2Proof.Machine
end

