-- ==== Sys2Proof/Laws/Ops.lean ====
section
/-! SUPPORT. What each shared operation comes to, said once: the whole next state, or what it stores and what it leaves. -/

namespace Sys2Proof.Machine

variable (s : State)

/-! ### Runs of bytes -/

@[simp] theorem le16_length (n : Nat) : (le16 n).length = 2 := rfl
@[simp] theorem le32_length (n : Nat) : (le32 n).length = 4 := rfl
@[simp] theorem Mem.bytes_length (m : Mem) (a n : Nat) : (m.bytes a n).length = n := by simp [Mem.bytes]

/-- A run of bytes reads as before if the store lies beside it. -/
theorem Mem.bytes_write_beside (m : Mem) {b : Nat} {bs : List Byte} {a n : Nat} (h : a + n ≤ b ∨ b + bs.length ≤ a) :
    (m.write b bs).bytes a n = m.bytes a n := by
  refine List.map_congr_left fun k hk => ?_
  rw [List.mem_range] at hk
  exact Mem.read_write_outside m (by unfold Within; omega)

/-- A run of bytes inside a store reads the bytes stored. -/
theorem Mem.bytes_write_inside (m : Mem) {b : Nat} {bs : List Byte} {o n : Nat} (h : o + n ≤ bs.length)
    (hr : b + bs.length ≤ Config.ramSize) : (m.write b bs).bytes (b + o) n = (bs.drop o).take n := by
  apply List.ext_getElem
  · simp only [Mem.bytes_length, List.length_take, List.length_drop]; omega
  · intro k hk _
    rw [Mem.bytes_length] at hk
    simp only [Mem.bytes, List.getElem_map, List.getElem_range, List.getElem_take, List.getElem_drop]
    have hw : Within b bs.length (b + o + k) := by constructor <;> omega
    have hs : b + o + k < Config.ramSize := by omega
    have e : b + o + k - b = o + k := by omega
    have hl : o + k < bs.length := by omega
    rw [Mem.read_write, if_pos hw, if_pos hs, e]
    simp [List.getD, List.getElem?_eq_getElem hl]

/-- A store reads back whole. -/
theorem Mem.bytes_write (m : Mem) {b : Nat} {bs : List Byte} (hr : b + bs.length ≤ Config.ramSize) :
    (m.write b bs).bytes b bs.length = bs := by
  simpa using m.bytes_write_inside (b := b) (bs := bs) (o := 0) (n := bs.length) (by omega) hr

/-- One byte inside a store. -/
theorem Mem.read_write_inside (m : Mem) {b : Nat} {bs : List Byte} {o : Nat} (h : o < bs.length)
    (hr : b + bs.length ≤ Config.ramSize) : (m.write b bs).read (b + o) = bs.getD o 0 := by
  have hw : Within b bs.length (b + o) := by constructor <;> omega
  have e : b + o - b = o := by omega
  rw [Mem.read_write, if_pos hw, if_pos (by omega), e]

theorem word_of_le16 (n : Nat) : BitVec.ofNat 16 (ofLe (le16 n)) = BitVec.ofNat 16 n := by
  apply BitVec.eq_of_toNat_eq
  simp only [le16, ofLe, byte, BitVec.toNat_ofNat]
  omega

/-- A stored word reads back. -/
theorem Mem.word_write (m : Mem) {b : Nat} (n : Nat) (hr : b + 2 ≤ Config.ramSize) :
    (m.write b (le16 n)).word b = BitVec.ofNat 16 n := by
  have := m.bytes_write (b := b) (bs := le16 n) (by simpa using hr)
  rw [le16_length] at this
  rw [Mem.word, this, word_of_le16]

/-- A word reads as before if the store lies beside it. -/
theorem Mem.word_write_beside (m : Mem) {b : Nat} {bs : List Byte} {a : Nat} (h : a + 2 ≤ b ∨ b + bs.length ≤ a) :
    (m.write b bs).word a = m.word a := by rw [Mem.word, m.bytes_write_beside h, Mem.word]

/-! ### Addresses (11.3) -/

theorem cellBase_bounds (c : Fin 32) : 0x100 ≤ cellBase c ∧ cellBase c + 128 ≤ 0x1100 := by unfold cellBase; omega
theorem chanBase_bounds (ch : Fin 8) : 0x1100 ≤ chanBase ch ∧ chanBase ch + 32 ≤ 0x1200 := by unfold chanBase; omega
theorem slotBase_bounds (n : Fin 8) : 0x1200 ≤ slotBase n ∧ slotBase n + 16 ≤ 0x1280 := by unfold slotBase; omega
theorem segBase_bounds (g : Fin 4) : 0x1280 ≤ segBase g ∧ segBase g + 128 ≤ 0x1480 := by unfold segBase; omega
theorem cellBase_apart {c d : Fin 32} (h : c ≠ d) : cellBase c + 128 ≤ cellBase d ∨ cellBase d + 128 ≤ cellBase c := by
  have := Fin.val_ne_of_ne h; unfold cellBase; omega
theorem slotBase_apart {c d : Fin 8} (h : c ≠ d) : slotBase c + 16 ≤ slotBase d ∨ slotBase d + 16 ≤ slotBase c := by
  have := Fin.val_ne_of_ne h; unfold slotBase; omega

/-! ### Frames of memory -/

theorem MemFrame.refl (p : Nat → Prop) : MemFrame s s p := fun _ _ => rfl

theorem MemFrame.trans {s t u : State} {p : Nat → Prop} (x : MemFrame s t p) (y : MemFrame t u p) : MemFrame s u p :=
  fun a h => (y a h).trans (x a h)

theorem MemFrame.mono {s t : State} {p q : Nat → Prop} (x : MemFrame s t p) (h : ∀ a, p a → q a) : MemFrame s t q :=
  fun a n => x a fun k => n (h a k)

/-- A store changes its own places. -/
theorem State.wr_frame (a : Nat) (bs : List Byte) : MemFrame s (s.wr a bs) (Within a bs.length) :=
  fun _ h => Mem.read_write_outside _ h

/-- The end of an event stores at most the Information Block's change counter and reserved bytes. -/
theorem State.finish_frame : MemFrame s s.finish InfoShared := by
  unfold State.finish State.infoClose
  split
  · intro a h
    unfold InfoShared Within at h
    refine (Mem.read_write_outside _ ?_).trans (Mem.read_clear_outside _ ?_)
    · simp only [Within, le16_length]; omega
    · simp only [infoReserved, List.mem_cons, List.not_mem_nil, or_false, forall_eq_or_imp, forall_eq, Within]; omega
  · exact MemFrame.refl s _

/-! ### Cells -/

/-- A change of a cell's true state: its record, and its mirror. -/
theorem State.setCell_eq (c : Fin 32) (st : CellState) :
    s.setCell c st =
      { s with board := { s.board with cells := upd s.board.cells c fun r => { r with st := st } }
               mem := s.mem.write (cellBase c) (le16 st.code) } := by
  have h : ((s.modCell c fun r => { r with st := st }).cell c).st = st := by rw [State.cell_modCell]
  unfold State.setCell State.wrCellWord
  rw [h]
  rfl

/-- After a change of a cell's true state the record and the mirror show it. -/
theorem State.setCell_shows (c : Fin 32) (st : CellState) : CellShows (s.setCell c st) c st := by
  have hb := cellBase_bounds c
  refine ⟨?_, ?_⟩ <;> rw [State.setCell_eq]
  · show ((upd s.board.cells c _)[c]).st = st
    rw [upd_same]
  · exact s.mem.word_write _ (by have : Config.ramSize = 0x10000 := rfl; omega)

/-- A record of another cell stays. -/
theorem State.setCell_cell_ne {c d : Fin 32} (st : CellState) (h : d ≠ c) : (s.setCell c st).cell d = s.cell d := by
  rw [State.setCell_eq]
  exact upd_ne _ _ h

/-- The state in which an ended cell stands. -/
def CellEnd.state (e : CellEnd) : CellState :=
  match e.fault with
  | some _ => .failed
  | none => .done

/-- The end of a cell whose outcome accrues nothing on a channel: result area, true state and mirror, done bit. -/
theorem State.endCellOn_none (c : Fin 32) (e : CellEnd) :
    s.endCellOn none c e =
      { s with board := { s.board with cells := upd s.board.cells c fun r => { r with st := e.state } }
               mem := (s.mem.write (cellBase c + 64) (resultBytes s c e)).write (cellBase c) (le16 e.state.code)
               regs := { s.regs with done := s.regs.done ||| (1#32 <<< c.val) } } := by
  unfold State.endCellOn
  simp only [State.setCell_eq]
  rfl

/-- With a channel, the conditions accrue first. -/
theorem State.endCellOn_some (ch : Fin 8) (c : Fin 32) (e : CellEnd) :
    s.endCellOn (some ch) c e = (s.accrue ch e.conditions).endCellOn none c e := rfl

/-! ### Board errors (R181) -/

/-- A board error: the record, the count, EVENT BOARD, and their two fields of the Information Block. -/
theorem State.boardError_eq (b : BoardError) :
    s.boardError b =
      { s with info := { s.info with lastError := b, errors := s.info.errors + 1, dirty := true }
               mem := (s.mem.write 0x30 b.bytes).write 0x2C (le32 (s.info.errors + 1).toNat)
               regs := { s.regs with event := s.regs.event ||| Event.board.bit } } := rfl

/-- On a cell word the mirror is restored first. -/
theorem State.cellError_eq (c : Fin 32) (v : Word16) :
    s.cellError c v =
      (s.wr (cellBase c) (le16 (s.cell c).st.code)).boardError
        { word := 1, number := c.val, value := v, state := (s.cell c).st.code } := rfl

/-! ### Channels (R41) -/

/-- A change of a channel record: nothing if it changes nothing, else the record with its counter advanced, and its entry. -/
theorem State.updChan_eq (ch : Fin 8) (f : Chan → Chan) :
    s.updChan ch f =
      if f (s.chan ch) = s.chan ch then s
      else
        { s with chans := upd s.chans ch fun _ => { f (s.chan ch) with counter := (s.chan ch).counter + 1 }
                 mem := s.mem.write (chanBase ch)
                   (Chan.bytes { f (s.chan ch) with counter := (s.chan ch).counter + 1 }) } := by
  unfold State.updChan
  split <;> simp_all [State.modChan, State.wr]

/-- Another channel's record stays. -/
theorem State.updChan_chan_ne {ch k : Fin 8} (f : Chan → Chan) (h : k ≠ ch) : (s.updChan ch f).chan k = s.chan k := by
  rw [State.updChan_eq]
  split
  · rfl
  · exact upd_ne _ _ h

theorem Chan.bytes_length (r : Chan) : r.bytes.length = 32 := by simp [Chan.bytes, zeros]

/-- A change of a channel stores only its entry. -/
theorem State.updChan_frame (ch : Fin 8) (f : Chan → Chan) : MemFrame s (s.updChan ch f) (Within (chanBase ch) 32) := by
  rw [State.updChan_eq]
  split
  · exact MemFrame.refl s _
  · intro a h
    exact Mem.read_write_outside _ (by rw [Chan.bytes_length]; exact h)

/-! ### Segments (R62, R92, R112) -/

/-- The STU's write: its fields, the reserved bytes and the change counter. -/
theorem State.stuWrite_eq (g : Fin 4) :
    s.stuWrite g =
      { s with segs := upd s.segs g fun q => { q with counter := (s.seg g).counter + 1 }
               mem := ((s.mem.write (segBase g + 2) (stuBytes s.ps.active g (s.seg g))).clear (segReserved g)).write (segBase g)
                 (le16 ((s.seg g).counter + 1).toNat) } := by
  simp only [State.stuWrite, State.segClose, State.wrReserved, State.modSeg, State.wr, State.seg]

/-- The LS's write: its fields, its two pace fields, the reserved bytes and the change counter. -/
theorem State.lsWrite_eq (g : Fin 4) :
    s.lsWrite g =
      { s with segs := upd s.segs g fun q => { q with counter := (s.seg g).counter + 1 }
               mem := ((((s.mem.write (segBase g + 0x28) (lsBytes (s.seg g))).write (segBase g + 0x4A)
                 [byte (s.seg g).pace.maxCtx]).write (segBase g + 0x4D) [(s.seg g).pace.pause]).clear (segReserved g)).write
                 (segBase g)
                 (le16 ((s.seg g).counter + 1).toNat) } := by
  simp only [State.lsWrite, State.segClose, State.wrReserved, State.modSeg, State.wr, State.seg]

/-- The LR's write: its fields, the reserved bytes and the change counter. -/
theorem State.lrWrite_eq (g : Fin 4) :
    s.lrWrite g =
      { s with segs := upd s.segs g fun q => { q with counter := (s.seg g).counter + 1 }
               mem := ((s.mem.write (segBase g + 0x38) (lrBytes s.ps.active g (s.seg g))).clear (segReserved g)).write (segBase g)
                 (le16 ((s.seg g).counter + 1).toNat) } := by
  simp only [State.lrWrite, State.segClose, State.wrReserved, State.modSeg, State.wr, State.seg]

theorem stuBytes_length (p : PolicySet) (g : Fin 4) (q : Seg) : (stuBytes p g q).length = 38 := by simp [stuBytes]

theorem lsBytes_length (q : Seg) : (lsBytes q).length = 16 := by simp [lsBytes]

theorem lrBytes_length (p : PolicySet) (g : Fin 4) (q : Seg) : (lrBytes p g q).length = 72 := by
  simp [lrBytes, Pace.bytes, zeros]

/-- The reserved bytes and the change counter of a segment's entry lie inside it. -/
theorem read_segClose (m : Mem) {g : Fin 4} {n : Nat} {a : Nat} (h : ¬ Within (segBase g) 128 a) :
    ((m.clear (segReserved g)).write (segBase g) (le16 n)).read a = m.read a := by
  unfold Within at h
  refine (Mem.read_write_outside _ ?_).trans (Mem.read_clear_outside _ ?_)
  · simp only [Within, le16_length]; omega
  · simp only [segReserved, List.mem_cons, List.not_mem_nil, or_false, forall_eq_or_imp, forall_eq, Within]; omega

/-- A write by any unit stores only inside the segment's entry. -/
theorem State.stuWrite_frame (g : Fin 4) : MemFrame s (s.stuWrite g) (Within (segBase g) 128) := by
  rw [State.stuWrite_eq]
  intro a h
  refine (read_segClose _ h).trans (Mem.read_write_outside _ ?_)
  unfold Within at *
  rw [stuBytes_length]; omega

theorem State.lsWrite_frame (g : Fin 4) : MemFrame s (s.lsWrite g) (Within (segBase g) 128) := by
  rw [State.lsWrite_eq]
  intro a h
  refine (read_segClose _ h).trans <| (Mem.read_write_outside _ ?_).trans <| (Mem.read_write_outside _ ?_).trans <|
    Mem.read_write_outside _ ?_ <;> unfold Within at * <;>
    simp only [lsBytes_length, List.length_cons, List.length_nil] <;> omega

theorem State.lrWrite_frame (g : Fin 4) : MemFrame s (s.lrWrite g) (Within (segBase g) 128) := by
  rw [State.lrWrite_eq]
  intro a h
  refine (read_segClose _ h).trans (Mem.read_write_outside _ ?_)
  unfold Within at *
  rw [lrBytes_length]; omega

/-- The record of the segment after a write by a unit: only its change counter has moved. -/
theorem State.seg_stuWrite (g : Fin 4) : (s.stuWrite g).seg g = { s.seg g with counter := (s.seg g).counter + 1 } := by
  rw [State.stuWrite_eq]; exact upd_same _ _ _
theorem State.seg_lsWrite (g : Fin 4) : (s.lsWrite g).seg g = { s.seg g with counter := (s.seg g).counter + 1 } := by
  rw [State.lsWrite_eq]; exact upd_same _ _ _
theorem State.seg_lrWrite (g : Fin 4) : (s.lrWrite g).seg g = { s.seg g with counter := (s.seg g).counter + 1 } := by
  rw [State.lrWrite_eq]; exact upd_same _ _ _

/-! ### Lanes (R48 to R55) -/

/-- An entry joins: the tail of its lane, and the LS's write. -/
theorem State.seg_join (g : Fin 4) (e : Entry) :
    (s.join g e).seg g =
      { s.seg g with lanes := (s.seg g).lanes.mod e.lane (· ++ [e]), counter := (s.seg g).counter + 1 } := by
  unfold State.join
  rw [State.seg_lsWrite, State.seg_modSeg]

/-- A segment that cannot start is left as it is by an arbitration. -/
theorem State.arbitrate_waits {s : State} {g : Fin 4} (h : Waits s g) : s.arbitrate g = s := by
  have h : (s.seg g).canStart = false := h
  have e : s.startOne g = none := by simp [State.startOne, h]
  simp [State.arbitrate, State.arbitrateFuel, e]

/-- Nothing starts where nothing waits. -/
theorem State.arbitrate_empty {s : State} {g : Fin 4} (h : LanesEmpty s g) : s.arbitrate g = s := by
  have h : (s.seg g).lanes = Lanes.empty := h
  have n : chooseEntry s.ps.active g (s.seg g) = none := by
    rw [chooseEntry, List.findSome?_eq_none_iff]
    intro k _
    have : ∀ l, (Lanes.empty).get l = [] := fun l => by cases l <;> rfl
    simp [h, this]
  have e : s.startOne g = none := by
    unfold State.startOne
    simp only [n]
    split <;> rfl
  simp [State.arbitrate, State.arbitrateFuel, e]

/-- A cell without an entry: nothing to drop. -/
theorem State.dropEntry_none {s : State} {c : Fin 32} (h : s.entryOf c = none) : s.dropEntry c = s := by
  simp [State.dropEntry, h]

/-- An entry leaves its lane wherever it stands. -/
theorem State.dropEntry_some {s : State} {c : Fin 32} {g : Fin 4} {e : Entry} (h : s.entryOf c = some (g, e)) :
    s.dropEntry c = (s.modSeg g fun q => { q with lanes := q.lanes.without c }).lsWrite g := by simp [State.dropEntry, h]

/-! ### Admission (R35, R37) -/

/-- An admission charges its grant, and counts. -/
theorem State.countVerdict_allow (ch : Fin 8) (grant : Nat) (g : Fin 4) :
    s.countVerdict ch (.allow grant g) = (s.charge grant).updChan ch fun r => { r with run := 0, admitted := r.admitted + 1 } := rfl

/-- Without a grant nothing is charged. -/
theorem State.charge_none {n : Nat} (h : 16 ≤ n) : s.charge n = s := by simp [State.charge, Nat.not_lt.2 h]

/-- The charge of a grant: its usage count, up to 65535. -/
theorem State.charge_eq {n : Nat} (h : n < 16) :
    s.charge n =
      { s with ps := { s.ps with usage := upd s.ps.usage ⟨n, h⟩ fun u => { u with count := min (u.count + 1) 0xFFFF } } } := by
  simp [State.charge, h, State.modPs]

/-! ### The lamp (R157, R158) -/

/-- Where the indication stands, a refresh changes nothing. -/
theorem State.lampRefresh_same (h : s.indication = s.cm.lampInd) : s.lampRefresh = s := by simp [State.lampRefresh, h]

/-- Where it changes, the lamp takes it, and the Information Block shows it with the mode. -/
theorem State.lampRefresh_new (h : s.indication ≠ s.cm.lampInd) :
    s.lampRefresh = (s.modCm fun m => m.show s.indication s.time.clock).wrLamp := by simp [State.lampRefresh, h]

/-! ### Usage records (R6, R16) -/

/-- A grant kept by identity keeps its usage record, and a spent one stays spent. -/
theorem newUsage_kept {p : PS} {sec : Word32} {q : Grant} {i : Fin 16} (h : q.used = true) (k : p.active.sameGrant q = some i) :
    newUsage p sec q = { p.usage[i] with spent := p.active.grants[i].spent p.usage[i] } := by simp [newUsage, h, k]

/-- Any other grant starts a fresh record. -/
theorem newUsage_fresh {p : PS} {sec : Word32} {q : Grant} (h : q.used = true) (k : p.active.sameGrant q = none) :
    newUsage p sec q = { Usage.none with expiry := if q.lifetime = 0 then none else some (sec + BitVec.ofNat 32 q.lifetime) } := by
  simp [newUsage, h, k]

/-- A grant that was spent under the old set is not live for a first admission under any new settings. -/
theorem grantLive_newUsage_spent {p : PS} {sec : Word32} {q : Grant} {i : Fin 16} (h : q.used = true)
    (k : p.active.sameGrant q = some i) (hs : p.active.grants[i].spent p.usage[i] = true) :
    grantLive q (newUsage p sec q) false = false := by
  have spent : q.spent { p.usage[i] with spent := true } = true := rfl
  rw [newUsage_kept h k, hs, grantLive, spent]
  simp

/-! ### Commands on watched words (R179) -/

/-- A watched write while Ready is 1 is stored and then acted on, and the event ends. -/
theorem watchedWrite_running {s : State} {a : Nat} {w : HostWrite} {ok : Word16 → Bool} {act : State → Word16 → State}
    (hp : s.phase = .running) (hw : w.ok = true) (hv : ok ((s.mem.hostWrite a w).word a) = true) :
    watchedWrite s a w ok act = .next (act (s.hostWord a w) ((s.mem.hostWrite a w).word a)).finish := by
  simp [watchedWrite, State.hostWord, hp, hw, hv, complete]

/-- A receipt of a cell that its owner can receive. -/
theorem receive_eq {s : State} {c : Fin 32} {k : Kind} {act : State → State} (h : s.taken c k = true) :
    receive s c k act = .next ((act s).actHeld c).finish := by simp [receive, h, complete]

end Sys2Proof.Machine
end

