-- ==== Sys2Proof/Laws/PerInstr.lean ====
section
/-! SUPPORT. The footprint of each command as syntax: which word of the port a host write goes to, and that a well-formed
command names a word that its kind of write has (R177, R179). One lemma for each constructor of Instr. -/

namespace Sys2Proof.Laws.Footprint

/-- The watched word that a command writes to: the state word of a cell or of a slot (R179). -/
def watchedWord : Instr → Option Nat
  | .cellPost c _ | .cellEmpty c _ | .cellAbort c _ | .cellInvalidWrite c _ => some (Machine.cellBase c)
  | .slotFilled n _ | .slotFree n _ | .slotInvalidWrite n _ => some (Machine.slotBase n)
  | _ => none

/-- The word of RAM that a command writes to without an event (R177). -/
def plainTarget : Instr → Option Nat
  | .hostRamWrite a _ => some a
  | _ => none

/-- The byte enables of a command that carries a host write (R177). -/
def hostWriteOf : Instr → Option HostWrite
  | .doneSummaryClear _ w | .eventSummaryClear w | .eventEnableWrite w | .ignoredRegisterWrite _ w | .hostRamWrite _ w
  | .cellPost _ w | .cellEmpty _ w | .cellAbort _ w | .cellInvalidWrite _ w
  | .slotFilled _ w | .slotFree _ w | .slotInvalidWrite _ w => some w
  | _ => none

/-- A well-formed command that writes a watched word names one, inside the 64 KiB and at an even address; one that writes plain
RAM names a word that is not watched; and a host write enables a byte. -/
def Statement (i : Instr) : Prop :=
  i.wf = true →
    (∀ a, watchedWord i = some a → Machine.watched a = true ∧ a % 2 = 0 ∧ a < 0x10000) ∧
      (∀ a, plainTarget i = some a → Machine.watched a = false ∧ a % 2 = 0 ∧ a < 0x10000) ∧
      ∀ w, hostWriteOf i = some w → w.low = true ∨ w.high = true

/-- The state word of a cell is a watched word. -/
theorem cell_watched (c : Fin 32) :
    Machine.watched (Machine.cellBase c) = true ∧ Machine.cellBase c % 2 = 0 ∧ Machine.cellBase c < 0x10000 := by
  refine ⟨?_, by simp only [Machine.cellBase]; omega, by simp only [Machine.cellBase]; omega⟩
  have h : (List.finRange 32).any (fun d => Machine.cellBase c == Machine.cellBase d) = true :=
    List.any_eq_true.2 ⟨c, List.mem_finRange c, beq_self_eq_true _⟩
  simp [Machine.watched, h]

/-- The state word of a slot is a watched word. -/
theorem slot_watched (n : Fin 8) :
    Machine.watched (Machine.slotBase n) = true ∧ Machine.slotBase n % 2 = 0 ∧ Machine.slotBase n < 0x10000 := by
  refine ⟨?_, by simp only [Machine.slotBase]; omega, by simp only [Machine.slotBase]; omega⟩
  have h : (List.finRange 8).any (fun d => Machine.slotBase n == Machine.slotBase d) = true :=
    List.any_eq_true.2 ⟨n, List.mem_finRange n, beq_self_eq_true _⟩
  simp [Machine.watched, h]

/-- A host write that is well-formed enables a byte. -/
theorem enables (w : HostWrite) (h : w.ok = true) : w.low = true ∨ w.high = true := by
  simpa [HostWrite.ok] using h

/-- A command without a host write leaves no footprint. -/
theorem none_of (i : Instr) (h : watchedWord i = none) (p : plainTarget i = none) (w : hostWriteOf i = none) : Statement i := by
  intro _
  simp [h, p, w]

theorem powerOnReset : Statement .powerOnReset :=
  none_of _ rfl rfl rfl
theorem ramClearDone : Statement .ramClearDone :=
  none_of _ rfl rfl rfl
theorem softReset (retain : Bool) : Statement (.softReset retain) :=
  none_of _ rfl rfl rfl
theorem softResetReady : Statement .softResetReady :=
  none_of _ rfl rfl rfl
theorem runWrite (v : Bool) : Statement (.runWrite v) :=
  none_of _ rfl rfl rfl
theorem retainWrite (v : Bool) : Statement (.retainWrite v) :=
  none_of _ rfl rfl rfl
theorem doneIrqEnableWrite (v : Bool) : Statement (.doneIrqEnableWrite v) :=
  none_of _ rfl rfl rfl
theorem doneSummaryClear (upper : Bool) (w : HostWrite) : Statement (.doneSummaryClear upper w) := fun h =>
  ⟨nofun, nofun, fun _ e => by cases e; exact enables w h⟩
theorem eventSummaryClear (w : HostWrite) : Statement (.eventSummaryClear w) := fun h =>
  ⟨nofun, nofun, fun _ e => by cases e; exact enables w h⟩
theorem eventEnableWrite (w : HostWrite) : Statement (.eventEnableWrite w) := fun h =>
  ⟨nofun, nofun, fun _ e => by cases e; exact enables w h⟩
theorem ignoredRegisterWrite (addr : Nat) (w : HostWrite) : Statement (.ignoredRegisterWrite addr w) := fun h =>
  ⟨nofun, nofun, fun _ e => by
    cases e; exact enables w (by simp only [Instr.wf, Bool.and_eq_true] at h; exact h.2)⟩
theorem hostRamWrite (addr : Nat) (w : HostWrite) : Statement (.hostRamWrite addr w) := by
  intro h
  simp only [Instr.wf, plainWord, Bool.and_eq_true] at h
  refine ⟨nofun, fun _ e => ?_, fun _ e => by cases e; exact enables w h.2⟩
  cases e
  simpa [and_comm, and_assoc, and_left_comm] using h.1
theorem cellPost (c : Fin 32) (w : HostWrite) : Statement (.cellPost c w) := fun h =>
  ⟨fun _ e => by cases e; exact cell_watched c, nofun, fun _ e => by cases e; exact enables w h⟩
theorem cellEmpty (c : Fin 32) (w : HostWrite) : Statement (.cellEmpty c w) := fun h =>
  ⟨fun _ e => by cases e; exact cell_watched c, nofun, fun _ e => by cases e; exact enables w h⟩
theorem cellAbort (c : Fin 32) (w : HostWrite) : Statement (.cellAbort c w) := fun h =>
  ⟨fun _ e => by cases e; exact cell_watched c, nofun, fun _ e => by cases e; exact enables w h⟩
theorem cellInvalidWrite (c : Fin 32) (w : HostWrite) : Statement (.cellInvalidWrite c w) := fun h =>
  ⟨fun _ e => by cases e; exact cell_watched c, nofun, fun _ e => by cases e; exact enables w h⟩
theorem slotFilled (n : Fin 8) (w : HostWrite) : Statement (.slotFilled n w) := fun h =>
  ⟨fun _ e => by cases e; exact slot_watched n, nofun, fun _ e => by cases e; exact enables w h⟩
theorem slotFree (n : Fin 8) (w : HostWrite) : Statement (.slotFree n w) := fun h =>
  ⟨fun _ e => by cases e; exact slot_watched n, nofun, fun _ e => by cases e; exact enables w h⟩
theorem slotInvalidWrite (n : Fin 8) (w : HostWrite) : Statement (.slotInvalidWrite n w) := fun h =>
  ⟨fun _ e => by cases e; exact slot_watched n, nofun, fun _ e => by cases e; exact enables w h⟩
theorem cellTake : Statement .cellTake :=
  none_of _ rfl rfl rfl
theorem exchangeAdmission (c : Fin 32) : Statement (.exchangeAdmission c) :=
  none_of _ rfl rfl rfl
theorem transferReceipt (c : Fin 32) : Statement (.transferReceipt c) :=
  none_of _ rfl rfl rfl
theorem watchReceipt (c : Fin 32) : Statement (.watchReceipt c) :=
  none_of _ rfl rfl rfl
theorem check (c : Fin 32) : Statement (.check c) :=
  none_of _ rfl rfl rfl
theorem commitNow (c : Fin 32) : Statement (.commitNow c) :=
  none_of _ rfl rfl rfl
theorem commitAtIgnition (c : Fin 32) : Statement (.commitAtIgnition c) :=
  none_of _ rfl rfl rfl
theorem clearAccrued (c : Fin 32) : Statement (.clearAccrued c) :=
  none_of _ rfl rfl rfl
theorem clearLatch (c : Fin 32) : Statement (.clearLatch c) :=
  none_of _ rfl rfl rfl
theorem releaseSuspension (c : Fin 32) : Statement (.releaseSuspension c) :=
  none_of _ rfl rfl rfl
theorem connector (c : Fin 32) : Statement (.connector c) :=
  none_of _ rfl rfl rfl
theorem load (c : Fin 32) : Statement (.load c) :=
  none_of _ rfl rfl rfl
theorem freeze (c : Fin 32) : Statement (.freeze c) :=
  none_of _ rfl rfl rfl
theorem unfreeze (c : Fin 32) : Statement (.unfreeze c) :=
  none_of _ rfl rfl rfl
theorem disable (c : Fin 32) : Statement (.disable c) :=
  none_of _ rfl rfl rfl
theorem enable (c : Fin 32) : Statement (.enable c) :=
  none_of _ rfl rfl rfl
theorem restart (c : Fin 32) : Statement (.restart c) :=
  none_of _ rfl rfl rfl
theorem queueDeadlineExpiry (c : Fin 32) : Statement (.queueDeadlineExpiry c) :=
  none_of _ rfl rfl rfl
theorem frameOffer (g : Fin 4) (us : Fin 1000) : Statement (.frameOffer g us) :=
  none_of _ rfl rfl rfl
theorem ownFrameAcknowledged (g : Fin 4) (us : Fin 1000) : Statement (.ownFrameAcknowledged g us) :=
  none_of _ rfl rfl rfl
theorem transmitError (g : Fin 4) : Statement (.transmitError g) :=
  none_of _ rfl rfl rfl
theorem receiveError (g : Fin 4) : Statement (.receiveError g) :=
  none_of _ rfl rfl rfl
theorem frameCompleted (g : Fin 4) (us : Fin 1000) (f : CanFrame) : Statement (.frameCompleted g us f) :=
  none_of _ rfl rfl rfl
theorem creditWaitExpiry (g : Fin 4) (x : Fin 4) : Statement (.creditWaitExpiry g x) :=
  none_of _ rfl rfl rfl
theorem responseWaitExpiry (g : Fin 4) (x : Fin 4) : Statement (.responseWaitExpiry g x) :=
  none_of _ rfl rfl rfl
theorem partWaitExpiry (g : Fin 4) (x : Fin 4) : Statement (.partWaitExpiry g x) :=
  none_of _ rfl rfl rfl
theorem joinComplete (g : Fin 4) : Statement (.joinComplete g) :=
  none_of _ rfl rfl rfl
theorem busOffRecovery (g : Fin 4) : Statement (.busOffRecovery g) :=
  none_of _ rfl rfl rfl
theorem subWindowEnd (g : Fin 4) : Statement (.subWindowEnd g) :=
  none_of _ rfl rfl rfl
theorem feedTimerExpiry (c : Fin 32) : Statement (.feedTimerExpiry c) :=
  none_of _ rfl rfl rfl
theorem keepaliveTimerExpiry (c : Fin 32) : Statement (.keepaliveTimerExpiry c) :=
  none_of _ rfl rfl rfl
theorem watchDue (c : Fin 32) : Statement (.watchDue c) :=
  none_of _ rfl rfl rfl
theorem millisecondTick : Statement .millisecondTick :=
  none_of _ rfl rfl rfl
theorem secondsTick : Statement .secondsTick :=
  none_of _ rfl rfl rfl
theorem grantExpiry (i : Fin 16) : Statement (.grantExpiry i) :=
  none_of _ rfl rfl rfl
theorem suspensionEnd (ch : Fin 8) : Statement (.suspensionEnd ch) :=
  none_of _ rfl rfl rfl
theorem connectorLineRawChange (l : ConnLine) (level : Bool) : Statement (.connectorLineRawChange l level) :=
  none_of _ rfl rfl rfl
theorem connectorDebounceExpiry (l : ConnLine) : Statement (.connectorDebounceExpiry l) :=
  none_of _ rfl rfl rfl
theorem departure : Statement .departure :=
  none_of _ rfl rfl rfl
theorem lampBlinkToggle : Statement .lampBlinkToggle :=
  none_of _ rfl rfl rfl
theorem supplyGoodAsserted : Statement .supplyGoodAsserted :=
  none_of _ rfl rfl rfl
theorem supplyGoodWithdrawn : Statement .supplyGoodWithdrawn :=
  none_of _ rfl rfl rfl
theorem overcurrentAsserted (stays : Bool) : Statement (.overcurrentAsserted stays) :=
  none_of _ rfl rfl rfl
theorem supplyStartTimerExpiry : Statement .supplyStartTimerExpiry :=
  none_of _ rfl rfl rfl
theorem ignitionRawChange (level : Bool) : Statement (.ignitionRawChange level) :=
  none_of _ rfl rfl rfl
theorem ignitionDebounceExpiry : Statement .ignitionDebounceExpiry :=
  none_of _ rfl rfl rfl
theorem stalenessTimerExpiry : Statement .stalenessTimerExpiry :=
  none_of _ rfl rfl rfl
theorem recessiveRunCounted (g : Fin 4) : Statement (.recessiveRunCounted g) :=
  none_of _ rfl rfl rfl

end Sys2Proof.Laws.Footprint
end

