-- ==== Sys2Proof/Tests/Slice0.lean ====
section
/-! SUPPORT. Checks of the model on small states: ill-formed commands, one-step effects with values from the spec, and for each
obligation with hypotheses a state and operands that meet them, clause by clause. -/

set_option Elab.async false

namespace Sys2Proof.Machine.Tests

/-! ### Small states -/

/-- A whole word written by the host. -/
def word (v : Nat) : HostWrite := { data := BitVec.ofNat 16 v, low := true, high := true }

/-- Ready, with RUN set and nothing else. -/
def up : State := { State.reset with phase := .running, regs := { Regs.reset false with run := true } }

/-- A set in which channel 1 holds grant 21 for READ (22h, class 1) and DOWNLOAD (34h, class 6), 3Eh is class 0 without a
grant, 10h is class 2 with a grant that no channel holds, 11h is class 3 with the four conditions, and segments 0 and 1 are
enabled, each with one ECU. -/
def policy : PolicySet :=
  { PolicySet.default with
    classes := (((PolicySet.default.classes.set 0x22 1).set 0x34 6).set 0x3E 0 |>.set 0x10 2).set 0x11 3
    rules := #v[0, 1, 1, 2, 0, 0, 0x21, 0]
    routes := (PolicySet.default.routes.set 0
      { addr := 0x17, seg := 0, format := 0, reqId := 0x6A2, respId := 0x6B2, wait := 200 }).set 1
      { addr := 0x2A, seg := 1, format := 0, reqId := 0x6A2, respId := 0x6B2, wait := 200 } |>.set 2
      { addr := 0x33, seg := 2, format := 0, reqId := 0x6A2, respId := 0x6B2, wait := 200 }
    grants := PolicySet.default.grants.set 2
      { id := 21, channel := 1, classes := 0x42, count := 0xFF, targets := Vector.replicate 8 0, rangePresent := 1,
        lifetime := 0, base := 0, length := 0, budget := 0 }
    segs := (PolicySet.default.segs.set 0 { SegSet.default with enabled := true }).set 1 { SegSet.default with enabled := true } }

/-- Ready under `policy`, with segments 0 and 1 ONLINE, their windows begun, at clock 1000. -/
def net : State :=
  { up with
    ps := { up.ps with active := policy }
    time := { up.time with clock := 1000 }
    segs := Vector.ofFn fun g =>
      { Seg.reset policy g 0 with
        ctl := if g.val < 2 then .online else .disabled
        winStart := some 0, pace := { Pace.default 0 with txGap := 0 } } }

/-- The same with segment 0 JOINING, so that it can start nothing. -/
def waiting : State := net.modSeg 0 fun q => { q with ctl := .joining }

/-- 64 captured bytes, all 0 but for those listed. -/
def fields (l : List (Nat × Nat)) : List Byte := (List.range 64).map fun o => byte ((l.lookup o).getD 0)

/-- Cell `c` in a state with captured fields. -/
def withCell (s : State) (c : Fin 32) (st : CellState) (l : List (Nat × Nat)) : State :=
  s.modCell c fun q => { q with st := st, captured := fields l }

/-- RAM that holds the bytes listed from an address on. -/
def ram (s : State) (a : Nat) (bs : List Byte) : State := { s with mem := s.mem.write a bs }

/-- Fields of an EXCHANGE of channel 1 with ECU 17h: request of 2 bytes at 8000h, response of 16 bytes at 9000h. -/
def exchange : List (Nat × Nat) := [(2, 1), (3, 1), (16, 0x17), (19, 0x80), (20, 2), (23, 0x90), (24, 16)]
/-- Fields of a WATCH with period 50, on the same ECU. -/
def watch : List (Nat × Nat) := [(2, 2), (3, 1), (16, 0x17), (19, 0x80), (20, 2), (23, 0x90), (24, 3), (26, 50), (28, 3)]
/-- Fields of a TRANSFER with service 34h of 20 bytes in blocks of 16, without references. -/
def transfer : List (Nat × Nat) := [(2, 3), (3, 1), (16, 0x17), (17, 0x34), (22, 20), (26, 16)]
/-- Fields of a THROTTLE, SEGMENT, CHANNEL, COMMIT or CONNECTOR cell: bytes 3, 16, 17 and 19. -/
def plain (kind ch a b d : Nat) : List (Nat × Nat) := [(2, kind), (3, ch), (16, a), (17, b), (19, d)]

/-- A busy context for cell `c` in a state. -/
def ctx (c : Fin 32) (role : Role) (st : CtxState) : Ctx :=
  { Ctx.free with
    st := st, cell := c, role := role, target := 0x17, reqId := .std 0x6A2, respId := .std 0x6B2, respWait := 200,
    payload := .ram 0x8000, length := 2, service := 0x22, nextPart := 1, tag := 1 }

/-- Context 0 of segment 0 holds `k`. -/
def withCtx (s : State) (k : Ctx) : State := (s.modCtx 0 0 fun _ => k).modSeg 0 fun q => { q with busy := [k.target] }

/-- A data frame of the ECU. -/
def reply (bs : List Byte) : CanFrame := partFrame (.std 0x6B2) bs

/-- An entry of cell `c`. -/
def entry (c : Fin 32) (role : Role) : Entry :=
  { cell := c, target := 0x17, role := role, cls := 1, lane := .normal, deadline := 0 }

/-- Segment 0 with one entry in NORMAL. -/
def withEntry (s : State) (e : Entry) : State := s.modSeg 0 fun q => { q with lanes := { q.lanes with normal := [e] } }

/-- A STREAMING transfer of cell `c` on ECU 17h. -/
def streaming (s : State) (c : Fin 32) : Transfer :=
  { newTransfer (withCell s c .active transfer) c 1 2 with phase := .streaming, out := none }

/-- Cell `c` is an ACTIVE transfer with record `r`. -/
def withTransfer (s : State) (c : Fin 32) (r : Transfer) : State := (withCell s c .active transfer).setTransfer c (some r)

/-- Cell `c` is an ACTIVE watch with record `w`. -/
def withWatch (s : State) (c : Fin 32) (w : Watch) : State := (withCell s c .active watch).setWatch c (some w)

/-- A watch of cell `c`, due at ms 0. -/
def quietWatch (c : Fin 32) : Watch :=
  { newWatch (ram (withCell net c .taken watch) 0x8000 [0x22, 1]) c 1 2 with nextDue := 0, out := .none }

/-- The next state of a command, or the same state where it stops. -/
def after (i : Instr) (s : State) : State :=
  match exec i s with
  | .next t => t
  | .fault _ | .refused _ => s

/-- A command answers a next state. -/
def runs (i : Instr) (s : State) : Bool :=
  match exec i s with
  | .next _ => true
  | .fault _ | .refused _ => false

/-! ### Ill-formed commands, one for each check -/

theorem test_wf_register_write_enables_a_byte :
    Instr.wf (.doneSummaryClear false ⟨1, false, false⟩) = false ∧ Instr.wf (.eventSummaryClear ⟨1, false, false⟩) = false ∧
      Instr.wf (.eventEnableWrite ⟨1, false, false⟩) = false ∧ Instr.wf (.ignoredRegisterWrite 0x0C ⟨1, false, false⟩) = false := by
  decide

theorem test_wf_ignored_write_address :
    Instr.wf (.ignoredRegisterWrite 0x0D (word 1)) = false ∧ Instr.wf (.ignoredRegisterWrite 0x02 (word 1)) = false ∧
      Instr.wf (.ignoredRegisterWrite 0x0A (word 1)) = false ∧ Instr.wf (.ignoredRegisterWrite 0x00 (word 1)) = true := by decide

theorem test_wf_ram_write :
    Instr.wf (.hostRamWrite 0x8001 (word 1)) = false ∧ Instr.wf (.hostRamWrite 0x10000 (word 1)) = false ∧
      Instr.wf (.hostRamWrite (cellBase 31) (word 1)) = false ∧ Instr.wf (.hostRamWrite (slotBase 7) (word 1)) = false ∧
      Instr.wf (.hostRamWrite 0x8000 ⟨1, false, false⟩) = false ∧ Instr.wf (.hostRamWrite 0xFFFE (word 1)) = true := by decide

theorem test_wf_watched_writes_enable_a_byte :
    Instr.wf (.cellPost 0 ⟨1, false, false⟩) = false ∧ Instr.wf (.cellEmpty 0 ⟨1, false, false⟩) = false ∧
      Instr.wf (.cellAbort 0 ⟨1, false, false⟩) = false ∧ Instr.wf (.cellInvalidWrite 0 ⟨1, false, false⟩) = false ∧
      Instr.wf (.slotFilled 0 ⟨1, false, false⟩) = false ∧ Instr.wf (.slotFree 0 ⟨1, false, false⟩) = false ∧
      Instr.wf (.slotInvalidWrite 0 ⟨1, false, false⟩) = false := by decide

/-! ### Witnesses: the machine and the resets -/

theorem witness_StepRunsFront :
    (∃ c rest, ({ up with pending := [.millisecondTick, .secondsTick] } : State).pending = c :: rest) ∧ up.pending = [] :=
  ⟨⟨_, _, rfl⟩, rfl⟩

theorem witness_ExecKeepsQueue : ∃ t, exec (.runWrite true) { up with pending := [.millisecondTick] } = .next t := ⟨_, rfl⟩

theorem witness_StepKeepsMemory :
    let s := { ram up 0x8000 [1] with pending := [.hostRamWrite 0x8000 (word 0)] }
    s.mem.wf ∧ ∃ t, step s = .next t := ⟨by decide +kernel, _, rfl⟩

theorem witness_InterruptLine :
    let s := up.modRegs fun r => { r with doneIrqEnable := true, done := 1#32 <<< 31, event := 0x80, eventEnable := 0x80, irq := true }
    Settled s ∧ ∃ t, exec (.doneSummaryClear true (word 0x8000)) s = .next t := ⟨by decide +kernel, _, rfl⟩

theorem witness_StepInvariants :
    let s := { net with pending := [.subWindowEnd 0] }
    (ThrottleInLimits s ∧ RunsBelowThreshold s ∧ SuspensionsAgree s ∧ DisabledAgrees s ∧ ErrorsAgree s ∧
      s.cm.lampInd ≠ s.indication) ∧ ∃ t, step s = .next t := ⟨by decide +kernel, _, rfl⟩

/-- A cycle in a context, to which an ABORT is sent. -/
theorem witness_StepKeepsWatchEnds :
    let s := { withCtx (withWatch net 31 { quietWatch 31 with out := .context }) (ctx 31 .cycle .awaitResponse) with
               pending := [.cellAbort 31 (word 6)] }
    WatchEndsNamed s ∧ ∃ t, step s = .next t := ⟨by decide +kernel, _, rfl⟩

theorem witness_LampFollows :
    let s := { up with ps := { up.ps with active := policy }, cm := { up.cm with lampInd := .on } }
    s.cm.lampInd = s.indication ∧ ∃ t, exec .departure s = .next t := ⟨by decide +kernel, _, rfl⟩

/-- A departure changes the active set where it holds a grant. -/
theorem witness_ActiveSetChanges :
    let s := { net with cm := { net.cm with grace := some 1000 } }
    runs .departure s = true ∧ (after .departure s).ps.active ≠ s.ps.active := by decide +kernel

theorem witness_Resets :
    State.reset.phase = .clearing ∧ up.phase = .running ∧ ({ up with phase := .resetting } : State).phase = .resetting ∧
      up.regs.retain = false := by decide +kernel

/-- With RETAIN: transfers of channel 1 in cells 30 and 31, both touched, and no transfer on channel 7. -/
theorem witness_SoftReset :
    let r := { streaming net 31 with touched := true }
    let s := withTransfer (withTransfer (net.modChan 7 fun q => { q with latch := some 0x2A }) 30 r) 31 { r with target := 0x2A }
    s.phase = .running ∧ (∀ c ∈ [(30 : Fin 32), 31], ((s.transfer c).map Transfer.touched) = some true) ∧
      (∀ d, (31 : Fin 32) < d → s.transfer d = none) ∧ (∀ c, (s.transfer c).all fun r => r.channel ≠ 7) ∧
      (s.transfer 31).map Transfer.target ≠ (s.transfer 30).map Transfer.target := by decide +kernel

theorem witness_ControlWrites : Settled up ∧ up.phase = .running ∧ Settled State.reset ∧ State.reset.phase ≠ .running := by
  decide +kernel

theorem witness_SummaryWrites : Running up := by decide +kernel

theorem witness_HostRamWrite :
    (∀ a ∈ [0, 0x10FE, 0x8000, 0xFFFE], plainWord a = true) ∧ up.phase ≠ .clearing ∧ State.reset.phase = .clearing ∧
      0x8001 % 2 ≠ 0 ∧ 0x10000 ≤ 0x10000 := by decide +kernel

/-! ### Witnesses: cells and slots -/

/-- Cell 31 in a state. -/
def cell31 (st : CellState) : State := withCell net 31 st exchange

theorem witness_CellEmpties :
    ∀ st ∈ [CellState.done, .failed], Running (cell31 st) ∧ Leaves (cell31 st) (cellBase 31) (word 0) 0 ∧
      ((cell31 st).cell 31).st = st := by decide +kernel

theorem witness_CellBoardErrors :
    (∀ v ∈ [2, 6, 8, 0xFFFF], Running up ∧ Leaves up (cellBase 31) (word v) (BitVec.ofNat 16 v)) ∧
      (∀ st ∈ [CellState.posted, .taken, .queued, .active, .done, .failed],
        Running (cell31 st) ∧ Leaves (cell31 st) (cellBase 31) (word 1) 1 ∧ ((cell31 st).cell 31).st = st) ∧
      (∀ st ∈ [CellState.empty, .posted, .taken, .queued, .active],
        Running (cell31 st) ∧ Leaves (cell31 st) (cellBase 31) (word 0) 0 ∧ ((cell31 st).cell 31).st = st) ∧
      Running up ∧ Leaves up (cellBase 31) (word 7) 7 ∧ (up.cell 31).st = .empty := by decide +kernel

theorem witness_CellAbort :
    (∀ st ∈ [CellState.done, .failed, .taken, .active, .posted],
      Running (cell31 st) ∧ Leaves (cell31 st) (cellBase 31) (word 7) 7 ∧ ((cell31 st).cell 31).st = st) ∧
      kindOf (fields exchange) = some .exchange ∧
      (let s := ram (cell31 .posted) (cellBase 31) (fields exchange)
       kindOf ((s.hostWord (cellBase 31) (word 7)).mem.bytes (cellBase 31) 64) ≠ some .commit ∧
         channelNamed ((s.hostWord (cellBase 31) (word 7)).mem.bytes (cellBase 31) 64) = some 1) ∧
      (let s := withEntry (cell31 .queued) (entry 31 .exchange)
       Running s ∧ Leaves s (cellBase 31) (word 7) 7 ∧ (s.cell 31).st = .queued ∧
         s.entryOf 31 = some (0, entry 31 .exchange) ∧ channelNamed (s.cell 31).captured = some 1) := by decide +kernel

/-- An ABORT of work under way: a transfer and a watch with a cause pending, in a context, or waiting, the armed commit, and the
CONNECTOR cell that awaits a start. -/
theorem witness_CellAbort_active :
    let aborts := fun (s : State) (k : Kind) =>
      Running s ∧ Leaves s (cellBase 31) (word 7) 7 ∧ (s.cell 31).st = .active ∧ kindOf (s.cell 31).captured = some k
    (∀ r ∈ [{ streaming net 31 with pending := some .testerGone }, { streaming net 31 with out := some ⟨.data, 0, true⟩ },
            { streaming net 31 with touched := true }],
      aborts (withTransfer net 31 r) .transfer ∧ (withTransfer net 31 r).transfer 31 = some r) ∧
      (∀ w ∈ [{ quietWatch 31 with pending := some .testerGone }, { quietWatch 31 with out := .context }, quietWatch 31],
        aborts (withWatch net 31 w) .watch ∧ (withWatch net 31 w).watch 31 = some w) ∧
      (let s := (withCell net 31 .active (plain 5 0 2 0 0)).modPs fun p => { p with armed := some 31 }
       aborts s .commit ∧ s.ps.armed = some 31) ∧
      (let s := (withCell net 31 .active (plain 7 0 0 1 0)).modCm fun m => { m with supply := .starting, cell := some 31 }
       aborts s .connector ∧ s.cm.cell = some 31) := by decide +kernel

/-- A held abort in cell 31, TAKEN with fields, and the request bytes at 8000h. -/
def heldAbort (s : State) (l : List (Nat × Nat)) (request : List Byte) : State :=
  ram ((withCell s 31 .taken l).modCell 31 fun q => { q with abortHeld := true }) 0x8000 request

/-- An abort that is held until each owner's receipt. -/
theorem witness_CellAbort_held :
    let held := fun (s : State) (k : Kind) =>
      Settled s ∧ (s.cell 31).abortHeld = true ∧ s.entryOf 31 = none ∧ s.taken 31 k = true
    (∀ p ∈ [(exchange, Kind.exchange), (watch, .watch)],
      let s := heldAbort waiting p.1 [0x22, 1]
      held s p.2 ∧ channelNamed (s.cell 31).captured = some 1 ∧ Waits s 0 ∧
        s.admission false (plainRequest 1 (s.mem.read (requestRef (s.cell 31).captured).addr).toNat (targetOf (s.cell 31).captured)) =
          .allow 2 0) ∧
      (let s := heldAbort net transfer []
       held s .transfer ∧ channelNamed (s.cell 31).captured = some 1 ∧ (startRef (s.cell 31).captured).len = 0 ∧
         s.admission false (transferRequest 1 (s.transferCodes (s.cell 31).captured) (s.cell 31).captured) = .allow 2 0 ∧
         s.slotWith 31 0 .held = none) ∧
      (let s := heldAbort net (plain 5 0 2 0 0) []
       held s .commit ∧ field8 (s.cell 31).captured 16 = 2 ∧ s.ps.armed = none) ∧
      (let s := heldAbort net (plain 7 0 0 1 0) []
       held s .connector ∧ s.cm.cell = none ∧ field8 (s.cell 31).captured 16 = 0 ∧ field8 (s.cell 31).captured 17 = 1 ∧
         s.cm.supply = .off ∧ s.cm.good = false ∧ s.cm.overcurrent = false) ∧
      (let s := heldAbort net (plain 4 1 0x17 0x22 0) []
       held s .check ∧ (channelNamed (s.cell 31).captured).isSome = true) := by decide +kernel

/-- Cell 31 posted, with its fields in RAM. -/
def posted (l : List (Nat × Nat)) : State := (ram (withCell net 31 .posted []) (cellBase 31) (fields l)).setPosts [31, 0]

/-- Four other transfers, the last on ECU 2Ah. -/
def fourTransfers (s : State) : State :=
  [0, 1, 2].foldl (fun s c => withCell s c .active transfer) (withCell s 3 .taken ((16, 0x2A) :: transfer))

theorem witness_CellPostAndTake :
    (Running up ∧ Leaves up (cellBase 31) (word 1) 1 ∧ (up.cell 31).st = .empty) ∧
      ∀ l ∈ [exchange, watch, transfer, plain 4 1 0x17 0 0, plain 5 0 2 0 0, plain 6 7 3 0 0, plain 7 0 4 2 0,
             plain 8 0 3 3 0, plain 9 0 3 3 0],
        let s := posted l
        Running s ∧ s.regs.run = true ∧ s.board.posts = [31, 0] ∧ takeFault (s.mem.bytes (cellBase 31) 64) = none ∧
          (s.otherTransfers 31).length < 4 ∧
          ∀ d ∈ s.otherTransfers 31, targetOf (s.cell d).captured ≠ targetOf (s.mem.bytes (cellBase 31) 64) := by decide +kernel

theorem witness_CellTakeRefuses :
    (∀ p ∈ [(plain 0 0 0 0 0, Reason.badKind, none), (plain 10 0 0 0 0, .badKind, none), (plain 4 8 0 0 0, .badChannel, none),
            ((8, 9) :: exchange, .badField, some 8), ((20, 0) :: exchange, .badReference, some 18),
            ((25, 0x80) :: exchange, .badReference, some 22), ((26, 4) :: watch, .badField, some 26),
            ((26, 15) :: transfer, .badField, some 26), (plain 5 0 3 0 0, .badField, some 16),
            (plain 6 0 0 0 0, .badField, some 16), (plain 7 0 0 3 0, .badField, some 17), (plain 9 0 4 1 0, .badField, some 16)],
      let s := posted p.1
      Running s ∧ s.regs.run = true ∧ s.board.posts = [31, 0] ∧
        takeFault (s.mem.bytes (cellBase 31) 64) = some (p.2.1, p.2.2)) ∧
      (let s := fourTransfers (posted transfer)
       Running s ∧ takeFault (s.mem.bytes (cellBase 31) 64) = none ∧ 4 ≤ (s.otherTransfers 31).length) ∧
      (let s := withCell (posted transfer) 0 .active transfer
       Running s ∧ (s.otherTransfers 31).length < 4 ∧
         ∃ d ∈ s.otherTransfers 31, targetOf (s.cell d).captured = targetOf (s.mem.bytes (cellBase 31) 64)) ∧
      ({ up with regs := { up.regs with run := false } } : State).regs.run = false ∧ up.board.posts = [] := by decide +kernel

/-- A transfer of cell 31, and the header of slot 7: owner, block, length and CRC. -/
def slot7 (owner block length crc : Nat) : State :=
  ram (withTransfer net 31 (streaming net 31)) (slotBase 7) ([0, 0, byte owner, 0] ++ le32 block ++ le16 length ++ le16 crc)

theorem witness_SlotWrites :
    (∀ p ∈ [(slot7 30 0 16 0, 1), (slot7 31 2 16 0, 3), (slot7 31 1 16 0, 4), (slot7 31 0 16 0xFFFF, 5),
            (slot7 31 1 4 (crc16 crcInit (zeros 4)).toNat, 0)],
      let s := p.1
      let q := s.slotHeader 7
      Running s ∧ Leaves s (slotBase 7) (word 1) 1 ∧ (s.slot 7).st = .free ∧ s.slotCheck 7 q = p.2 ∧
        (p.2 = 0 → q.owner = 31 ∧ (s.transfer 31).isSome = true ∧ q.block ≠ (streaming net 31).acked)) ∧
      (let s := net.modSlot 7 fun q => { q with st := .rejected }
       Running s ∧ Leaves s (slotBase 7) (word 0) 0 ∧ (s.slot 7).st = .rejected) ∧
      (let s := net.modSlot 7 fun q => { q with st := .held, owner := 31 }
       Running s ∧ Leaves s (slotBase 7) (word 0) 0 ∧ (s.slot 7).st = .held ∧ s.ownerOf 31 = none) := by decide +kernel

/-- Slot 7 is filled with block 0 of the transfer `r` of cell 31, its next needed block. -/
def nextNeeded (s : State) (r : Transfer) : State :=
  ram (withTransfer s 31 r) (slotBase 7) ([0, 0, 31, 0] ++ le32 0 ++ le16 16 ++ le16 (crc16 crcInit (zeros 16)).toNat)

theorem witness_SlotWrites_next :
    (∀ out ∈ [none, some ⟨.keepalive, 0, true⟩],
      let r := { streaming net 31 with out := out }
      let s := nextNeeded waiting r
      let q := s.slotHeader 7
      Running s ∧ Leaves s (slotBase 7) (word 1) 1 ∧ (s.slot 7).st = .free ∧ s.ownerOf q.owner = some (31, r) ∧
        s.slotCheck 7 q = 0 ∧ r.phase = .streaming ∧ q.block = r.acked ∧ s.segmentOf r.target = some 0 ∧ s.enabled 0 = true ∧
        Waits s 0) ∧
      (let r := streaming net 31
       let s := (withTransfer net 31 r).modSlot 7 fun _ => { st := .held, owner := 31, block := 0, length := 16 }
       Running s ∧ Leaves s (slotBase 7) (word 0) 0 ∧ (s.slot 7).st = .held ∧ s.ownerOf (s.slot 7).owner = some (31, r) ∧
         r.phase = .streaming ∧ r.out = none ∧ (s.slot 7).block = r.acked) := by decide +kernel

theorem witness_SlotBoardErrors :
    (∀ v ∈ [2, 3, 4, 0xFFFF], Running up ∧ Leaves up (slotBase 7) (word v) (BitVec.ofNat 16 v)) ∧
      (∀ st ∈ [SlotState.held, .sending, .rejected],
        let s := up.modSlot 7 fun q => { q with st := st }
        Running s ∧ Leaves s (slotBase 7) (word 1) 1 ∧ (s.slot 7).st ≠ .free) ∧
      ∀ st ∈ [SlotState.free, .sending],
        let s := up.modSlot 7 fun q => { q with st := st }
        Running s ∧ Leaves s (slotBase 7) (word 0) 0 ∧ (s.slot 7).st = st := by decide +kernel

/-! ### Witnesses: admission -/

/-- `net` with a change to channel 1. -/
def chan1 (f : Chan → Chan) : State := net.modChan 1 f

/-- Every denial of a first admission that an EXCHANGE can meet, and an admission with and without a grant. -/
theorem witness_AdmissionOrder :
    let v := fun (s : State) (code target : Nat) => s.admission false (plainRequest 1 code target)
    v (chan1 fun r => { r with suspended := true }) 0x22 0x17 = .deny .channelSuspended none none ∧
      v (chan1 fun r => { r with latch := some 0x17 }) 0x22 0x17 = .deny .recoveryPending none none ∧
      v net 0x7F 0x17 = .deny .serviceBlocked none none ∧ v net 0x22 0xFF = .deny .unknownTarget none none ∧
      net.admission false (plainRequest 0 0x22 0x17) = .deny .noGrant (some .noGrants) none ∧
      v net 0x10 0x17 = .deny .classNotGranted none none ∧
      v { net with ps := { net.ps with active := { policy with grants := policy.grants.set 2 { policy.grants[2] with count := 1 } } } }
        0x22 0x17 = .deny .targetNotGranted none none ∧
      v net 0x11 0x17 = .deny .ignitionRequired none (some 0xFF) ∧
      v net 0x3E 0x33 = .deny .segmentUnavailable none (some 0xFF) ∧ v net 0x3E 0x17 = .allow 0xFF 0 ∧ v net 0x22 0x2A = .allow 2 1 ∧
      net.admission true (plainRequest 1 0x22 0x17) = .allow 2 0 := by decide +kernel

/-- A TRANSFER of the 20 bytes at address 16 and its START payload's first byte, the same as a CHECK, and a CHECK without a range;
under grant 2 with a base and a length. -/
theorem witness_AdmissionOrder_range :
    let granted := fun (base length : Nat) =>
      net.modPs fun p => { p with active := { policy with grants := upd policy.grants 2 fun q => { q with base := base, length := length } } }
    let whole := fun (s : State) (start : Byte) =>
      let cap := fields ([(18, 16), (31, 0x80), (32, 1)] ++ transfer)
      let s := ram s 0x8000 [start]
      s.admission false (transferRequest 1 (s.transferCodes cap) cap)
    let check := fun (s : State) (length : Nat) => s.admission false (checkRequest 1 (fields ([(18, 16), (22, length)] ++ plain 4 1 0x17 0x34 0)))
    whole (granted 16 20) 0x34 = .allow 2 0 ∧ whole (granted 0 0) 0x3E = .allow 2 0 ∧
      whole (granted 17 20) 0x34 = .deny .rangeNotGranted none none ∧ whole (granted 16 19) 0x3E = .deny .rangeNotGranted none none ∧
      whole net 0x10 = .deny .classNotGranted none none ∧ whole net 0x7F = .deny .serviceBlocked none none ∧
      whole net 0x11 = .deny .ignitionRequired none (some 2) ∧
      check (granted 17 20) 0 = .allow 2 0 ∧ check (granted 17 20) 1 = .deny .rangeNotGranted none none := by decide +kernel

/-- Cell 31 TAKEN with fields, and the request bytes at 8000h. -/
def received (s : State) (l : List (Nat × Nat)) (request : List Byte) : State := ram (withCell s 31 .taken l) 0x8000 request

theorem witness_ExchangeAdmitted :
    let s := received waiting exchange [0x22, 1]
    Receives s 31 .exchange ∧ channelNamed (s.cell 31).captured = some 1 ∧
      s.admission false (plainRequest 1 (s.mem.read (requestRef (s.cell 31).captured).addr).toNat (targetOf (s.cell 31).captured)) =
        .allow 2 0 ∧ Waits s 0 := by decide +kernel

theorem witness_ExchangeDenied :
    (∀ run ∈ [0, 6, 7],
      let s := received (chan1 fun r => { r with run := run }) exchange [0x10, 1]
      Receives s 31 .exchange ∧ channelNamed (s.cell 31).captured = some 1 ∧ (s.chan 1).run = run ∧ s.ps.active.threshold = 8 ∧
        s.admission false (plainRequest 1 (s.mem.read (requestRef (s.cell 31).captured).addr).toNat
          (targetOf (s.cell 31).captured)) = .deny .classNotGranted none none ∧ Reason.classNotGranted.isCounted = true) ∧
      (let s := received net exchange [0x11, 1]
       Receives s 31 .exchange ∧
         s.admission false (plainRequest 1 (s.mem.read (requestRef (s.cell 31).captured).addr).toNat
          (targetOf (s.cell 31).captured)) = .deny .ignitionRequired none (some 0xFF) ∧
         Reason.ignitionRequired.isCounted = false) := by decide +kernel

theorem witness_TransferReceipt :
    let verdict := fun (s : State) =>
      s.admission false (transferRequest 1 (s.transferCodes (s.cell 31).captured) (s.cell 31).captured)
    (let s := received net transfer []
     Receives s 31 .transfer ∧ channelNamed (s.cell 31).captured = some 1 ∧ verdict s = .allow 2 0 ∧
       (startRef (s.cell 31).captured).len = 0 ∧ s.slotWith 31 0 .held = none) ∧
      (let s := received waiting ([(31, 0x80), (32, 2)] ++ transfer) [0x34, 1]
       Receives s 31 .transfer ∧ verdict s = .allow 2 0 ∧ (startRef (s.cell 31).captured).len ≠ 0 ∧ Waits s 0) ∧
      (let s := received net ((3, 7) :: transfer) []
       Receives s 31 .transfer ∧ channelNamed (s.cell 31).captured = some 7 ∧
         s.admission false (transferRequest 7 (s.transferCodes (s.cell 31).captured) (s.cell 31).captured) =
           .deny .noGrant (some .noGrants) none) := by decide +kernel

theorem witness_WatchReceipt :
    let verdict := fun (s : State) => s.admission false (plainRequest 1 (s.mem.read (requestRef (s.cell 31).captured).addr).toNat
      (targetOf (s.cell 31).captured))
    (let s := received waiting watch [0x22, 1]
     Receives s 31 .watch ∧ channelNamed (s.cell 31).captured = some 1 ∧ verdict s = .allow 2 0 ∧ Waits s 0) ∧
      (let s := received net watch [0x10, 1]
       Receives s 31 .watch ∧ verdict s = .deny .classNotGranted none none) := by decide +kernel

theorem witness_CheckIsDryRun :
    (let s := received net (plain 4 1 0x17 0x22 0) []
     Receives s 31 .check ∧ channelNamed (s.cell 31).captured = some 1 ∧
       s.admission false (checkRequest 1 (s.cell 31).captured) = .allow 2 0) ∧
      (let s := received net (plain 4 7 0x17 0x22 0) []
       Receives s 31 .check ∧ s.admission false (checkRequest 7 (s.cell 31).captured) = .deny .noGrant (some .noGrants) none) := by
  decide +kernel

theorem witness_ChannelCells :
    (∀ op ∈ [1, 2, 3], ∀ v ∈ [true, false],
      let s := received (net.modChan 7 fun r => { r with suspended := v, latch := if v then some 0x17 else none })
        (plain 6 7 op 0 0) []
      Receives s 31 .channel ∧ channelNamed (s.cell 31).captured = some 7 ∧ field8 (s.cell 31).captured 16 = op ∧
        (s.chan 7).suspended = v ∧ ((s.chan 7).latch = none ↔ v = false)) ∧
      (let lines := fun (v : Bool) => ({ raw := v, level := v, timer := none } : Line)
       ∀ v ∈ [true, false],
         workshop (received { net with cm := { net.cm with presence := lines v, key := lines v } } (plain 6 7 2 0 0) []) = v) := by
  decide +kernel

/-! ### Witnesses: commits -/

/-- A valid set of few bytes other than 0: each field at the least value that R1 to R10 allow, and grant 21 in entry 2. -/
def small : PolicySet :=
  { policy with
    threshold := 1, suspension := 1, classes := Vector.replicate 128 0, rules := Vector.replicate 8 0
    routes := PolicySet.default.routes
    grants := PolicySet.default.grants.set 2 { policy.grants[2] with rangePresent := 0 }
    lanes := Vector.replicate 4 (Vector.replicate 8 0)
    phases := Vector.replicate 4 #v[1, 2, 0, 0, 0, 0, 0, 0, 0, 0, 0, 0, 0, 0, 0, 0]
    regs := Vector.replicate 4
      { window := 8, upper := 0, lower := 0, immediate := 0, stepUp := 0, stepDown := 0, stepImm := 0, leak := 0, holdOff := 1
        floor := 0, ceiling := 0, enabled := false }
    paces := Vector.replicate 4 (Vector.replicate 8 { txGap := 0, maxCtx := 1, credit := 0, rxGap := 0, pause := 0, stretch := 1 })
    segs := Vector.replicate 4 { rate := 0, enabled := false, autoRecovery := false, creditWait := 10, partWait := 10 }
    veh := { seg := 0, format := 0, id := 0, engineOff := 0, roadOff := 0, running := 0, stationary := 0, stale := 100 } }

/-- An idle part with a COMMIT cell, a Staged Set and the two lines at a level. -/
def commitState (p : PolicySet) (op : Nat) (lines : Bool) : State :=
  let l : Line := { raw := lines, level := lines, timer := none }
  { withCell { up with ps := { up.ps with active := policy } } 31 .taken (plain 5 0 op 0 0) with
    mem := Mem.cells stagedBase p.bytes, cm := { up.cm with presence := l, key := l } }

theorem witness_CommitNow_receives :
    Receives (commitState small 1 true) 31 .commit ∧ field8 ((commitState small 1 true).cell 31).captured 16 = 1 := by decide +kernel

theorem witness_CommitNow_idle : Idle (commitState small 1 true) := by decide +kernel

theorem witness_CommitNow_valid :
    (commitState small 1 true).staged.invalidAt = none ∧ (commitState small 1 true).staged.hasGrant = true ∧
      workshop (commitState small 1 true) = true := by decide +kernel

/-- The first grant used in the Staged Set is kept by identity: entry 2 of the active set has its id and channel. -/
theorem witness_CommitNow_sameGrant : policy.sameGrant small.grants[2] = some 2 ∧ small.grants[2].used = true := by decide +kernel

/-- A valid set in which 22h is class 1 and every other code class 0, which requires the ignition, and ECU 17h is on segment 1. -/
def routed : PolicySet :=
  { small with
    classes := small.classes.set 0x22 1
    rules := small.rules.set 0 2
    routes := PolicySet.default.routes.set 0 { addr := 0x17, seg := 1, format := 0, reqId := 0x6A2, respId := 0x6B2, wait := 200 }
    segs := small.segs.set 1 { small.segs[1] with enabled := true } }

theorem witness_CommitNow_routed :
    (commitState routed 1 true).staged.invalidAt = none ∧ (commitState routed 1 true).staged.hasGrant = true := by decide +kernel

/-- The COMMIT cell with Staged Set `routed`, beside work in cell 0 under a set with the same vehicle settings. -/
def commitBeside (f : State → State) : State :=
  f ((commitState routed 1 true).modPs fun q => { q with active := { policy with veh := small.veh } })

/-- A lone EXCHANGE of cell 0 in a context of segment 0, which the Staged Set disables. -/
theorem witness_CommitNow_restart :
    ∀ st ∈ [CtxState.sending, .awaitCredit, .awaitResponse, .receiving],
      let s := withCtx (withCell ((commitState small 1 true).modSeg 0 fun q => { q with ctl := .online }) 0 .active exchange)
        (ctx 0 .exchange st)
      Receives s 31 .commit ∧ field8 (s.cell 31).captured 16 = 1 ∧ workshop s = true ∧ s.mem = (commitState small 1 true).mem ∧
        (∀ h : Fin 4, LanesEmpty s h ∧ (h ≠ 0 → ContextsFree s h)) ∧ NoRecords s ∧ LoneContext s 0 0 ∧
        (s.ctx 0 0).role = .exchange ∧ (s.ctx 0 0).cell = 0 ∧ s.ps.active.segs[0].enabled ≠ s.staged.segs[0].enabled := by
  decide +kernel

/-- What each clause about work beside the commit needs of a state. The Staged Set area stands as in `witness_CommitNow_routed`. -/
abbrev CommitsBeside (s : State) : Prop :=
  Receives s 31 .commit ∧ field8 (s.cell 31).captured 16 = 1 ∧ workshop s = true ∧ s.staged.veh = s.ps.active.veh ∧
    s.mem = (commitState routed 1 true).mem ∧ ∀ h : Fin 4, (s.seg h).ctl.sends = false ∧ ContextsFree s h

/-- A lone entry on segment 1, where its ECU stays, or on segment 0, which it leaves; and one whose ECU has no route. -/
theorem witness_CommitNow_entry :
    ∀ p ∈ [((1 : Fin 4), 0x17, Verdict.allow 0xFF 1), (0, 0x17, .allow 0xFF 1), (0, 0x2A, .deny .unknownTarget none none)],
      let s := commitBeside fun s =>
        ((withCell s 0 .queued ((16, p.2.1) :: exchange)).modCell 0 fun q => { q with service := 0x22 }).modSeg p.1 fun q =>
          { q with lanes := { q.lanes with normal := [entry 0 .exchange] } }
      CommitsBeside s ∧ LoneEntry s p.1 (entry 0 .exchange) ∧ NoRecords s ∧ channelNamed (s.cell 0).captured = some 1 ∧
        (s.takeSet s.staged).readmission (plainRequest 1 (s.cell 0).service (targetOf (s.cell 0).captured)) = p.2.2 := by
  decide +kernel

theorem witness_CommitNow_watch :
    ∀ p ∈ [(0x17, Verdict.deny .ignitionRequired none (some 0xFF)), (0x2A, .deny .unknownTarget none none)],
      let w := { quietWatch 0 with service := 0x11, target := p.1, out := .lane }
      let s := commitBeside fun s => withEntry (withWatch s 0 w) (entry 0 .cycle)
      CommitsBeside s ∧ LoneEntry s 0 (entry 0 .cycle) ∧ LoneWatch s 0 w ∧
        (s.takeSet s.staged).readmission (plainRequest w.channel w.service w.target) = p.2 := by decide +kernel

theorem witness_CommitNow_transfer :
    ∀ p ∈ [(0x22, 0x17, Verdict.allow 0xFF 1), (0x34, 0x17, .deny .ignitionRequired none (some 0xFF)),
           (0x22, 0x2A, .deny .unknownTarget none none)],
      ∀ out ∈ [none, some ⟨.data, 0, true⟩],
        let r := { streaming net 31 with codes := ⟨p.1, none, none, none, none⟩, out := out }
        let s := commitBeside fun s => (withCell s 0 .active ((16, p.2.1) :: transfer)).setTransfer 0 (some r)
        CommitsBeside s ∧ LoneTransfer s 0 r ∧ s.entryOf 0 = none ∧ r.pending = none ∧
          (s.takeSet s.staged).readmission (transferRequest r.channel r.codes (s.cell 0).captured) = p.2.2 := by decide +kernel

theorem witness_CommitNotCarriedOut_invalid :
    (commitState { small with threshold := 32 } 1 true).staged.invalidAt = some 1 ∧
      Receives (commitState { small with threshold := 32 } 1 true) 31 .commit := by decide +kernel

theorem witness_CommitNotCarriedOut_workshop :
    (commitState small 1 false).staged.invalidAt = none ∧ (commitState small 1 false).staged.hasGrant = true ∧
      workshop (commitState small 1 false) = false :=
  have h : (commitState small 1 false).staged = (commitState small 1 true).staged := rfl
  ⟨h ▸ witness_CommitNow_valid.1, h ▸ witness_CommitNow_valid.2.1, by decide +kernel⟩

theorem witness_CommitNotCarriedOut_armed :
    (Receives (commitState small 2 false) 31 .commit ∧ field8 ((commitState small 2 false).cell 31).captured 16 = 2 ∧
      (commitState small 2 false).ps.armed = none) ∧
      (let s := (withCell (commitState small 2 false) 0 .active (plain 5 0 2 0 0)).modPs fun p => { p with armed := some 0 }
       Receives s 31 .commit ∧ s.ps.armed = some 0) := by decide +kernel

/-! ### Witnesses: vehicle, grants and connector -/

theorem witness_VehicleTimers :
    (Settled up ∧ Idle up) ∧
      (∀ raw ∈ [true, false],
        let s := up.modVsm fun m => { m with ignition := { raw := raw, level := !raw, timer := some 0 } }
        Settled s ∧ s.due s.vsm.ignition.timer = true ∧ s.ps.armed = none) ∧
      ({ up with ps := { up.ps with armed := some 0 } } : State).vsm.ignition.raw = false ∧
      (let s := { (up.modVsm fun m => { m with lastFrame := some 0 }) with time := { up.time with clock := 1000 } }
       Settled s ∧ s.stale = true) := by decide +kernel

/-- The debounce of the ignition away from `!raw` is over, and no state frame has come for 1000 ms. -/
def vehicleDue (s : State) (raw : Bool) : State :=
  { (s.modVsm fun m => { m with ignition := { raw := raw, level := !raw, timer := some 0 }, lastFrame := some 0 }) with
    time := { s.time with clock := 1000 } }

/-- The same beside a lone entry, transfer or watch that requires the ignition. -/
theorem witness_VehicleTimers_work :
    let up := { up with ps := { up.ps with active := policy } }
    let due := fun (s : State) => Settled s ∧ s.due s.vsm.ignition.timer = true ∧ s.ps.armed = none ∧ s.stale = true
    let needs : Conds := { ignition := true, stopped := false, running := false, stationary := false }
    let fails := fun (raw : Bool) (k : Conds) =>
      (condFailure { (vehicleDue up raw).vsm with ignition := ⟨raw, raw, none⟩ } k).isSome = !raw ∧
        (condFailure { (vehicleDue up raw).vsm with engine := .unknown, motion := .unknown, lastFrame := none } k).isSome = raw
    ∀ raw ∈ [true, false],
      (let e := { entry 31 .exchange with cls := 3 }
       let s := withEntry (withCell (vehicleDue up raw) 31 .queued exchange) e
       due s ∧ LoneEntry s 0 e ∧ NoRecords s ∧ fails raw { needs with stopped := (policy.conds [3]).stopped } ∧
         policy.conds [3] = needs) ∧
      (∀ r ∈ [{ streaming net 31 with hold := true, conds := needs }, streaming net 31],
        let s := withTransfer (vehicleDue up raw) 31 r
        due s ∧ LoneTransfer s 31 r) ∧
      ∀ w ∈ [{ quietWatch 31 with hold := true, cls := 3, out := .lane }, quietWatch 31],
        let s := withEntry (withWatch (vehicleDue up raw) 31 w) (entry 31 .cycle)
        due s ∧ LoneWatch s 31 w := by decide +kernel

/-- An armed commit at the assertion of the ignition: its set valid in and outside workshop mode, and invalid. -/
theorem witness_VehicleTimers_armed :
    ∀ p ∈ [(small, true), (small, false), ({ small with threshold := 32 }, true)],
      let s := (vehicleDue (commitState p.1 1 p.2) true).modPs fun q => { q with armed := some 31 }
      Settled s ∧ s.due s.vsm.ignition.timer = true ∧ s.ps.armed = some 31 ∧ s.vsm.ignition.raw = true ∧ Idle s ∧
        workshop s = p.2 ∧ s.mem = (commitState p.1 1 true).mem := by decide +kernel

/-- A part without work whose grant 2 expires at second 10, that second being reached. -/
def expiring : State :=
  { up with
    ps := { up.ps with active := policy, usage := up.ps.usage.set 2 { Usage.none with expiry := some 10 } }
    time := { up.time with sec := 10 } }

theorem witness_GrantsEnd_expiry :
    Settled expiring ∧ NoRecords expiring ∧ expiring.ps.active.grants[2].used = true ∧
      expiring.ps.usage[2].expired = false ∧ expiring.ps.usage[2].expiry = some 10 ∧ (10 : Word32).toNat ≤ expiring.time.sec.toNat := by
  decide +kernel

theorem witness_GrantsEnd_departure :
    (let s := { up with ps := { up.ps with active := policy }, time := { up.time with clock := 2000 } }
     Settled s ∧ Idle s ∧ s.due s.cm.grace = true ∧ s.ps.active.hasGrant = true) ∧
      ({ up with time := { up.time with clock := 2000 } } : State).ps.active.hasGrant = false := by decide +kernel

/-- A lone transfer or watch under the grant that expires: denied for its grant or for the ignition, or allowed by a second
grant. -/
theorem witness_GrantsEnd_expiry_work :
    let other := { expiring with ps := { expiring.ps with
      active := { policy with grants := policy.grants.set 3 { policy.grants[2] with id := 22 } } } }
    let marked := fun (s : State) =>
      { s with ps := { s.ps with usage := s.ps.usage.set 2 { s.ps.usage[2] with expired := true } } }
    (∀ p ∈ [(expiring, Verdict.deny .noGrant (some .expired) none), (other, .allow 3 0)],
      ∀ r ∈ [streaming net 31, { streaming net 31 with out := some ⟨.data, 0, true⟩ },
             { streaming net 31 with pending := some .aborted }],
        let s := withTransfer p.1 31 r
        Settled s ∧ LoneTransfer s 31 r ∧ s.entryOf 31 = none ∧ r.channel = 1 ∧ r.grantId = 21 ∧ s.ps.active.grants[2].id = 21 ∧
          (marked s).readmission (transferRequest r.channel r.codes (s.cell 31).captured) = p.2) ∧
      ∀ p ∈ [(expiring, 0x22, Verdict.deny .noGrant (some .expired) none), (expiring, 0x11, .deny .ignitionRequired none (some 0xFF)),
             (other, 0x22, .allow 3 0)],
        let w := { quietWatch 31 with service := p.2.1 }
        let s := withWatch p.1 31 w
        Settled s ∧ LoneWatch s 31 w ∧ w.channel = 1 ∧ w.grantId = 21 ∧
          (marked s).readmission (plainRequest w.channel w.service w.target) = p.2.2 := by decide +kernel

/-- A departure beside a lone entry, transfer or watch of channel 1, which holds a grant, and of channel 7, which holds none. -/
theorem witness_GrantsEnd_departure_work :
    let gone := { up with ps := { up.ps with active := policy }, time := { up.time with clock := 2000 } }
    ∀ ch ∈ [(1 : Fin 8), 7],
      policy.channelHasGrant ch = decide (ch = 1) ∧
      (let s := withEntry (withCell gone 31 .queued ((3, ch.val) :: exchange)) (entry 31 .exchange)
       Settled s ∧ s.due s.cm.grace = true ∧ LoneEntry s 0 (entry 31 .exchange) ∧ NoRecords s ∧
         channelNamed (s.cell 31).captured = some ch) ∧
      (let r := { streaming net 31 with channel := ch }
       let s := withTransfer gone 31 r
       Settled s ∧ s.due s.cm.grace = true ∧ LoneTransfer s 31 r) ∧
      (let w := { quietWatch 31 with channel := ch }
       let s := withWatch gone 31 w
       Settled s ∧ s.due s.cm.grace = true ∧ LoneWatch s 31 w) := by decide +kernel

theorem witness_ConnectorCell :
    (∀ p ∈ [(1, Lamp.auto), (2, .off), (3, .on), (4, .blink)],
      let s := received net (plain 7 0 p.1 0 0) []
      Receives s 31 .connector ∧ s.cm.cell = none ∧ Lamp.ofField (field8 (s.cell 31).captured 16) = some p.2 ∧
        field8 (s.cell 31).captured 17 = 0) ∧
      (let s := received net (plain 7 0 0 1 0) []
       Receives s 31 .connector ∧ s.cm.cell = none ∧ field8 (s.cell 31).captured 17 = 1 ∧ s.cm.supply = .off ∧
         s.cm.good = false ∧ s.cm.overcurrent = false) ∧
      (∀ v ∈ [Supply.starting, .on],
        let s := (received net (plain 7 0 0 2 0) []).modCm fun m => { m with supply := v }
        Receives s 31 .connector ∧ s.cm.cell = none ∧ field8 (s.cell 31).captured 17 = 2 ∧ s.cm.supply ≠ .off) := by decide +kernel

theorem witness_DebouncedLines :
    Settled up ∧ (true ≠ (up.cm.line .presence).raw ∧ false = (up.cm.line .presence).raw) ∧
      (true ≠ up.vsm.ignition.raw ∧ false = up.vsm.ignition.raw) ∧
      ∀ l ∈ [ConnLine.presence, .key], ∀ v ∈ [true, false],
        let s := up.modCm fun m => m.setLine l { raw := v, level := !v, timer := some 0 }
        Settled s ∧ s.due (s.cm.line l).timer = true := by decide +kernel

theorem witness_SupplyEvents :
    ∀ v ∈ [Supply.off, .starting, .on], ∀ c ∈ [none, some (31 : Fin 32)],
      let s := (withCell up 31 .active (plain 7 0 0 1 0)).modCm fun m =>
        { m with supply := v, cell := c, startTimer := if v = .starting then some 0 else none }
      Settled s ∧ s.cm.supply = v ∧ (v = .starting → s.due s.cm.startTimer = true) := by decide +kernel

/-! ### Witnesses: load and segments -/

theorem witness_ThrottleCells :
    (∀ g : Fin 4, ∀ op ∈ [1, 2, 3],
      let s := received net (plain 8 0 g.val op 0xFF) []
      Receives s 31 .throttle ∧ field8 (s.cell 31).captured 16 = g.val ∧ field8 (s.cell 31).captured 17 = op ∧ LanesEmpty s g) := by
  decide +kernel

theorem witness_SubWindowEnd :
    ∀ g : Fin 4, ∀ i ∈ [0, 6, 7],
      let s := { (net.modSeg g fun q => { q with subIndex := i }) with time := { net.time with clock := 200 } }
      Settled s ∧ LanesEmpty s g ∧ (s.seg g).winStart = some 0 ∧
        0 + ((s.seg g).subIndex + 1) * (s.ps.active.regs[g].window / 8) ≤ s.time.clock := by decide +kernel

theorem witness_SegmentRequests :
    ∀ g : Fin 4, ∀ op ∈ [1, 2, 3],
      let s := received net ((18, 3) :: plain 9 0 g.val op 0) []
      Receives s 31 .segment ∧ LanesEmpty s g ∧ ContextsFree s g ∧ field8 (s.cell 31).captured 16 = g.val ∧
        field8 (s.cell 31).captured 17 = op := by decide +kernel

/-- Work of cell 0 in the one busy context of segment 0: an EXCHANGE, an exchange of a transfer, or a cycle. -/
def busy (s : State) (role : Role) (st : CtxState) : State :=
  let t := match role with
    | .exchange => withCell s 0 .active exchange
    | .cycle => withWatch s 0 { quietWatch 0 with out := .context }
    | .start | .data | .ending | .verify | .keepalive =>
      withTransfer s 0 { streaming net 0 with out := some { role := role, block := 0, inCtx := true } }
  withCtx t (ctx 0 role st)

/-- The same work in the one entry of segment 0. -/
def queued (s : State) (role : Role) : State :=
  let t := match role with
    | .exchange => withCell s 0 .queued exchange
    | .cycle => withWatch s 0 { quietWatch 0 with out := .lane }
    | .start | .data | .ending | .verify | .keepalive =>
      withTransfer s 0 { streaming net 0 with out := some { role := role, block := 0, inCtx := false } }
  withEntry t (entry 0 role)

/-- The record that a role has in `busy` and `queued`. -/
abbrev HasRecord (s : State) (role : Role) : Prop :=
  (role.ofTransfer → (s.transfer 0).isSome = true) ∧ (role = .cycle → (s.watch 0).isSome = true)

theorem witness_SegmentRequests_busy :
    ∀ role ∈ [Role.exchange, .data, .keepalive, .cycle], ∀ op ∈ [1, 3],
      let s := received (busy net role .sending) ((18, 3) :: plain 9 0 0 op 0) []
      Receives s 31 .segment ∧ LoneContext s 0 0 ∧ (s.ctx 0 0).role = role ∧ (s.ctx 0 0).cell = 0 ∧ HasRecord s role ∧
        s.entryOf 0 = none ∧ LanesEmpty s 0 ∧ (s.seg 0).ctl ≠ .disabled ∧ field8 (s.cell 31).captured 16 = 0 ∧
        field8 (s.cell 31).captured 17 = op := by decide +kernel

theorem witness_SegmentRequests_queued :
    ∀ role ∈ [Role.exchange, .data, .keepalive, .cycle], ∀ p ∈ [(1, Ctl.joining), (1, .disabled), (3, .online)],
      let s := received ((queued net role).modSeg 0 fun q => { q with ctl := p.2 }) ((18, 3) :: plain 9 0 0 p.1 0) []
      Receives s 31 .segment ∧ ContextsFree s 0 ∧ (s.seg 0).lanes = Lanes.only (entry 0 role) ∧
        s.entryOf 0 = some (0, entry 0 role) ∧ HasRecord s role ∧ field8 (s.cell 31).captured 16 = 0 ∧
        field8 (s.cell 31).captured 17 = p.1 ∧ (s.seg 0).ctl = p.2 := by decide +kernel

theorem witness_QueueDeadline :
    (let s := withEntry (withCell waiting 31 .queued exchange) (entry 31 .exchange)
     Settled s ∧ s.entryOf 31 = some (0, entry 31 .exchange) ∧ s.reached (entry 31 .exchange).deadline = true ∧ Waits s 0) ∧
      (∀ role ∈ [Role.start, .data, .ending, .verify, .keepalive],
        let s := withEntry (withTransfer waiting 31 (streaming net 31)) (entry 31 role)
        Settled s ∧ s.entryOf 31 = some (0, entry 31 role) ∧ s.reached (entry 31 role).deadline = true ∧ Waits s 0 ∧
          s.transfer 31 = some (streaming net 31)) ∧
      ∀ n ∈ [0, 2],
        let w := { quietWatch 31 with consecutive := n, out := .lane }
        let s := withEntry (withWatch waiting 31 w) (entry 31 .cycle)
        Settled s ∧ s.entryOf 31 = some (0, entry 31 .cycle) ∧ s.reached (entry 31 .cycle).deadline = true ∧ Waits s 0 ∧
          s.watch 31 = some w ∧ w.consecutive < 3 ∧ w.pending = none := by decide +kernel

/-- The fourth failed cycle in a row, and a failed cycle with a cause pending. -/
theorem witness_QueueDeadline_ends :
    ∀ p ∈ [(3, none), (3, some Reason.aborted), (0, some .aborted), (2, some .testerGone)],
      let w := { quietWatch 31 with consecutive := p.1, pending := p.2, out := .lane }
      let s := withEntry (withWatch waiting 31 w) (entry 31 .cycle)
      Settled s ∧ s.entryOf 31 = some (0, entry 31 .cycle) ∧ s.reached (entry 31 .cycle).deadline = true ∧ Waits s 0 ∧
        s.watch 31 = some w := by decide +kernel

/-- A segment that cannot start, one with nothing to start, and one that starts. -/
theorem witness_ArbitrationStarts :
    (waiting.seg 0).canStart = false ∧ ((net.seg 0).canStart = true ∧ (net.startOne 0).isNone = true ∧ ((net.seg 0).ctxs[0]).st = .free) ∧
      ((withEntry (withCell net 31 .queued exchange) (entry 31 .exchange)).startOne 0).isSome = true := by decide +kernel

/-! ### Witnesses: the bus -/

/-- Context 0 of segment 0 works for cell 31 as an EXCHANGE. -/
def talking (st : CtxState) (f : Ctx → Ctx) : State := withCtx (withCell net 31 .active exchange) (f (ctx 31 .exchange st))

theorem witness_FrameOffer :
    ∀ kind ∈ [FrameKind.short, .opening, .part, .credit], ∀ spaced ∈ [true, false],
      let r : Ready := { kind := kind, since := 990000, spaced := spaced }
      let s := talking .sending fun k => { k with ready := some r, length := if kind = .short then 7 else 8 }
      Settled s ∧ (s.seg 0).ctl.sends = true ∧ (s.seg 0).offered = none ∧ (s.seg 0).lastEnd = none ∧ (s.ctx 0 0).ready = some r ∧
        r.since + max (s.seg 0).pace.txGap (s.ctx 0 0).ecuGap * 100 ≤ s.time.clock * 1000 + max s.time.us 999 ∧
        (s.ctx 0 0).partEnd = none ∧ ∀ y : Fin 4, y ≠ 0 → (s.ctx 0 y).ready = none := by decide +kernel

/-- The first PART of a credit, with an ECU gap of 500 µs after the PART that ended at 999,700: held back at 1,000,100, where its
context's frame alone is ready or another's passes, and free at 1,000,200. -/
theorem witness_FrameOffer_spacing :
    let r : Ready := { kind := .part, since := 999800, spaced := false }
    let s := talking .sending fun k => { k with ready := some r, ecuGap := 5, partEnd := some 999700, length := 20 }
    let other := s.modCtx 0 1 fun _ => { ctx 30 .exchange .sending with ready := some { kind := .short, since := 999900, spaced := false } }
    let spacing := max (s.seg 0).pace.txGap (s.ctx 0 0).ecuGap * 100
    Settled s ∧ (s.seg 0).ctl.sends = true ∧ (s.seg 0).lastEnd = none ∧ s.time.clock * 1000 + max s.time.us 100 < 999700 + spacing ∧
      (∀ y : Fin 4, y ≠ 0 → (s.ctx 0 y).ready = none) ∧ 999700 + spacing ≤ s.time.clock * 1000 + max s.time.us 200 ∧
      Settled other ∧ (other.ctx 0 0).ready = some r ∧ (other.ctx 0 1).partEnd = none ∧ ((other.ctx 0 1).ready.map Ready.since) = some 999900 := by
  decide +kernel

/-- An offered frame of context 0. -/
def offered (kind : FrameKind) (carried : List Byte) : Offered :=
  { ctx := some 0, frame := partFrame (.std 0x6A2) [0x12, 0x22, 1], kind := kind, index := 1, carried := carried, credit := 0 }

theorem witness_OwnFrameAcknowledged :
    ∀ kind ∈ [FrameKind.short, .opening, .part, .credit], ∀ left ∈ [none, some 1, some 2], ∀ length ∈ [2, 20],
      let s := (talking .sending fun k => { k with credit := left, length := length }).modSeg 0 fun q =>
        { q with offered := some (offered kind [1, 2]) }
      Settled s ∧ ErrorsAgree s ∧ LanesEmpty s 0 ∧ (s.seg 0).offered = some (offered kind [1, 2]) ∧
        (offered kind [1, 2]).frame.id ≠ s.ps.active.veh.canId := by decide +kernel

theorem witness_BusErrors :
    (∀ tec ∈ [0, 95, 127, 247],
      let s := net.modSeg 0 fun q => { q with ctl := errorState tec 0, tecCount := tec, offered := some (offered .short []) }
      Settled s ∧ ErrorsAgree s ∧ LanesEmpty s 0 ∧ (s.seg 0).offered ≠ none ∧ (s.seg 0).tecCount + 8 ≤ 255) ∧
      (∀ tec ∈ [248, 255],
        let s := (talking .sending id).modSeg 0 fun q =>
          { q with ctl := errorState tec 0, tecCount := tec, offered := some (offered .short []) }
        Settled s ∧ ErrorsAgree s ∧ (s.seg 0).offered ≠ none ∧ (s.seg 0).ctl.sends = true ∧ 255 < (s.seg 0).tecCount + 8 ∧
          (s.ctx 0 0).st ≠ .free ∧ (∀ y : Fin 4, y ≠ 0 → (s.ctx 0 y).st = .free) ∧ (s.ctx 0 0).role = .exchange) := by decide +kernel

theorem witness_BusErrors_work :
    ∀ role ∈ [Role.data, .keepalive, .cycle],
      let s := (busy net role .sending).modSeg 0 fun q =>
        { q with ctl := .passive, tecCount := 248, offered := some (offered .short []) }
      Settled s ∧ (s.seg 0).offered ≠ none ∧ (s.seg 0).ctl.sends = true ∧ 255 < (s.seg 0).tecCount + 8 ∧ LoneContext s 0 0 ∧
        (s.ctx 0 0).role = role ∧ (s.ctx 0 0).cell = 0 ∧ HasRecord s role ∧ s.entryOf 0 = none := by decide +kernel

/-- A state frame, a stray response and a foreign frame on a part that is idle but for its segments. -/
theorem witness_FrameObserved :
    let s := { up with ps := { up.ps with active := policy }, segs := net.segs }
    let f : CanFrame := partFrame (.std 0x7FF) [0, 1, 0, 0]
    Settled s ∧ ErrorsAgree s ∧ LanesEmpty s 0 ∧ Idle s ∧ (∀ x : Fin 4, (s.ctx 0 x).st = .free) ∧
      (s.ps.active.veh.seg = 0 ∧ f.id = s.ps.active.veh.canId ∧ f.remote = false ∧ s.ps.active.veh.engineOff + 2 ≤ f.dlc.val ∧
        s.ps.active.veh.roadOff + 2 ≤ f.dlc.val) ∧
      s.isResponseId 0 (.std 0x6B2) = true ∧ s.isResponseId 0 (.std 0x6B3) = false := by decide +kernel

/-- What every taken frame needs: the frame is the ECU's, and the context is alone. -/
abbrev Alone (s : State) (f : CanFrame) : Prop :=
  Settled s ∧ ErrorsAgree s ∧ LanesEmpty s 0 ∧ f.remote = false ∧ f.id = (s.ctx 0 0).respId ∧ f.id ≠ s.ps.active.veh.canId ∧
    ∀ y : Fin 4, y ≠ 0 → (s.ctx 0 y).st = .free

theorem witness_CreditAndOpen :
    (∀ b ∈ [[0x40, 0, 0], [0x40, 255, 255], [0x42, 0, 0]], Alone (talking .awaitCredit id) (reply b)) ∧
      (∀ n ∈ [0, 7, 8], Alone (talking .awaitCredit fun k => { k with waits := n }) (reply [0x41, 0, 0])) ∧
      (let s := talking .awaitResponse id
       let buffer := responseRef (s.cell 31).captured
       (∀ b ∈ [[0x20, 8, 1, 0xA2, 1, 2, 3, 4], [0x2F, 255, 1, 0xFE, 0x22, 2, 3, 4], [0x20, 8, 1, 7, 1, 2, 3, 4]],
         Alone s (reply b) ∧ (reply b).dlc.val = 8) ∧
         0x8000 ≤ buffer.addr ∧ buffer.addr + buffer.len ≤ 0x10000) := by decide +kernel

theorem witness_ShortResponse :
    let s := talking .awaitResponse id
    let buffer := responseRef (s.cell 31).captured
    (∀ b ∈ [[0x11, 0xA2], [0x17, 0xA2, 1, 2, 3, 4, 5, 6], [0x13, 0xFE, 0x22, 0x31], [0x11, 0xFD], [0x13, 0xFD, 0x22, 50]],
      Alone s (reply b)) ∧
      (s.ctx 0 0).role = .exchange ∧ 0x8000 ≤ buffer.addr ∧ buffer.addr + buffer.len ≤ 0x10000 := by decide +kernel

/-- A hold reply to any exchange, with room for holds and at their limit. -/
theorem witness_ShortResponse_hold :
    ∀ role ∈ [Role.exchange, .data, .keepalive, .cycle], ∀ holds ∈ [0, 15, 16],
      let s := (busy net role .awaitResponse).modCtx 0 0 fun k => { k with holds := holds }
      (∀ b ∈ [[0x11, 0xFD], [0x13, 0xFD, 0x22, 50]], Alone s (reply b)) ∧ (s.ctx 0 0).st = .awaitResponse ∧
        (s.ctx 0 0).role = role ∧ (s.ctx 0 0).cell = 0 ∧ (s.ctx 0 0).holds = holds ∧ HasRecord s role ∧ s.entryOf 0 = none := by
  decide +kernel

/-- A context that is RECEIVING a response of `n` bytes, of which five have come, with credit `granted`. -/
def receiving (n : Nat) (granted : Option Nat) : State :=
  talking .receiving fun k =>
    { k with form := .positive, expected := n, received := 5, nextIn := 1, ecuTag := 0xA2, granted := granted }

/-- Malformed frames, and frames out of order. -/
theorem witness_CreditAndOpen_wrong :
    (∀ b ∈ [[], [0x02, 1, 1], [0x50, 1, 1], [0x10, 1], [0x13, 1, 1], [0x20, 7, 0xA2, 1, 2, 3, 4, 5], [0x32, 1],
            [0x32, 1, 1, 2, 3, 4, 5], [0x40, 0], [0x43, 0, 0], [0x32, 2, 1, 2, 3, 4, 5, 6], [0x33, 1, 1, 2, 3, 4, 5, 6],
            [0x11, 0xA2], [0x40, 0, 0]],
      Alone (receiving 20 (some 8)) (reply b)) ∧
      Alone (receiving 20 (some 0)) (reply [0x32, 1, 1, 2, 3, 4, 5, 6]) := by decide +kernel

/-- The next PART within and at the end of the credit, and the last PART. -/
theorem witness_CreditAndOpen_part :
    ∀ n ∈ [8, 11, 12, 20, 4095], ∀ left ∈ [none, some 1, some 2],
      let s := receiving n left
      let buffer := responseRef (s.cell 31).captured
      Alone s (reply [0x32, 1, 1, 2, 3, 4, 5, 6]) ∧ (s.ctx 0 0).st = .receiving ∧ (s.ctx 0 0).form = .positive ∧
        (s.ctx 0 0).role = .exchange ∧ (s.ctx 0 0).granted = left ∧ (s.ctx 0 0).ecuTag.toNat % 16 = 2 ∧
        (s.ctx 0 0).nextIn = 1 ∧ 0x8000 ≤ buffer.addr ∧ buffer.addr + buffer.len ≤ 0x10000 := by decide +kernel

/-- The response to a watch's cycle: one of many, the last of its limit, and one that finds a cause pending. -/
theorem witness_ShortResponse_watch :
    ∀ w ∈ [{ quietWatch 31 with limit := 0 }, { quietWatch 31 with limit := 0, notify := true }, { quietWatch 31 with limit := 3, done := 2 },
           { quietWatch 31 with pending := some .aborted }, { quietWatch 31 with pending := some .grantExpired },
           { quietWatch 31 with pending := some .testerGone }],
      let s := withCtx (withWatch net 31 { w with out := .context }) (ctx 31 .cycle .awaitResponse)
      let buffer := responseRef (s.cell 31).captured
      (∀ b ∈ [[0x11, 0xA2], [0x17, 0xA2, 1, 2, 3, 4, 5, 6], [0x13, 0xFE, 0x22, 0x31]], Alone s (reply b)) ∧
        (s.ctx 0 0).role = .cycle ∧ (s.ctx 0 0).st = .awaitResponse ∧ s.watch 31 = some { w with out := .context } ∧
        { w with out := .context }.EndNamed ∧ s.entryOf 31 = none ∧
        0x8000 ≤ buffer.addr ∧ buffer.addr + buffer.len ≤ 0x10000 := by decide +kernel

/-- Block 0 of the transfer of cell 31 is SENDING in slot 7 and awaits its response. -/
def sendingBlock : State :=
  let s := withTransfer net 31 { streaming net 31 with out := some { role := .data, block := 0, inCtx := true } }
  (withCtx s { ctx 31 .data .awaitResponse with service := 0x34 }).modSlot 7 fun _ =>
    { st := .sending, owner := 31, block := 0, length := 16 }

theorem witness_BlockAcknowledged :
    let s := sendingBlock
    let f := reply [0x11, 0xB4]
    Alone s f ∧ (s.ctx 0 0).role = .data ∧ (s.ctx 0 0).st = .awaitResponse ∧ 0xB4 = (s.ctx 0 0).service + 0x80 ∧
      (∃ r, s.transfer 31 = some r ∧ r.phase = .streaming ∧ r.out = some ⟨.data, r.acked, true⟩ ∧ r.pending = none ∧
        r.withdrawn = none ∧ r.acked + 1 < blockCount (s.cell 31).captured ∧ s.slotWith 31 r.acked .sending = some 7 ∧
        s.slotWith 31 (r.acked + 1) .held = none) :=
  ⟨by decide +kernel, by decide +kernel, by decide +kernel, by decide +kernel, _, rfl, by decide +kernel, by decide +kernel,
    by decide +kernel, by decide +kernel, by decide +kernel, by decide +kernel, by decide +kernel⟩

/-- The same with block 1 HELD in slot 6, its lane paused. -/
theorem witness_BlockAcknowledged_next :
    let s := (sendingBlock.modSlot 6 fun _ => { st := .held, owner := 31, block := 1, length := 4 }).modSeg 0 fun q =>
      { q with pace := { q.pace with pause := 0xFF } }
    Alone s (reply [0x11, 0xB4]) ∧ s.slotWith 31 0 .sending = some 7 ∧ s.slotWith 31 1 .held = some 6 ∧
      1 < blockCount (s.cell 31).captured ∧ (s.transfer 31).isSome = true ∧ s.segmentOf 0x17 = some 0 ∧ s.enabled 0 = true ∧
      (s.seg 0).pace.pauses (Lane.ofCode (s.ps.active.lanes[0])[s.classIndex (streaming net 31).codes.data]) = true := by
  decide +kernel

/-- The last block, block 1 in slot 7, of a transfer without END and VERIFY, on a channel whose latch names the ECU or is clear. -/
theorem witness_BlockAcknowledged_last :
    ∀ l ∈ [none, some 0x17], ∀ cause ∈ [none, some Reason.aborted],
      let r := { streaming net 31 with acked := 1, pending := cause, out := some { role := .data, block := 1, inCtx := true } }
      let s := (((sendingBlock.setTransfer 31 (some r)).modSlot 7 fun q => { q with block := 1, length := 4 }).modChan 1 fun q =>
        { q with latch := l })
      Alone s (reply [0x11, 0xB4]) ∧ (s.ctx 0 0).role = .data ∧ s.transfer 31 = some r ∧ s.slotWith 31 1 .sending = some 7 ∧
        1 + 1 = blockCount (s.cell 31).captured ∧ (endRef (s.cell 31).captured).len = 0 ∧
        (verifyRef (s.cell 31).captured).len = 0 := by decide +kernel

/-- A transfer of cell 31 with CRC `crc`, whose VERIFY exchange awaits its response. -/
def verifying (crc : Word16) : Transfer :=
  { streaming net 31 with phase := .verifying, crc := crc, out := some { role := .verify, block := 0, inCtx := true } }

/-- Its state: the two bytes are at offset 1. -/
def verifyState (crc : Word16) : State :=
  withCtx ((withCell net 31 .active ((42, 1) :: transfer)).setTransfer 31 (some (verifying crc)))
    { ctx 31 .verify .awaitResponse with service := 0x37 }

/-- A response that holds the CRC, one that holds another, and one that is too short for it. -/
theorem witness_BlockAcknowledged_verify :
    ∀ crc ∈ [0x1234#16, 0xFFFF#16], ∀ b ∈ [[0x13, 0xB7, 0x12, 0x34], [0x12, 0xB7, 0x12]],
      let s := verifyState crc
      Alone s (reply b) ∧ (s.ctx 0 0).role = .verify ∧ s.transfer 31 = some (verifying crc) ∧ (s.ctx 0 0).verifyHi = none ∧
        (s.ctx 0 0).verifyLo = none ∧ crcOffset (s.cell 31).captured = 1 := by decide +kernel

theorem witness_WaitExpiries :
    ∀ st ∈ [CtxState.awaitCredit, .awaitResponse, .receiving],
      let s := talking st fun k => { k with timer := some 1000 }
      Settled s ∧ LanesEmpty s 0 ∧ (s.ctx 0 0).role = .exchange ∧ s.due (s.ctx 0 0).timer = true ∧ (s.ctx 0 0).st = st := by
  decide +kernel

theorem witness_WaitExpiries_work :
    ∀ role ∈ [Role.data, .keepalive, .cycle], ∀ st ∈ [CtxState.awaitCredit, .awaitResponse, .receiving],
      let s := (busy net role st).modCtx 0 0 fun k => { k with timer := some 1000 }
      Settled s ∧ LanesEmpty s 0 ∧ (s.ctx 0 0).role = role ∧ (s.ctx 0 0).cell = 0 ∧ s.due (s.ctx 0 0).timer = true ∧
        (s.ctx 0 0).st = st ∧ HasRecord s role ∧ s.entryOf 0 = none := by decide +kernel

theorem witness_JoinAndRecovery :
    (Settled waiting ∧ LanesEmpty waiting 0 ∧ (waiting.seg 0).ctl = .joining) ∧
      (∀ n ∈ [0, 127, 128],
        let s := net.modSeg 0 fun q => { q with ctl := .off, recovery := n }
        Settled s ∧ LanesEmpty s 0 ∧ (s.seg 0).ctl = .off ∧ s.ps.active.segs[0].autoRecovery = true) ∧
      ({ net with ps := { net.ps with active := { policy with segs := Vector.replicate 4 { SegSet.default with autoRecovery := false } } } } :
        State).ps.active.segs[0].autoRecovery = false := by decide +kernel

/-! ### Witnesses: timers -/

theorem witness_TransferTimers :
    (let s := withTransfer net 31 { streaming net 31 with feed := some 1000 }
     Settled s ∧ (∃ r, s.transfer 31 = some r ∧ s.due r.feed = true ∧ r.out = none ∧ r.pending = none) ∧ s.entryOf 31 = none) ∧
      (let s := withTransfer waiting 31 { streaming net 31 with ka := some 1000 }
       (∃ r, s.transfer 31 = some r ∧ s.due r.ka = true ∧ r.out = none ∧ s.segmentOf r.target = some 0) ∧ s.entryOf 31 = none ∧
         s.enabled 0 = true ∧ Waits s 0) ∧
      (let s := withEntry (withTransfer waiting 31
         { streaming net 31 with ka := some 1000, out := some { role := .data, block := 0, inCtx := false } }) (entry 31 .data)
       (∃ r o, s.transfer 31 = some r ∧ s.due r.ka = true ∧ r.out = some o ∧ o.inCtx = false ∧ s.segmentOf r.target = some 0) ∧
         s.entryOf 31 = some (0, entry 31 .data) ∧ s.enabled 0 = true ∧ Waits s 0) :=
  ⟨⟨by decide +kernel, ⟨_, rfl, by decide +kernel⟩, by decide +kernel⟩,
    ⟨⟨_, rfl, by decide +kernel⟩, by decide +kernel, by decide +kernel, by decide +kernel⟩,
    ⟨_, _, rfl, by decide +kernel, rfl, by decide +kernel⟩, by decide +kernel, by decide +kernel, by decide +kernel⟩

/-- The waiting entry of the transfer is on segment 1, the keep-alive's on segment 0. -/
theorem witness_TransferTimers_other :
    let r := { streaming net 31 with ka := some 1000, out := some { role := .data, block := 0, inCtx := false } }
    let s := (withTransfer waiting 31 r).modSeg 1 fun q => { q with lanes := { q.lanes with normal := [entry 31 .data] } }
    Settled s ∧ s.transfer 31 = some r ∧ s.due r.ka = true ∧ s.segmentOf r.target = some 0 ∧ s.enabled 0 = true ∧ Waits s 0 ∧
      s.entryOf 31 = some (1, entry 31 .data) := by decide +kernel

theorem witness_WatchDue :
    (∀ o ∈ [WOut.lane, .context],
      let w := { quietWatch 31 with out := o, skipped := 65535 }
      let s := withWatch net 31 w
      Settled s ∧ s.watch 31 = some w ∧ s.reached w.nextDue = true ∧ w.out ≠ .none) ∧
      (let s := withWatch waiting 31 (quietWatch 31)
       Settled s ∧ s.watch 31 = some (quietWatch 31) ∧ s.reached (quietWatch 31).nextDue = true ∧ (quietWatch 31).out = .none ∧
         s.admission true (plainRequest 1 (quietWatch 31).service 0x17) = .allow 2 0 ∧ Waits s 0) := by decide +kernel

/-- A due cycle denied by a vehicle condition, and one denied otherwise. -/
theorem witness_WatchDue_denied :
    ∀ p ∈ [(0x11, Verdict.deny .ignitionRequired none (some 0xFF)), (0x10, .deny .classNotGranted none none)],
      let w := { quietWatch 31 with service := p.1 }
      let s := withWatch net 31 w
      Settled s ∧ s.watch 31 = some w ∧ s.reached w.nextDue = true ∧ w.out = .none ∧ s.entryOf 31 = none ∧
        s.admission true (plainRequest w.channel w.service w.target) = p.2 ∧
        Reason.ignitionRequired.isVehicle = true ∧ Reason.classNotGranted.isVehicle = false := by decide +kernel

theorem witness_TimeCommands :
    (Settled up ∧ up.phase = .running) ∧ (Settled State.reset ∧ State.reset.phase ≠ .running) ∧
      (let s := up.modTime fun t => { t with prescale := 1000 }
       Settled s ∧ 1000 ≤ s.time.prescale) ∧
      (let s := up.modChan 7 fun r => { r with suspended := true }
       Settled s ∧ (s.chan 7).suspended = true ∧ (s.chan 7).remaining = 0) ∧
      (let s := up.modCm fun m => { m with lampInd := .blink, blink := some 0 }
       Settled s ∧ s.cm.lampInd = .blink ∧ s.cm.blink = some 0 ∧ 0 ≤ s.time.clock) := by decide +kernel

/-! ### One step, with values from the spec -/

/-- The check value that R128 gives. -/
theorem test_crc_check_value : crc16 crcInit ((List.range 9).map fun i => byte (0x31 + i)) = 0x29B1#16 := by decide +kernel

/-- R94: an 11-bit frame of DLC 8 has 111 bits, a 29-bit remote frame 67. -/
theorem test_frame_bits :
    frameBits { id := .std 0, remote := false, dlc := 8, data := Vector.replicate 8 0 } = 111 ∧
      frameBits { id := .ext 0, remote := true, dlc := 8, data := Vector.replicate 8 0 } = 67 := by decide +kernel

/-- R192: Ready stands at 0Ah, threshold 8 at 2001h, the address of unused route entry 0 is FFh at 20A0h. -/
theorem test_ram_clear_done_mirror :
    (after .ramClearDone State.reset).mem.read 0x0A = 1 ∧ (after .ramClearDone State.reset).mem.read 0x2001 = 8 ∧
      (after .ramClearDone State.reset).mem.read 0x20A0 = 0xFF := by decide +kernel

/-- R177, R192: ID reads 1A01h from the start of the power-on reset, RAM reads 0 while it is cleared. -/
theorem test_host_reads : hostReadRegister State.reset 0 = 0x1A01 ∧ hostReadRam (ram State.reset 0x8000 [1]) 0x8000 = 0 := by
  decide +kernel

/-- R179: a post by two byte writes, of which the second leaves 0001h. -/
theorem test_post_by_bytes :
    let s := ram up (cellBase 3) [7, 0]
    ((after (.cellPost 3 ⟨1, true, false⟩) s).cell 3).st = .posted ∧ (after (.cellPost 3 ⟨1, false, true⟩) s).board.posts = [] := by
  decide +kernel

/-- R181: the record of a POSTED written to an ACTIVE cell 31: cell word, number, value, true state 4. -/
theorem test_board_error_record :
    let t := after (.cellPost 31 (word 1)) (cell31 .active)
    t.mem.bytes 0x30 5 = [1, 31, 1, 0, 4] ∧ t.mem.word (cellBase 31) = 4 ∧ t.regs.event = 0x04 := by decide +kernel

/-- R42: the eighth counted denial suspends the channel for 30 s. -/
theorem test_eighth_denial_suspends :
    let t := after (.exchangeAdmission 31) (received (chan1 fun r => { r with run := 7 }) exchange [0x10, 1])
    (t.chan 1).suspended = true ∧ (t.chan 1).remaining = 30 ∧ (t.chan 1).run = 0 ∧ t.regs.event = 0x80 ∧
      t.regs.done = 0x80000000 := by decide +kernel

/-- R75, R76: an admitted EXCHANGE starts at once on an idle segment, in context 0, with tag 1 and a SHORT frame. -/
theorem test_exchange_starts :
    let t := after (.exchangeAdmission 31) (received net exchange [0x22, 1])
    (t.cell 31).st = .active ∧ (t.ctx 0 0).st = .sending ∧ (t.ctx 0 0).tag = 1 ∧ (t.seg 0).busy = [0x17] ∧
      ((t.ctx 0 0).ready.map Ready.kind) = some .short := by decide +kernel

/-- R72: the OPENING frame of 20 bytes is 20h, 14h, the tag, and five bytes; the PART carries the low half of the tag. -/
theorem test_frame_layout :
    let s := ram (talking .sending fun k => { k with length := 20, tag := 0x5C }) 0x8000 (List.replicate 20 0xAA)
    let r : Ready := { kind := .opening, since := 0, spaced := false }
    (buildFrame s (s.seg 0).pace 0 (s.ctx 0 0) r).frame.data.toList = [0x20, 0x14, 0x5C, 0xAA, 0xAA, 0xAA, 0xAA, 0xAA] ∧
      (buildFrame s (s.seg 0).pace 0 (s.ctx 0 0) { r with kind := .part }).frame.data.toList =
        [0x3C, 1, 0xAA, 0xAA, 0xAA, 0xAA, 0xAA, 0xAA] := by
  decide +kernel

/-- R84, R86: a refusal FEh 22h 31h ends the exchange DONE with its flag, and ECU_REFUSED accrues. -/
theorem test_refusal_ends_done :
    let t := after (.frameCompleted 0 0 (reply [0x13, 0xFE, 0x22, 0x31])) (talking .awaitResponse id)
    (t.cell 31).st = .done ∧ t.mem.read (cellBase 31 + 65) = 8 ∧ t.mem.bytes 0x9000 3 = [0xFE, 0x22, 0x31] ∧
      (t.chan 1).accrued = 8 := by decide +kernel

/-- R65, R67: TEC 248 and one more transmit error is bus-off, which frees the context and ends its cell. -/
theorem test_bus_off :
    let s := (talking .sending id).modSeg 0 fun q =>
      { q with ctl := .passive, tecCount := 248, offered := some (offered .short []) }
    let t := after (.transmitError 0) s
    (t.seg 0).ctl = .off ∧ (t.seg 0).busOff = 1 ∧ (t.cell 31).st = .failed ∧ (t.seg 0).busy = [] := by decide +kernel

/-- R100: at the eighth sub-window, 80,000 busy bits of a window of 500 kbit/s and 200 ms are load 819, and A rises from
57,344 by 2048 to 59,392. -/
theorem test_window_update :
    let s := { (net.modSeg 0 fun q => { q with subIndex := 7, winBits := 80000 }) with time := { net.time with clock := 200 } }
    ((after (.subWindowEnd 0) s).seg 0).acc = 59392 ∧ ((after (.subWindowEnd 0) s).seg 0).lastLoad = 819 := by decide +kernel

/-- R153, R155: both lines debounced are workshop mode, bits 0 to 2 of byte 18h. -/
theorem test_workshop_byte :
    let s := up.modCm fun m =>
      { m with presence := ⟨true, true, none⟩, key := ⟨true, false, some 0⟩ }
    (after (.connectorDebounceExpiry .key) s).mem.read 0x18 = 7 ∧ (after (.connectorDebounceExpiry .key) s).regs.event = 0x01 := by
  decide +kernel

/-- R164: engine speed 1 is RUNNING over the default threshold 0, and road speed 0 is STATIONARY. -/
theorem test_state_frame :
    let t := after (.frameCompleted 0 0 (partFrame (.std 0x7FF) [0, 1, 0, 0])) net
    t.vsm.engine = .running ∧ t.vsm.motion = .stationary ∧ t.mem.bytes 0x21 2 = [2, 1] ∧ t.regs.event = 0x40 := by decide +kernel

/-- R21: an expired grant no longer lights the lamp. -/
theorem test_grant_expiry_lamp :
    let s := { expiring with cm := { expiring.cm with lampInd := .on, lit := true } }
    (after (.grantExpiry 2) s).cm.lampInd = .off ∧ (after (.grantExpiry 2) s).cm.lit = false := by decide +kernel

/-- R6: a grant kept by identity stays spent where its budget is raised or set to 0, and one that was not spent does not. -/
theorem test_spent_grant_stays_spent :
    let budgeted := fun (budget : Nat) => { policy with grants := upd policy.grants 2 fun q => { q with budget := budget } }
    let kept := fun (count : Nat) (budget : Nat) =>
      let s := up.modPs fun p => { p with active := budgeted 2, usage := p.usage.set 2 { Usage.none with count := count } }
      let t := s.takeSet (budgeted budget)
      grantLive t.ps.active.grants[2] t.ps.usage[2] false
    kept 2 5 = false ∧ kept 2 0 = false ∧ kept 1 5 = true ∧ kept 1 1 = false := by decide +kernel

/-- R158: a change of the indication alone writes the lamp mode too. -/
theorem test_lamp_mode_shown :
    let s := ram { expiring with cm := { expiring.cm with lampInd := .on, lit := true } } 0x19 [0xAA, 0xAA]
    (after (.grantExpiry 2) s).mem.bytes 0x19 2 = [1, 2] := by decide +kernel

/-- R177: a write to an odd address is no access of the port (log 27). -/
theorem test_odd_ram_write : runs (.hostRamWrite 0x8001 (word 1)) up = false ∧ runs (.hostRamWrite 0x8002 (word 1)) up = true := by
  decide +kernel

/-- R64, R69: a DISABLED controller acknowledges a frame received without error, and a JOINING one does not. -/
theorem test_disabled_acknowledges :
    let t := fun (c : Ctl) =>
      after (.frameCompleted 0 0 (partFrame (.std 0x123) [])) (net.modSeg 0 fun q => { q with ctl := c, ack := c == .joining })
    ((t .disabled).seg 0).ack = true ∧ ((t .joining).seg 0).ack = false := by decide +kernel

/-- R33: a union with both engine flags while the engine is UNKNOWN (log 39), STOPPED and RUNNING. -/
theorem test_both_engine_flags :
    let v := fun (e : Engine) => condFailure { net.vsm with engine := e } ⟨false, true, true, false⟩
    v .unknown = some .engineMustRun ∧ v .stopped = some .engineMustRun ∧ v .running = some .engineMustStop := by decide +kernel

/-- R194: the part writes the reserved bytes of the Information Block as 0 whenever it writes the block. -/
theorem test_reserved_bytes :
    (after .millisecondTick (ram up 0x1F [0xAA])).mem.read 0x1F = 0 ∧
      (after .millisecondTick (ram up 0x35 [0xAA])).mem.read 0x35 = 0 := by decide +kernel

/-- R194: so are the reserved bits, of Ready's byte, of the connector lines', and of a Segment Status entry when another unit
writes it; the bits that hold fields stay. -/
theorem test_reserved_bits :
    (after .millisecondTick (ram (ram up 0x0A [0xFF]) 0x18 [0xFD])).mem.read 0x0A = 1 ∧
      (after .millisecondTick (ram (ram up 0x0A [0xFF]) 0x18 [0xFD])).mem.read 0x18 = 5 ∧
      ((((ram up (segBase 2 + 3) [0xFF]).wr (segBase 2 + 0x48) [0xFF]).lsWrite 2).mem.read (segBase 2 + 3) = 1 ∧
        (((ram up (segBase 2 + 3) [0xFF]).wr (segBase 2 + 0x48) [0xFF]).lsWrite 2).mem.read (segBase 2 + 0x48) = 3) := by
  decide +kernel

/-- R104: the first PART after a CREDIT PROCEED with gap 5, whose PART before it ended at 999,700, is not offered at 1,000,100 and
is at 1,000,200. -/
theorem test_part_spacing_across_credits :
    let s := talking .awaitCredit fun k => { k with partEnd := some 999700, length := 20, sent := 5 }
    let t := after (.frameCompleted 0 0 (reply [0x40, 0, 5])) s
    ((after (.frameOffer 0 100) t).seg 0).offered = none ∧ ((after (.frameOffer 0 200) t).seg 0).offered.isSome = true := by
  decide +kernel

/-- R193: the error count and the record are 0 in RAM in the event of the soft reset. -/
theorem test_soft_reset_errors : (after (.softReset true) (ram up 0x2C [1, 2, 3, 4, 1, 31, 1, 0, 4])).mem.bytes 0x2C 9 = zeros 9 := by
  decide +kernel

/-- R19, R105: a CREDIT carries the receive credit and gap of the pace entry that stands when it is offered. -/
theorem test_credit_of_the_pace :
    let s := (talking .receiving fun k => { k with ready := some ⟨.credit, 0, false⟩ }).modSeg 0 fun q =>
      { q with pace := { q.pace with credit := 9, rxGap := 7 } }
    (((after (.frameOffer 0 0) s).seg 0).offered.map fun o => o.frame.data.toList.take 3) = some [0x40, 9, 7] := by decide +kernel

/-- R49: the entry that a keep-alive set aside joins the lane that the active map gives when it joins again (log 28). -/
theorem test_requeue_lane :
    let r := { streaming net 31 with withdrawn := some (0, entry 31 .data, 0) }
    let s := (withTransfer waiting 31 r).modPs fun p =>
      { p with active := { policy with lanes := policy.lanes.set 0 (Vector.replicate 8 2) } }
    (((s.transferResume 31).seg 0).lanes.bulk.map Entry.cell) = [31] := by decide +kernel

end Sys2Proof.Machine.Tests
end

section
/-! PROOFS. LOAD at the Load Regulator (R108): the end of a cell that succeeds, what an arbitration leaves alone, and what the
report of a level change comes to. -/

namespace Sys2Proof.Machine

/-! ### Runs of bytes outside the stored places -/

theorem MemFrame.bytes {s t : State} {p : Nat → Prop} (x : MemFrame s t p) {a n : Nat} (h : ∀ k < n, ¬ p (a + k)) :
    t.mem.bytes a n = s.mem.bytes a n :=
  List.map_congr_left fun k hk => x (a + k) (h k (List.mem_range.1 hk))

/-- The end of an event leaves everything above the Information Block alone. -/
theorem State.finish_bytes (s : State) {a n : Nat} (h : 0x100 ≤ a) : s.finish.mem.bytes a n = s.mem.bytes a n :=
  s.finish_frame.bytes fun k _ => by unfold InfoShared Within; omega

theorem State.finish_word (s : State) {a : Nat} (h : 0x100 ≤ a) : s.finish.mem.word a = s.mem.word a := by
  rw [Mem.word, Mem.word, s.finish_bytes h]

theorem State.finish_read (s : State) {a : Nat} (h : 0x100 ≤ a) : s.finish.mem.read a = s.mem.read a :=
  s.finish_frame a (by unfold InfoShared Within; omega)

/-- The end of an event counts a step of the Information Block if a field of it was written. -/
theorem State.finish_info (s : State) :
    s.finish.info = if s.info.dirty then { s.info with counter := s.info.counter + 1, dirty := false } else s.info := by
  unfold State.finish State.infoClose
  split <;> rfl

theorem State.finish_eq (s : State) :
    s.finish = { s with regs := { s.regs with irq := irqOf s.regs }, mem := s.finish.mem, info := s.finish.info } := by
  obtain ⟨phase, board, time, ps, chans, segs, transfers, slots, watches, cm, vsm, pending, regs⟩ := s.finish_fields
  rw [← phase, ← board, ← time, ← ps, ← chans, ← segs, ← transfers, ← slots, ← watches, ← cm, ← vsm, ← pending, ← regs]

/-! ### A cell that ends DONE (R187) -/

theorem resultBytes_done_length (s : State) (c : Fin 32) (kind : List Byte) :
    (resultBytes s c (.done kind)).length = 64 := by
  simp [resultBytes, CellEnd.done, pad28, zeros]

/-- The kind's own fields stand from byte 36 of the result area on (11.4). -/
theorem resultBytes_done_kind (s : State) (c : Fin 32) {kind : List Byte} (h : kind.length ≤ 28) :
    ((resultBytes s c (.done kind)).drop 36).take kind.length = kind := by
  have e : (resultBytes s c (.done kind)).drop 36 = pad28 kind := by
    simp [resultBytes, CellEnd.done, zeros, le16, le32, List.replicate]
  rw [e, pad28, List.take_take, Nat.min_eq_left h, List.take_left]

/-- The kinds that name no channel accrue nothing at their end. -/
theorem State.endCell_of_no_channel {s : State} {c : Fin 32} (h : channelNamed (s.cell c).captured = none) (e : CellEnd) :
    s.endCell c e = s.endCellOn none c e := by rw [State.endCell, h]

/-- The whole effect of an event that ends with cell `c` DONE: what the end stores, and what it leaves of the state `s` that the
operation had left. -/
structure DoneFinish (s t : State) (c : Fin 32) (kind : List Byte) : Prop where
  ends : EndsDone t c
  kindBytes : kind.length ≤ 28 → t.mem.bytes (cellBase c + 100) kind.length = kind
  cells : OnlyCellState s t c
  regs : EndRegs s t c 0
  info : t.info = if s.info.dirty then { s.info with counter := s.info.counter + 1, dirty := false } else s.info
  whole : t = { s with board := t.board, regs := t.regs, mem := t.mem, info := t.info }
  frame : MemFrame s t fun a => EndPlaces c a ∨ InfoShared a

theorem State.endCellOn_none_frame (s : State) (c : Fin 32) (kind : List Byte) :
    MemFrame s (s.endCellOn none c (.done kind)) (EndPlaces c) := by
  intro a h
  unfold EndPlaces at h
  rw [State.endCellOn_none]
  refine (Mem.read_write_outside _ ?_).trans (Mem.read_write_outside _ ?_)
  · exact fun w => h (.inl w)
  · rw [resultBytes_done_length]
    exact fun w => h (.inr w)

/-- A run of bytes of the result area after the end of the cell. -/
theorem State.endCellOn_none_bytes (s : State) (c : Fin 32) (kind : List Byte) {o n : Nat} (h : o + n ≤ 64) :
    (s.endCellOn none c (.done kind)).mem.bytes (cellBase c + 64 + o) n =
      ((resultBytes s c (.done kind)).drop o).take n := by
  have hb := cellBase_bounds c
  have hr : Config.ramSize = 0x10000 := rfl
  rw [State.endCellOn_none]
  refine (Mem.bytes_write_beside _ ?_).trans (Mem.bytes_write_inside _ ?_ ?_)
  · simp only [le16_length]; omega
  · rw [resultBytes_done_length]; exact h
  · rw [resultBytes_done_length]; omega

theorem Mem.read_of_bytes_one {m : Mem} {a : Nat} {b : Byte} (h : m.bytes a 1 = [b]) : m.read a = b := by
  simpa [Mem.bytes] using h

theorem State.endCellOn_none_endsDone (s : State) (c : Fin 32) (kind : List Byte) :
    EndsDone (s.endCellOn none c (.done kind)).finish c := by
  have hb := cellBase_bounds c
  have hr : Config.ramSize = 0x10000 := rfl
  refine ⟨⟨?_, ?_⟩, ?_, ?_, ?_⟩
  · rw [State.finish_eq, State.endCellOn_none]
    exact congrArg Cell.st (upd_same s.board.cells c _)
  · rw [State.finish_word _ (by omega), State.endCellOn_none]
    exact Mem.word_write _ _ (by omega)
  · rw [State.finish_read _ (by omega)]
    exact Mem.read_of_bytes_one (s.endCellOn_none_bytes c kind (o := 0) (n := 1) (by omega))
  · rw [State.finish_bytes _ (by omega)]
    exact s.endCellOn_none_bytes c kind (o := 5) (n := 3) (by omega)
  · rw [State.finish_eq, State.endCellOn_none]
    simp

theorem State.endCellOn_none_doneFinish (s : State) (c : Fin 32) (kind : List Byte) :
    DoneFinish s (s.endCellOn none c (.done kind)).finish c kind where
  ends := s.endCellOn_none_endsDone c kind
  kindBytes h := by
    have hb := cellBase_bounds c
    rw [State.finish_bytes _ (by omega)]
    exact (s.endCellOn_none_bytes c kind (o := 36) (by omega)).trans (resultBytes_done_kind s c h)
  cells := by
    rw [State.finish_eq, State.endCellOn_none]
    refine ⟨rfl, ?_, fun d h => upd_ne _ _ h⟩
    simp only [State.cell, upd_same]
  regs := by
    rw [State.finish_eq, State.endCellOn_none]
    simp [EndRegs, irqOf]
  info := by rw [State.finish_info, State.endCellOn_none]
  whole := by
    rw [State.finish_eq, State.endCellOn_none]
  frame := by
    intro a h
    rw [not_or] at h
    exact (State.finish_frame _ a h.2).trans (s.endCellOn_none_frame c kind a h.1)

theorem DoneFinish.seg {s t : State} {c : Fin 32} {kind : List Byte} (h : DoneFinish s t c kind) (g : Fin 4) :
    t.seg g = s.seg g := by rw [h.whole]; rfl

theorem DoneFinish.event {s t : State} {c : Fin 32} {kind : List Byte} (h : DoneFinish s t c kind) :
    t.regs.event = s.regs.event := by
  rw [h.regs]
  exact BitVec.or_zero

/-! ### Receipts of THROTTLE cells (R107) -/

/-- A THROTTLE names no channel (11.4). -/
theorem channelNamed_throttle {cap : List Byte} (h : kindOf cap = some .throttle) : channelNamed cap = none := by
  simp [channelNamed, h, Kind.namesChannel]

theorem State.kindOf_of_taken {s : State} {c : Fin 32} {k : Kind} (h : s.taken c k = true) :
    kindOf (s.cell c).captured = some k := by
  simp only [State.taken, Bool.and_eq_true, beq_iff_eq] at h
  exact h.2

theorem State.actHeld_of_not_held {s : State} {c : Fin 32} (h : (s.cell c).abortHeld = false) : s.actHeld c = s := by
  simp [State.actHeld, h]

theorem segOf_val (g : Fin 4) : segOf g.val = some g := by simp [segOf]

/-- A receipt of a cell that names operation `op` and segment `g` carries the operation out there. -/
theorem receiveSegment_eq {s : State} {c : Fin 32} {k : Kind} {op : Nat} {act : State → Fin 4 → State} {g : Fin 4}
    (ht : s.taken c k = true) (hg : field8 (s.cell c).captured 16 = g.val) (ho : field8 (s.cell c).captured 17 = op) :
    receiveSegment s c k op act = .next ((act s g).actHeld c).finish := by
  rw [receiveSegment, receiveOp, if_pos ho, receive_eq ht, hg, segOf_val]

/-- A THROTTLE operation that leaves the cell its captured fields and no held abort ends it DONE, with its result. -/
theorem State.throttleDone_doneFinish {s : State} {c : Fin 32} (hk : kindOf (s.cell c).captured = some .throttle)
    (ha : (s.cell c).abortHeld = false) (g : Fin 4) (before : Nat) :
    DoneFinish s ((s.throttleDone c g before).actHeld c).finish c (throttleKind s g before) := by
  have e : s.throttleDone c g before = s.endCellOn none c (.done (throttleKind s g before)) :=
    State.endCell_of_no_channel (channelNamed_throttle hk) _
  have held : ((s.throttleDone c g before).cell c).abortHeld = false := by
    rw [e, State.endCellOn_none]
    simpa only [State.cell, upd_same] using ha
  rw [State.actHeld_of_not_held held, e]
  exact s.endCellOn_none_doneFinish c _

/-! ### What an arbitration leaves alone (R53, R54) -/

/-- What starts on segment `g` may store: the segment's entry, and the state words of cells. -/
abbrev StartPlaces (g : Fin 4) (a : Nat) : Prop := Within (segBase g) 128 a ∨ ∃ c : Fin 32, Within (cellBase c) 2 a

/-- Between `s` and `t` exchanges may have started on segment `g`: of the segment only its lanes, busy set, pointer, contexts with
their tags and change counter have moved, of a cell only its state and start time. -/
structure StartsOnly (g : Fin 4) (s t : State) : Prop where
  regs : t.regs = s.regs
  info : t.info = s.info
  ps : t.ps = s.ps
  seg : t.seg g =
    { s.seg g with
      lanes := (t.seg g).lanes, busy := (t.seg g).busy, pointer := (t.seg g).pointer, tags := (t.seg g).tags
      ctxs := (t.seg g).ctxs, counter := (t.seg g).counter }
  cells : ∀ c, t.cell c = { s.cell c with st := (t.cell c).st, startTime := (t.cell c).startTime }
  frame : MemFrame s t (StartPlaces g)

namespace StartsOnly

variable {g : Fin 4} {s t u : State}

theorem refl (g : Fin 4) (s : State) : StartsOnly g s s := ⟨rfl, rfl, rfl, rfl, fun _ => rfl, MemFrame.refl s _⟩

theorem trans (x : StartsOnly g s t) (y : StartsOnly g t u) : StartsOnly g s u where
  regs := y.regs.trans x.regs
  info := y.info.trans x.info
  ps := y.ps.trans x.ps
  seg := by rw [y.seg, x.seg]
  cells c := by rw [y.cells c, x.cells c]
  frame := x.frame.trans y.frame

/-- The start of an exchange as its cell shows it. -/
theorem of_recordStart (g : Fin 4) (s : State) (c : Fin 32) : StartsOnly g s (s.recordStart c) := by
  refine ⟨rfl, rfl, rfl, rfl, fun d => ?_, MemFrame.refl s _⟩
  rcases eq_or_ne d c with rfl | h
  · simp only [State.recordStart, State.cell_modCell]
  · rw [State.recordStart, State.cell_modCell_ne s _ h]

theorem of_setCell (g : Fin 4) (s : State) (c : Fin 32) (st : CellState) : StartsOnly g s (s.setCell c st) := by
  refine ⟨rfl, rfl, rfl, rfl, fun d => ?_, fun a h => ?_⟩
  · rcases eq_or_ne d c with rfl | h
    · rw [State.setCell_eq]
      simp only [State.cell, upd_same]
    · rw [State.setCell_cell_ne s st h]
  · rw [State.setCell_eq]
    exact Mem.read_write_outside _ fun w => h (.inr ⟨c, w⟩)

theorem of_modWatch (g : Fin 4) (s : State) (c : Fin 32) (f : Watch → Watch) : StartsOnly g s (s.modWatch c f) :=
  ⟨rfl, rfl, rfl, rfl, fun _ => rfl, fun _ _ => rfl⟩

theorem of_modTransfer (g : Fin 4) (s : State) (c : Fin 32) (f : Transfer → Transfer) : StartsOnly g s (s.modTransfer c f) :=
  ⟨rfl, rfl, rfl, rfl, fun _ => rfl, fun _ _ => rfl⟩

/-- The report of a start goes to the record that the entry's role has. -/
theorem of_startReport (g : Fin 4) (s : State) (e : Entry) : StartsOnly g s (s.startReport e) := by
  refine (of_recordStart g s e.cell).trans ?_
  unfold State.startReport
  cases e.role
  case exchange => exact of_setCell g _ _ _
  case cycle => exact of_modWatch g _ _ _
  all_goals exact of_modTransfer g _ _ _

theorem of_stuWrite (g : Fin 4) (s : State) : StartsOnly g s (s.stuWrite g) where
  regs := by rw [State.stuWrite_eq]
  info := by rw [State.stuWrite_eq]
  ps := by rw [State.stuWrite_eq]
  seg := by rw [State.seg_stuWrite]
  cells _ := by rw [State.stuWrite_eq]; rfl
  frame := (s.stuWrite_frame g).mono fun _ => .inl

theorem of_lsWrite (g : Fin 4) (s : State) : StartsOnly g s (s.lsWrite g) where
  regs := by rw [State.lsWrite_eq]
  info := by rw [State.lsWrite_eq]
  ps := by rw [State.lsWrite_eq]
  seg := by rw [State.seg_lsWrite]
  cells _ := by rw [State.lsWrite_eq]; rfl
  frame := (s.lsWrite_frame g).mono fun _ => .inl

/-- A change of the fields of the segment that a start takes. -/
theorem of_modSeg {f : Seg → Seg}
    (h : f (s.seg g) =
      { s.seg g with
        lanes := (f (s.seg g)).lanes, busy := (f (s.seg g)).busy, pointer := (f (s.seg g)).pointer
        tags := (f (s.seg g)).tags, ctxs := (f (s.seg g)).ctxs, counter := (f (s.seg g)).counter }) :
    StartsOnly g s (s.modSeg g f) := by
  refine ⟨rfl, rfl, rfl, ?_, fun _ => rfl, MemFrame.refl s _⟩
  rw [State.seg_modSeg]
  exact h

theorem of_startIn (s : State) (g : Fin 4) (n : Fin 16) (e : Entry) (x : Fin 4) (r : Route) :
    StartsOnly g s (s.startIn g n e x r) := by
  exact (((of_modSeg rfl).trans (of_startReport g _ e)).trans (of_stuWrite g _)).trans (of_lsWrite g _)

theorem of_startOne (h : s.startOne g = some t) : StartsOnly g s t := by
  simp only [State.startOne] at h
  split at h
  · cases h
  · split at h
    · cases h
    · split at h <;> cases h
      exact of_startIn s g _ _ _ _

theorem of_arbitrateFuel (g : Fin 4) (n : Nat) (s : State) : StartsOnly g s (s.arbitrateFuel g n) := by
  induction n generalizing s with
  | zero => exact refl g s
  | succ n ih =>
    unfold State.arbitrateFuel
    split
    case h_1 t e => exact (of_startOne e).trans (ih t)
    case h_2 => exact refl g s

theorem of_arbitrate (g : Fin 4) (s : State) : StartsOnly g s (s.arbitrate g) := of_arbitrateFuel g 4 s

end StartsOnly

/-! ### The report of a level change (R102) -/

/-- Where the report of segment `g` stores: the segment's entry, and the level in the Information Block. -/
abbrev LevelPlaces (g : Fin 4) (a : Nat) : Prop := Within (segBase g) 128 a ∨ Within (0x24 + g.val) 1 a

/-- The LR has reported at `t` an event on segment `g` that began at level `old` and left the state `s` (R102): at that level only
its fields, and at another the pace entry, the count of level changes, EVENT LEVEL and the level in the Information Block. -/
structure LevelReported (g : Fin 4) (old : Nat) (s t : State) : Prop where
  seg : t.seg g =
    { s.seg g with pace := (t.seg g).pace, levelChanges := (t.seg g).levelChanges, counter := (t.seg g).counter }
  others : ∀ k, k ≠ g → t.seg k = s.seg k
  same : levelOf (s.seg g).acc = old →
    (t.seg g).pace = (s.seg g).pace ∧ (t.seg g).levelChanges = (s.seg g).levelChanges ∧ t.info = s.info ∧ t.regs = s.regs
  changed : levelOf (s.seg g).acc ≠ old →
    (t.seg g).pace = s.paceAt g ∧ (t.seg g).levelChanges = (s.seg g).levelChanges + 1 ∧
      t.info = { s.info with dirty := true } ∧ t.regs = { s.regs with event := s.regs.event ||| Event.level.bit } ∧
      t.mem.read (0x24 + g.val) = byte (levelOf (s.seg g).acc)
  whole : t = { s with regs := t.regs, mem := t.mem, segs := t.segs, info := t.info }
  frame : MemFrame s t (LevelPlaces g)

theorem State.lrWrite_seg_ne (s : State) {g k : Fin 4} (h : k ≠ g) : (s.lrWrite g).seg k = s.seg k := by
  rw [State.lrWrite_eq]
  exact upd_ne _ _ h

theorem State.lsWrite_seg_ne (s : State) {g k : Fin 4} (h : k ≠ g) : (s.lsWrite g).seg k = s.seg k := by
  rw [State.lsWrite_eq]
  exact upd_ne _ _ h

theorem State.wrInfo_frame (s : State) (off : Nat) (bs : List Byte) : MemFrame s (s.wrInfo off bs) (Within off bs.length) :=
  s.wr_frame off bs

theorem State.event_frame (s : State) (e : Event) (p : Nat → Prop) : MemFrame s (s.event e) p := fun _ _ => rfl

@[simp] theorem State.lrWrite_info (s : State) (g : Fin 4) : (s.lrWrite g).info = s.info := by rw [State.lrWrite_eq]
@[simp] theorem State.lrWrite_regs (s : State) (g : Fin 4) : (s.lrWrite g).regs = s.regs := by rw [State.lrWrite_eq]
@[simp] theorem State.lsWrite_info (s : State) (g : Fin 4) : (s.lsWrite g).info = s.info := by rw [State.lsWrite_eq]
@[simp] theorem State.lsWrite_regs (s : State) (g : Fin 4) : (s.lsWrite g).regs = s.regs := by rw [State.lsWrite_eq]

theorem State.levelSettle_same {s : State} {g : Fin 4} {old : Nat} (h : levelOf (s.seg g).acc = old) :
    s.levelSettle g old = s.lrWrite g := by rw [State.levelSettle, if_pos h]

/-- The segment as a level change leaves it, before the writes. -/
def State.levelTaken (s : State) (g : Fin 4) : State :=
  s.modSeg g fun q => { q with pace := s.paceAt g, levelChanges := q.levelChanges + 1 }

theorem State.levelSettle_changed {s : State} {g : Fin 4} {old : Nat} (h : levelOf (s.seg g).acc ≠ old) :
    s.levelSettle g old =
      ((((s.levelTaken g).lrWrite g).wrInfo (0x24 + g.val) [byte (levelOf (s.seg g).acc)]).lsWrite g).event .level := by
  have taken : (s.takePace g).modSeg g (fun q => { q with levelChanges := q.levelChanges + 1 }) = s.levelTaken g := by
    simp [State.takePace, State.levelTaken, State.modSeg, upd]
  have acc : ((s.levelTaken g).seg g).acc = (s.seg g).acc := by rw [State.levelTaken, State.seg_modSeg]
  simp only [State.levelSettle, if_neg h, taken, acc]

theorem State.lrWrite_reported {s : State} {g : Fin 4} {old : Nat} (h : levelOf (s.seg g).acc = old) :
    LevelReported g old s (s.lrWrite g) where
  seg := by rw [State.seg_lrWrite]
  others _ hk := s.lrWrite_seg_ne hk
  same _ := by
    rw [State.seg_lrWrite, State.lrWrite_eq]
    exact ⟨rfl, rfl, rfl, rfl⟩
  changed hn := absurd h hn
  whole := by rw [State.lrWrite_eq]
  frame := (s.lrWrite_frame g).mono fun _ => .inl

theorem State.levelSettle_changed_seg {s : State} {g : Fin 4} {old : Nat} (h : levelOf (s.seg g).acc ≠ old) :
    (s.levelSettle g old).seg g =
      { s.seg g with
        pace := s.paceAt g, levelChanges := (s.seg g).levelChanges + 1, counter := (s.seg g).counter + 1 + 1 } := by
  have info (t : State) (off : Nat) (bs : List Byte) : (t.wrInfo off bs).seg g = t.seg g := rfl
  have event (t : State) (e : Event) : (t.event e).seg g = t.seg g := rfl
  rw [State.levelSettle_changed h, event, State.seg_lsWrite, info, State.seg_lrWrite, State.levelTaken, State.seg_modSeg]

theorem State.levelSettle_changed_mem {s : State} {g : Fin 4} {old : Nat} (h : levelOf (s.seg g).acc ≠ old) :
    MemFrame s (s.levelSettle g old) (LevelPlaces g) ∧
      (s.levelSettle g old).mem.read (0x24 + g.val) = byte (levelOf (s.seg g).acc) := by
  have hb := segBase_bounds g
  have hr : Config.ramSize = 0x10000 := rfl
  rw [State.levelSettle_changed h]
  generalize byte (levelOf (s.seg g).acc) = b
  have taken : MemFrame s (s.levelTaken g) (LevelPlaces g) := fun _ _ => rfl
  have fields := (s.levelTaken g).lrWrite_frame g
  have level := ((s.levelTaken g).lrWrite g).wrInfo_frame (0x24 + g.val) [b]
  have lanes := (((s.levelTaken g).lrWrite g).wrInfo (0x24 + g.val) [b]).lsWrite_frame g
  constructor
  · exact (((taken.trans (fields.mono fun _ => .inl)).trans (level.mono fun _ => .inr)).trans
      (lanes.mono fun _ => .inl)).trans (State.event_frame _ _ _)
  rw [State.event_mem, lanes _ (by unfold Within; omega)]
  have shown : Within (0x24 + g.val) [b].length (0x24 + g.val) := ⟨Nat.le_refl _, Nat.lt_succ_self _⟩
  rw [State.wrInfo_mem, Mem.read_write, if_pos shown, if_pos (by omega), Nat.sub_self, List.getD_cons_zero]

theorem State.levelSettle_changed_reported {s : State} {g : Fin 4} {old : Nat} (h : levelOf (s.seg g).acc ≠ old) :
    LevelReported g old s (s.levelSettle g old) where
  seg := by rw [State.levelSettle_changed_seg h]
  others k hk := by
    have info (t : State) (off : Nat) (bs : List Byte) : (t.wrInfo off bs).seg k = t.seg k := rfl
    have event (t : State) (e : Event) : (t.event e).seg k = t.seg k := rfl
    rw [State.levelSettle_changed h, event, State.lsWrite_seg_ne _ hk, info, State.lrWrite_seg_ne _ hk, State.levelTaken,
      State.seg_modSeg_ne _ _ hk]
  same hs := absurd hs h
  changed _ := by
    rw [State.levelSettle_changed_seg h]
    refine ⟨rfl, rfl, ?_, ?_, (State.levelSettle_changed_mem h).2⟩
    · rw [State.levelSettle_changed h]
      simp [State.levelTaken]
    · rw [State.levelSettle_changed h]
      simp [State.levelTaken]
  whole := by
    rw [State.levelSettle_changed h, State.lsWrite_eq, State.lrWrite_eq]
    simp only [State.levelTaken, State.event, State.modRegs, State.wrInfo, State.modInfo, State.wr, State.modSeg]
  frame := (State.levelSettle_changed_mem h).1

theorem State.levelSettle_reported (s : State) (g : Fin 4) (old : Nat) : LevelReported g old s (s.levelSettle g old) := by
  by_cases h : levelOf (s.seg g).acc = old
  · rw [State.levelSettle_same h]
    exact State.lrWrite_reported h
  · exact State.levelSettle_changed_reported h

theorem State.levelRun_starts (s : State) (g : Fin 4) (old : Nat) : StartsOnly g (s.levelSettle g old) (s.levelRun g old) := by
  simp only [State.levelRun]
  split
  · exact .refl g _
  · exact .of_arbitrate g _

/-- Where nothing waits the report is the whole event. -/
theorem State.levelRun_empty {s : State} {g : Fin 4} (h : LanesEmpty s g) (old : Nat) :
    s.levelRun g old = s.levelSettle g old := by
  have empty : LanesEmpty (s.levelSettle g old) g := by
    rw [LanesEmpty, (s.levelSettle_reported g old).seg]
    exact h
  simp only [State.levelRun, State.arbitrate_empty empty, ite_self]

/-! ### LOAD (R108) -/

theorem State.modSeg_self {s : State} {g : Fin 4} {f : Seg → Seg} (h : f (s.seg g) = s.seg g) : s.modSeg g f = s := by
  have e : upd s.segs g f = s.segs := by
    rw [upd, show f s.segs[g] = s.segs[g] from h]
    exact Vector.set_getElem_self _
  rw [State.modSeg, e]

/-- The accumulator of segment `g` has become `a`, and nothing has been reported yet. -/
def State.loadTo (s : State) (g : Fin 4) (a : Nat) : State := s.modSeg g fun q => { q with acc := a }

theorem State.loadTo_seg (s : State) (g : Fin 4) (a : Nat) : (s.loadTo g a).seg g = { s.seg g with acc := a } :=
  s.seg_modSeg g _

theorem State.loadTo_seg_ne (s : State) {g k : Fin 4} (a : Nat) (h : k ≠ g) : (s.loadTo g a).seg k = s.seg k :=
  s.seg_modSeg_ne _ h

theorem State.loadTo_acc (s : State) (g : Fin 4) : s.loadTo g (s.seg g).acc = s := State.modSeg_self rfl

/-- The LR has reported at `t` that the accumulator of segment `g` has become `a` since `s`. -/
abbrev LoadReported (g : Fin 4) (a : Nat) (s t : State) : Prop := LevelReported g (levelOf (s.seg g).acc) (s.loadTo g a) t

/-- A report of nothing: at the level where it stands the LR may leave its fields as they are. -/
theorem LevelReported.refl (g : Fin 4) (s : State) : LevelReported g (levelOf (s.seg g).acc) s s where
  seg := rfl
  others _ _ := rfl
  same _ := ⟨rfl, rfl, rfl, rfl⟩
  changed h := absurd rfl h
  whole := rfl
  frame := MemFrame.refl s _

/-- LOAD moves the accumulator to the clamped value and reports the level; then exchanges may start, if any wait. -/
theorem State.throttleLoad_reported (s : State) (g : Fin 4) (v : Nat) :
    ∃ u, LoadReported g (s.ps.active.regs[g].clamp v) s u ∧ StartsOnly g u (s.throttleLoad g v) ∧
      (LanesEmpty s g → s.throttleLoad g v = u) := by
  unfold State.throttleLoad
  generalize s.ps.active.regs[g].clamp v = a
  by_cases h : a = (s.seg g).acc
  · subst h
    refine ⟨s, ?_, ?_, fun _ => if_pos rfl⟩
    · rw [LoadReported, State.loadTo_acc]
      exact .refl g s
    · rw [if_pos rfl]
      exact .refl g s
  · simp only [if_neg h]
    refine ⟨_, State.levelSettle_reported _ g _, State.levelRun_starts _ g _, fun empty => State.levelRun_empty ?_ _⟩
    rw [LanesEmpty, State.seg_modSeg]
    exact empty

section
variable {s u v t : State} {c : Fin 32} {g : Fin 4} {a : Nat} {kind : List Byte}

/-- What a LOAD leaves of the segment, with what waits there: A is new, the level's fields follow the report, and the contexts and
lanes those of the starts. -/
theorem LevelReported.loaded_seg (rep : LoadReported g a s u) (starts : StartsOnly g u v) :
    v.seg g =
      { s.seg g with
        acc := a, pace := (u.seg g).pace, levelChanges := (u.seg g).levelChanges
        lanes := (v.seg g).lanes, busy := (v.seg g).busy, pointer := (v.seg g).pointer, tags := (v.seg g).tags
        ctxs := (v.seg g).ctxs, counter := (v.seg g).counter } := by
  rw [starts.seg, rep.seg, State.loadTo_seg]

/-- The receipt's own cell keeps what was captured and its abort mark. -/
theorem LevelReported.loaded_cell (rep : LoadReported g a s u) (starts : StartsOnly g u v) (c : Fin 32) :
    (v.cell c).captured = (s.cell c).captured ∧ (v.cell c).abortHeld = (s.cell c).abortHeld := by
  have same : u.cell c = s.cell c := by rw [rep.whole]; rfl
  rw [starts.cells c, same]
  exact ⟨rfl, rfl⟩

theorem LevelReported.loaded_kind (rep : LoadReported g a s u) (starts : StartsOnly g u v) (before : Nat) :
    throttleKind v g before = le16 before ++ le16 a ++
      [byte (levelOf a), byte (flagBit (s.seg g).freeze 0 + flagBit s.ps.active.regs[g].enabled 1)] := by
  have ps : v.ps = s.ps := by rw [starts.ps, rep.whole]; rfl
  rw [throttleKind, rep.loaded_seg starts, ps]

/-- The level's place in the Information Block is none of those that starts and ends of cells store to. -/
theorem levelByte_kept (starts : StartsOnly g u v) (done : DoneFinish v t c kind) :
    t.mem.read (0x24 + g.val) = u.mem.read (0x24 + g.val) := by
  have hg := segBase_bounds g
  refine (done.frame _ ?_).trans (starts.frame _ ?_)
  · have hc := cellBase_bounds c
    unfold EndPlaces InfoShared Within
    omega
  · rintro (h | ⟨d, h⟩)
    · unfold Within at h; omega
    · have hd := cellBase_bounds d
      unfold Within at h
      omega

/-- At the level where it stood, a LOAD reports no change. -/
theorem LevelReported.loaded_same (rep : LoadReported g a s u) (h : levelOf a = levelOf (s.seg g).acc) :
    (u.seg g).pace = (s.seg g).pace ∧ (u.seg g).levelChanges = (s.seg g).levelChanges ∧ u.info = s.info ∧ u.regs = s.regs := by
  have same := rep.same
  rw [State.loadTo_seg] at same
  exact same h

/-- At another level, a LOAD reports the change. -/
theorem LevelReported.loaded_changed (rep : LoadReported g a s u) (h : levelOf a ≠ levelOf (s.seg g).acc) :
    (u.seg g).pace = (s.ps.active.paces[g])[Fin.ofNat 8 (levelOf a)] ∧
      (u.seg g).levelChanges = (s.seg g).levelChanges + 1 ∧ u.info = { s.info with dirty := true } ∧
      u.regs = { s.regs with event := s.regs.event ||| Event.level.bit } ∧ u.mem.read (0x24 + g.val) = byte (levelOf a) := by
  have changed := rep.changed
  simp only [State.paceAt, State.loadTo_seg] at changed
  exact changed h

theorem LevelReported.loaded_levelFollows (clean : s.info.dirty = false) (rep : LoadReported g a s u) (starts : StartsOnly g u v)
    (done : DoneFinish v t c kind) : LevelFollows s t g := by
  have seg := (done.seg g).trans (rep.loaded_seg starts)
  have acc : (t.seg g).acc = a := by rw [seg]
  have pace : (t.seg g).pace = (u.seg g).pace := by rw [seg]
  have changes : (t.seg g).levelChanges = (u.seg g).levelChanges := by rw [seg]
  simp only [LevelFollows, acc, pace, changes, done.info, starts.info, levelByte_kept starts done]
  constructor
  · intro h
    obtain ⟨pace, changes, info, -⟩ := rep.loaded_same h
    refine ⟨changes, pace, ?_⟩
    rw [info, if_neg (by simp [clean])]
  · intro h
    obtain ⟨pace, changes, info, -, shown⟩ := rep.loaded_changed h
    refine ⟨changes, pace, shown, ?_⟩
    rw [info, if_pos rfl, ← clean]

theorem LevelReported.loaded_regs (rep : LoadReported g a s u) :
    u.regs = { s.regs with
      event := s.regs.event ||| if levelOf a = levelOf (s.seg g).acc then 0 else Event.level.bit } := by
  split
  case isTrue h =>
    obtain ⟨-, -, -, regs⟩ := rep.loaded_same h
    simp only [regs, BitVec.ofNat_eq_ofNat, BitVec.or_zero]
  case isFalse h =>
    obtain ⟨-, -, -, regs, -⟩ := rep.loaded_changed h
    exact regs

/-- With nothing started, only the registers, RAM, the segments, the Information Block's bookkeeping and the board have changed. -/
theorem LevelReported.loaded_whole (rep : LoadReported g a s u) (done : DoneFinish u t c kind) :
    t = { s with board := t.board, regs := t.regs, mem := t.mem, segs := t.segs, info := t.info } := by
  rw [done.whole, rep.whole]
  rfl

theorem LevelReported.loaded_onlyCell (rep : LoadReported g a s u) (done : DoneFinish u t c kind) : OnlyCellState s t c := by
  have board : u.board = s.board := by rw [rep.whole]; rfl
  simpa only [OnlyCellState, State.cell, board] using done.cells

theorem LevelReported.loaded_endRegs (rep : LoadReported g a s u) (done : DoneFinish u t c kind) :
    EndRegs s t c (if levelOf a = levelOf (s.seg g).acc then 0 else Event.level.bit) := by
  refine done.regs.trans ?_
  simp only [rep.loaded_regs, BitVec.ofNat_eq_ofNat, BitVec.or_zero]

theorem LevelReported.loaded_frame (rep : LoadReported g a s u) (done : DoneFinish u t c kind) :
    MemFrame s t fun x => EndPlaces c x ∨ Within (segBase g) 128 x ∨ InfoPlaces (0x24 + g.val) 1 x := by
  have loaded : MemFrame s (s.loadTo g a) (LevelPlaces g) := fun _ _ => rfl
  refine MemFrame.trans ((loaded.trans rep.frame).mono ?_) (done.frame.mono ?_)
  · rintro x (h | h)
    · exact .inr (.inl h)
    · exact .inr (.inr (.inl h))
  · rintro x (h | h)
    · exact .inl h
    · exact .inr (.inr (.inr h))

end

/-- Settles O41: the LR reports the clamped value, exchanges may start at the new level, and the cell ends DONE; none of the
starts touches what the statement names, and with empty lanes there are none. -/
theorem load : Obligations.Load := by
  unfold Obligations.Load
  intro c g s ⟨settled, taken, held⟩ cap r q a hg ho
  obtain ⟨u, (rep : LoadReported g a s u), starts, quiet⟩ := s.throttleLoad_reported g (field16 cap 18)
  obtain ⟨captured, abort⟩ := rep.loaded_cell starts c
  have done := State.throttleDone_doneFinish (s := s.throttleLoad g (field16 cap 18)) (c := c)
    (by rw [captured]; exact State.kindOf_of_taken taken) (by rw [abort, held]) g q.acc
  rw [rep.loaded_kind starts] at done
  refine ⟨_, receiveSegment_eq taken hg ho, done.ends, ?_⟩
  have seg := (done.seg g).trans (rep.loaded_seg starts)
  refine ⟨by rw [seg], rep.loaded_levelFollows settled.1 starts done, fun changed => ?_, by rw [seg], by rw [seg], by rw [seg],
    done.kindBytes (by simp), fun empty => ?_⟩
  · rw [done.event, starts.regs, rep.loaded_regs, if_neg changed]
    simp [Event.bit]
  · rw [quiet empty] at done ⊢
    refine ⟨?_, fun k hk => ?_, rep.loaded_onlyCell done, rep.loaded_endRegs done, rep.loaded_whole done, rep.loaded_frame done⟩
    · rw [done.seg, rep.seg, State.loadTo_seg]
    · rw [done.seg, rep.others k hk, State.loadTo_seg_ne _ _ hk]

end Sys2Proof.Machine
end

section
/-! PROOFS. The CRC-16 (R128): that the fold of whole bytes is the bit-serial form. -/

namespace Sys2Proof.Machine

/-- One step of the bit-serial CRC-16: shift left, and take in 1021h when the bit that leaves differs from the bit that enters. -/
def crcSerialBit (crc : Word16) (b : Bool) : Word16 := if crc.msb != b then (crc <<< 1) ^^^ 0x1021#16 else crc <<< 1

/-- Input still to enter may be added to the register ahead of time: the step then takes in its top bit and shifts the rest up. -/
theorem crcBit_xor (crc input : Word16) : crcBit (crc ^^^ input) = crcSerialBit crc input.msb ^^^ (input <<< 1) := by
  have differ : (crc.msb != input.msb) = (crc ^^^ input).msb := (BitVec.msb_xor).symm
  rw [crcBit, crcSerialBit, differ, BitVec.shiftLeft_xor_distrib]
  split
  · ac_rfl
  · rfl

/-- So `n` steps take in the `n` top bits of the input, in order. -/
theorem crcBit_iterate_xor (crc input : Word16) (n : Nat) :
    crcBit^[n] (crc ^^^ input) = ((List.range n).map input.getMsbD).foldl crcSerialBit crc ^^^ (input <<< n) := by
  induction n with
  | zero => simp
  | succ n ih =>
    rw [Function.iterate_succ_apply', ih, crcBit_xor, BitVec.msb_shiftLeft, List.range_succ, List.map_append,
      List.foldl_append, ← BitVec.shiftLeft_add]
    rfl

/-- A byte enters most significant bit first: its eight bits are the top of the input word, and nothing is left after them. -/
theorem crcByte_eq_serial (crc : Word16) (b : Byte) :
    crcByte crc b = ((List.range 8).map fun i => b.getLsbD (7 - i)).foldl crcSerialBit crc := by
  have bits : (List.range 8).map (b.zeroExtend 16 <<< 8).getMsbD = (List.range 8).map fun i => b.getLsbD (7 - i) := by
    refine List.map_congr_left fun i hi => ?_
    have lt : i < 8 := List.mem_range.1 hi
    have place : 16 - 1 - (i + 8) = 7 - i := by omega
    rw [BitVec.getMsbD_shiftLeft, BitVec.getMsbD_eq_getLsbD, place, BitVec.getLsbD_setWidth,
      decide_eq_true (by omega), decide_eq_true (by omega), Bool.true_and, Bool.true_and]
  have spent : (b.zeroExtend 16 <<< 8) <<< 8 = 0#16 := by
    rw [← BitVec.shiftLeft_add]
    exact BitVec.shiftLeft_eq_zero (by decide)
  have steps := crcBit_iterate_xor crc (b.zeroExtend 16 <<< 8) 8
  rw [bits, spent, BitVec.xor_zero] at steps
  exact steps

theorem crc16_eq_serial (crc : Word16) (bs : List Byte) :
    crc16 crc bs = (bs.flatMap fun b => (List.range 8).map fun i => b.getLsbD (7 - i)).foldl crcSerialBit crc := by
  rw [crc16, List.foldl_flatMap]
  exact congrArg (fun step => bs.foldl step crc) (funext₂ crcByte_eq_serial)

/-- Settles O55: the byte fold is the bit-serial form, byte by byte; the check value and the value over no bytes are computed. -/
theorem crcBitSerial : Obligations.CrcBitSerial :=
  ⟨crc16_eq_serial, by decide +kernel, rfl⟩

end Sys2Proof.Machine
end

section
/-! PROOFS. The work board: CELL_EMPTY (R188). -/

namespace Sys2Proof.Machine

/-- A host write stores nothing outside its word (R177). -/
theorem State.hostWord_frame (s : State) (a : Nat) (w : HostWrite) : MemFrame s (s.hostWord a w) (Within a 2) := by
  intro x outside
  have notLow : ¬ Within a 1 x := fun inside => outside (by unfold Within at *; omega)
  have notHigh : ¬ Within (a + 1) 1 x := fun inside => outside (by unfold Within at *; omega)
  show (s.mem.hostWrite a w).read x = s.mem.read x
  obtain ⟨data, low, high⟩ := w
  cases low <;> cases high
  case false.false => rfl
  case false.true => exact Mem.read_write_outside _ notHigh
  case true.false => exact Mem.read_write_outside _ notLow
  case true.true => exact (Mem.read_write_outside _ notHigh).trans (Mem.read_write_outside _ notLow)

/-- On a cell that has ended, EMPTY clears the record and does nothing else (R188). -/
theorem State.emptyCell_ended {s : State} {c : Fin 32} (ended : (s.cell c).st = .done ∨ (s.cell c).st = .failed) (v : Word16) :
    s.emptyCell c v = s.modCell c fun _ => Cell.reset := by
  unfold State.emptyCell
  rcases ended with done | failed
  case inl => rw [done]
  case inr => rw [failed]

/-- CELL_EMPTY of an ended cell is the host write and the cleared record: the event has nothing to close. -/
theorem execCellEmpty_ended {s : State} {c : Fin 32} {w : HostWrite} (running : Running s) (leaves : Leaves s (cellBase c) w 0)
    (ended : (s.cell c).st = .done ∨ (s.cell c).st = .failed) :
    execCellEmpty c w s = .next ((s.hostWord (cellBase c) w).modCell c fun _ => Cell.reset) := by
  obtain ⟨phase, settled⟩ := running
  obtain ⟨enabled, value⟩ := leaves
  have still : Settled ((s.hostWord (cellBase c) w).modCell c fun _ => Cell.reset) := settled
  rw [execCellEmpty, watchedWrite_running phase enabled (by rw [value]; rfl),
    State.emptyCell_ended (s := s.hostWord (cellBase c) w) ended, still.finish]

/-- Settles O18: the mirror is the word that the host has left, and the record is that of an EMPTY cell. -/
theorem cellEmpties : Obligations.CellEmpties := by
  unfold Obligations.CellEmpties
  intro c w s running leaves ended
  have cleared : ((s.hostWord (cellBase c) w).modCell c fun _ => Cell.reset).cell c = Cell.reset := State.cell_modCell ..
  exact ⟨_, execCellEmpty_ended running leaves ended, ⟨by rw [cleared]; rfl, leaves.2⟩, rfl, cleared,
    fun d other => State.cell_modCell_ne _ _ other, rfl, s.hostWord_frame _ w⟩

end Sys2Proof.Machine
end

section
/-! PROOFS. The commands at which the active set or the DISABLED state of a controller is concerned, for the properties that the
primitive updates keep: what remains to be shown of a commit, a departure and a SEGMENT request. -/

namespace Sys2Proof.Machine

/-- A property is also kept by an update of a segment that leaves its accumulator. -/
def SegFree (P : State → Prop) : Prop := ∀ {s g f}, (∀ q : Seg, (f q).acc = q.acc) → P s → P (s.modSeg g f)

/-- A commit up to the vehicle settings: the set is in force, its entries and transfers are checked again, and the segments and the
VSM have taken up its settings (R13, R16 to R20). -/
def State.takenUp (s : State) (p : PolicySet) : State :=
  ((((s.takeSet p).readmitAll).recheckAll).segmentsTakeup s.ps.active).vehicleTakeup s.ps.active.veh

theorem State.applySet_eq (s : State) (p : PolicySet) :
    s.applySet p = (s.takenUp p).thresholdTakeup.lampRefresh.arbitrateAll.publishSet := rfl

/-- The part with every used grant out of its active set, before the work of the grants ends (R22). -/
def State.withoutGrants (s : State) : State :=
  s.modPs fun p =>
    { p with
      active := { p.active with grants := Vector.replicate 16 Grant.unused }
      usage := Vector.replicate 16 Usage.none }

@[simp] theorem State.updChan_ps (s : State) (ch : Fin 8) (f : Chan → Chan) : (s.updChan ch f).ps = s.ps := by
  unfold State.updChan
  dsimp only
  split <;> rfl

namespace Closed

variable {P : State → Prop} (h : Closed P) {s : State}

include h

/-! ### Controllers (R64, R89 to R91) -/

/-- A restart keeps what its change of state has brought about. -/
theorem restartInto {g : Fin 4} {k : Ctl}
    (hs : P ((s.modSeg g fun q => { q with tecCount := 0, recCount := 0, recovery := 0 }).setCtl g k)) : P (s.restartInto g k) := by
  unfold State.restartInto
  exact h.segEq (h.failBusy hs g _)

theorem entryDisabled (hs : P s) (e : Entry) : P (s.entryDisabled e) := by
  unfold State.entryDisabled
  split
  · exact h.exchangeLost hs _ _ _
  · split
    · exact h.watchEnd hs _ _
    · exact h.dropEntry hs _
  all_goals exact h.transferEntryLost (h.dropEntry hs _) _ _

/-- DISABLE on a segment that is not DISABLED yet keeps what the restart into DISABLED has brought about (R89). -/
theorem disableSegment {g : Fin 4}
    (mark : (s.seg g).ctl = .disabled → P (s.modSeg g fun q => { q with hostDisable := true }))
    (restart : (s.seg g).ctl ≠ .disabled → P ((s.modSeg g fun q => { q with hostDisable := true }).restartInto g .disabled)) :
    P (s.disableSegment g) := by
  unfold State.disableSegment
  extract_lets t u
  have ctl : (t.seg g).ctl = (s.seg g).ctl := by simp [t]
  split
  case isTrue off => exact mark (ctl ▸ off)
  case isFalse on => exact foldl _ _ (fun _ e hu => h.entryDisabled hu e) (restart (ctl ▸ on))

theorem resetCounters (hs : P s) (g : Fin 4) : P (s.resetCounters g) := h.stuWrite (h.segEq hs) g

/-- RESTART keeps what the restart has brought about: its options concern counts and the accumulator (R91). -/
theorem restartSegment {g : Fin 4} (hs : P (s.restartInto g (s.startState g))) (options : Nat) :
    P (s.restartSegment g options).1 := by
  unfold State.restartSegment
  extract_lets t counts u
  have hu : P u := by
    unfold u
    split
    · exact h.resetCounters hs g
    · exact hs
  dsimp only
  split
  · exact h.resetRegulator hu g
  · exact hu

/-! ### Segments at a commit (R19, R110) -/

omit h in
theorem regulatorOk (old new : PolicySet) (g : Fin 4) (now : Nat) (q : Seg) :
    SegOk new g q (regulatorTakeup old new g now q) := by
  unfold regulatorTakeup Seg.rewindow
  dsimp only
  split <;> split <;> exact segOk_clamp q.acc

omit h in
theorem regulatorTakeup_acc (old new : PolicySet) (g : Fin 4) (now : Nat) (q : Seg) :
    (regulatorTakeup old new g now q).acc = new.regs[g].clamp q.acc := by
  unfold regulatorTakeup Seg.rewindow
  dsimp only
  split <;> split <;> rfl

/-- A segment's take-up keeps what its new limits and window have brought about. -/
theorem segmentTakeup_of {old : PolicySet} {g : Fin 4}
    (hs : ∀ t, t = (if restarts old.segs[g] s.ps.active.segs[g] then s.restartInto g (s.startState g) else s) →
      P (t.modSeg g (regulatorTakeup old s.ps.active g t.time.clock))) : P (s.segmentTakeup old g) := by
  unfold State.segmentTakeup
  extract_lets new t was u v
  have hu : P u := hs t rfl
  have hv : P v := by
    unfold v
    split
    · exact hu
    · exact h.levelSettle hu g _
  exact h.paceTakeup hv g

/-! ### Commits and departure -/

theorem thresholdTakeup (hs : P s) : P s.thresholdTakeup := by
  unfold State.thresholdTakeup
  extract_lets n
  have keeps : ∀ (l : List (Fin 8)) (t : State), t.ps.active.threshold = n → P t →
      P (l.foldl (fun s ch => s.updChan ch fun r => if n ≤ r.run then { r with run := n - 1 } else r) t) := by
    intro l
    induction l with
    | nil => exact fun _ _ ht => ht
    | cons ch l ih =>
      intro t et ht
      refine ih _ ?_ (h.updChan ht ch _ ?_)
      · simpa using et
      · split
        case isTrue low =>
          refine ⟨fun one below => ?_, fun agrees => ?_⟩
          · simp only; omega
          · by_cases suspended : (t.chan ch).suspended
            · simp only [ChanAgrees, suspended, if_true] at agrees ⊢; omega
            · simpa [ChanAgrees, suspended] using agrees
        case isFalse => exact .of_eq rfl rfl rfl
  exact keeps _ s rfl hs

/-- After the threshold a commit only shows what has come about. -/
theorem applySet_of {p : PolicySet} (hs : P (s.takenUp p).thresholdTakeup) : P (s.applySet p) := by
  rw [State.applySet_eq]
  exact h.publishSet (h.arbitrateAll (h.lampRefresh hs))

theorem runCommit (hs : P s) {c : Fin 32}
    (ha : s.staged.invalidAt = none → (s.staged.hasGrant = true → workshop s = true) → P (s.applySet s.staged)) :
    P (s.runCommit c) := by
  unfold State.runCommit
  dsimp only
  split
  · exact h.endCell hs c _
  case h_2 valid =>
    split
    · exact h.endCell hs c _
    case isFalse permitted =>
      refine h.endCell (ha valid fun grant => ?_) c _
      simpa [grant] using permitted

theorem ignitionExpire (hs : P s)
    (ha : ∀ u : State, P u → u.staged.invalidAt = none → P (u.applySet u.staged)) : P s.ignitionExpire := by
  unfold State.ignitionExpire
  extract_lets t on u
  have hu : P u := h.vehicleChanged (h.event (h.wrInfo (h.vsm hs) _ _) _)
  split
  · unfold State.ignitionEdge
    split
    · exact h.runCommit (h.psEq hu) fun valid _ => ha _ (h.psEq hu) valid
    · exact hu
  · exact hu

theorem withdrawGrants (hs : P s) (ha : P s.withoutGrants) : P s.withdrawGrants := by
  unfold State.withdrawGrants
  split
  · exact hs
  · exact h.publishSet (h.lampRefresh (h.testerGone ha _))

/-! ### The commands -/

/-- A commit, an ignition edge and a departure keep what their change of the active set brings about. -/
theorem setCommand (hs : P s) {c : Instr} {t : State} (ha : ∀ u : State, P u → u.staged.invalidAt = none → P (u.applySet u.staged))
    (hd : ∀ u, P u → P u.withoutGrants)
    (hc : (∃ d, c = .commitNow d) ∨ c = .ignitionDebounceExpiry ∨ c = .departure) (e : Machine.exec c s = .next t) : P t := by
  rcases hc with ⟨d, rfl⟩ | rfl | rfl
  · exact h.receiveOp hs (h.runCommit hs fun valid _ => ha s hs valid) e
  · exact h.ifEvent hs (h.ignitionExpire hs ha) e
  · exact h.ifEvent hs (h.withdrawGrants (h.cm hs) (hd _ (h.cm hs))) e

/-- A SEGMENT request keeps what its change of controller state brings about. -/
theorem segmentCommand (hs : P s) {c : Instr} {t : State} (disable : ∀ g, P (s.disableSegment g)) (enable : ∀ g, P (s.enableSegment g))
    (restart : ∀ g, P (s.restartInto g (s.startState g)))
    (hc : ∃ d, c = .disable d ∨ c = .enable d ∨ c = .restart d) (e : Machine.exec c s = .next t) : P t := by
  obtain ⟨d, rfl | rfl | rfl⟩ := hc
  · exact h.receiveSegment hs (fun g => h.endCell (disable g) d _) e
  · exact h.receiveSegment hs (fun g => h.endCell (enable g) d _) e
  · exact h.receiveSegment hs (fun g => h.endCell (h.restartSegment (restart g) _) d _) e

/-! ### Properties that no controller state concerns -/

theorem setCtl_free (k : SegFree P) (hs : P s) (g : Fin 4) (c : Ctl) : P (s.setCtl g c) := by
  unfold State.setCtl
  split
  · exact hs
  · exact h.event (h.stuWrite (k (f := fun q => { q with ctl := c }) (fun _ => rfl) hs) g) _

theorem restartInto_free (k : SegFree P) (hs : P s) (g : Fin 4) (c : Ctl) : P (s.restartInto g c) :=
  h.restartInto (h.setCtl_free k (h.segEq hs) g c)

omit h in
/-- The active set itself is such a property: it stands as long as no set is taken. -/
theorem ofActive (p : PolicySet) : Closed fun s => s.ps.active = p where
  wr := id
  regs := id
  info := id
  time := id
  posts := id
  cell := id
  cm := id
  vsm := id
  setTransfer := id
  transfer := id
  slot := id
  setWatch := id
  watch := id
  ps kept hs := (kept _).trans hs
  chan _ hs := hs
  seg _ hs := hs

theorem segmentsTakeup_free (k : SegFree P) (hs : P s) (old : PolicySet) : P (s.segmentsTakeup old) := by
  unfold State.segmentsTakeup
  refine foldl _ _ (fun t g ht => h.segmentTakeup_of fun u eu => ?_) hs
  have restarted : P u ∧ u.ps.active = t.ps.active := by
    rw [eu]
    split
    · exact ⟨h.restartInto_free k ht g _, (ofActive _).restartInto_free (fun _ hv => hv) rfl g _⟩
    · exact ⟨ht, rfl⟩
  obtain ⟨hu, active⟩ := restarted
  exact h.seg (by rw [active]; exact regulatorOk ..) hu

theorem takenUp_free (k : SegFree P) {p : PolicySet} (hs : P (s.takeSet p)) : P (s.takenUp p) :=
  h.vehicleTakeup (h.segmentsTakeup_free k (h.recheckAll (h.readmitAll hs)) _) _

theorem segmentCommand_free (k : SegFree P) (hs : P s) {c : Instr} {t : State}
    (hc : ∃ d, c = .disable d ∨ c = .enable d ∨ c = .restart d) (e : Machine.exec c s = .next t) : P t := by
  refine h.segmentCommand hs (fun g => h.disableSegment (fun _ => k (fun _ => rfl) hs) fun _ => ?_) (fun g => ?_)
    (fun g => h.restartInto_free k hs g _) hc e
  · exact h.restartInto_free k (k (f := fun q => { q with hostDisable := true }) (fun _ => rfl) hs) g _
  · unfold State.enableSegment
    extract_lets u
    have hu : P u := k (fun _ => rfl) hs
    split
    · exact h.setCtl_free k (h.segEq hu) g _
    · exact hu

end Closed

end Sys2Proof.Machine
end

section
/-! PROOFS. The resets (R192, R193): what each comes to as one state, and the invariants that hold right after a power-on reset. -/

namespace Sys2Proof.Machine

variable (s : State)

/-! ### Soft reset (R193) -/

/-- RAM with EMPTY in every cell word and FREE in every slot word. -/
def Mem.clearWords (m : Mem) : Mem :=
  (List.finRange 8).foldl (fun m n => m.write (slotBase n) (le16 0))
    ((List.finRange 32).foldl (fun m c => m.write (cellBase c) (le16 0)) m)

theorem State.foldl_wr {α : Type} (l : List α) (a : α → Nat) (bs : List Byte) :
    l.foldl (fun s x => s.wr (a x) bs) s = { s with mem := l.foldl (fun m x => m.write (a x) bs) s.mem } := by
  induction l generalizing s with
  | nil => rfl
  | cons x l ih => exact ih _

theorem State.clearWords_eq : s.clearWords = { s with mem := s.mem.clearWords } := by
  unfold State.clearWords Mem.clearWords
  rw [State.foldl_wr, State.foldl_wr]

/-- Every unit at its soft-reset values, with the lamp indication as it was (R193). -/
def State.softUnits (retain : Bool) : State :=
  { phase := .resetting
    mem := ((s.mem.write 0x0A [0]).write 0x2C (zeros 9)).clearWords
    regs := Regs.reset retain
    board := Board.reset
    info := { s.info with dirty := true, cause := .soft, errors := 0, lastError := BoardError.none }
    time := s.time
    ps := softPs retain s.ps
    chans := (if retain then s.softLatches else s.chans).map (softChan retain)
    segs := Vector.ofFn fun g => Seg.reset (softPs retain s.ps).active g s.segs[g].counter
    transfers := Vector.replicate 32 none
    slots := Vector.replicate 8 Slot.reset
    watches := Vector.replicate 32 none
    cm := softCm s.cm s.time.clock
    vsm := VSM.reset s.vsm.ignition.raw s.time.clock
    pending := s.pending }

theorem State.softReset_eq (retain : Bool) : s.softReset retain = (s.softUnits retain).lampRefresh := by
  unfold State.softReset
  extract_lets ps t u
  rw [State.clearWords_eq]
  rfl

/-! ### Ready (R192, R193) -/

/-- The part as it becomes ready, with its areas not yet written. -/
def State.readied : State :=
  { s with
    phase := .running, time := { s.time with ms := 0, prescale := 0 }
    segs := s.segs.map fun q => { q with winStart := some s.time.clock } }

/-- RAM with the areas of `u` written over it (R192, R193). -/
def Mem.withAreas (m : Mem) (u : State) : Mem :=
  ((m.write (chanBase 0) (u.chans.toList.flatMap Chan.bytes)).write (segBase 0)
    ((List.finRange 4).flatMap (segStatusBytes u))).write 0 (infoBytes u true)

theorem State.becomeReady_eq : s.becomeReady = { s.readied with mem := s.mem.withAreas s.readied } := rfl

end Sys2Proof.Machine
end

section
/-! PROOFS. The invariants of the step that the primitive updates keep: the queue, the canonical form of RAM, the throttle limits,
the denial runs and the DISABLED controllers. -/

namespace Sys2Proof.Machine

variable {s t : State}

/-- What every command keeps, a step keeps: the queue is the model's own. -/
theorem step_keeps {P : State → Prop} (queue : ∀ s l, P s → P { s with pending := l })
    (keeps : ∀ c s t, P s → exec c s = .next t → P t) (hs : P s) (e : step s = .next t) : P t := by
  unfold step at e
  split at e
  · cases e; exact hs
  · exact keeps _ _ _ (queue _ _ hs) e

/-- The commands that reset the part or make it ready. -/
def resetting : Instr → Bool
  | .powerOnReset | .ramClearDone | .softReset _ | .softResetReady => true
  | _ => false

/-- A command is one that the closure covers, a reset, one that changes the active set, or a SEGMENT request. -/
theorem structural_cases (c : Instr) :
    structural c = false ∨ resetting c = true ∨ ((∃ d, c = .commitNow d) ∨ c = .ignitionDebounceExpiry ∨ c = .departure) ∨
      ∃ d, c = .disable d ∨ c = .enable d ∨ c = .restart d := by
  cases c <;> simp [structural, resetting]

/-- The part after POWER_ON_RESET (R192). -/
def State.poweredOn (s : State) : State :=
  { State.reset with
    cm := CM.reset s.cm.presence.raw s.cm.key.raw s.cm.good s.cm.overcurrent 0
    vsm := VSM.reset s.vsm.ignition.raw 0
    pending := s.pending }

/-- The part after RAM_CLEAR_DONE, before its areas are written (R192). -/
def State.cleared (s : State) : State := { s.zeroCounters with mem := [], time := { s.time with sec := 0 } }.wrMirror

/-- What a reset comes to: the power-on values, the soft-reset values, one of the two ways to Ready, or no event. -/
theorem exec_reset {c : Instr} (hc : resetting c = true) (e : exec c s = .next t) :
    t = s.poweredOn ∨ t = s.cleared.becomeReady.finish ∨ (∃ r, t = ((s.softUnits r).lampRefresh).finish) ∨
      t = s.stepCounters.becomeReady.finish ∨ t = s.stepCounters.wrMirror.becomeReady.finish ∨ t = s := by
  cases c <;> simp only [resetting, Bool.false_eq_true] at hc <;> unfold exec at e <;> dsimp only at e
  case powerOnReset => cases e; exact .inl rfl
  case ramClearDone =>
    unfold execRamClearDone at e
    split at e
    · cases e; exact .inr (.inl rfl)
    all_goals cases e; simp
  case softReset r =>
    unfold execSoftReset at e
    split at e
    · cases e; exact .inr (.inr (.inl ⟨r, by rw [State.softReset_eq]⟩))
    all_goals cases e; simp
  case softResetReady =>
    unfold execSoftResetReady at e
    split at e
    · cases e
      split <;> simp
    all_goals cases e; simp

namespace Closed

variable {P : State → Prop} (h : Closed P)

include h

/-- A property that the primitive updates keep holds after a reset if it holds of the values that the units take. -/
theorem exec_reset (hs : P s) (on : P s.poweredOn) (cleared : P s.cleared.becomeReady) (soft : ∀ r, P (s.softUnits r))
    (ready : P s.stepCounters.becomeReady) (mirrored : P s.stepCounters.wrMirror.becomeReady) {c : Instr}
    (hc : resetting c = true) (e : Machine.exec c s = .next t) : P t := by
  rcases Machine.exec_reset hc e with rfl | rfl | ⟨r, rfl⟩ | rfl | rfl | rfl
  · exact on
  · exact h.finish cleared
  · exact h.finish (h.lampRefresh (soft r))
  · exact h.finish ready
  · exact h.finish mirrored
  · exact hs

/-- A property that the primitive updates, any update of a segment and any active set keep is kept by every command but a reset. -/
theorem exec_unreset (k : SegFree P) (hp : ∀ {s f}, P s → P (s.modPs f)) (hs : P s) {c : Instr} (hc : resetting c = false)
    (e : Machine.exec c s = .next t) : P t := by
  rcases structural_cases c with plain | reset | set | request
  · exact h.exec hs plain e
  · rw [reset] at hc; cases hc
  · exact h.setCommand hs (fun u hu _ => h.applySet_of (h.thresholdTakeup (h.takenUp_free k (hp hu)))) (fun _ hu => hp hu) set e
  · exact h.segmentCommand_free k hs request e

end Closed

/-! ### The queue -/

theorem closed_pending (q : List Instr) : Closed fun s => s.pending = q where
  wr := id
  regs := id
  info := id
  time := id
  posts := id
  cell := id
  cm := id
  vsm := id
  setTransfer := id
  transfer := id
  slot := id
  setWatch := id
  watch := id
  ps _ := id
  chan _ := id
  seg _ := id

/-- Settles O2: a reset rewrites every record but the queue, and any other command is made of updates that leave it. -/
theorem execKeepsQueue : Obligations.ExecKeepsQueue := by
  unfold Obligations.ExecKeepsQueue
  intro c s t e
  by_cases hc : resetting c = true
  · exact (closed_pending s.pending).exec_reset rfl rfl rfl (fun _ => rfl) rfl rfl hc e
  · exact (closed_pending s.pending).exec_unreset (fun _ hs => hs) id rfl (Bool.eq_false_of_not_eq_true hc) e

/-! ### Shared RAM -/

theorem closed_wf : Closed fun s => s.mem.wf where
  wr hs := Mem.write_wf hs _ _
  regs := id
  info := id
  time := id
  posts := id
  cell := id
  cm := id
  vsm := id
  setTransfer := id
  transfer := id
  slot := id
  setWatch := id
  watch := id
  ps _ := id
  chan _ := id
  seg _ := id

theorem Mem.clearWords_wf {m : Mem} (h : m.wf) : m.clearWords.wf := by
  have fold : ∀ {α : Type} (l : List α) (a : α → Nat) (m : Mem), m.wf →
      Mem.wf (l.foldl (fun m x => m.write (a x) (le16 0)) m) := by
    intro α l a
    induction l with
    | nil => exact fun _ h => h
    | cons x l ih => exact fun m h => ih _ (Mem.write_wf h _ _)
  exact fold _ _ _ (fold _ _ _ h)

theorem State.becomeReady_wf (h : s.mem.wf) : s.becomeReady.mem.wf := by
  rw [State.becomeReady_eq]
  exact Mem.write_wf (Mem.write_wf (Mem.write_wf h _ _) _ _) _ _

theorem State.softUnits_wf (h : s.mem.wf) (retain : Bool) : (s.softUnits retain).mem.wf :=
  Mem.clearWords_wf (Mem.write_wf (Mem.write_wf h _ _) _ _)

/-- Settles O5: every store keeps the canonical form, a reset begins from empty RAM or stores into the old one. -/
theorem stepKeepsMemory : Obligations.StepKeepsMemory := by
  unfold Obligations.StepKeepsMemory
  refine fun s t => step_keeps (P := fun s => s.mem.wf) (fun _ _ h => h) fun c s t hs e => ?_
  by_cases hc : resetting c = true
  · exact closed_wf.exec_reset hs Mem.nil_wf (State.becomeReady_wf (Mem.write_wf Mem.nil_wf _ _)) (State.softUnits_wf hs)
      (State.becomeReady_wf hs) (State.becomeReady_wf (s := s.stepCounters.wrMirror) (Mem.write_wf hs _ _)) hc e
  · exact closed_wf.exec_unreset (fun _ hs => hs) id hs (Bool.eq_false_of_not_eq_true hc) e

end Sys2Proof.Machine
end

section
/-! PROOFS. The throttle limits, the denial runs and the DISABLED controllers at every step (R42, R64, R97). -/

namespace Sys2Proof.Machine

variable {s t : State}

/-! ### Valid sets (R12) -/

theorem PolicySet.items_valid {p : PolicySet} (h : p.invalidAt = none) : ∀ i ∈ p.items, i.2 = true := by
  simpa [PolicySet.invalidAt, List.find?_eq_none] using h

theorem PolicySet.regItems_mem (p : PolicySet) (g : Fin 4) : ∀ i ∈ regItems g p.regs[g], i ∈ p.items := by
  intro i hi
  have mem : i ∈ (p.regs.toList.mapIdx regItems).flatten :=
    List.mem_flatten.2 ⟨regItems g p.regs[g], List.mem_mapIdx.2 ⟨g, by simp, rfl⟩, hi⟩
  simp only [PolicySet.items, List.mem_append]
  tauto

/-- The limits of a valid set are limits (R8). -/
theorem PolicySet.limits_valid {p : PolicySet} (h : p.invalidAt = none) (g : Fin 4) :
    p.regs[g].floor ≤ p.regs[g].ceiling ∧ p.regs[g].ceiling ≤ 7 := by
  have item : (0x500 + g.val * 32 + 18, p.regs[g].ceiling ≤ 7 && p.regs[g].floor ≤ p.regs[g].ceiling) ∈ regItems g p.regs[g] := by
    simp [regItems]
  have ok := p.items_valid h _ (p.regItems_mem g _ item)
  simp only [Bool.and_eq_true, decide_eq_true_eq] at ok
  exact ok.symm

/-- The threshold of a valid set is at least 1 (R42). -/
theorem PolicySet.threshold_valid {p : PolicySet} (h : p.invalidAt = none) : 1 ≤ p.threshold := by
  have item : ((1, 1 ≤ p.threshold && p.threshold ≤ 31) : Item) ∈ p.items := by
    simp only [PolicySet.items, List.mem_append, PolicySet.headerItems, List.mem_cons, true_or, or_true]
  have ok := p.items_valid h _ item
  simp only [Bool.and_eq_true, decide_eq_true_eq] at ok
  exact ok.1

/-! ### Segments one after another -/

/-- What the take-up of each segment brings about for that segment holds of all four at the end. -/
theorem State.segmentsTakeup_all {P : (Fin 4 → Prop) → State → Prop} {old : PolicySet}
    (step : ∀ S g s, P S s → P (fun k => S k ∨ k = g) (s.segmentTakeup old g)) {S : Fin 4 → Prop} (hs : P S s) :
    P (fun _ => True) (s.segmentsTakeup old) := by
  have four : List.finRange 4 = [0, 1, 2, 3] := by decide
  have all : (fun _ : Fin 4 => True) = fun k => (((S k ∨ k = 0) ∨ k = 1) ∨ k = 2) ∨ k = 3 := by
    funext k
    fin_cases k <;> simp
  rw [all, State.segmentsTakeup, four]
  simp only [List.foldl_cons, List.foldl_nil]
  exact step _ _ _ (step _ _ _ (step _ _ _ (step _ _ _ hs)))

theorem State.readied_seg (s : State) (g : Fin 4) : s.becomeReady.seg g = { s.seg g with winStart := some s.time.clock } := by
  rw [State.becomeReady_eq]
  simp [State.seg, State.readied]

theorem State.cleared_seg (s : State) (g : Fin 4) : s.cleared.seg g = { s.seg g with counter := 0 } := by
  simp [State.seg, State.cleared, State.wrMirror, State.zeroCounters]

theorem State.stepCounters_seg (s : State) (g : Fin 4) :
    s.stepCounters.seg g = { s.seg g with counter := (s.seg g).counter + 1 } := by
  simp [State.seg, State.stepCounters]

theorem State.softUnits_seg (s : State) (r : Bool) (g : Fin 4) :
    (s.softUnits r).seg g = Seg.reset (softPs r s.ps).active g (s.seg g).counter := by simp [State.seg, State.softUnits]

theorem softPs_active (r : Bool) (p : PS) : (softPs r p).active = if r then p.active else PolicySet.default := by
  cases r <;> rfl

/-! ### Throttle limits -/

/-- The limits of the active set are limits, and the accumulators of the segments of `S` stand inside them. -/
def LimitsOn (S : Fin 4 → Prop) (s : State) : Prop :=
  ∀ g : Fin 4, (s.ps.active.regs[g].floor ≤ s.ps.active.regs[g].ceiling ∧ s.ps.active.regs[g].ceiling ≤ 7) ∧
    (S g → InLimits s.ps.active g (s.seg g))

theorem throttleInLimits_iff : ThrottleInLimits s ↔ LimitsOn (fun _ => True) s := by
  unfold LimitsOn InLimits ThrottleInLimits RegSet.low RegSet.high
  exact forall_congr' fun g => by tauto

theorem RegSet.low_le_high {r : RegSet} (h : r.floor ≤ r.ceiling) : r.low ≤ r.high := by
  unfold RegSet.low RegSet.high
  omega

/-- An update of a segment that keeps its accumulator inside the limits keeps those of all. -/
theorem LimitsOn.modSeg {S : Fin 4 → Prop} (hs : LimitsOn S s) {g : Fin 4} {f : Seg → Seg}
    (ok : InLimits s.ps.active g (s.seg g) → InLimits s.ps.active g (f (s.seg g))) : LimitsOn S (s.modSeg g f) := by
  refine fun k => ⟨(hs k).1, fun on => ?_⟩
  by_cases same : k = g
  · subst same
    rw [State.seg_modSeg]
    exact ok ((hs k).2 on)
  · rw [State.seg_modSeg_ne _ _ same]
    exact (hs k).2 on

theorem closed_limitsOn (S : Fin 4 → Prop) : Closed (LimitsOn S) where
  wr := id
  regs := id
  info := id
  time := id
  posts := id
  cell := id
  cm := id
  vsm := id
  setTransfer := id
  transfer := id
  slot := id
  setWatch := id
  watch := id
  ps {s f} kept hs := by
    have same : (s.modPs f).ps.active = s.ps.active := kept _
    unfold LimitsOn at hs ⊢
    rw [same]
    exact hs
  chan _ hs := hs
  seg {s g f} ok hs := hs.modSeg (ok.1 (RegSet.low_le_high (hs g).1.1))

theorem segFree_limitsOn (S : Fin 4 → Prop) : SegFree (LimitsOn S) :=
  fun {s g f} kept hs => hs.modSeg fun inside => by unfold InLimits at inside ⊢; rw [kept]; exact inside

/-- A segment that has taken up a set stands inside its limits: the accumulator is clamped (R110). -/
theorem LimitsOn.segmentTakeup {S : Fin 4 → Prop} {old : PolicySet} {g : Fin 4} (hs : LimitsOn S s) :
    LimitsOn (fun k => S k ∨ k = g) (s.segmentTakeup old g) := by
  refine (closed_limitsOn _).segmentTakeup_of fun u eu => ?_
  have restarted : LimitsOn S u ∧ u.ps.active = s.ps.active := by
    rw [eu]
    split
    · exact ⟨(closed_limitsOn S).restartInto_free (segFree_limitsOn S) hs g _,
        (Closed.ofActive _).restartInto_free (fun _ hv => hv) rfl g _⟩
    · exact ⟨hs, rfl⟩
  obtain ⟨hu, active⟩ := restarted
  refine fun k => ⟨(hu k).1, fun on => ?_⟩
  by_cases same : k = g
  · subst same
    rw [State.seg_modSeg]
    unfold InLimits
    rw [Closed.regulatorTakeup_acc, State.modSeg_ps, active]
    exact Closed.clamp_low _ (RegSet.low_le_high (active ▸ (hu k).1.1))
  · rw [State.seg_modSeg_ne _ _ same]
    exact (hu k).2 (on.resolve_right same)

theorem LimitsOn.applySet {p : PolicySet} (valid : p.invalidAt = none) : LimitsOn (fun _ => True) (s.applySet p) := by
  have none : LimitsOn (fun _ => False) (s.takeSet p) := fun g => ⟨p.limits_valid valid g, False.elim⟩
  have checked := (closed_limitsOn _).recheckAll ((closed_limitsOn _).readmitAll none)
  have all := State.segmentsTakeup_all (P := LimitsOn) (old := s.ps.active) (fun _ _ _ h => h.segmentTakeup) checked
  exact (closed_limitsOn _).applySet_of ((closed_limitsOn _).thresholdTakeup ((closed_limitsOn _).vehicleTakeup all _))

theorem LimitsOn.default : LimitsOn (fun _ => True) State.reset := by
  rw [← throttleInLimits_iff]
  decide +kernel

theorem LimitsOn.softUnits (hs : LimitsOn (fun _ => True) s) (r : Bool) : LimitsOn (fun _ => True) (s.softUnits r) := by
  have valid : ∀ g : Fin 4, (softPs r s.ps).active.regs[g].floor ≤ (softPs r s.ps).active.regs[g].ceiling ∧
      (softPs r s.ps).active.regs[g].ceiling ≤ 7 := by
    rw [softPs_active]
    cases r
    · exact fun g => (LimitsOn.default g).1
    · exact fun g => (hs g).1
  refine fun g => ⟨valid g, fun _ => ?_⟩
  have limits := (valid g).1
  rw [State.softUnits_seg]
  show (softPs r s.ps).active.regs[g].low ≤ _ ∧ _ ≤ (softPs r s.ps).active.regs[g].high
  simp only [Seg.reset, RegSet.low, RegSet.high]
  omega

/-- An area is written, a counter steps and a window begins without touching an accumulator. -/
theorem LimitsOn.of_acc {S : Fin 4 → Prop} {u : State} (hs : LimitsOn S s) (active : u.ps.active = s.ps.active)
    (acc : ∀ g, (u.seg g).acc = (s.seg g).acc) : LimitsOn S u := by
  unfold LimitsOn InLimits at hs ⊢
  rw [active]
  exact fun g => by rw [acc]; exact hs g

/-- Settles O7: the primitive updates keep the limits, a commit clamps each accumulator into the limits of its valid set, and a
reset begins at the ceiling. -/
theorem stepKeepsThrottleLimits : Obligations.StepKeepsThrottleLimits := by
  unfold Obligations.StepKeepsThrottleLimits
  refine fun s t => step_keeps (fun _ _ h => h) fun c s t hs e => ?_
  rw [throttleInLimits_iff] at hs ⊢
  have h := closed_limitsOn fun _ => True
  rcases structural_cases c with plain | reset | set | request
  · exact h.exec hs plain e
  · refine h.exec_reset hs (LimitsOn.default.of_acc rfl fun _ => rfl) (hs.of_acc rfl fun g => ?_) hs.softUnits
      (hs.of_acc rfl fun g => ?_) (hs.of_acc rfl fun g => ?_) reset e
    · rw [State.readied_seg, State.cleared_seg]
    · rw [State.readied_seg, State.stepCounters_seg]
    · rw [State.readied_seg]
      exact (congrArg Seg.acc (s.stepCounters_seg g) :)
  · exact h.setCommand hs (fun u _ valid => LimitsOn.applySet valid) (fun _ hu => hu) set e
  · exact h.segmentCommand_free (segFree_limitsOn _) hs request e

end Sys2Proof.Machine
end

section
/-! PROOFS. The denial runs and the DISABLED controllers at every step (R42, R64). -/

namespace Sys2Proof.Machine

variable {s t : State}

/-! ### Channel records after an update (R41) -/

/-- But for its change counter an updated channel record is what the update makes of it. -/
theorem State.updChan_chan (s : State) (ch : Fin 8) (f : Chan → Chan) :
    (s.updChan ch f).chan ch = { f (s.chan ch) with counter := ((s.updChan ch f).chan ch).counter } := by
  by_cases same : f (s.chan ch) = s.chan ch
  · have kept : s.updChan ch f = s := if_pos same
    rw [kept, same]
  · have written : (s.updChan ch f).chan ch = { f (s.chan ch) with counter := (s.chan ch).counter + 1 } := by
      rw [State.updChan_eq, if_neg same]
      exact upd_same _ _ _
    rw [written]

/-! ### Denial runs (R42) -/

/-- The channel records agree with R42, and those of `S` stand below the threshold of the active set. -/
def DenialsOn (S : Fin 8 → Prop) (s : State) : Prop :=
  1 ≤ s.ps.active.threshold ∧ ∀ ch : Fin 8, ChanAgrees (s.chan ch) ∧ (S ch → (s.chan ch).run < s.ps.active.threshold)

theorem denialsOn_iff : RunsBelowThreshold s ∧ SuspensionsAgree s ↔ DenialsOn (fun _ => True) s := by
  unfold DenialsOn
  exact ⟨fun ⟨⟨one, runs⟩, agree⟩ => ⟨one, fun ch => ⟨agree ch, fun _ => runs ch⟩⟩,
    fun ⟨one, both⟩ => ⟨⟨one, fun ch => (both ch).2 trivial⟩, fun ch => (both ch).1⟩⟩

theorem closed_denialsOn (S : Fin 8 → Prop) : Closed (DenialsOn S) where
  wr := id
  regs := id
  info := id
  time := id
  posts := id
  cell := id
  cm := id
  vsm := id
  setTransfer := id
  transfer := id
  slot := id
  setWatch := id
  watch := id
  ps {s f} kept hs := by
    have same : (s.modPs f).ps.active = s.ps.active := kept _
    unfold DenialsOn at hs ⊢
    rw [same]
    exact hs
  chan {s ch f} ok hs := by
    refine ⟨hs.1, fun k => ?_⟩
    by_cases same : k = ch
    · subst same
      rw [State.chan_modChan]
      exact ⟨ok.2 (hs.2 k).1, fun on => ok.1 hs.1 ((hs.2 k).2 on)⟩
    · rw [State.chan_modChan_ne _ _ same]
      exact hs.2 k
  seg _ hs := hs

/-- The step of the threshold take-up on one channel (R20). -/
theorem DenialsOn.lowered {S : Fin 8 → Prop} (hs : DenialsOn S s) (ch : Fin 8) {n : Nat} (hn : n = s.ps.active.threshold) :
    DenialsOn (fun k => S k ∨ k = ch) (s.updChan ch fun r => if n ≤ r.run then { r with run := n - 1 } else r) := by
  subst hn
  refine ⟨by rw [State.updChan_ps]; exact hs.1, fun k => ?_⟩
  rw [State.updChan_ps]
  by_cases same : k = ch
  · subst same
    rw [State.updChan_chan]
    have one := hs.1
    have agrees := (hs.2 k).1
    by_cases low : s.ps.active.threshold ≤ (s.chan k).run <;> by_cases suspended : (s.chan k).suspended <;>
      simp only [low, suspended, if_true, if_false, ChanAgrees, Bool.false_eq_true] at agrees ⊢ <;> omega
  · rw [State.updChan_chan_ne _ _ same]
    exact ⟨(hs.2 k).1, fun on => (hs.2 k).2 (on.resolve_right same)⟩

theorem DenialsOn.mono {S T : Fin 8 → Prop} (hs : DenialsOn S s) (h : ∀ k, T k → S k) : DenialsOn T s :=
  ⟨hs.1, fun k => ⟨(hs.2 k).1, fun on => (hs.2 k).2 (h k on)⟩⟩

theorem DenialsOn.loweredAll (n : Nat) (l : List (Fin 8)) {S : Fin 8 → Prop} (hs : DenialsOn S s)
    (hn : n = s.ps.active.threshold) :
    DenialsOn (fun k => S k ∨ k ∈ l)
      (l.foldl (fun s ch => s.updChan ch fun r => if n ≤ r.run then { r with run := n - 1 } else r) s) := by
  induction l generalizing S s with
  | nil => exact hs.mono fun k on => by simpa using on
  | cons ch l ih =>
    have rest := ih (hs.lowered ch hn) (by rw [State.updChan_ps]; exact hn)
    exact rest.mono fun k on => by simpa [or_assoc] using on

theorem DenialsOn.thresholdTakeup {S : Fin 8 → Prop} (hs : DenialsOn S s) : DenialsOn (fun _ => True) s.thresholdTakeup :=
  (hs.loweredAll _ (List.finRange 8) rfl).mono fun k _ => .inr (List.mem_finRange k)

theorem segFree_denialsOn (S : Fin 8 → Prop) : SegFree (DenialsOn S) := fun _ hs => hs

theorem DenialsOn.applySet {S : Fin 8 → Prop} {p : PolicySet} (hs : DenialsOn S s) (valid : p.invalidAt = none) :
    DenialsOn (fun _ => True) (s.applySet p) := by
  have none : DenialsOn (fun _ => False) (s.takeSet p) := ⟨p.threshold_valid valid, fun ch => ⟨(hs.2 ch).1, False.elim⟩⟩
  have taken := (closed_denialsOn _).takenUp_free (segFree_denialsOn _) none
  exact (closed_denialsOn _).applySet_of taken.thresholdTakeup

theorem State.readied_chan (s : State) (ch : Fin 8) : s.becomeReady.chan ch = s.chan ch := rfl

theorem State.cleared_chan (s : State) (ch : Fin 8) : s.cleared.chan ch = { s.chan ch with counter := 0 } := by
  simp [State.chan, State.cleared, State.wrMirror, State.zeroCounters]

theorem State.stepCounters_chan (s : State) (ch : Fin 8) :
    s.stepCounters.chan ch = { s.chan ch with counter := (s.chan ch).counter + 1 } := by
  simp [State.chan, State.stepCounters]

/-- A latch of the soft reset leaves the rest of the channel records (R193). -/
theorem State.softLatches_get (s : State) (ch : Fin 8) :
    s.softLatches[ch] = { s.chan ch with latch := s.softLatches[ch].latch } := by
  have fold : ∀ (l : List (Fin 32)) (v : Vector Chan 8), v[ch] = { s.chan ch with latch := v[ch].latch } →
      ∀ w, w = l.foldl (fun v c =>
        match s.transfer c with
        | some t => if t.touched then upd v t.channel fun r => { r with latch := some t.target } else v
        | none => v) v → w[ch] = { s.chan ch with latch := w[ch].latch } := by
    intro l
    induction l with
    | nil => rintro v hv w rfl; exact hv
    | cons c l ih =>
      rintro v hv w rfl
      refine ih _ ?_ _ rfl
      dsimp only
      split
      · split
        · rename_i r _ _
          by_cases same : ch = r.channel
          · subst same
            rw [upd_same, hv]
          · rw [upd_ne _ _ same]
            exact hv
        · exact hv
      · exact hv
  exact fold _ _ rfl _ rfl

/-- A channel after a soft reset but for its latch (R47, R193). -/
theorem State.softUnits_chan (s : State) (retain : Bool) (ch : Fin 8) :
    (s.softUnits retain).chan ch =
      { Chan.reset with
        suspended := retain && (s.chan ch).suspended, remaining := if retain then (s.chan ch).remaining else 0
        latch := if retain then s.softLatches[ch].latch else none, counter := (s.chan ch).counter } := by
  have get : (s.softUnits retain).chan ch = softChan retain (if retain then s.softLatches else s.chans)[ch] := by
    simp [State.chan, State.softUnits]
  rw [get]
  cases retain
  · rfl
  · simp only [if_true, Bool.true_and]
    rw [s.softLatches_get ch]
    rfl

theorem DenialsOn.softUnits (hs : DenialsOn (fun _ => True) s) (retain : Bool) :
    DenialsOn (fun _ => True) (s.softUnits retain) := by
  have one : 1 ≤ (softPs retain s.ps).active.threshold := by
    rw [softPs_active]
    cases retain
    · exact Nat.le_of_ble_eq_true rfl
    · exact hs.1
  refine ⟨one, fun ch => ?_⟩
  have agrees := (hs.2 ch).1
  rw [State.softUnits_chan]
  refine ⟨?_, fun _ => one⟩
  cases retain <;> by_cases suspended : (s.chan ch).suspended <;>
    simp_all [ChanAgrees, Chan.reset]

/-- A counter steps without touching what R42 speaks of. -/
theorem DenialsOn.of_counter {S : Fin 8 → Prop} {u : State} (hs : DenialsOn S s) (active : u.ps.active = s.ps.active)
    (same : ∀ ch, ∃ n, u.chan ch = { s.chan ch with counter := n }) : DenialsOn S u := by
  unfold DenialsOn at hs ⊢
  rw [active]
  refine ⟨hs.1, fun ch => ?_⟩
  obtain ⟨n, eq⟩ := same ch
  rw [eq]
  exact hs.2 ch

/-- Settles O8: the primitive updates keep what R42 says, a commit lowers each run count below its threshold, and a reset begins at
0 or keeps the suspensions. -/
theorem stepKeepsDenialRuns : Obligations.StepKeepsDenialRuns := by
  unfold Obligations.StepKeepsDenialRuns
  refine fun s t runs agree => ?_
  rw [denialsOn_iff]
  refine step_keeps (fun _ _ h => h) (fun c s t hs e => ?_) (denialsOn_iff.1 ⟨runs, agree⟩)
  have h := closed_denialsOn fun _ => True
  rcases structural_cases c with plain | reset | set | request
  · exact h.exec hs plain e
  · refine h.exec_reset hs ?_ ?_ hs.softUnits ?_ ?_ reset e
    · exact denialsOn_iff.1 (show RunsBelowThreshold State.reset ∧ SuspensionsAgree State.reset by decide +kernel)
    · exact hs.of_counter rfl fun ch => ⟨_, s.cleared_chan ch⟩
    · exact hs.of_counter rfl fun ch => ⟨_, s.stepCounters_chan ch⟩
    · exact hs.of_counter rfl fun ch => ⟨_, s.stepCounters_chan ch⟩
  · exact h.setCommand hs (fun u hu valid => hu.applySet valid) (fun _ hu => hu) set e
  · exact h.segmentCommand_free (segFree_denialsOn _) hs request e

end Sys2Proof.Machine
end

section
/-! PROOFS. The DISABLED controllers at every step (R64). -/

namespace Sys2Proof.Machine

variable {s t : State}

/-! ### A change of controller state (R71) -/

/-- The segment after a change of controller state: the state, and one step of its change counter if it is another state. -/
theorem State.setCtl_seg (s : State) (g : Fin 4) (k : Ctl) :
    (s.setCtl g k).seg g =
      if (s.seg g).ctl = k then s.seg g else { s.seg g with ctl := k, counter := (s.seg g).counter + 1 } := by
  unfold State.setCtl
  split
  · rfl
  · show ((s.modSeg g fun q => { q with ctl := k }).stuWrite g).seg g = _
    rw [State.seg_stuWrite, State.seg_modSeg]

theorem State.stuWrite_seg_ne (s : State) {g k : Fin 4} (h : k ≠ g) : (s.stuWrite g).seg k = s.seg k := by
  rw [State.stuWrite_eq]
  exact upd_ne _ _ h

theorem State.setCtl_seg_ne (s : State) {g k : Fin 4} (c : Ctl) (h : k ≠ g) : (s.setCtl g c).seg k = s.seg k := by
  unfold State.setCtl
  split
  · rfl
  · show ((s.modSeg g fun q => { q with ctl := c }).stuWrite g).seg k = _
    rw [State.stuWrite_seg_ne _ h, State.seg_modSeg_ne _ _ h]

@[simp] theorem State.stuWrite_ps (s : State) (g : Fin 4) : (s.stuWrite g).ps = s.ps := by rw [State.stuWrite_eq]

@[simp] theorem State.setCtl_ps (s : State) (g : Fin 4) (k : Ctl) : (s.setCtl g k).ps = s.ps := by
  unfold State.setCtl
  split
  · rfl
  · rw [State.event_ps, State.stuWrite_ps, State.modSeg_ps]

theorem State.setCtl_ctl (s : State) (g : Fin 4) (k : Ctl) : ((s.setCtl g k).seg g).ctl = k := by
  rw [State.setCtl_seg]
  split
  · assumption
  · rfl

theorem State.setCtl_hostDisable (s : State) (g : Fin 4) (k : Ctl) :
    ((s.setCtl g k).seg g).hostDisable = (s.seg g).hostDisable := by
  rw [State.setCtl_seg]
  split <;> rfl

/-! ### Controllers DISABLED (R64) -/

/-- The controllers of the segments of `S` are DISABLED exactly while these are not effectively enabled. -/
def CtlOn (S : Fin 4 → Prop) (s : State) : Prop := ∀ g : Fin 4, S g → CtlAgrees s.ps.active g (s.seg g)

theorem disabledAgrees_iff : DisabledAgrees s ↔ CtlOn (fun _ => True) s :=
  forall_congr' fun _ => ⟨fun h _ => h, fun h => h trivial⟩

theorem CtlOn.mono {S T : Fin 4 → Prop} (hs : CtlOn S s) (h : ∀ k, T k → S k) : CtlOn T s := fun g on => hs g (h g on)

theorem CtlOn.modSeg {S : Fin 4 → Prop} {g : Fin 4} {f : Seg → Seg} (hs : CtlOn (fun k => S k ∧ k ≠ g) s)
    (ok : S g → CtlAgrees s.ps.active g (f (s.seg g))) : CtlOn S (s.modSeg g f) := by
  intro k on
  by_cases same : k = g
  · subst same
    rw [State.seg_modSeg]
    exact ok on
  · rw [State.seg_modSeg_ne _ _ same]
    exact hs k ⟨on, same⟩

theorem closed_ctlOn (S : Fin 4 → Prop) : Closed (CtlOn S) where
  wr := id
  regs := id
  info := id
  time := id
  posts := id
  cell := id
  cm := id
  vsm := id
  setTransfer := id
  transfer := id
  slot := id
  setWatch := id
  watch := id
  ps {s f} kept hs := by
    have same : (s.modPs f).ps.active = s.ps.active := kept _
    unfold CtlOn at hs ⊢
    rw [same]
    exact hs
  chan _ hs := hs
  seg {s g f} ok hs := CtlOn.modSeg (hs.mono fun _ on => on.1) fun on => ok.2 (hs g on)

/-- A controller that restarts into the state of its segment agrees with it, whatever it was. -/
theorem CtlOn.restartInto {S : Fin 4 → Prop} {g : Fin 4} {k : Ctl} (hs : CtlOn (fun k => S k ∧ k ≠ g) s)
    (agrees : k = .disabled ↔ s.enabled g = false) : CtlOn S (s.restartInto g k) := by
  refine (closed_ctlOn S).restartInto fun j on => ?_
  rw [State.setCtl_ps, State.modSeg_ps]
  by_cases same : j = g
  · subst same
    unfold CtlAgrees
    rw [State.setCtl_ctl, State.setCtl_hostDisable, State.seg_modSeg]
    exact agrees
  · rw [State.setCtl_seg_ne _ _ same, State.seg_modSeg_ne _ _ same]
    exact hs j ⟨on, same⟩

theorem State.startState_disabled (s : State) (g : Fin 4) : s.startState g = .disabled ↔ s.enabled g = false := by
  unfold State.startState
  split <;> simp_all

theorem CtlOn.disableSegment (hs : CtlOn (fun _ => True) s) (g : Fin 4) : CtlOn (fun _ => True) (s.disableSegment g) := by
  have others := hs.mono (T := fun k => True ∧ k ≠ g) fun _ _ => trivial
  have marked : CtlOn (fun k => True ∧ k ≠ g) (s.modSeg g fun q => { q with hostDisable := true }) :=
    CtlOn.modSeg (hs.mono fun _ _ => trivial) fun on => absurd rfl on.2
  refine (closed_ctlOn _).disableSegment (fun off => ?_) fun _ => ?_
  · exact CtlOn.modSeg others fun _ => by simp [CtlAgrees, off]
  · exact marked.restartInto (by simp [State.enabled])

theorem CtlOn.enableSegment (hs : CtlOn (fun _ => True) s) (g : Fin 4) : CtlOn (fun _ => True) (s.enableSegment g) := by
  have agrees := hs g trivial
  have others := hs.mono (T := fun k => True ∧ k ≠ g) fun _ _ => trivial
  unfold State.enableSegment
  extract_lets u
  have set : u.segSet g = s.ps.active.segs[g] := rfl
  have ctl : (u.seg g).ctl = (s.seg g).ctl := by simp [u]
  rw [set, ctl]
  split
  case isTrue off =>
    simp only [Bool.and_eq_true, beq_iff_eq] at off
    intro j _
    rw [State.setCtl_ps, State.modSeg_ps]
    by_cases same : j = g
    · subst same
      unfold CtlAgrees
      rw [State.setCtl_ctl, State.setCtl_hostDisable, State.seg_modSeg]
      simpa [u] using off.1
    · rw [State.setCtl_seg_ne _ _ same, State.seg_modSeg_ne _ _ same, State.seg_modSeg_ne _ _ same]
      exact hs j trivial
  case isFalse on =>
    refine CtlOn.modSeg others fun _ => ?_
    simp only [Bool.and_eq_true, beq_iff_eq, not_and] at on
    by_cases enabled : s.ps.active.segs[g].enabled = true
    · simpa [CtlAgrees, on enabled] using enabled
    · simp only [CtlAgrees, enabled, Bool.false_and, iff_true] at agrees ⊢
      exact agrees

theorem CtlOn.restart (hs : CtlOn (fun _ => True) s) (g : Fin 4) : CtlOn (fun _ => True) (s.restartInto g (s.startState g)) :=
  CtlOn.restartInto (hs.mono fun _ _ => trivial) (s.startState_disabled g)

/-- A segment whose enabling a new set changes restarts when it takes the set up (R19), and then agrees with it. -/
theorem CtlOn.segmentTakeup {old p : PolicySet} {S : Fin 4 → Prop} {g : Fin 4}
    (hs : CtlOn (fun k => S k ∨ old.segs[k].enabled = p.segs[k].enabled) s) (active : s.ps.active = p) :
    CtlOn (fun k => (S k ∨ k = g) ∨ old.segs[k].enabled = p.segs[k].enabled) (s.segmentTakeup old g) := by
  refine (closed_ctlOn _).segmentTakeup_of fun u eu => ?_
  have restarted : CtlOn (fun k => (S k ∨ k = g) ∨ old.segs[k].enabled = p.segs[k].enabled) u ∧ u.ps.active = s.ps.active := by
    rw [eu]
    split
    case isTrue =>
      refine ⟨CtlOn.restartInto (hs.mono fun k on => ?_) (s.startState_disabled g),
        (Closed.ofActive _).restartInto_free (fun _ hv => hv) rfl g _⟩
      exact on.1.imp_left (·.resolve_right on.2)
    case isFalse same =>
      refine ⟨hs.mono fun k on => ?_, rfl⟩
      rcases on with (on | rfl) | on
      · exact .inl on
      · rw [active] at same
        simp only [restarts, Bool.or_eq_true, bne_iff_ne, not_or, not_not] at same
        exact .inr same.2
      · exact .inr on
  obtain ⟨hu, same⟩ := restarted
  exact (closed_ctlOn _).seg (by rw [same]; exact Closed.regulatorOk ..) hu

theorem CtlOn.applySet {p : PolicySet} (hs : CtlOn (fun _ => True) s) : CtlOn (fun _ => True) (s.applySet p) := by
  have kept : CtlOn (fun k => False ∨ s.ps.active.segs[k].enabled = p.segs[k].enabled) (s.takeSet p) := by
    intro g on
    have agrees := hs g trivial
    unfold CtlAgrees at agrees ⊢
    rw [on.resolve_left id] at agrees
    exact agrees
  have checked := (closed_ctlOn _).recheckAll ((closed_ctlOn _).readmitAll kept)
  have active : (s.takeSet p).readmitAll.recheckAll.ps.active = p :=
    (Closed.ofActive p).recheckAll ((Closed.ofActive p).readmitAll rfl)
  have all := State.segmentsTakeup_all (old := s.ps.active)
    (P := fun S u => CtlOn (fun k => S k ∨ s.ps.active.segs[k].enabled = p.segs[k].enabled) u ∧ u.ps.active = p)
    (fun S g u hu => ⟨hu.1.segmentTakeup hu.2, (Closed.ofActive p).segmentTakeup_of fun v ev => by
      rw [State.modSeg_ps, ev]
      split
      · exact (Closed.ofActive p).restartInto_free (fun _ hv => hv) hu.2 g _
      · exact hu.2⟩) ⟨checked, active⟩
  have taken := (closed_ctlOn fun _ => True).vehicleTakeup (all.1.mono fun _ _ => .inl trivial) s.ps.active.veh
  exact (closed_ctlOn _).applySet_of ((closed_ctlOn _).thresholdTakeup taken)

theorem CtlOn.softUnits (s : State) (r : Bool) : CtlOn (fun _ => True) (s.softUnits r) := by
  intro g _
  unfold CtlAgrees
  rw [State.softUnits_seg]
  show (if (softPs r s.ps).active.segs[g].enabled then Ctl.joining else .disabled) = .disabled ↔
    ((softPs r s.ps).active.segs[g].enabled && !false) = false
  split <;> simp_all

theorem CtlOn.of_ctl {S : Fin 4 → Prop} {u : State} (hs : CtlOn S s) (active : u.ps.active = s.ps.active)
    (same : ∀ g, (u.seg g).ctl = (s.seg g).ctl ∧ (u.seg g).hostDisable = (s.seg g).hostDisable) : CtlOn S u := by
  intro g on
  unfold CtlAgrees
  rw [active, (same g).1, (same g).2]
  exact hs g on

theorem CtlOn.step (hs : CtlOn (fun _ => True) s) (e : step s = .next t) : CtlOn (fun _ => True) t := by
  refine step_keeps (fun _ _ h => h) (fun c s t hs e => ?_) hs e
  have h := closed_ctlOn fun _ => True
  rcases structural_cases c with plain | reset | set | request
  · exact h.exec hs plain e
  · refine h.exec_reset hs ?_ (hs.of_ctl rfl fun g => ?_) (CtlOn.softUnits s) (hs.of_ctl rfl fun g => ?_)
      (hs.of_ctl rfl fun g => ?_) reset e
    · exact disabledAgrees_iff.1 (show DisabledAgrees State.reset by decide +kernel)
    · rw [State.readied_seg, State.cleared_seg]
      exact ⟨rfl, rfl⟩
    · rw [State.readied_seg, State.stepCounters_seg]
      exact ⟨rfl, rfl⟩
    · rw [State.readied_seg, show s.stepCounters.wrMirror.seg g = _ from s.stepCounters_seg g]
      exact ⟨rfl, rfl⟩
  · exact h.setCommand hs (fun u hu _ => hu.applySet) (fun _ hu => hu) set e
  · exact h.segmentCommand hs hs.disableSegment hs.enableSegment hs.restart request e

end Sys2Proof.Machine
end

section
/-! PROOFS. What the work of cells, transfers and watches does to the part, said finer than in Laws/Closure.lean: it changes no error
count and no controller state, a latch only while a transfer runs, and the pending end of a watch only to a cause of R149. One lemma
for each operation, as there. -/

namespace Sys2Proof.Machine

/-- The controller state and both error counts of a segment are as they were. -/
def SameErrors (q q' : Seg) : Prop := q'.ctl = q.ctl ∧ q'.tecCount = q.tecCount ∧ q'.recCount = q.recCount

/-- A reason that R149 names as the cause of a pending end of a watch. -/
def EndCause (r : Reason) : Prop := r = .aborted ∨ r = .grantExpired ∨ r = .testerGone

/-- A property that the updates of the work of cells keep. -/
structure Work (P : State → Prop) : Prop where
  wr : ∀ {s a bs}, P s → P (s.wr a bs)
  regs : ∀ {s f}, P s → P (s.modRegs f)
  info : ∀ {s f}, P s → P (s.modInfo f)
  cell : ∀ {s c f}, P s → P (s.modCell c f)
  lampRefresh : ∀ {s}, P s → P s.lampRefresh
  releaseTransfer : ∀ {s}, P s → ∀ c, P (s.releaseTransfer c)
  transfer : ∀ {s c f}, P s → P (s.modTransfer c f)
  slot : ∀ {s n f}, P s → P (s.modSlot n f)
  watchGone : ∀ {s c}, P s → P (s.setWatch c none)
  watchEq : ∀ {s c f}, (∀ w : Watch, (f w).pending = w.pending) → P s → P (s.modWatch c f)
  pends : ∀ {s c r}, EndCause r → P s → P (s.modWatch c fun w => { w with pending := some r })
  chan : ∀ {s ch f}, ((f (s.chan ch)).latch = (s.chan ch).latch ∨ ∃ c r, s.transfer c = some r) → P s → P (s.modChan ch f)
  seg : ∀ {s g f}, (∀ q, SameErrors q (f q)) → P s → P (s.modSeg g f)

namespace Work

variable {P : State → Prop} (h : Work P) {s : State} (hs : P s)

include h in
theorem segEq {g : Fin 4} {f : Seg → Seg} (hs : P s) (e : ∀ q, SameErrors q (f q) := by exact fun _ => ⟨rfl, rfl, rfl⟩) :
    P (s.modSeg g f) := h.seg e hs

include h in
theorem watch {c : Fin 32} {f : Watch → Watch} (hs : P s) (e : ∀ w, (f w).pending = w.pending := by exact fun _ => rfl) :
    P (s.modWatch c f) := h.watchEq e hs

include h in
theorem ctx {g x : Fin 4} {f : Ctx → Ctx} (hs : P s) : P (s.modCtx g x f) := h.segEq hs

open Closed (foldl)

include h hs

/-! ### Flags and channels -/

theorem wrReserved (runs : List Reserved) : P (s.wrReserved runs) := by
  rw [s.wrReserved_foldl]
  exact foldl _ _ (fun _ _ e => h.wr e) hs
theorem wrInfo (off : Nat) (bs : List Byte) : P (s.wrInfo off bs) := h.info (h.wr hs)
theorem event (e : Event) : P (s.event e) := h.regs hs
theorem setDone (c : Fin 32) : P (s.setDone c) := h.regs hs

theorem finish : P s.finish := by
  unfold State.finish State.infoClose
  split
  · exact h.regs (h.info (h.wr (h.wrReserved hs _)))
  · exact h.regs hs

theorem updChan (ch : Fin 8) (f : Chan → Chan)
    (e : (f (s.chan ch)).latch = (s.chan ch).latch ∨ ∃ c r, s.transfer c = some r) : P (s.updChan ch f) := by
  unfold State.updChan
  dsimp only
  split
  · exact hs
  · exact h.wr (h.chan e hs)

theorem updChanEq (ch : Fin 8) (f : Chan → Chan) (e : ∀ r, (f r).latch = r.latch := by exact fun _ => rfl) : P (s.updChan ch f) :=
  h.updChan hs ch f (.inl (e _))

theorem accrue (ch : Fin 8) (fs : List Flag) : P (s.accrue ch fs) := h.updChanEq hs _ _

theorem latchSet (ch : Fin 8) (ecu : Nat) (busy : ∃ c r, s.transfer c = some r) : P (s.latchSet ch ecu) :=
  h.event (h.updChan hs _ _ (.inr busy)) _

theorem latchClear (ch : Fin 8) (ecu : Nat) (busy : ∃ c r, s.transfer c = some r) : P (s.latchClear ch ecu) := by
  unfold State.latchClear
  split
  · exact h.regs (h.updChan hs _ _ (.inr busy))
  · exact hs

/-! ### The board -/

theorem wrCellWord (c : Fin 32) : P (s.wrCellWord c) := h.wr hs

theorem setCell (c : Fin 32) (st : CellState) : P (s.setCell c st) := h.wr (h.cell hs)

theorem setGrant (c : Fin 32) (g : Nat) : P (s.setGrant c g) := h.wr (h.cell hs)

theorem recordStart (c : Fin 32) : P (s.recordStart c) := h.cell hs

theorem endCellOn (ch : Option (Fin 8)) (c : Fin 32) (e : CellEnd) : P (s.endCellOn ch c e) := by
  unfold State.endCellOn
  cases ch
  · exact h.setDone (h.setCell (h.wr hs) _ _) _
  · exact h.setDone (h.setCell (h.wr (h.accrue hs _ _)) _ _) _

theorem endCell (c : Fin 32) (e : CellEnd) : P (s.endCell c e) := h.endCellOn hs _ c e


/-! ### Lanes -/

theorem segClose (g : Fin 4) : P (s.segClose g) := by
  unfold State.segClose
  exact h.wr (h.segEq (h.wrReserved hs _))

theorem stuWrite (g : Fin 4) : P (s.stuWrite g) := by
  unfold State.stuWrite
  exact h.segClose (h.wr hs) g

theorem lsWrite (g : Fin 4) : P (s.lsWrite g) := by
  unfold State.lsWrite
  exact h.segClose (h.wr (h.wr (h.wr hs))) g

theorem dropEntry (c : Fin 32) : P (s.dropEntry c) := by
  unfold State.dropEntry
  split
  · exact h.lsWrite (h.segEq hs) _
  · exact hs

theorem join (g : Fin 4) (e : Entry) : P (s.join g e) := by
  unfold State.join
  exact h.lsWrite (h.segEq hs) g

theorem startReport (e : Entry) : P (s.startReport e) := by
  unfold State.startReport
  dsimp only
  split
  · exact h.setCell (h.recordStart hs _) _ _
  · exact h.watch (h.recordStart hs _)
  all_goals exact h.transfer (h.recordStart hs _)

theorem startIn (g : Fin 4) (n : Fin 16) (e : Entry) (x : Fin 4) (r : Route) : P (s.startIn g n e x r) := by
  unfold State.startIn
  exact h.lsWrite (h.stuWrite (h.startReport (h.segEq hs) e) g) g

theorem startOne {g : Fin 4} {t : State} (e : s.startOne g = some t) : P t := by
  unfold State.startOne at e
  dsimp only at e
  split at e
  · cases e
  · split at e
    · cases e
    · split at e
      · cases e; exact h.startIn hs _ _ _ _ _
      · cases e

theorem arbitrateFuel (g : Fin 4) (n : Nat) : P (s.arbitrateFuel g n) := by
  induction n generalizing s with
  | zero => exact hs
  | succ n ih =>
    unfold State.arbitrateFuel
    split
    · rename_i t e
      exact ih (h.startOne hs e)
    · exact hs

theorem arbitrate (g : Fin 4) : P (s.arbitrate g) := h.arbitrateFuel hs g 4

theorem joinRun (g : Fin 4) (e : Entry) : P (s.joinRun g e) := by
  unfold State.joinRun
  exact h.arbitrate (h.join hs g e) g

theorem freeCtx (g x : Fin 4) : P (s.freeCtx g x) := by
  unfold State.freeCtx
  exact h.arbitrate (h.lsWrite (h.stuWrite (h.segEq hs) g) g) g


/-! ### Load -/

theorem countBits (g : Fin 4) (n : Nat) : P (s.countBits g n) := by
  unfold State.countBits
  exact h.segEq hs (by intro q; split <;> exact ⟨rfl, rfl, rfl⟩)

theorem lrWrite (g : Fin 4) : P (s.lrWrite g) := by
  unfold State.lrWrite
  exact h.segClose (h.wr hs) g

theorem takePace (g : Fin 4) : P (s.takePace g) := h.segEq hs

theorem levelSettle (g : Fin 4) (old : Nat) : P (s.levelSettle g old) := by
  unfold State.levelSettle
  split
  · exact h.lrWrite hs g
  · exact h.event (h.lsWrite (h.wrInfo (h.lrWrite (h.segEq (h.takePace hs g)) g) _ _) g) _

theorem levelRun (g : Fin 4) (old : Nat) : P (s.levelRun g old) := by
  unfold State.levelRun
  dsimp only
  split
  · exact h.levelSettle hs g old
  · exact h.arbitrate (h.levelSettle hs g old) g


/-! ### Transfers -/

theorem wrProgress (c : Fin 32) : P (s.wrProgress c) := by
  unfold State.wrProgress
  dsimp only
  split
  · exact h.wr (h.transfer hs)
  · exact h.transfer hs

theorem setSlot (n : Fin 8) (st : SlotState) : P (s.setSlot n st) := h.wr (h.slot hs)

theorem freeSlots (c : Fin 32) : P (s.freeSlots c) := by
  unfold State.freeSlots
  refine foldl (P := P) _ _ (fun t n ht => ?_) hs
  split
  · exact h.setSlot ht n _
  · exact ht

theorem transferFail (c : Fin 32) (f : TFail) : P (s.transferFail c f) := by
  unfold State.transferFail
  dsimp only
  have h₁ := h.wrProgress (h.freeSlots (h.transfer (c := c)
    (f := fun t => { t with phase := .failed, feed := none, ka := none, withdrawn := none, out := none, pending := none }) hs) c) c
  split
  · exact h₁
  case h_2 r found =>
    refine h.releaseTransfer (h.endCell ?_ c _) c
    split
    · exact h.latchSet h₁ _ _ ⟨c, r, found⟩
    · exact h₁

theorem transferDone (c : Fin 32) : P (s.transferDone c) := by
  unfold State.transferDone
  dsimp only
  have h₁ := h.wrProgress (h.transfer (c := c)
    (f := fun t => { t with phase := .done, feed := none, ka := none, out := none, pending := none }) hs) c
  split
  · exact h₁
  case h_2 r found => exact h.releaseTransfer (h.endCell (h.latchClear h₁ _ _ ⟨c, r, found⟩) c _) c

theorem transferCause (c : Fin 32) (r : Reason) : P (s.transferCause c r) := by
  unfold State.transferCause
  split
  · exact hs
  · split
    · exact hs
    · split
      · exact h.transfer hs
      · exact h.transferFail (h.dropEntry hs c) c _

theorem handOver (c : Fin 32) (role : Role) (block : Nat) : P (s.handOver c role block) := by
  unfold State.handOver
  split
  · exact hs
  · split
    · exact h.transferFail hs c _
    · exact h.joinRun (h.transfer hs) _ _

theorem needBlock (c : Fin 32) : P (s.needBlock c) := by
  unfold State.needBlock
  split
  · exact hs
  · split
    · exact h.handOver (h.transfer (h.setSlot hs _ _)) c _ _
    · exact h.transfer hs

theorem requeue (c : Fin 32) : P (s.requeue c) := by
  unfold State.requeue
  split
  · exact hs
  · split
    · exact hs
    · split
      · exact h.transferFail hs c _
      · exact h.joinRun (h.transfer hs) _ _

theorem transferResume (c : Fin 32) : P (s.transferResume c) := by
  unfold State.transferResume
  split
  · exact hs
  · split
    · exact hs
    · split
      · exact h.requeue hs c
      · split <;> first | exact h.handOver hs c _ _ | exact h.needBlock hs c | exact hs

theorem ackBlock (c : Fin 32) (k : Nat) (bs : List Byte) : P (s.ackBlock c k bs) := by
  unfold State.ackBlock
  dsimp only
  split
  · exact h.setSlot (h.transfer hs) _ _
  · exact h.transfer hs

theorem boundary (c : Fin 32) : P (s.boundary c) := by
  unfold State.boundary
  split
  · exact hs
  · split
    · exact h.transferFail hs c _
    · exact hs

theorem advance (c : Fin 32) (p : TPhase) : P (s.advance c p) := by
  unfold State.advance
  split
  · exact h.transferDone hs c
  · exact h.boundary (h.wrProgress (h.transfer hs) c) c

theorem transferPositive (c : Fin 32) (role : Role) (k : Nat) (x : Ctx) : P (s.transferPositive c role k x) := by
  unfold State.transferPositive
  dsimp only
  have h₁ := h.transfer (c := c) (f := fun t => { t with out := none, ka := s.kaStart c }) hs
  split
  · exact h.advance h₁ c _
  · split
    · exact h.boundary (h.wrProgress (h.ackBlock h₁ c _ _) c) c
    · exact h.advance (h.wrProgress (h.ackBlock h₁ c _ _) c) c _
  · exact h.advance h₁ c _
  · split
    · exact h.transfer h₁
    · split
      · exact h.transferDone (h.transfer h₁) c
      · exact h.transferFail (h.transfer h₁) c _
  · exact h.boundary (h.wrProgress h₁ c) c
  · exact h₁
  · exact h₁

theorem transferReport (c : Fin 32) (r : Report) (x : Ctx) : P (s.transferReport c r x) := by
  unfold State.transferReport
  dsimp only
  have h₁ := h.transfer (c := c) (f := fun t => { t with touched := t.touched || r.touched }) hs
  split
  · exact h₁
  · split
    · exact h.transferPositive h₁ c _ _ x
    · exact h.transferFail h₁ c _
    · exact h.transferFail h₁ c _
    · exact h₁
    · exact h.transferFail h₁ c _

theorem transferEntryLost (c : Fin 32) (r : Reason) : P (s.transferEntryLost c r) := by
  unfold State.transferEntryLost
  split
  · exact hs
  · exact h.transferFail hs c _

theorem transferGrant (c : Fin 32) (g : Nat) : P (s.transferGrant c g) := h.setGrant (h.transfer hs) c g

theorem transfersVehicle : P s.transfersVehicle := by
  unfold State.transfersVehicle
  refine foldl (P := P) _ _ (fun t c ht => ?_) hs
  split
  · split
    · exact h.transferCause ht c _
    · exact ht
  · exact ht


/-! ### Watches -/

theorem wrCounts (c : Fin 32) : P (s.wrCounts c) := by
  unfold State.wrCounts
  split
  · exact h.wr hs
  · exact hs

theorem bumpSeq (c : Fin 32) : P (s.bumpSeq c) := by
  unfold State.bumpSeq
  dsimp only
  split
  · exact h.wr (h.watch hs)
  · exact h.watch hs

theorem wrSample (c : Fin 32) (p : Sample) : P (s.wrSample c p) := h.wr (h.wr (h.watch hs))

theorem watchEnd (c : Fin 32) (f : Option FaultRec) : P (s.watchEnd c f) := by
  unfold State.watchEnd
  dsimp only
  split
  · exact h.wrCounts (h.dropEntry hs c) c
  · exact h.watchGone (h.endCell (h.wrCounts (h.dropEntry hs c) c) c _)

theorem watchEndBy (c : Fin 32) (r : Reason) : P (s.watchEndBy c r) := by
  unfold State.watchEndBy
  split
  · exact hs
  · split
    · exact h.watchEnd hs c _
    · exact h.watchEnd hs c _

theorem watchBoundary (c : Fin 32) : P (s.watchBoundary c) := by
  unfold State.watchBoundary
  split
  · exact hs
  · split
    · exact h.watchEndBy hs c _
    · exact hs

theorem watchCause (c : Fin 32) (r : Reason) (cause : EndCause r) : P (s.watchCause c r) := by
  unfold State.watchCause
  split
  · exact hs
  · split
    · exact hs
    · split
      · exact h.pends cause hs
      · exact h.watchEndBy hs c r
      · exact h.watchEndBy hs c r

theorem nextDue (c : Fin 32) : P (s.nextDue c) := h.watch hs

theorem skipCycle (c : Fin 32) : P (s.skipCycle c) := h.watch hs

theorem joinCycle (g : Fin 4) (c : Fin 32) : P (s.joinCycle g c) := by
  unfold State.joinCycle
  split
  · exact hs
  · exact h.joinRun (h.watch hs) g _

theorem watchGrant (c : Fin 32) (g : Nat) : P (s.watchGrant c g) := h.cell (h.watch hs)

theorem watchDue (c : Fin 32) : P (s.watchDue c) := by
  unfold State.watchDue
  dsimp only
  split
  · exact h.nextDue hs c
  · split
    · exact h.wrCounts (h.skipCycle (h.nextDue hs c) c) c
    · split
      · exact h.joinCycle (h.wrCounts (h.watchGrant (h.nextDue hs c) c _) c) _ c
      · split
        · exact h.wrCounts (h.skipCycle (h.nextDue hs c) c) c
        · exact h.watchEnd (h.nextDue hs c) c _

theorem withdrawCycle (c : Fin 32) : P (s.withdrawCycle c) := h.wrCounts (h.watch (h.skipCycle (h.dropEntry hs c) c)) c

theorem watchesVehicle : P s.watchesVehicle := by
  unfold State.watchesVehicle
  refine foldl (P := P) _ _ (fun t c ht => ?_) hs
  split
  · split
    · exact h.withdrawCycle ht c
    · exact ht
  · exact ht

theorem publish (c : Fin 32) (f : Form) (r : Report) : P (s.publish c f r) := by
  unfold State.publish
  extract_lets p s₁ s₂
  have h₂ : P s₂ := h.wrCounts (h.watch (h.bumpSeq (h.wrSample hs c _) c)) c
  clear_value s₂
  split
  · exact h₂
  · extract_lets s₃ s₄
    have h₄ : P s₄ := by
      unfold s₄
      split
      · exact h.setDone (h.accrue h₂ _ _) c
      · exact h.accrue h₂ _ _
    split
    · exact h.watchEnd h₄ c _
    · exact h.watchBoundary h₄ c

theorem cycleFailed (c : Fin 32) (f : CycleFault) (r : Option (Report × Form)) : P (s.cycleFailed c f r) := by
  unfold State.cycleFailed
  extract_lets odd s₁ s₂ s₃
  have h₁ : P s₁ := by
    unfold s₁
    split
    · split
      · exact h.bumpSeq (h.wrSample hs c _) c
      · exact hs
    · exact hs
  have h₃ : P s₃ := h.wrCounts (h.watch h₁) c
  clear_value s₃
  split
  · exact h₃
  · extract_lets s₄
    have h₄ : P s₄ := h.accrue h₃ _ _
    split
    · exact h.watchBoundary h₄ c
    · exact h.watchEnd h₄ c _

theorem watchReport (c : Fin 32) (r : Report) (f : Form) : P (s.watchReport c r f) := by
  unfold State.watchReport
  dsimp only
  split
  · exact h.publish (h.watch hs) c _ r
  · exact h.cycleFailed (h.watch hs) c _ _


/-! ### Vehicle state -/

theorem exchangeLost (c : Fin 32) (r : Reason) (d : Option Detail) : P (s.exchangeLost c r d) := h.endCell (h.dropEntry hs c) c _

theorem exchangesVehicle : P s.exchangesVehicle := by
  unfold State.exchangesVehicle
  refine foldl (P := P) _ _ (fun t e ht => ?_) hs
  split
  · exact h.exchangeLost ht _ _ _
  · exact ht

theorem vehicleChanged : P s.vehicleChanged := h.watchesVehicle (h.transfersVehicle (h.exchangesVehicle hs))


/-! ### Transport -/

theorem exchangeReport (c : Fin 32) (r : Report) : P (s.exchangeReport c r) := by
  unfold State.exchangeReport
  dsimp only
  split
  · exact h.endCell hs c _
  · exact h.endCell hs c _

theorem endExchange (g x : Fin 4) (o : XOutcome) (k i : Nat) : P (s.endExchange g x o k i) := by
  unfold State.endExchange
  dsimp only
  split
  · exact h.freeCtx (h.exchangeReport hs _ _) g x
  · exact h.freeCtx (h.watchReport hs _ _ _) g x
  all_goals exact h.transferResume (h.freeCtx (h.transferReport hs _ _ _) g x) _

theorem failExchange (g x : Fin 4) (r : Reason) (k i : Nat) : P (s.failExchange g x r k i) := h.endExchange hs g x _ k i

theorem failBusy (g : Fin 4) (r : Reason) : P (s.failBusy g r) := by
  unfold State.failBusy
  refine foldl (P := P) _ _ (fun t x ht => ?_) hs
  split
  · exact h.failExchange ht g x r _ _
  · exact ht

theorem enterCtx (g x : Fin 4) (st : CtxState) (t : Option Nat) : P (s.enterCtx g x st t) := h.stuWrite (h.ctx hs) g

theorem frameSent (g x : Fin 4) (o : Offered) : P (s.frameSent g x o) := by
  unfold State.frameSent
  dsimp only
  split
  · exact h.enterCtx (h.ctx hs) g x _ _
  · exact h.enterCtx (h.ctx hs) g x _ _
  · split
    · exact h.enterCtx (h.ctx hs) g x _ _
    · split
      · exact h.enterCtx (h.ctx hs) g x _ _
      · exact h.ctx (h.ctx hs)
  · exact h.ctx (h.ctx hs)

theorem errorFrame (g : Fin 4) : P (s.errorFrame g) := h.countBits (h.segEq hs) g _

theorem strayFrame (g : Fin 4) : P (s.strayFrame g) := h.segEq hs

theorem takeCredit (g x : Fin 4) (f : CanFrame) : P (s.takeCredit g x f) := by
  unfold State.takeCredit
  dsimp only
  split
  · exact h.enterCtx (h.ctx hs) g x _ _
  · split
    · exact h.ctx (h.ctx hs)
    · exact h.failExchange (h.ctx hs) g x _ _ _
  · exact h.failExchange hs g x _ _ _

theorem storeResponse (g x : Fin 4) (pos : Nat) (bs : List Byte) : P (s.storeResponse g x pos bs) := by
  unfold State.storeResponse
  dsimp only
  split
  · exact h.ctx (h.wr hs)
  · exact h.ctx (h.wr hs)
  · exact h.ctx hs
  all_goals exact hs

theorem responseBegins (g x : Fin 4) : P (s.responseBegins g x) := by
  unfold State.responseBegins
  split
  · exact h.bumpSeq hs _
  · exact hs

theorem holdTaken (g x : Fin 4) : P (s.holdTaken g x) := by
  unfold State.holdTaken
  dsimp only
  split
  · exact h.failExchange (h.ctx hs) g x _ _ _
  · split
    · exact h.ctx (h.ctx hs)
    · exact h.enterCtx (h.ctx hs) g x _ _

theorem messageDone (g x : Fin 4) : P (s.messageDone g x) := by
  unfold State.messageDone
  dsimp only
  split
  · exact h.holdTaken hs g x
  · exact h.endExchange hs g x _ _ _

theorem callCredit (g x : Fin 4) : P (s.callCredit g x) := h.ctx hs

theorem takeFirst (g x : Fin 4) (k : FrameKind) (n : Nat) (b : Byte) (bs : List Byte) : P (s.takeFirst g x k n b bs) := by
  unfold State.takeFirst
  dsimp only
  split
  · exact h.ctx hs
  · exact h.storeResponse (h.responseBegins (h.ctx hs) g x) g x _ _

theorem takePart (g x : Fin 4) (f : CanFrame) : P (s.takePart g x f) := by
  unfold State.takePart
  extract_lets k bs s₁ s₂ k₂
  have h₁ : P s₁ := by
    unfold s₁
    split
    · exact hs
    · exact h.storeResponse hs g x _ _
  have h₂ : P s₂ := h.ctx h₁
  clear_value s₂
  split
  · exact h.messageDone h₂ g x
  · split
    · exact h.callCredit h₂ g x
    · exact h₂

theorem takeFrame (g x : Fin 4) (f : CanFrame) : P (s.takeFrame g x f) := by
  unfold State.takeFrame
  dsimp only
  split
  · split
    · exact h.failExchange hs g x _ _ _
    · split
      · exact h.takeCredit hs g x f
      · exact h.strayFrame hs g
  · split
    · exact h.failExchange hs g x _ _ _
    · split
      · exact h.messageDone (h.takeFirst hs g x _ _ _ _) g x
      · exact h.enterCtx (h.callCredit (h.takeFirst hs g x _ _ _ _) g x) g x _ _
      · exact h.strayFrame hs g
  · split
    · exact h.failExchange hs g x _ _ _
    · split
      · exact h.takePart hs g x f
      · exact h.failExchange hs g x _ _ _
  · exact h.strayFrame hs g
  · exact h.strayFrame hs g

theorem offerTransport (g : Fin 4) (f : CanFrame) : P (s.offerTransport g f) := by
  unfold State.offerTransport
  split
  · exact hs
  · split
    · exact h.takeFrame hs g _ f
    · exact h.strayFrame hs g


/-! ### Policy store -/

theorem reclass (g : Fin 4) (e : Entry) (k : Nat) : P (s.reclass g e k) := by
  unfold State.reclass
  exact h.segEq hs

theorem settleEntry (c : Fin 32) (k : Nat) (g : Fin 4) : P (s.settleEntry c k g) := by
  unfold State.settleEntry
  split
  · exact hs
  · split
    · exact h.reclass hs _ _ _
    · exact h.join (h.dropEntry hs c) _ _

theorem readmitExchange (c : Fin 32) : P (s.readmitExchange c) := by
  unfold State.readmitExchange
  dsimp only
  split
  · exact hs
  · split
    · exact h.settleEntry hs c _ _
    · exact h.exchangeLost hs c _ _

theorem readmitCycle (c : Fin 32) : P (s.readmitCycle c) := by
  unfold State.readmitCycle
  split
  · exact hs
  · split
    · exact h.settleEntry (h.watchGrant hs c _) c _ _
    · split
      · exact h.withdrawCycle hs c
      · exact h.watchEnd hs c _

theorem readmitAll : P s.readmitAll := by
  unfold State.readmitAll
  refine foldl (P := P) _ _ (fun t e ht => ?_) hs
  split
  · exact h.readmitExchange ht _
  · exact h.readmitCycle ht _
  all_goals exact ht

theorem recheckTransfer (c : Fin 32) (r : Reason) : P (s.recheckTransfer c r) := by
  unfold State.recheckTransfer
  split
  · exact hs
  · split
    · dsimp only
      split
      · exact h.settleEntry (h.transferGrant hs c _) c _ _
      · exact h.transferGrant hs c _
    · exact h.transferCause hs c _

theorem recheckAll : P s.recheckAll := by
  unfold State.recheckAll
  exact foldl (P := P) _ _ (fun t c ht => h.recheckTransfer ht c _) hs

theorem paceTakeup (g : Fin 4) : P (s.paceTakeup g) := by
  unfold State.paceTakeup
  split
  · exact hs
  · exact h.lrWrite (h.lsWrite (h.takePace hs g) g) g

theorem arbitrateAll : P s.arbitrateAll := by
  unfold State.arbitrateAll
  exact foldl (P := P) _ _ (fun t g ht => h.arbitrate ht g) hs

theorem recheckWatch (c : Fin 32) (w : Watch) : P (s.recheckWatch c w) := by
  unfold State.recheckWatch
  split
  · exact h.watchGrant hs c _
  · split
    · exact h.watchGrant hs c _
    · exact h.watchCause hs c _ (by simp [EndCause])

theorem recheckGrant (ch id : Nat) : P (s.recheckGrant ch id) := by
  unfold State.recheckGrant
  refine foldl (P := P) _ _ (fun t c ht => ?_) hs
  extract_lets t₁
  have h₁ : P t₁ := by
    unfold t₁
    split
    · split
      · exact h.recheckTransfer ht c _
      · exact ht
    · exact ht
  split
  · split
    · exact h.recheckWatch h₁ c _
    · exact h₁
  · exact h₁

theorem testerGone (held : Fin 8 → Bool) : P (s.testerGone held) := by
  unfold State.testerGone
  extract_lets s₁
  have h₁ : P s₁ := by
    refine foldl (P := P) _ _ (fun t e ht => ?_) hs
    split
    · split
      · exact h.exchangeLost ht _ _ _
      · exact ht
    · exact ht
  refine foldl (P := P) _ _ (fun t c ht => ?_) h₁
  extract_lets t₁
  have h₂ : P t₁ := by
    unfold t₁
    split
    · split
      · exact h.transferCause ht c _
      · exact ht
    · exact ht
  split
  · split
    · exact h.watchCause h₂ c _ (by simp [EndCause])
    · exact h₂
  · exact h₂


/-! ### Queues and slots -/

theorem entryTimeout (e : Entry) : P (s.entryTimeout e) := by
  unfold State.entryTimeout
  split
  · exact h.endCell hs _ _
  · exact h.cycleFailed hs _ _ _
  all_goals exact h.transferEntryLost hs _ _

theorem deadline (g : Fin 4) (e : Entry) : P (s.deadline g e) := by
  unfold State.deadline
  exact h.arbitrate (h.entryTimeout (h.lsWrite (h.segEq hs) g) e) g

theorem blockHeld (c : Fin 32) (k : Nat) : P (s.blockHeld c k) := by
  unfold State.blockHeld
  dsimp only
  split
  · exact hs
  · split
    · split
      · exact h.needBlock (h.transfer hs) c
      · exact h.transfer hs
    · exact hs

theorem fillSlot (n : Fin 8) : P (s.fillSlot n) := by
  unfold State.fillSlot
  extract_lets q code t
  have h₁ : P t := h.setSlot (h.wr (h.slot hs)) n _
  split
  · split
    · exact h.blockHeld h₁ _ _
    · exact h₁
  · exact h₁

theorem keepaliveExpire (c : Fin 32) (t : Transfer) : P (s.keepaliveExpire c t) := by
  unfold State.keepaliveExpire
  exact h.handOver (h.transfer (h.dropEntry hs c)) c _ _

end Work

end Sys2Proof.Machine
end

section
/-! PROOFS. The commands, for the properties that the work of cells keeps: what remains to be shown of the lamp, of a change of the
active set and of a change of a controller's counts or state. -/

namespace Sys2Proof.Machine

/-- A property that every command but a reset keeps, if it keeps these. -/
structure Whole (P : State → Prop) : Prop extends Work P where
  posts : ∀ {s l}, P s → P (s.setPosts l)
  time : ∀ {s f}, P s → P (s.modTime f)
  vsm : ∀ {s f}, P s → P (s.modVsm f)
  cmEq : ∀ {s f}, (∀ m : CM, (f m).lampMode = m.lampMode ∧ (f m).lampInd = m.lampInd) → P s → P (s.modCm f)
  psEq : ∀ {s f}, (∀ p : PS, (f p).active = p.active ∧ ∀ i : Fin 16, (f p).usage[i].expired = p.usage[i].expired) → P s →
    P (s.modPs f)
  created : ∀ {s c t grant}, P s →
    P (((((s.setTransfer c (some t)).setCell c .active).setGrant c grant).wrProgress c).lampRefresh)
  newWatch : ∀ {s c w}, w.pending = none → P s → P (s.setWatch c (some w))
  clearLatch : ∀ {s}, P s → ∀ ch, P (s.clearLatch ch)
  connectorLamp : ∀ {s}, P s → ∀ l, P (s.connectorLamp l)
  expired : ∀ {s f ch id}, P s → (∀ p : PS, (f p).active = p.active) → P ((s.modPs f).recheckGrant ch id).lampRefresh
  applySet : ∀ {s p}, P s → P (s.applySet p)
  withdrawGrants : ∀ {s}, P s → P s.withdrawGrants
  modErrors : ∀ {s}, P s → ∀ g f, (∀ q : Seg, (f q).ctl = q.ctl) → P (s.modErrors g f)
  goOnline : ∀ {s}, P s → ∀ g, P (s.goOnline g)
  restart : ∀ {s}, P s → ∀ g, P (s.restartInto g (s.startState g))
  disabled : ∀ {s}, P s → ∀ g, P ((s.modSeg g fun q => { q with hostDisable := true }).restartInto g .disabled)
  enableSegment : ∀ {s}, P s → ∀ g, P (s.enableSegment g)

theorem subEnd_sameErrors (p : PolicySet) (g : Fin 4) (q : Seg) : SameErrors q (subEnd p g q) := by
  unfold subEnd immediate windowUpdate
  dsimp only
  split <;> split <;> (try split) <;> (try split) <;> (try split) <;> exact ⟨rfl, rfl, rfl⟩

theorem denyChan_latch (p : PolicySet) (reason : Reason) (r : Chan) : (denyChan p reason r).latch = r.latch := by
  unfold denyChan
  dsimp only
  split
  · rfl
  · split <;> rfl

theorem CM.setLine_lamp (m : CM) (l : ConnLine) (x : Line) :
    (m.setLine l x).lampMode = m.lampMode ∧ (m.setLine l x).lampInd = m.lampInd := by
  cases l <;> exact ⟨rfl, rfl⟩

namespace Whole

variable {P : State → Prop} (h : Whole P) {s : State} (hs : P s)

include h in
theorem cm {f : CM → CM} (hs : P s)
    (e : ∀ m : CM, (f m).lampMode = m.lampMode ∧ (f m).lampInd = m.lampInd := by exact fun _ => ⟨rfl, rfl⟩) : P (s.modCm f) :=
  h.cmEq e hs

include h in
theorem ps {f : PS → PS} (hs : P s)
    (e : ∀ p : PS, (f p).active = p.active ∧ ∀ i : Fin 16, (f p).usage[i].expired = p.usage[i].expired := by
      exact fun _ => ⟨rfl, fun _ => rfl⟩) : P (s.modPs f) :=
  h.psEq e hs

open Closed (foldl)

include h hs

/-! ### Admission -/

theorem charge (grant : Nat) : P (s.charge grant) := by
  unfold State.charge
  split
  · refine h.ps hs fun p => ⟨rfl, fun i => ?_⟩
    by_cases same : i = ⟨grant, ‹_›⟩
    · subst same
      dsimp only
      rw [upd_same]
    · dsimp only
      rw [upd_ne _ _ same]
  · exact hs

theorem countVerdict (ch : Fin 8) (v : Verdict) : P (s.countVerdict ch v) := by
  unfold State.countVerdict
  cases v with
  | allow g k => exact h.updChanEq (h.charge hs g) ch _
  | deny reason d g =>
    have hd := h.updChanEq hs ch _ (denyChan_latch s.ps.active reason)
    dsimp only
    split
    · exact h.event hd _
    · exact hd

/-! ### Receipts -/

theorem recordService (c : Fin 32) (k : Nat) : P (s.recordService c k) := h.cell hs

theorem transferReceive (c : Fin 32) (ch : Fin 8) : P (s.transferReceive c ch) := by
  unfold State.transferReceive
  dsimp only
  have h₁ := h.countVerdict hs ch (s.admission false (transferRequest ch (s.transferCodes (s.cell c).captured) (s.cell c).captured))
  split
  · exact h.endCell h₁ c _
  · exact h.transferResume (h.created h₁) c

theorem watchReceive (c : Fin 32) (ch : Fin 8) : P (s.watchReceive c ch) := by
  unfold State.watchReceive
  dsimp only
  have h₁ := h.recordService (h.countVerdict hs ch (s.admission false (plainRequest ch
    (s.firstByte (requestRef (s.cell c).captured)) (targetOf (s.cell c).captured)))) c
    (s.firstByte (requestRef (s.cell c).captured))
  split
  · exact h.endCell h₁ c _
  · exact h.joinCycle (h.wrCounts (h.nextDue (h.wr (h.setGrant (h.setCell (h.newWatch rfl h₁) c _) c _)) c) c) _ c

theorem exchangeReceive (c : Fin 32) : P (s.exchangeReceive c) := by
  unfold State.exchangeReceive
  dsimp only
  split
  · exact hs
  · rename_i ch _
    have h₁ := h.recordService (h.countVerdict hs ch (s.admission false (plainRequest ch
      (s.firstByte (requestRef (s.cell c).captured)) (targetOf (s.cell c).captured)))) c
      (s.firstByte (requestRef (s.cell c).captured))
    split
    · exact h.endCell h₁ c _
    · exact h.joinRun (h.setCell (h.setGrant h₁ c _) c _) _ _

theorem unsuspend (ch : Fin 8) : P (s.unsuspend ch) := by
  unfold State.unsuspend
  exact h.event (h.updChanEq hs ch _) _

theorem arm (c : Fin 32) : P (s.arm c) := by
  unfold State.arm
  dsimp only
  split
  · exact h.setCell (h.ps (h.endCell hs _ _)) c _
  · exact h.setCell (h.ps hs) c _

theorem disarm (c : Fin 32) : P (s.disarm c) := by
  unfold State.disarm
  split
  · exact h.endCell (h.ps hs) c _
  · exact hs

/-! ### The board -/

theorem boardError (b : BoardError) : P (s.boardError b) := h.event (h.wrInfo (h.wrInfo (h.info hs) _ _) _ _) _

theorem cellError (c : Fin 32) (v : Word16) : P (s.cellError c v) := h.boardError (h.wr hs) _

theorem slotError (n : Fin 8) (v : Word16) : P (s.slotError n v) := h.boardError (h.wr hs) _

theorem post (c : Fin 32) (v : Word16) : P (s.post c v) := by
  unfold State.post
  split
  · exact h.posts (h.setCell hs c _)
  · exact h.cellError hs c v

theorem emptyCell (c : Fin 32) (v : Word16) : P (s.emptyCell c v) := by
  unfold State.emptyCell
  split <;> first | exact h.cell hs | exact h.cellError hs c v

theorem capture (c : Fin 32) (l : List (Fin 32)) : P (s.capture c l) := h.setCell (h.cell (h.posts hs)) c _

theorem hostWord (a : Nat) (w : HostWrite) : P (s.hostWord a w) := by
  have e : s.hostWord a w =
      if w.low then (if w.high then (s.wr a [byte w.data.toNat]).wr (a + 1) [byte (w.data.toNat / 0x100)]
        else s.wr a [byte w.data.toNat])
      else if w.high then s.wr (a + 1) [byte (w.data.toNat / 0x100)] else s := by
    unfold State.hostWord Mem.hostWrite
    dsimp only
    split <;> split <;> rfl
  rw [e]
  split <;> split <;> first | exact h.wr (h.wr hs) | exact h.wr hs | exact hs

omit h hs in
theorem watchedWrite {t : State} {a : Nat} {w : HostWrite} {ok : Word16 → Bool} {act : State → Word16 → State}
    (h : Whole P) (hs : P s) (ha : ∀ u v, P u → P (act u v)) (e : watchedWrite s a w ok act = .next t) : P t := by
  unfold Machine.watchedWrite at e
  dsimp only at e
  split at e
  · cases e; exact hs
  · split at e
    · cases e; exact hs
    · cases e; exact h.hostWord hs a w
    · cases e; exact h.finish (ha _ _ (h.hostWord hs a w))

/-! ### The connector -/

theorem setSupply (v : Supply) (t : Option Nat) : P (s.setSupply v t) := h.wrInfo (h.cm hs) _ _

theorem supplyFault (f : SupplyFault) : P (s.supplyFault f) := h.event (h.wrInfo (h.cm hs) _ _) _

theorem connectorEnds (r : Option Reason) : P (s.connectorEnds r) := by
  unfold State.connectorEnds
  split
  · exact hs
  · exact h.endCell (h.cm hs) _ _

theorem supplyFails (f : SupplyFault) : P (s.supplyFails f) := h.connectorEnds (h.supplyFault (h.setSupply hs _ _) f) _

theorem supplyUp : P s.supplyUp := h.connectorEnds (h.setSupply hs _ _) _

theorem connectorSupersede : P s.connectorSupersede := by
  unfold State.connectorSupersede
  split
  · exact hs
  · exact h.endCell (h.cm hs) _ _

theorem supplyStart : P s.supplyStart := by
  unfold State.supplyStart
  dsimp only
  split
  · exact h.supplyFails (h.setSupply hs _ _) _
  · split
    · exact h.supplyUp (h.setSupply hs _ _)
    · exact h.setSupply hs _ _

theorem connectorSupply (on : Bool) : P (s.connectorSupply on) := by
  unfold State.connectorSupply
  dsimp only
  split
  · exact h.supplyStart (h.wrInfo (h.cm hs) _ _)
  all_goals first | exact h.wrInfo (h.cm hs) _ _ | exact h.setSupply (h.wrInfo (h.cm hs) _ _) _ _

theorem connectorSettle (c : Fin 32) (v : Option Bool) : P (s.connectorSettle c v) := by
  unfold State.connectorSettle
  split
  · exact hs
  · split
    · exact h.setCell hs c _
    · exact h.connectorEnds hs _

theorem connectorReceive (c : Fin 32) : P (s.connectorReceive c) := by
  unfold State.connectorReceive
  extract_lets cap s₁ s₂ s₃ s₄
  have h₂ : P s₂ := by
    unfold s₂
    split
    · exact h.connectorLamp (h.connectorSupersede hs) _
    · exact h.connectorSupersede hs
  have h₄ : P s₄ := by
    unfold s₄
    split
    · exact h.connectorSupply (h.cm h₂) _
    · exact h.cm h₂
  exact h.connectorSettle h₄ c _

theorem connectorAbort : P s.connectorAbort := h.connectorEnds (h.setSupply hs _ _) _

theorem lineExpire (l : ConnLine) : P (s.lineExpire l) := by
  unfold State.lineExpire
  dsimp only
  split
  · exact h.cm (h.event (h.wrInfo (h.cm hs fun _ => CM.setLine_lamp ..) _ _) _)
  · exact h.event (h.wrInfo (h.cm hs fun _ => CM.setLine_lamp ..) _ _) _

/-! ### Aborts -/

theorem abortActive (c : Fin 32) : P (s.abortActive c) := by
  unfold State.abortActive
  split
  · exact h.cell hs
  · exact h.transferCause hs c _
  · exact h.watchCause hs c _ (.inl rfl)
  · exact h.disarm hs c
  · split
    · exact h.connectorAbort hs
    · exact hs
  all_goals exact hs

theorem abortCell (c : Fin 32) (v : Word16) : P (s.abortCell c v) := by
  unfold State.abortCell
  split
  · exact h.cellError hs c v
  · exact h.endCellOn (h.posts hs) _ c _
  · exact h.cell (h.wrCellWord hs c)
  · exact h.exchangeLost (h.wrCellWord hs c) c _ _
  · exact h.abortActive (h.wrCellWord hs c) c
  · exact h.wrCellWord hs c
  · exact h.wrCellWord hs c

theorem actHeld (c : Fin 32) : P (s.actHeld c) := by
  unfold State.actHeld
  dsimp only
  split
  · exact hs
  · split
    · exact h.exchangeLost (h.cell hs) c _ _
    · exact h.abortActive (h.cell hs) c
    all_goals exact h.cell hs

omit h hs in
theorem receive {t : State} {c : Fin 32} {k : Kind} {act : State → State} (h : Whole P) (hs : P s) (ha : P (act s))
    (e : receive s c k act = .next t) : P t := by
  unfold Machine.receive at e
  split at e
  · cases e; exact h.finish (h.actHeld ha c)
  · cases e; exact hs

omit h hs in
theorem receiveOp {t : State} {c : Fin 32} {k : Kind} {off op : Nat} {act : State → State} (h : Whole P) (hs : P s)
    (ha : P (act s)) (e : receiveOp s c k off op act = .next t) : P t := by
  unfold Machine.receiveOp at e
  split at e
  · exact h.receive hs ha e
  · cases e; exact hs

omit h hs in
theorem receiveChannel {t : State} {c : Fin 32} {op : Nat} {act : State → Fin 8 → State} (h : Whole P) (hs : P s)
    (ha : ∀ ch, P (act s ch)) (e : receiveChannel s c op act = .next t) : P t := by
  refine h.receiveOp hs ?_ e
  split
  · exact ha _
  · exact hs

omit h hs in
theorem receiveSegment {t : State} {c : Fin 32} {k : Kind} {op : Nat} {act : State → Fin 4 → State} (h : Whole P) (hs : P s)
    (ha : ∀ g, P (act s g)) (e : receiveSegment s c k op act = .next t) : P t := by
  refine h.receiveOp hs ?_ e
  split
  · exact ha _
  · exact hs

/-! ### Segments and slots -/

theorem subWindowEnd (g : Fin 4) : P (s.subWindowEnd g) := by
  unfold State.subWindowEnd
  exact h.levelRun (h.stuWrite (h.segEq hs (subEnd_sameErrors _ _)) g) g _

theorem throttleLoad (g : Fin 4) (v : Nat) : P (s.throttleLoad g v) := by
  unfold State.throttleLoad
  dsimp only
  split
  · exact hs
  · exact h.levelRun (h.segEq hs) g _

theorem setFreeze (g : Fin 4) (v : Bool) : P (s.setFreeze g v) := by
  unfold State.setFreeze
  split
  · exact hs
  · exact h.lrWrite (h.segEq hs) g

theorem resetRegulator (g : Fin 4) : P (s.resetRegulator g) := by
  unfold State.resetRegulator
  exact h.levelRun (h.segEq hs) g _

theorem entryDisabled (e : Entry) : P (s.entryDisabled e) := by
  unfold State.entryDisabled
  split
  · exact h.exchangeLost hs _ _ _
  · split
    · exact h.watchEnd hs _ _
    · exact h.dropEntry hs _
  all_goals exact h.transferEntryLost (h.dropEntry hs _) _ _

theorem disableSegment (g : Fin 4) : P (s.disableSegment g) := by
  unfold State.disableSegment
  dsimp only
  split
  · exact h.segEq hs
  · exact foldl _ _ (fun _ e hu => h.entryDisabled hu e) (h.disabled hs g)

theorem restartSegment (g : Fin 4) (options : Nat) : P (s.restartSegment g options).1 := by
  unfold State.restartSegment
  extract_lets t counts u
  have hu : P u := by
    unfold u
    split
    · exact h.stuWrite (h.segEq (h.restart hs g)) g
    · exact h.restart hs g
  dsimp only
  split
  · exact h.resetRegulator hu g
  · exact hu

theorem slotFreed (n : Fin 8) (v : Word16) : P (s.slotFreed n v) := by
  unfold State.slotFreed
  split
  · exact h.setSlot hs n _
  · unfold State.withdrawBlock
    dsimp only
    split
    · exact h.setSlot hs n _
    · split
      · exact h.transfer (h.setSlot hs n _)
      · exact h.setSlot hs n _
  · exact h.slotError hs n v
  · exact h.slotError hs n v

/-! ### Vehicle state and time -/

theorem putVehicle (e : Engine) (m : Motion) : P (s.putVehicle e m) := h.vehicleChanged (h.event (h.wrInfo (h.vsm hs) _ _) _)

theorem setVehicle (e : Engine) (m : Motion) : P (s.setVehicle e m) := by
  unfold State.setVehicle
  split
  · exact hs
  · exact h.putVehicle hs e m

theorem observeState (g : Fin 4) (f : CanFrame) : P (s.observeState g f) := by
  unfold State.observeState
  dsimp only
  split
  · exact h.setVehicle (h.vsm hs) _ _
  · exact hs

theorem goStale : P s.goStale := h.putVehicle (h.vsm hs) _ _

theorem atUs (us : Fin 1000) : P (s.atUs us) := h.time hs

theorem runCommit (c : Fin 32) : P (s.runCommit c) := by
  unfold State.runCommit
  dsimp only
  split
  · exact h.endCell hs c _
  · split
    · exact h.endCell hs c _
    · exact h.endCell (h.applySet hs) c _

theorem ignitionExpire : P s.ignitionExpire := by
  unfold State.ignitionExpire
  extract_lets t on u
  have hu : P u := h.vehicleChanged (h.event (h.wrInfo (h.vsm hs) _ _) _)
  split
  · unfold State.ignitionEdge
    split
    · exact h.runCommit (h.ps hu) _
    · exact hu
  · exact hu

theorem countDowns : P s.countDowns := by
  unfold State.countDowns
  refine foldl (P := P) _ _ (fun t ch ht => h.updChanEq ht ch _ fun r => ?_) hs
  unfold countDown
  split <;> rfl

/-! ### Commands -/

omit hs in
theorem ifEvent {t u : State} {b : Prop} [Decidable b] (hs : P s) (hu : P u)
    (e : (if b then complete u else noEvent s) = .next t) : P t := by
  split at e
  · cases e; exact h.finish hu
  · cases e; exact hs

omit hs in
theorem completed {t u : State} (hu : P u) (e : complete u = .next t) : P t := by
  cases e
  exact h.finish hu

omit h hs in
theorem ite {t u : State} (b : Prop) [Decidable b] (ht : P t) (hu : P u) : P (if b then t else u) := by
  split <;> assumption

theorem registerWrite {f : Regs → Regs} {t : State} (e : registerWrite s f = .next t) : P t := by
  unfold Machine.registerWrite at e
  split at e
  · exact h.completed (h.regs hs) e
  · cases e; exact hs
  · cases e; exact hs

theorem ownFrame {g : Fin 4} {us : Fin 1000} {t : State} (e : execOwnFrameAcknowledged g us s = .next t) : P t := by
  unfold execOwnFrameAcknowledged at e
  split at e
  · cases e; exact hs
  · rename_i o _
    extract_lets s₁ s₂ s₃ s₄ s₅ at e
    have h₃ : P s₃ := h.countBits (h.segEq (h.atUs hs us)) g _
    have h₄ : P s₄ := by
      unfold s₄
      split
      · exact h.frameSent h₃ g _ _
      · exact h₃
    have h₅ : P s₅ := h.modErrors h₄ g _ fun _ => rfl
    clear_value s₅
    cases e
    exact h.finish (h.observeState h₅ g _)

theorem otherFrame {g : Fin 4} {us : Fin 1000} {f : CanFrame} {t : State} (e : execFrameCompleted g us f s = .next t) :
    P t := by
  unfold execFrameCompleted at e
  extract_lets s₁ s₂ s₃ at e
  have h₂ : P s₂ := h.countBits (h.segEq (h.atUs hs us)) g _
  have h₃ : P s₃ := h.modErrors h₂ g _ fun _ => rfl
  clear_value s₃
  cases e
  exact h.finish (h.offerTransport (h.observeState h₃ g f) g f)

/-- Every command that resets nothing keeps it. -/
theorem exec {c : Instr} {t : State} (hc : resetting c = false) (e : exec c s = .next t) : P t := by
  cases c <;> simp only [resetting, Bool.true_eq_false] at hc <;> unfold Machine.exec at e <;> dsimp only at e
  case runWrite v => exact h.registerWrite hs e
  case retainWrite v => exact h.registerWrite hs e
  case doneIrqEnableWrite v => exact h.registerWrite hs e
  case doneSummaryClear u w => exact h.registerWrite hs e
  case eventSummaryClear w => exact h.registerWrite hs e
  case eventEnableWrite w => exact h.registerWrite hs e
  case ignoredRegisterWrite a w =>
    cases e; exact hs
  case hostRamWrite a w =>
    unfold execHostRamWrite at e
    split at e
    · cases e
    · split at e
      · cases e; exact hs
      · split at e <;> cases e <;> first | exact hs | exact h.hostWord hs a w
  case cellPost c w => exact h.watchedWrite hs (fun _ _ hu => h.post hu _ _) e
  case cellEmpty c w => exact h.watchedWrite hs (fun _ _ hu => h.emptyCell hu _ _) e
  case cellAbort c w => exact h.watchedWrite hs (fun _ _ hu => h.abortCell hu _ _) e
  case cellInvalidWrite c w => exact h.watchedWrite hs (fun _ _ hu => h.cellError hu _ _) e
  case slotFilled n w => exact h.watchedWrite hs (fun _ _ hu => h.fillSlot hu _) e
  case slotFree n w => exact h.watchedWrite hs (fun _ _ hu => h.slotFreed hu _ _) e
  case slotInvalidWrite n w => exact h.watchedWrite hs (fun _ _ hu => h.slotError hu _ _) e
  case cellTake =>
    unfold execCellTake at e
    split at e
    · dsimp only at e
      split at e
      · cases e; exact h.finish (h.endCell (h.capture hs _ _) _ _)
      · cases e; exact h.finish (h.capture hs _ _)
    · cases e; exact hs
  case exchangeAdmission c => exact h.receive hs (h.exchangeReceive hs c) e
  case transferReceipt c =>
    refine h.receive hs ?_ e
    split
    · exact h.transferReceive hs c _
    · exact hs
  case watchReceipt c =>
    refine h.receive hs ?_ e
    split
    · exact h.watchReceive hs c _
    · exact hs
  case check c =>
    refine h.receive hs ?_ e
    split
    · exact h.endCell (h.cell hs) c _
    · exact hs
  case commitNow c => exact h.receiveOp hs (h.runCommit hs c) e
  case commitAtIgnition c => exact h.receiveOp hs (h.arm hs c) e
  case clearAccrued c => exact h.receiveChannel hs (fun ch => h.endCell (h.updChanEq hs ch _) c _) e
  case clearLatch c =>
    refine h.receiveChannel hs (fun ch => ?_) e
    split
    · exact h.endCell (h.clearLatch hs ch) c _
    · exact h.endCell hs c _
  case releaseSuspension c =>
    refine h.receiveChannel hs (fun ch => ?_) e
    split
    · exact h.endCell (h.unsuspend hs ch) c _
    · exact h.endCell hs c _
  case connector c => exact h.receive hs (h.connectorReceive hs c) e
  case load c => exact h.receiveSegment hs (fun g => h.endCell (h.throttleLoad hs g _) c _) e
  case freeze c => exact h.receiveSegment hs (fun g => h.endCell (h.setFreeze hs g _) c _) e
  case unfreeze c => exact h.receiveSegment hs (fun g => h.endCell (h.setFreeze hs g _) c _) e
  case queueDeadlineExpiry c =>
    unfold execQueueDeadlineExpiry at e
    split at e
    · exact h.ifEvent hs (h.deadline hs _ _) e
    · cases e; exact hs
  case frameOffer g us =>
    unfold execFrameOffer at e
    dsimp only at e
    split at e
    · cases e; exact hs
    · cases e; exact h.finish (h.segEq (h.atUs hs us))
  case ownFrameAcknowledged g us => exact h.ownFrame hs e
  case transmitError g =>
    unfold execTransmitError at e
    refine h.ifEvent hs ?_ e
    exact h.modErrors (h.errorFrame hs g) g _ fun _ => rfl
  case receiveError g =>
    unfold execReceiveError complete at e
    cases e
    exact h.finish (h.modErrors (h.errorFrame (h.segEq hs) g) g _ fun _ => rfl)
  case frameCompleted g us f => exact h.otherFrame hs e
  case creditWaitExpiry g x => exact h.ifEvent hs (h.failExchange hs g x _ _ _) e
  case responseWaitExpiry g x => exact h.ifEvent hs (h.failExchange hs g x _ _ _) e
  case partWaitExpiry g x => exact h.ifEvent hs (h.failExchange hs g x _ _ _) e
  case joinComplete g =>
    unfold execJoinComplete at e
    split at e
    · cases e; exact h.finish (h.goOnline hs g)
    · cases e; exact hs
  case busOffRecovery g =>
    unfold execBusOffRecovery at e
    split at e
    · cases e; exact h.finish (h.goOnline hs g)
    · cases e; exact hs
  case subWindowEnd g => exact h.ifEvent hs (h.subWindowEnd hs g) e
  case feedTimerExpiry c =>
    unfold execFeedTimerExpiry at e
    split at e
    · exact h.ifEvent hs (h.transferCause (h.transfer hs) c _) e
    · cases e; exact hs
  case keepaliveTimerExpiry c =>
    unfold execKeepaliveTimerExpiry at e
    split at e
    · exact h.ifEvent hs (h.keepaliveExpire hs c _) e
    · cases e; exact hs
  case watchDue c =>
    unfold execWatchDue at e
    split at e
    · exact h.ifEvent hs (h.watchDue hs c) e
    · cases e; exact hs
  case millisecondTick =>
    unfold execMillisecondTick at e
    dsimp only at e
    split at e
    · cases e; exact h.finish (h.wrInfo (h.time (h.time hs)) _ _)
    · cases e; exact h.finish (h.time hs)
    · cases e; exact h.finish (h.time hs)
  case secondsTick => exact h.ifEvent hs (h.countDowns (h.wrInfo (h.time hs) _ _)) e
  case grantExpiry i =>
    unfold execGrantExpiry at e
    split at e
    · refine h.completed ?_ e
      exact h.expired hs fun _ => rfl
    · cases e; exact hs
  case suspensionEnd ch => exact h.ifEvent hs (h.unsuspend hs ch) e
  case connectorLineRawChange l v => cases e; exact h.finish (h.cm hs fun _ => CM.setLine_lamp ..)
  case connectorDebounceExpiry l => exact h.ifEvent hs (h.lineExpire hs l) e
  case lampBlinkToggle => exact h.ifEvent hs (h.cm hs) e
  case supplyGoodAsserted => exact h.completed (Whole.ite _ (h.supplyUp (h.cm hs)) (h.cm hs)) e
  case supplyGoodWithdrawn => exact h.completed (Whole.ite _ (h.supplyFails (h.cm hs) _) (h.cm hs)) e
  case overcurrentAsserted v => exact h.completed (Whole.ite _ (h.cm hs) (h.supplyFails (h.cm hs) _)) e
  case supplyStartTimerExpiry => exact h.ifEvent hs (h.supplyFails hs _) e
  case ignitionRawChange v => cases e; exact h.finish (h.vsm hs)
  case stalenessTimerExpiry => exact h.ifEvent hs (h.goStale hs) e
  case recessiveRunCounted g => exact h.ifEvent hs (h.segEq hs) e
  case disable c => exact h.receiveSegment hs (fun g => h.endCell (h.disableSegment hs g) c _) e
  case enable c => exact h.receiveSegment hs (fun g => h.endCell (h.enableSegment hs g) c _) e
  case restart c => exact h.receiveSegment hs (fun g => h.endCell (h.restartSegment hs g _) c _) e
  case departure => exact h.ifEvent hs (h.withdrawGrants (h.cm hs)) e
  case ignitionDebounceExpiry => exact h.ifEvent hs (h.ignitionExpire hs) e

end Whole

end Sys2Proof.Machine
end

section
/-! PROOFS. Commits, departures and restarts, from the work of cells: what a property that the work keeps has still to keep of the
active set, of the units' records and of a restart (R13, R16 to R20, R22, R89, R91). -/

namespace Sys2Proof.Machine

theorem regulatorTakeup_sameErrors (old new : PolicySet) (g : Fin 4) (now : Nat) (q : Seg) :
    SameErrors q (regulatorTakeup old new g now q) := by
  unfold regulatorTakeup Seg.rewindow
  dsimp only
  split <;> split <;> exact ⟨rfl, rfl, rfl⟩

namespace Work

open Closed (foldl)

variable {P : State → Prop} (h : Work P) {s : State}

include h

theorem segmentTakeup (restart : ∀ {t}, P t → ∀ g, P (t.restartInto g (t.startState g))) (hs : P s) (old : PolicySet) (g : Fin 4) :
    P (s.segmentTakeup old g) := by
  unfold State.segmentTakeup
  extract_lets new t was u v
  have ht : P t := by
    unfold t
    split
    · exact restart hs g
    · exact hs
  have hu : P u := h.seg (regulatorTakeup_sameErrors _ _ _ _) ht
  have hv : P v := by
    unfold v
    split
    · exact hu
    · exact h.levelSettle hu g _
  exact h.paceTakeup hv g

theorem segmentsTakeup (restart : ∀ {t}, P t → ∀ g, P (t.restartInto g (t.startState g))) (hs : P s) (old : PolicySet) :
    P (s.segmentsTakeup old) := by
  unfold State.segmentsTakeup
  exact foldl (P := P) _ _ (fun _ g ht => h.segmentTakeup restart ht old g) hs

theorem setVehicle (vsm : ∀ {s f}, P s → P (s.modVsm f)) (hs : P s) (e : Engine) (m : Motion) : P (s.setVehicle e m) := by
  unfold State.setVehicle
  split
  · exact hs
  · exact h.vehicleChanged (h.event (h.wrInfo (vsm hs) _ _) _)

theorem vehicleTakeup (vsm : ∀ {s f}, P s → P (s.modVsm f)) (hs : P s) (old : VehSet) : P (s.vehicleTakeup old) := by
  unfold State.vehicleTakeup
  dsimp only
  split
  · exact h.setVehicle vsm (vsm hs) _ _
  · split
    · unfold State.goStale State.putVehicle
      exact h.vehicleChanged (h.event (h.wrInfo (vsm (vsm hs)) _ _) _)
    · exact hs

theorem thresholdTakeup (hs : P s) : P s.thresholdTakeup := by
  unfold State.thresholdTakeup
  dsimp only
  refine foldl (P := P) _ _ (fun t ch ht => h.updChanEq ht ch _ fun r => ?_) hs
  split <;> rfl

theorem publishSet (ps : ∀ {s f}, (∀ p : PS, (f p).active = p.active ∧ ∀ i : Fin 16, (f p).usage[i].expired = p.usage[i].expired) →
    P s → P (s.modPs f)) (hs : P s) : P s.publishSet := by
  unfold State.publishSet State.wrMirror
  dsimp only
  refine h.event (h.wrInfo ?_ _ _) _
  exact ps (fun _ => ⟨rfl, fun _ => rfl⟩) (h.wr hs)

/-- A commit keeps what its change of the active set brings about. -/
theorem applySet (restart : ∀ {t}, P t → ∀ g, P (t.restartInto g (t.startState g))) (vsm : ∀ {s f}, P s → P (s.modVsm f))
    (ps : ∀ {s f}, (∀ p : PS, (f p).active = p.active ∧ ∀ i : Fin 16, (f p).usage[i].expired = p.usage[i].expired) →
      P s → P (s.modPs f)) {p : PolicySet} (hs : P (s.takeSet p)) : P (s.applySet p) := by
  rw [State.applySet_eq]
  exact h.publishSet ps (h.arbitrateAll (h.lampRefresh (h.thresholdTakeup
    (h.vehicleTakeup vsm (h.segmentsTakeup restart (h.recheckAll (h.readmitAll hs)) _) _))))

theorem withdrawGrants (ps : ∀ {s f}, (∀ p : PS, (f p).active = p.active ∧ ∀ i : Fin 16, (f p).usage[i].expired = p.usage[i].expired) →
    P s → P (s.modPs f)) (hs : P s) (ha : P s.withoutGrants) : P s.withdrawGrants := by
  unfold State.withdrawGrants
  split
  · exact hs
  · exact h.publishSet ps (h.lampRefresh (h.testerGone ha _))

/-! ### Properties that every update of a segment keeps -/

section
variable (k : ∀ {s g f}, P s → P (s.modSeg g f)) (hs : P s)
include k hs

theorem setCtl (g : Fin 4) (c : Ctl) : P (s.setCtl g c) := by
  unfold State.setCtl
  split
  · exact hs
  · exact h.event (h.stuWrite (k hs) g) _

theorem restartInto (g : Fin 4) (c : Ctl) : P (s.restartInto g c) := k (h.failBusy (h.setCtl k (k hs) g c) g _)

theorem modErrors (g : Fin 4) (f : Seg → Seg) : P (s.modErrors g f) := by
  unfold State.modErrors
  split
  · unfold State.settleErrors
    dsimp only
    split
    · exact k hs
    · split
      · exact k (h.failBusy (h.setCtl k (k (k hs)) g _) g _)
      · split
        · exact k hs
        · exact h.arbitrate (h.setCtl k (k hs) g _) g
  · exact hs

theorem goOnline (g : Fin 4) : P (s.goOnline g) := h.arbitrate (h.setCtl k (k hs) g _) g

theorem enableSegment (g : Fin 4) : P (s.enableSegment g) := by
  unfold State.enableSegment
  dsimp only
  split
  · exact h.setCtl k (k (k hs)) g _
  · exact k hs

end

end Work

/-! ### Error counts and controller states (R64 to R68) -/

variable {s t : State}

/-- The error counts of a controller agree with its state. -/
abbrev CountsAgree (q : Seg) : Prop :=
  if q.ctl = .joining ∨ q.ctl = .disabled then q.tecCount = 0 ∧ q.recCount = 0 else q.ctl = errorState q.tecCount q.recCount

theorem SameErrors.agree {q q' : Seg} (same : SameErrors q q') (hq : CountsAgree q) : CountsAgree q' := by
  obtain ⟨ctl, tec, rec_⟩ := same
  unfold CountsAgree
  rw [ctl, tec, rec_]
  exact hq

/-- The error counts of every controller agree with its state. -/
structure CountsOn (s : State) : Prop where
  agree : ∀ g : Fin 4, CountsAgree (s.seg g)

theorem CountsOn.modSeg {g : Fin 4} (hs : ∀ j, j ≠ g → CountsAgree (s.seg j)) {f : Seg → Seg} (agrees : CountsAgree (f (s.seg g))) :
    CountsOn (s.modSeg g f) := by
  refine ⟨fun j => ?_⟩
  by_cases same : j = g
  · subst same
    rw [State.seg_modSeg]
    exact agrees
  · rw [State.seg_modSeg_ne _ _ same]
    exact hs j same

theorem work_countsOn : Work CountsOn where
  wr hs := ⟨hs.agree⟩
  regs hs := ⟨hs.agree⟩
  info hs := ⟨hs.agree⟩
  cell hs := ⟨hs.agree⟩
  lampRefresh {s} hs := by
    unfold State.lampRefresh
    split <;> exact ⟨hs.agree⟩
  releaseTransfer {s} hs c := by
    unfold State.releaseTransfer State.lampRefresh
    split <;> exact ⟨hs.agree⟩
  transfer hs := ⟨hs.agree⟩
  slot hs := ⟨hs.agree⟩
  watchGone hs := ⟨hs.agree⟩
  watchEq _ hs := ⟨hs.agree⟩
  pends _ hs := ⟨hs.agree⟩
  chan _ hs := ⟨hs.agree⟩
  seg same hs := CountsOn.modSeg (fun j _ => hs.agree j) ((same _).agree (hs.agree _))

/-- A controller enters a state with which its counts agree. -/
theorem CountsOn.setCtl {g : Fin 4} {k : Ctl} (hs : ∀ j, j ≠ g → CountsAgree (s.seg j))
    (agrees : CountsAgree { s.seg g with ctl := k }) : CountsOn (s.setCtl g k) := by
  refine ⟨fun j => ?_⟩
  by_cases same : j = g
  · subst same
    refine SameErrors.agree (q := { s.seg j with ctl := k }) ?_ agrees
    rw [State.setCtl_seg]
    split
    case isTrue e => exact ⟨e, rfl, rfl⟩
    case isFalse => exact ⟨rfl, rfl, rfl⟩
  · rw [State.setCtl_seg_ne _ _ same]
    exact hs j same

theorem CountsOn.restartInto {g : Fin 4} {k : Ctl} (hs : ∀ j, j ≠ g → CountsAgree (s.seg j)) (hk : k = .joining ∨ k = .disabled) :
    CountsOn (s.restartInto g k) := by
  unfold State.restartInto
  dsimp only
  refine work_countsOn.segEq ?_
  refine work_countsOn.failBusy ?_ g _
  refine CountsOn.setCtl (fun j ne => ?_) ?_
  · rw [State.seg_modSeg_ne _ _ ne]
    exact hs j ne
  · simp [CountsAgree, hk]

theorem State.startState_or (s : State) (g : Fin 4) : s.startState g = .joining ∨ s.startState g = .disabled := by
  unfold State.startState
  split <;> simp

theorem errorState_sends (tec rec_ : Nat) : errorState tec rec_ ≠ .joining ∧ errorState tec rec_ ≠ .disabled := by
  unfold errorState
  split
  · simp
  · split
    · simp
    · split <;> simp

theorem countsAgree_errorState (q : Seg) (tec rec_ : Nat) (e : q.ctl = errorState tec rec_) (ht : q.tecCount = tec)
    (hr : q.recCount = rec_) : CountsAgree q := by
  have := errorState_sends tec rec_
  subst ht hr
  simp [CountsAgree, e, this]

/-- After a change of its counts a controller that sends settles into the state that they give. -/
theorem CountsOn.settleErrors {g : Fin 4} (hs : ∀ j, j ≠ g → CountsAgree (s.seg j)) (sends : (s.seg g).ctl.sends = true) :
    CountsOn (s.settleErrors g) := by
  have h := work_countsOn
  have set : ∀ {k}, k = errorState (s.seg g).tecCount (s.seg g).recCount → CountsOn (s.setCtl g k) := fun e =>
    CountsOn.setCtl hs (countsAgree_errorState _ _ _ e rfl rfl)
  unfold State.settleErrors
  simp only [sends, Bool.not_true, Bool.false_eq_true, if_false]
  split
  case h_1 off =>
    unfold State.busOff
    dsimp only
    refine h.segEq ?_
    refine h.failBusy ?_ g _
    refine CountsOn.setCtl (fun j ne => ?_) ?_
    · rw [State.seg_modSeg_ne _ _ ne]
      exact hs j ne
    · rw [State.seg_modSeg]
      exact countsAgree_errorState _ _ _ off.symm rfl rfl
  case h_2 k _ =>
    split
    case isTrue same =>
      refine ⟨fun j => ?_⟩
      by_cases e : j = g
      · subst e
        exact countsAgree_errorState _ _ _ same.symm rfl rfl
      · exact hs j e
    case isFalse => exact h.arbitrate (set rfl) g

theorem whole_countsOn : Whole CountsOn := by
  have h := work_countsOn
  have restart : ∀ {t}, CountsOn t → ∀ g, CountsOn (t.restartInto g (t.startState g)) := fun ht g =>
    CountsOn.restartInto (fun j _ => ht.agree j) (State.startState_or _ g)
  refine { work_countsOn with
    posts := fun hs => ⟨hs.agree⟩
    time := fun hs => ⟨hs.agree⟩
    vsm := fun hs => ⟨hs.agree⟩
    cmEq := fun _ hs => ⟨hs.agree⟩
    psEq := fun _ hs => ⟨hs.agree⟩
    created := ?created
    newWatch := fun _ hs => ⟨hs.agree⟩
    clearLatch := ?clearLatch
    connectorLamp := ?connectorLamp
    expired := ?expired
    applySet := fun hs => h.applySet restart (fun hs => ⟨hs.agree⟩) (fun _ hs => ⟨hs.agree⟩) ⟨hs.agree⟩
    withdrawGrants := fun hs => h.withdrawGrants (fun _ hs => ⟨hs.agree⟩) hs ⟨hs.agree⟩
    modErrors := ?modErrors
    goOnline := ?goOnline
    restart := restart
    disabled := ?disabled
    enableSegment := ?enableSegment }
  case created =>
    intro s c t grant hs
    refine h.lampRefresh (h.wrProgress (h.setGrant (h.setCell ?_ _ _) _ _) _)
    exact ⟨hs.agree⟩
  case expired =>
    intro s f ch id hs _
    refine h.lampRefresh (h.recheckGrant ?_ _ _)
    exact ⟨hs.agree⟩
  case clearLatch =>
    intro s hs ch
    unfold State.clearLatch
    split
    · refine h.lampRefresh (h.event ?_ _)
      rw [State.updChan_eq]
      split <;> exact ⟨hs.agree⟩
    · exact hs
  case connectorLamp =>
    intro s hs l
    unfold State.connectorLamp
    exact h.wrInfo (h.wrInfo (h.lampRefresh (s := s.modCm _) ⟨hs.agree⟩) _ _) _ _
  case modErrors =>
    intro s hs g f ctl
    unfold State.modErrors
    split
    case isTrue sends =>
      refine CountsOn.settleErrors (fun j ne => ?_) ?_
      · rw [State.seg_modSeg_ne _ _ ne]
        exact hs.agree j
      · rw [State.seg_modSeg, ctl]
        exact sends
    case isFalse => exact hs
  case goOnline =>
    intro s hs g
    unfold State.goOnline
    refine h.arbitrate ?_ g
    refine CountsOn.setCtl (fun j ne => ?_) ?_
    · rw [State.seg_modSeg_ne _ _ ne]
      exact hs.agree j
    · exact countsAgree_errorState _ 0 0 rfl (by simp) (by simp)
  case disabled =>
    intro s hs g
    refine CountsOn.restartInto (fun j ne => ?_) (.inr rfl)
    rw [State.seg_modSeg_ne _ _ ne]
    exact hs.agree j
  case enableSegment =>
    intro s hs g
    have marked : CountsOn (s.modSeg g fun q => { q with hostDisable := false }) := h.segEq hs
    unfold State.enableSegment
    extract_lets u
    split
    · refine CountsOn.setCtl (fun j ne => ?_) (by simp [CountsAgree])
      rw [State.seg_modSeg_ne _ _ ne]
      exact marked.agree j
    · exact marked

theorem CountsOn.softUnits (s : State) (r : Bool) : CountsOn (s.softUnits r) := by
  refine ⟨fun g => ?_⟩
  rw [State.softUnits_seg]
  simp only [CountsAgree, Seg.reset]
  split <;> simp_all

theorem CountsOn.of_errors {u : State} (hs : CountsOn s) (same : ∀ g, SameErrors (s.seg g) (u.seg g)) : CountsOn u :=
  ⟨fun g => (same g).agree (hs.agree g)⟩

theorem CountsOn.step (hs : CountsOn s) (e : step s = .next t) : CountsOn t := by
  refine step_keeps (fun _ _ h => ⟨h.agree⟩) (fun c s t hs e => ?_) hs e
  cases hc : resetting c
  case false => exact whole_countsOn.exec hs hc e
  case true =>
    have h := work_countsOn
    rcases exec_reset hc e with rfl | rfl | ⟨r, rfl⟩ | rfl | rfl | rfl
    · exact ⟨show ErrorsAgree State.reset by decide +kernel⟩
    · refine h.finish (hs.of_errors fun g => ?_)
      rw [State.readied_seg, State.cleared_seg]
      exact ⟨rfl, rfl, rfl⟩
    · exact h.finish (h.lampRefresh (CountsOn.softUnits s r))
    · refine h.finish (hs.of_errors fun g => ?_)
      rw [State.readied_seg, State.stepCounters_seg]
      exact ⟨rfl, rfl, rfl⟩
    · refine h.finish (hs.of_errors fun g => ?_)
      rw [State.readied_seg, show s.stepCounters.wrMirror.seg g = _ from s.stepCounters_seg g]
      exact ⟨rfl, rfl, rfl⟩
    · exact hs

/-- Settles O9: a controller leaves or enters DISABLED only with its segment's enabling, and every change of a count or of the state
settles the two, while the work of cells changes neither. -/
theorem stepKeepsControllers : Obligations.StepKeepsControllers :=
  ⟨fun _ _ hs e => disabledAgrees_iff.2 (CtlOn.step (disabledAgrees_iff.1 hs) e), fun _ _ hs e => (CountsOn.step ⟨hs⟩ e).agree⟩

end Sys2Proof.Machine
end

section
/-! PROOFS. The lamp indication (R157, R158) and the pending ends of watches (R149) under every command. -/

namespace Sys2Proof.Machine

variable {s t : State}

namespace Whole

/-- The updates of segments that `Whole` names are updates of a segment and work of its cells, for a property that these keep. -/
theorem ofAnySeg {P : State → Prop} (h : Work P) (k : ∀ {s g f}, P s → P (s.modSeg g f)) (posts : ∀ {s l}, P s → P (s.setPosts l))
    (time : ∀ {s f}, P s → P (s.modTime f)) (vsm : ∀ {s f}, P s → P (s.modVsm f))
    (cmEq : ∀ {s f}, (∀ m : CM, (f m).lampMode = m.lampMode ∧ (f m).lampInd = m.lampInd) → P s → P (s.modCm f))
    (psEq : ∀ {s f}, (∀ p : PS, (f p).active = p.active ∧ ∀ i : Fin 16, (f p).usage[i].expired = p.usage[i].expired) → P s →
      P (s.modPs f))
    (created : ∀ {s c t grant}, P s →
      P (((((s.setTransfer c (some t)).setCell c .active).setGrant c grant).wrProgress c).lampRefresh))
    (newWatch : ∀ {s c w}, w.pending = none → P s → P (s.setWatch c (some w))) (clearLatch : ∀ {s}, P s → ∀ ch, P (s.clearLatch ch))
    (connectorLamp : ∀ {s}, P s → ∀ l, P (s.connectorLamp l))
    (expired : ∀ {s f ch id}, P s → (∀ p : PS, (f p).active = p.active) → P ((s.modPs f).recheckGrant ch id).lampRefresh)
    (applySet : ∀ {s p}, P s → P (s.applySet p)) (withdrawGrants : ∀ {s}, P s → P s.withdrawGrants) : Whole P :=
  { h with
    posts, time, vsm, cmEq, psEq, created, newWatch, clearLatch, connectorLamp, expired, applySet, withdrawGrants
    modErrors := fun hs g f _ => h.modErrors k hs g f
    goOnline := h.goOnline k
    restart := fun hs g => h.restartInto k hs g _
    disabled := fun hs g => h.restartInto k (k hs) g _
    enableSegment := h.enableSegment k }

end Whole

/-! ### The indication (R157) -/

/-- AUTO blinks: a transfer runs or a latch stands. -/
abbrev Blinks (s : State) : Prop := (∃ c, (s.transfer c).isSome = true) ∨ ∃ ch, (s.chan ch).latch.isSome = true

theorem Vector.any_toList {α : Type} {n : Nat} (v : Vector α n) (p : α → Bool) : v.toList.any p = true ↔ ∃ i : Fin n, p v[i] = true := by
  rw [List.any_eq_true]
  constructor
  · rintro ⟨x, mem, px⟩
    obtain ⟨i, hi, rfl⟩ := Vector.mem_iff_getElem.1 (Vector.mem_toList_iff.1 mem)
    exact ⟨⟨i, hi⟩, px⟩
  · rintro ⟨i, pi⟩
    exact ⟨v[i], Vector.mem_toList_iff.2 (Vector.getElem_mem i.2), pi⟩

theorem State.autoIndication_eq (s : State) [Decidable (Blinks s)] :
    s.autoIndication = if Blinks s then .blink else if s.anyActiveGrant then .on else .off := by
  have iff : (s.transfers.toList.any Option.isSome || s.chans.toList.any fun r => r.latch.isSome) = true ↔ Blinks s := by
    rw [Bool.or_eq_true, Vector.any_toList, Vector.any_toList]
    rfl
  unfold State.autoIndication
  simp only [iff]

/-- The indication is a matter of the lamp mode, of which transfers run and latches stand, and of the active grants. -/
theorem State.indication_congr (mode : t.cm.lampMode = s.cm.lampMode) (blinks : Blinks t ↔ Blinks s)
    (grants : t.anyActiveGrant = s.anyActiveGrant) : t.indication = s.indication := by
  classical
  unfold State.indication
  rw [mode, State.autoIndication_eq t, State.autoIndication_eq s, grants]
  simp only [blinks]

/-- The lamp shows the indication. -/
structure LampRight (s : State) : Prop where
  shown : s.cm.lampInd = s.indication

theorem LampRight.congr (hs : LampRight s) (mode : t.cm.lampMode = s.cm.lampMode) (ind : t.cm.lampInd = s.cm.lampInd)
    (blinks : Blinks t ↔ Blinks s) (grants : t.anyActiveGrant = s.anyActiveGrant) : LampRight t :=
  ⟨by rw [ind, hs.shown, State.indication_congr mode blinks grants]⟩

theorem CM.show_lampInd (m : CM) (i : Lamp) (now : Nat) : (m.show i now).lampInd = i ∧ (m.show i now).lampMode = m.lampMode := by
  cases i <;> exact ⟨rfl, rfl⟩

/-- Whatever went before, the lamp is right once the indication is derived afresh. -/
theorem LampRight.lampRefresh (s : State) : LampRight s.lampRefresh := by
  unfold State.lampRefresh
  split
  case isTrue same => exact ⟨same.symm⟩
  case isFalse =>
    have shown := CM.show_lampInd s.cm s.indication s.time.clock
    have same : (s.modCm fun m => m.show s.indication s.time.clock).wrLamp.indication = s.indication :=
      State.indication_congr shown.2 Iff.rfl rfl
    exact ⟨shown.1.trans same.symm⟩

theorem LampRight.updated {α : Type} {n : Nat} (v : Vector α n) (c : Fin n) (f : α → α) (p : α → Bool) (same : p (f v[c]) = p v[c]) :
    (∃ i : Fin n, p (upd v c f)[i] = true) ↔ ∃ i : Fin n, p v[i] = true := by
  refine exists_congr fun i => ?_
  by_cases e : i = c
  · subst e
    rw [upd_same, same]
  · rw [upd_ne _ _ e]

theorem work_lampRight : Work LampRight where
  wr hs := ⟨hs.shown⟩
  regs hs := ⟨hs.shown⟩
  info hs := ⟨hs.shown⟩
  cell hs := ⟨hs.shown⟩
  lampRefresh _ := .lampRefresh _
  releaseTransfer _ _ := .lampRefresh _
  transfer {s c f} hs := by
    refine hs.congr rfl rfl (or_congr ?_ Iff.rfl) rfl
    exact LampRight.updated s.transfers c _ Option.isSome (by simp)
  slot hs := ⟨hs.shown⟩
  watchGone hs := ⟨hs.shown⟩
  watchEq _ hs := ⟨hs.shown⟩
  pends _ hs := ⟨hs.shown⟩
  chan {s ch f} latch hs := by
    refine hs.congr rfl rfl ?_ rfl
    rcases latch with kept | ⟨c, r, running⟩
    · exact or_congr Iff.rfl (LampRight.updated s.chans ch f (fun r => r.latch.isSome) (by rw [show (f s.chans[ch]).latch = _ from kept]; rfl))
    · have blinks : ∃ c, (s.transfer c).isSome = true := ⟨c, by rw [running]; rfl⟩
      exact ⟨fun _ => .inl blinks, fun _ => .inl blinks⟩
  seg _ hs := ⟨hs.shown⟩

theorem State.anyActiveGrant_congr (active : t.ps.active = s.ps.active)
    (expired : ∀ i : Fin 16, t.ps.usage[i].expired = s.ps.usage[i].expired) : t.anyActiveGrant = s.anyActiveGrant := by
  simp only [State.anyActiveGrant, active, expired]

theorem LampRight.ps {f : PS → PS} (same : ∀ p : PS, (f p).active = p.active ∧ ∀ i : Fin 16, (f p).usage[i].expired = p.usage[i].expired)
    (hs : LampRight s) : LampRight (s.modPs f) :=
  hs.congr rfl rfl Iff.rfl (State.anyActiveGrant_congr (same _).1 (same _).2)

theorem whole_lampRight : Whole LampRight := by
  have h := work_lampRight
  refine .ofAnySeg h (fun hs => ⟨hs.shown⟩) (posts := fun hs => ⟨hs.shown⟩) (time := fun hs => ⟨hs.shown⟩) (vsm := fun hs => ⟨hs.shown⟩)
    (cmEq := fun same hs => hs.congr (same _).1 (same _).2 Iff.rfl rfl) (psEq := LampRight.ps) (created := fun _ => .lampRefresh _)
    (newWatch := fun _ hs => ⟨hs.shown⟩) ?clearLatch ?connectorLamp (expired := fun _ _ => .lampRefresh _) ?applySet ?withdrawGrants
  case clearLatch =>
    intro s hs ch
    unfold State.clearLatch
    split
    · exact .lampRefresh _
    · exact hs
  case connectorLamp =>
    intro s _ l
    unfold State.connectorLamp
    exact h.wrInfo (h.wrInfo (.lampRefresh _) _ _) _ _
  case applySet =>
    intro s p _
    rw [State.applySet_eq]
    exact h.publishSet LampRight.ps (h.arbitrateAll (.lampRefresh _))
  case withdrawGrants =>
    intro s hs
    unfold State.withdrawGrants
    split
    · exact hs
    · exact h.publishSet LampRight.ps (.lampRefresh _)

theorem LampRight.poweredOn (s : State) : LampRight s.poweredOn := ⟨show State.reset.cm.lampInd = State.reset.indication by decide +kernel⟩

/-- Settles O37: the indication is derived afresh wherever the lamp mode, the grants, a transfer or a latch at rest changes, and
nothing else that a command does moves it. -/
theorem lampFollows : Obligations.LampFollows := by
  unfold Obligations.LampFollows
  intro c s t shown e
  have h := work_lampRight
  have hs : LampRight s := ⟨shown⟩
  suffices LampRight t from this.shown
  cases hc : resetting c
  case false => exact whole_lampRight.exec hs hc e
  case true =>
    rcases exec_reset hc e with rfl | rfl | ⟨r, rfl⟩ | rfl | rfl | rfl
    · exact .poweredOn s
    · refine h.finish (hs.congr rfl rfl (or_congr Iff.rfl ?_) rfl)
      exact exists_congr fun ch => by rw [State.readied_chan, show State.chan _ ch = _ from s.cleared_chan ch]
    · exact h.finish (.lampRefresh _)
    · refine h.finish (hs.congr rfl rfl (or_congr Iff.rfl ?_) rfl)
      exact exists_congr fun ch => by rw [State.readied_chan, show State.chan _ ch = _ from s.stepCounters_chan ch]
    · refine h.finish (hs.congr rfl rfl (or_congr Iff.rfl ?_) rfl)
      exact exists_congr fun ch => by rw [State.readied_chan, show s.stepCounters.wrMirror.chan ch = _ from s.stepCounters_chan ch]
    · exact hs

/-! ### Pending ends of watches (R149) -/

/-- Every watch's pending end is a cause of R149. -/
structure EndsNamed (s : State) : Prop where
  named : WatchEndsNamed s

/-- An update of one watch record that leaves a named end. -/
theorem EndsNamed.upd {c : Fin 32} {f : Option Watch → Option Watch} (hs : EndsNamed s) (others : ∀ d, d ≠ c → t.watch d = s.watch d)
    (this : t.watch c = f (s.watch c)) (named : (∀ w ∈ s.watch c, w.EndNamed) → ∀ w ∈ f (s.watch c), w.EndNamed) : EndsNamed t := by
  refine ⟨fun d => ?_⟩
  by_cases e : d = c
  · subst e
    rw [this]
    exact named (hs.named d)
  · rw [others d e]
    exact hs.named d

theorem EndsNamed.modWatch {c : Fin 32} {f : Watch → Watch} (named : ∀ w : Watch, w.EndNamed → (f w).EndNamed) (hs : EndsNamed s) :
    EndsNamed (s.modWatch c f) := by
  refine hs.upd (fun d e => State.watch_modWatch_ne s f e) (State.watch_modWatch s c f) fun all w mem => ?_
  obtain ⟨v, old, rfl⟩ := Option.mem_map.1 mem
  exact named v (all v old)

theorem work_endsNamed : Work EndsNamed where
  wr hs := ⟨hs.named⟩
  regs hs := ⟨hs.named⟩
  info hs := ⟨hs.named⟩
  cell hs := ⟨hs.named⟩
  lampRefresh {s} hs := by
    unfold State.lampRefresh
    split <;> exact ⟨hs.named⟩
  releaseTransfer {s} hs c := by
    unfold State.releaseTransfer State.lampRefresh
    split <;> exact ⟨hs.named⟩
  transfer hs := ⟨hs.named⟩
  slot hs := ⟨hs.named⟩
  watchGone {s c} hs := hs.upd (fun d e => State.watch_setWatch_ne s none e) (f := fun _ => none) (State.watch_setWatch s c none) fun _ => by simp
  watchEq same := .modWatch fun w named => by rw [Watch.EndNamed, same]; exact named
  pends cause := .modWatch fun w _ => by
    rcases cause with rfl | rfl | rfl <;> simp [Watch.EndNamed]
  chan _ hs := ⟨hs.named⟩
  seg _ hs := ⟨hs.named⟩

theorem whole_endsNamed : Whole EndsNamed := by
  have h := work_endsNamed
  have restart : ∀ {t}, EndsNamed t → ∀ g, EndsNamed (t.restartInto g (t.startState g)) := fun ht g =>
    h.restartInto (fun hs => ⟨hs.named⟩) ht g _
  refine .ofAnySeg h (fun hs => ⟨hs.named⟩) (posts := fun hs => ⟨hs.named⟩) (time := fun hs => ⟨hs.named⟩) (vsm := fun hs => ⟨hs.named⟩)
    (cmEq := fun _ hs => ⟨hs.named⟩) (psEq := fun _ hs => ⟨hs.named⟩) ?created ?newWatch ?clearLatch ?connectorLamp ?expired
    (applySet := fun hs => h.applySet restart (fun hs => ⟨hs.named⟩) (fun _ hs => ⟨hs.named⟩) ⟨hs.named⟩)
    (withdrawGrants := fun hs => h.withdrawGrants (fun _ hs => ⟨hs.named⟩) hs ⟨hs.named⟩)
  case created =>
    intro s c t grant hs
    refine h.lampRefresh (h.wrProgress (h.setGrant (h.setCell ?_ _ _) _ _) _)
    exact ⟨hs.named⟩
  case newWatch =>
    intro s c w pending hs
    refine hs.upd (fun d e => State.watch_setWatch_ne s _ e) (f := fun _ => some w) (State.watch_setWatch s c _) fun _ v mem => ?_
    obtain rfl := Option.mem_some.1 mem
    simp [Watch.EndNamed, pending]
  case clearLatch =>
    intro s hs ch
    unfold State.clearLatch
    split
    · refine h.lampRefresh (h.event ?_ _)
      rw [State.updChan_eq]
      split <;> exact ⟨hs.named⟩
    · exact hs
  case connectorLamp =>
    intro s hs l
    unfold State.connectorLamp
    exact h.wrInfo (h.wrInfo (h.lampRefresh (s := s.modCm _) ⟨hs.named⟩) _ _) _ _
  case expired =>
    intro s f ch id hs _
    refine h.lampRefresh (h.recheckGrant ?_ _ _)
    exact ⟨hs.named⟩

theorem EndsNamed.of_none (none : ∀ c, s.watch c = none) : EndsNamed s := ⟨fun c w mem => by simp [none c] at mem⟩

/-- Settles O47: a watch begins with no pending end, and each way to give it one names a cause of R149. -/
theorem stepKeepsWatchEnds : Obligations.StepKeepsWatchEnds := by
  unfold Obligations.StepKeepsWatchEnds
  refine fun s t hs e => (step_keeps (P := EndsNamed) (fun _ _ h => ⟨h.named⟩) (fun c s t hs e => ?_) ⟨hs⟩ e).named
  cases hc : resetting c
  case false => exact whole_endsNamed.exec hs hc e
  case true =>
    have h := work_endsNamed
    rcases exec_reset hc e with rfl | rfl | ⟨r, rfl⟩ | rfl | rfl | rfl
    · exact .of_none fun c => by simp [State.poweredOn, State.watch, State.reset]
    · exact h.finish ⟨hs.named⟩
    · exact h.finish (h.lampRefresh (.of_none fun c => by simp [State.softUnits, State.watch]))
    · exact h.finish ⟨hs.named⟩
    · exact h.finish ⟨hs.named⟩
    · exact hs

end Sys2Proof.Machine
end

section
/-! PROOFS. What changes the active set, and where grants come in (R13, R14, R22, R24, R25, R155). -/

namespace Sys2Proof.Machine

variable {s t : State}

theorem receive_next {c : Fin 32} {k : Kind} {act : State → State} (e : receive s c k act = .next t) :
    t = ((act s).actHeld c).finish ∨ t = s := by
  unfold receive at e
  split at e <;> cases e <;> simp

theorem receiveOp_next {c : Fin 32} {k : Kind} {off op : Nat} {act : State → State} (e : receiveOp s c k off op act = .next t) :
    t = ((act s).actHeld c).finish ∨ t = s := by
  unfold receiveOp at e
  split at e
  · exact receive_next e
  · cases e; exact .inr rfl

theorem State.applySet_active (s : State) (p : PolicySet) : (s.applySet p).ps.active = p :=
  (Closed.ofActive p).applySet_of ((Closed.ofActive p).thresholdTakeup ((Closed.ofActive p).takenUp_free (fun _ h => h) rfl))

/-- A commit keeps the active set or brings the Staged Set into force, one that holds a grant in workshop mode (R12, R13). -/
theorem State.runCommit_active (s : State) (c : Fin 32) :
    (s.runCommit c).ps.active = s.ps.active ∨ ((s.runCommit c).ps.active.hasGrant = true → workshop s = true) := by
  have kept : ∀ {u : State} r, (u.endCell c r).ps.active = u.ps.active := fun r => (Closed.ofActive _).endCell rfl c r
  unfold State.runCommit
  dsimp only
  split
  · exact .inl (kept _)
  · split
    · exact .inl (kept _)
    case isFalse permitted =>
      refine .inr fun grant => ?_
      rw [kept, State.applySet_active] at grant
      simpa [grant] using permitted

/-- The connector's levels and the units' records of the policy set. -/
structure PolicyAs (p : PS) (b : Bool) (s : State) : Prop where
  ps : s.ps = p
  workshop : workshop s = b

theorem CM.show_workshop (m : CM) (i : Lamp) (now : Nat) :
    (m.show i now).presence = m.presence ∧ (m.show i now).key = m.key := by
  cases i <;> exact ⟨rfl, rfl⟩

theorem PolicyAs.lampRefresh {p : PS} {b : Bool} (hs : PolicyAs p b s) : PolicyAs p b s.lampRefresh := by
  unfold State.lampRefresh
  split
  · exact hs
  · have shown := CM.show_workshop s.cm s.indication s.time.clock
    refine ⟨hs.ps, ?_⟩
    rw [← hs.workshop]
    show ((s.cm.show s.indication s.time.clock).presence.level && (s.cm.show s.indication s.time.clock).key.level) = _
    rw [shown.1, shown.2]
    rfl

/-- The work of cells moves neither. -/
theorem work_policyAs (p : PS) (b : Bool) : Work (PolicyAs p b) where
  wr hs := ⟨hs.ps, hs.workshop⟩
  regs hs := ⟨hs.ps, hs.workshop⟩
  info hs := ⟨hs.ps, hs.workshop⟩
  cell hs := ⟨hs.ps, hs.workshop⟩
  lampRefresh hs := hs.lampRefresh
  releaseTransfer hs _ := PolicyAs.lampRefresh ⟨hs.ps, hs.workshop⟩
  transfer hs := ⟨hs.ps, hs.workshop⟩
  slot hs := ⟨hs.ps, hs.workshop⟩
  watchGone hs := ⟨hs.ps, hs.workshop⟩
  watchEq _ hs := ⟨hs.ps, hs.workshop⟩
  pends _ hs := ⟨hs.ps, hs.workshop⟩
  chan _ hs := ⟨hs.ps, hs.workshop⟩
  seg _ hs := ⟨hs.ps, hs.workshop⟩

/-- The ignition edge changes the active set only with a commit armed and the line asserted, and then as that commit does (R14). -/
theorem State.ignitionExpire_active (s : State) : s.ignitionExpire.ps.active = s.ps.active ∨
    ((s.ignitionExpire.ps.active.hasGrant = true → workshop s = true) ∧ s.ps.armed ≠ none ∧ s.vsm.ignition.raw = true) := by
  unfold State.ignitionExpire
  extract_lets u on v
  have work := work_policyAs s.ps (workshop s)
  have hu : PolicyAs s.ps (workshop s) u := ⟨rfl, rfl⟩
  have hv : PolicyAs s.ps (workshop s) v := work.vehicleChanged (work.event (work.wrInfo hu _ _) _)
  clear_value v
  split
  case isFalse => exact .inl (by rw [hv.ps])
  case isTrue asserted =>
    unfold State.ignitionEdge
    split
    case h_2 => exact .inl (by rw [hv.ps])
    case h_1 c armed =>
      have committed := State.runCommit_active (v.modPs fun p => { p with armed := none }) c
      rw [State.modPs_ps, hv.ps] at committed
      refine committed.imp_right fun permitted => ⟨fun grant => ?_, ?_, asserted⟩
      · rw [← hv.workshop]
        exact permitted grant
      · rw [← hv.ps, armed]
        exact Option.some_ne_none c

theorem no_grant_unused : ((Vector.replicate 16 Grant.unused).toList.any Grant.used) = false := by decide

theorem State.withdrawGrants_eq (s : State) :
    s.withdrawGrants = if !s.ps.active.hasGrant then s
      else ((s.withoutGrants.testerGone s.ps.active.channelHasGrant).lampRefresh).publishSet := rfl

theorem State.withdrawGrants_hasGrant (s : State) :
    s.withdrawGrants.ps.active = s.ps.active ∨ s.withdrawGrants.ps.active.hasGrant = false := by
  rw [State.withdrawGrants_eq]
  split
  · exact .inl rfl
  · have none : s.withoutGrants.ps.active.hasGrant = false := no_grant_unused
    have h := Closed.ofActive s.withoutGrants.ps.active
    have gone := h.testerGone (s := s.withoutGrants) rfl s.ps.active.channelHasGrant
    have kept := h.publishSet (h.lampRefresh gone)
    rw [kept, none]
    exact .inr rfl

/-- A reset keeps the active set or takes the default set (R24, R25). -/
theorem exec_reset_active {c : Instr} (hc : resetting c = true) (e : exec c s = .next t) :
    t.ps.active = s.ps.active ∨ (t.ps.active = PolicySet.default ∧ (c = .powerOnReset ∨ ∃ r, c = .softReset r)) := by
  have kept : ∀ {u : State}, u.ps.active = s.ps.active → u.finish.ps.active = s.ps.active := (Closed.ofActive _).finish
  cases c <;> simp only [resetting, Bool.false_eq_true] at hc <;> unfold exec at e <;> dsimp only at e
  case powerOnReset => cases e; exact .inr ⟨rfl, .inl rfl⟩
  case ramClearDone =>
    unfold execRamClearDone at e
    split at e <;> cases e
    · exact .inl (kept rfl)
    all_goals exact .inl rfl
  case softReset r =>
    unfold execSoftReset at e
    split at e <;> cases e
    · have set : (s.softReset r).finish.ps.active = (softPs r s.ps).active := by
        rw [State.softReset_eq]
        exact (Closed.ofActive _).finish ((Closed.ofActive _).lampRefresh rfl)
      rw [set, softPs_active]
      split
      · exact .inl rfl
      · exact .inr ⟨rfl, .inr ⟨r, rfl⟩⟩
    all_goals exact .inl rfl
  case softResetReady =>
    unfold execSoftResetReady at e
    split at e <;> cases e
    · exact .inl (kept (by split <;> rfl))
    all_goals exact .inl rfl

/-- Settles O10: the closure over the active set covers every command but those named, of which a commit tests workshop mode, a
departure leaves no grant, and a reset takes the default set, which holds none. -/
theorem activeSetChanges : Obligations.ActiveSetChanges := by
  unfold Obligations.ActiveSetChanges
  intro c s t e changed
  have h := Closed.ofActive s.ps.active
  rcases structural_cases c with plain | reset | set | request
  · exact absurd (h.exec rfl plain e) changed
  · rcases exec_reset_active reset e with kept | ⟨default, by_reset⟩
    · exact absurd kept changed
    · exact ⟨fun grant => absurd grant (by rw [default]; decide), .inr (.inr (.inr by_reset))⟩
  · rcases set with ⟨d, rfl⟩ | rfl | rfl
    · rcases receiveOp_next e with rfl | rfl
      · rw [(Closed.ofActive _).finish ((Closed.ofActive _).actHeld rfl d)] at changed ⊢
        exact ⟨(State.runCommit_active s d).resolve_left changed, .inl ⟨d, rfl⟩⟩
      · exact absurd rfl changed
    · replace e : execIgnitionDebounceExpiry s = .next t := e
      unfold execIgnitionDebounceExpiry at e
      split at e
      · cases e
        rw [(Closed.ofActive _).finish rfl] at changed ⊢
        obtain ⟨permitted, edge⟩ := s.ignitionExpire_active.resolve_left changed
        exact ⟨permitted, .inr (.inl ⟨rfl, edge⟩)⟩
      · cases e; exact absurd rfl changed
    · replace e : execDeparture s = .next t := e
      unfold execDeparture at e
      split at e
      · cases e
        rw [(Closed.ofActive _).finish rfl] at changed ⊢
        have none := (State.withdrawGrants_hasGrant _).resolve_left changed
        exact ⟨fun grant => absurd (none.symm.trans grant) Bool.false_ne_true, .inr (.inr (.inl rfl))⟩
      · cases e; exact absurd rfl changed
  · exact absurd (h.segmentCommand_free (fun _ hv => hv) rfl request e) changed

end Sys2Proof.Machine
end

section
/-! PROOFS. The interrupt line (R190): what every command closes. -/

namespace Sys2Proof.Machine

variable {s : State}

/-- Where the outcome is a next state, it is settled. -/
structure Closing (o : Host.Outcome State Fault Refusal) : Prop where
  settled : ∀ t, o = .next t → Settled t

namespace Closing

theorem noEvent (hs : Settled s) : Closing (noEvent s) := by
  refine ⟨?_⟩
  rintro t ⟨⟩
  exact hs

theorem complete (u : State) : Closing (complete u) := by
  refine ⟨?_⟩
  rintro t ⟨⟩
  exact u.finish_settled

theorem ite {b : Prop} [Decidable b] {o o' : Host.Outcome State Fault Refusal} (h : Closing o) (h' : Closing o') :
    Closing (if b then o else o') := by
  split <;> assumption

variable (hs : Settled s)
include hs

theorem ifEvent {b : Prop} [Decidable b] (u : State) : Closing (if b then Machine.complete u else Machine.noEvent s) :=
  .ite (.complete u) (.noEvent hs)

theorem receive (c : Fin 32) (k : Kind) (act : State → State) : Closing (receive s c k act) := .ifEvent hs _

theorem receiveOp (c : Fin 32) (k : Kind) (off op : Nat) (act : State → State) : Closing (receiveOp s c k off op act) :=
  .ite (.receive hs c k act) (.noEvent hs)

theorem receiveChannel (c : Fin 32) (op : Nat) (act : State → Fin 8 → State) : Closing (receiveChannel s c op act) :=
  .receiveOp hs ..

theorem receiveSegment (c : Fin 32) (k : Kind) (op : Nat) (act : State → Fin 4 → State) : Closing (receiveSegment s c k op act) :=
  .receiveOp hs ..

theorem registerWrite (f : Regs → Regs) : Closing (registerWrite s f) := by
  unfold Machine.registerWrite
  split
  · exact .complete _
  all_goals exact .noEvent hs

theorem watchedWrite (a : Nat) (w : HostWrite) (ok : Word16 → Bool) (act : State → Word16 → State) :
    Closing (watchedWrite s a w ok act) := by
  unfold Machine.watchedWrite
  dsimp only
  split
  · exact .noEvent hs
  · split
    · exact .noEvent hs
    · exact .noEvent (s := s.hostWord a w) hs
    · exact .complete _

theorem exec (c : Instr) : Closing (exec c s) := by
  cases c <;> unfold Machine.exec <;> dsimp only
  case powerOnReset =>
    refine ⟨?_⟩
    rintro t ⟨⟩
    exact ⟨rfl, show State.reset.regs.irq = irqOf State.reset.regs by decide⟩
  case ramClearDone =>
    unfold execRamClearDone
    split
    · exact .complete _
    all_goals exact .noEvent hs
  case softReset r =>
    unfold execSoftReset
    split
    · exact .complete _
    all_goals exact .noEvent hs
  case softResetReady =>
    unfold execSoftResetReady
    split
    · exact .complete _
    all_goals exact .noEvent hs
  case hostRamWrite a w =>
    unfold execHostRamWrite
    split
    · exact ⟨by rintro t ⟨⟩⟩
    · split
      · exact .noEvent hs
      · split
        · exact .noEvent hs
        all_goals exact .noEvent (s := s.hostWord a w) hs
  case ignoredRegisterWrite => exact .noEvent hs
  case runWrite => exact .registerWrite hs _
  case retainWrite => exact .registerWrite hs _
  case doneIrqEnableWrite => exact .registerWrite hs _
  case doneSummaryClear => exact .registerWrite hs _
  case eventSummaryClear => exact .registerWrite hs _
  case eventEnableWrite => exact .registerWrite hs _
  case cellPost => exact .watchedWrite hs ..
  case cellEmpty => exact .watchedWrite hs ..
  case cellAbort => exact .watchedWrite hs ..
  case cellInvalidWrite => exact .watchedWrite hs ..
  case slotFilled => exact .watchedWrite hs ..
  case slotFree => exact .watchedWrite hs ..
  case slotInvalidWrite => exact .watchedWrite hs ..
  case cellTake =>
    unfold execCellTake
    split
    · dsimp only
      split <;> exact .complete _
    · exact .noEvent hs
  case exchangeAdmission => exact .receive hs ..
  case transferReceipt => exact .receive hs ..
  case watchReceipt => exact .receive hs ..
  case check => exact .receive hs ..
  case connector => exact .receive hs ..
  case commitNow => exact .receiveOp hs ..
  case commitAtIgnition => exact .receiveOp hs ..
  case clearAccrued => exact .receiveChannel hs ..
  case clearLatch => exact .receiveChannel hs ..
  case releaseSuspension => exact .receiveChannel hs ..
  case load => exact .receiveSegment hs ..
  case freeze => exact .receiveSegment hs ..
  case unfreeze => exact .receiveSegment hs ..
  case disable => exact .receiveSegment hs ..
  case enable => exact .receiveSegment hs ..
  case restart => exact .receiveSegment hs ..
  case queueDeadlineExpiry =>
    unfold execQueueDeadlineExpiry
    split
    · exact .ifEvent hs _
    · exact .noEvent hs
  case frameOffer =>
    unfold execFrameOffer
    dsimp only
    split
    · exact .noEvent hs
    · exact .complete _
  case ownFrameAcknowledged =>
    unfold execOwnFrameAcknowledged
    split
    · exact .noEvent hs
    · exact .complete _
  case transmitError => exact .ifEvent hs _
  case receiveError => exact .complete _
  case frameCompleted => exact .complete _
  case creditWaitExpiry => exact .ifEvent hs _
  case responseWaitExpiry => exact .ifEvent hs _
  case partWaitExpiry => exact .ifEvent hs _
  case joinComplete => exact .ifEvent hs _
  case busOffRecovery => exact .ifEvent hs _
  case recessiveRunCounted => exact .ifEvent hs _
  case subWindowEnd => exact .ifEvent hs _
  case feedTimerExpiry =>
    unfold execFeedTimerExpiry
    split
    · exact .ifEvent hs _
    · exact .noEvent hs
  case keepaliveTimerExpiry =>
    unfold execKeepaliveTimerExpiry
    split
    · exact .ifEvent hs _
    · exact .noEvent hs
  case watchDue =>
    unfold execWatchDue
    split
    · exact .ifEvent hs _
    · exact .noEvent hs
  case millisecondTick =>
    unfold execMillisecondTick
    dsimp only
    split <;> exact .complete _
  case secondsTick => exact .ifEvent hs _
  case grantExpiry => exact .ifEvent hs _
  case suspensionEnd => exact .ifEvent hs _
  case departure => exact .ifEvent hs _
  case connectorLineRawChange => exact .complete _
  case connectorDebounceExpiry => exact .ifEvent hs _
  case lampBlinkToggle => exact .ifEvent hs _
  case supplyGoodAsserted => exact .complete _
  case supplyGoodWithdrawn => exact .complete _
  case overcurrentAsserted => exact .complete _
  case supplyStartTimerExpiry => exact .ifEvent hs _
  case ignitionRawChange => exact .complete _
  case ignitionDebounceExpiry => exact .ifEvent hs _
  case stalenessTimerExpiry => exact .ifEvent hs _

end Closing

/-! ### The line, bit by bit (R190) -/

theorem BitVec.ne_zero_iff {n : Nat} (v : BitVec n) : (v != 0) = true ↔ ∃ k < n, v.getLsbD k = true := by
  rw [bne_iff_ne]
  constructor
  · intro nonzero
    by_contra none
    refine nonzero (BitVec.eq_of_getLsbD_eq fun k hk => ?_)
    simpa using fun set => none ⟨k, hk, set⟩
  · rintro ⟨k, _, set⟩ rfl
    simp at set

theorem irqOf_iff (r : Regs) :
    irqOf r = true ↔ (r.doneIrqEnable = true ∧ ∃ k < 32, r.done.getLsbD k = true) ∨
      ∃ k < 8, r.event.getLsbD k = true ∧ r.eventEnable.getLsbD k = true := by
  unfold irqOf
  rw [Bool.or_eq_true, Bool.and_eq_true, BitVec.ne_zero_iff, BitVec.ne_zero_iff]
  simp only [BitVec.getLsbD_and, Bool.and_eq_true]

/-- Settles O6: every command that touches anything the line or the Information Block depends on ends as an event does. -/
theorem interruptLine : Obligations.InterruptLine := by
  unfold Obligations.InterruptLine
  intro c s t hs e
  obtain ⟨closed, line⟩ := (Closing.exec hs c).settled t e
  exact ⟨closed, by rw [line, irqOf_iff]⟩

end Sys2Proof.Machine
end

section
/-! PROOFS. A step, the values after a power-on reset, the register window and plain RAM writes (R177, R184, R189, R190, R192). -/

namespace Sys2Proof.Machine

variable {s : State}

/-- Settles O1. -/
theorem stepRunsFront : Obligations.StepRunsFront := by
  refine ⟨fun c rest s e => ?_, fun s e => ?_⟩ <;> unfold step <;> rw [e]

/-- Settles O3: every unit's value is read off the reset state. -/
theorem resetValues : Obligations.ResetValues := by
  refine ⟨rfl, rfl, rfl, ?_, rfl, rfl, rfl, rfl, rfl, ?_, ?_, ?_, ?_, rfl, rfl, rfl, rfl, rfl, rfl, rfl, rfl, rfl⟩ <;> decide +kernel

/-- Settles O4. -/
theorem resetMeetsInvariants : Obligations.ResetMeetsInvariants := by
  refine ⟨Mem.nil_wf, ?_, ?_, ?_, ?_, ?_, ?_, ?_, ?_⟩ <;> decide +kernel

/-- Settles O11: but for the input levels and the queue the units take the values of the reset state. -/
theorem powerOnReset : Obligations.PowerOnReset := by
  intro s
  refine ⟨s.poweredOn, rfl, rfl, rfl, rfl, rfl, rfl, fun ch => ?_, fun g => ?_, fun c => ?_, fun n => ?_, rfl, rfl, rfl, rfl, rfl⟩
  · exact Vector.getElem_replicate ch.isLt
  · exact Vector.getElem_ofFn g.isLt
  · exact ⟨Vector.getElem_replicate c.isLt, Vector.getElem_replicate c.isLt⟩
  · exact Vector.getElem_replicate n.isLt

/-! ### The register window -/

theorem registerWrite_running (running : s.phase = .running) (f : Regs → Regs) :
    registerWrite s f = complete (s.modRegs f) := by
  unfold registerWrite
  rw [running]

theorem registerWrite_notRunning (busy : s.phase ≠ .running) (f : Regs → Regs) : registerWrite s f = .next s := by
  unfold registerWrite noEvent
  split <;> simp_all

/-- A register write that leaves the Information Block alone ends with the line brought up to date. -/
theorem complete_modRegs (clean : s.info.dirty = false) (f : Regs → Regs) :
    complete (s.modRegs f) = .next { s with regs := { f s.regs with irq := irqOf (f s.regs) } } := by
  rw [complete, State.finish_clean (s := s.modRegs f) clean]
  rfl

/-- Settles O15: a field that the line does not depend on leaves the line as it is. -/
theorem controlWrites : Obligations.ControlWrites := by
  unfold Obligations.ControlWrites
  intro v upper a w s ⟨clean, line⟩
  have kept : ∀ f : Regs → Regs, irqOf (f s.regs) = irqOf s.regs → (f s.regs).irq = s.regs.irq →
      s.phase = .running → registerWrite s f = .next { s with regs := f s.regs } := by
    intro f same irq running
    rw [registerWrite_running running, complete_modRegs clean, same, ← line, ← irq]
  refine ⟨fun running => ⟨kept _ rfl rfl running, kept _ rfl rfl running, ?_⟩, rfl, fun busy => ?_⟩
  · show registerWrite s _ = _
    rw [registerWrite_running running, complete_modRegs clean]
    rfl
  · have none := fun f => registerWrite_notRunning busy f
    refine ⟨none _, none _, none _, none _, none _, none _, ?_⟩
    show execSoftReset v s = _
    unfold execSoftReset noEvent
    split <;> simp_all

theorem HostWrite.getLsbD_bits (w : HostWrite) {k : Nat} (hk : k < 16) :
    (HostWrite.bits w).getLsbD k = ((if k < 8 then w.low else w.high) && w.data.getLsbD k) := by
  have bits : ∀ k : Fin 16, (0x00FF#16).getLsbD k.val = decide (k.val < 8) ∧ (0xFF00#16).getLsbD k.val = !decide (k.val < 8) := by decide
  obtain ⟨low, high⟩ := bits ⟨k, hk⟩
  simp only at low high
  unfold HostWrite.bits
  rw [BitVec.getLsbD_or]
  by_cases h : k < 8 <;> cases w.low <;> cases w.high <;> simp [h, low, high]

theorem doneMask_getLsbD (upper : Bool) (w : HostWrite) (c : Fin 32) :
    (doneMask upper w).getLsbD c.val =
      (upper == decide (16 ≤ c.val) && ((if c.val % 16 < 8 then w.low else w.high) && w.data.getLsbD (c.val % 16))) := by
  rw [← HostWrite.getLsbD_bits w (Nat.mod_lt _ (by decide))]
  unfold doneMask
  by_cases h : 16 ≤ c.val
  · have : c.val % 16 = c.val - 16 := by omega
    cases upper <;> simp [h, this, BitVec.getLsbD_of_ge]
  · have : c.val % 16 = c.val := by omega
    cases upper <;> simp [h, this]

/-- Settles O16: each mask bit by bit; the line follows the registers, and no record is touched but these. -/
theorem summaryWrites : Obligations.SummaryWrites := by
  unfold Obligations.SummaryWrites
  intro upper w s ⟨running, clean, line⟩
  have written : ∀ f : Regs → Regs, registerWrite s f = .next { s with regs := { f s.regs with irq := irqOf (f s.regs) } } := fun f => by
    rw [registerWrite_running running, complete_modRegs clean]
  refine ⟨⟨_, written _, fun c => ?_, rfl⟩, ⟨_, written _, fun k hk => ?_, rfl⟩, ⟨_, written _, fun k hk => ?_, rfl⟩⟩
  · show (s.regs.done &&& ~~~doneMask upper w).getLsbD c.val = _
    rw [BitVec.getLsbD_and, BitVec.getLsbD_not, doneMask_getLsbD]
    simp [Bool.and_assoc]
  · have bit := HostWrite.getLsbD_bits w (show k < 16 by omega)
    simp [hk, bit]
  · cases w.low <;> simp [hk]

/-! ### Plain RAM writes -/

theorem Mem.read_hostWrite (m : Mem) {a : Nat} (w : HostWrite) (even : a % 2 = 0) (inside : a < 0x10000) :
    (m.hostWrite a w).read a = (if w.low then byte w.data.toNat else m.read a) ∧
      (m.hostWrite a w).read (a + 1) = (if w.high then byte (w.data.toNat / 0x100) else m.read (a + 1)) := by
  have size : Config.ramSize = 0x10000 := rfl
  have second : a + 1 < 0x10000 := by omega
  unfold Mem.hostWrite
  cases w.low <;> cases w.high <;> simp [Mem.read_write, Within, size, inside, second]

/-- Settles O17. -/
theorem hostRamWrite : Obligations.HostRamWrite := by
  unfold Obligations.HostRamWrite
  intro a w s
  have even : plainWord a = true → (a % 2 = 0 ∧ a < 0x10000) ∧ watched a = false := fun plain => by
    simpa [plainWord] using plain
  refine ⟨fun plain free => ?_, fun plain clearing => ?_, fun bad => ?_⟩
  · obtain ⟨⟨even, inside⟩, unwatched⟩ := even plain
    obtain ⟨low, high⟩ := Mem.read_hostWrite s.mem w even inside
    refine ⟨s.hostWord a w, ?_, low, high, rfl, s.hostWord_frame a w⟩
    show execHostRamWrite a w s = _
    have word : ¬(a % 2 ≠ 0 ∨ Config.ramSize ≤ a) := by simp only [Config.ramSize]; omega
    unfold execHostRamWrite
    rw [if_neg word, unwatched, if_neg Bool.false_ne_true]
    split <;> simp_all [noEvent]
  · obtain ⟨⟨even, inside⟩, unwatched⟩ := even plain
    show execHostRamWrite a w s = _
    have word : ¬(a % 2 ≠ 0 ∨ Config.ramSize ≤ a) := by simp only [Config.ramSize]; omega
    unfold execHostRamWrite
    rw [if_neg word, unwatched, if_neg Bool.false_ne_true, clearing]
    rfl
  · exact if_pos bad

end Sys2Proof.Machine
end

section
/-! PROOFS. Controllers that join and recover, the host freeze mark, and the commands of time (R42, R66, R68, R109, R158, R191). -/

namespace Sys2Proof.Machine

variable {s t : State}

/-! ### The end of an event that wrote nothing into the Information Block -/

theorem complete_clean (clean : s.info.dirty = false) : complete s = .next s.irqUpdate := by
  rw [complete, State.finish_clean s clean]

theorem State.irqUpdate_eq (s : State) : s.irqUpdate = { s with regs := { s.regs with irq := irqOf s.regs } } := rfl
@[simp] theorem State.irqUpdate_seg (s : State) (g : Fin 4) : s.irqUpdate.seg g = s.seg g := rfl
@[simp] theorem State.irqUpdate_chan (s : State) (ch : Fin 8) : s.irqUpdate.chan ch = s.chan ch := rfl
@[simp] theorem State.irqUpdate_cell (s : State) (c : Fin 32) : s.irqUpdate.cell c = s.cell c := rfl
@[simp] theorem State.irqUpdate_slot (s : State) (n : Fin 8) : s.irqUpdate.slot n = s.slot n := rfl

/-! ### The controller's entry (R92) -/

/-- Outside the reserved bits of an entry, closing a write changes its change counter alone. -/
theorem State.segClose_read (m : Mem) {g : Fin 4} {n : Nat} {o : Nat} (ho : 2 ≤ o)
    (free : o ≠ 0x03 ∧ (o < 0x31 ∨ 0x34 ≤ o) ∧ o ≠ 0x48 ∧ o ≠ 0x4D ∧ o ≠ 0x4F ∧ o < 0x54) :
    ((m.clear (segReserved g)).write (segBase g) (le16 n)).read (segBase g + o) = m.read (segBase g + o) := by
  refine (Mem.read_write_outside _ ?_).trans (Mem.read_clear_outside _ ?_)
  · simp only [Within, le16_length]; omega
  · simp only [segReserved, List.mem_cons, List.not_mem_nil, or_false, forall_eq_or_imp, forall_eq, Within]; omega

/-- The controller state byte after a write of the STU. -/
theorem State.stuWrite_state (s : State) (g : Fin 4) : (s.stuWrite g).mem.read (segBase g + 2) = byte (s.seg g).ctl.code := by
  have bounds := segBase_bounds g
  rw [State.stuWrite_eq]
  refine (State.segClose_read _ (by decide) (by decide)).trans ?_
  have inside := Mem.read_write_inside s.mem (b := segBase g + 2) (bs := stuBytes s.ps.active g (s.seg g)) (o := 0)
    (by rw [stuBytes_length]; decide) (by rw [stuBytes_length]; simp only [Config.ramSize]; omega)
  rw [Nat.add_zero] at inside
  rw [inside]
  rfl

@[simp] theorem State.event_seg (s : State) (e : Event) (g : Fin 4) : (s.event e).seg g = s.seg g := rfl

/-! ### JOIN_COMPLETE and BUS_OFF_RECOVERY (R66, R68) -/

/-- The part once a controller has become ONLINE with nothing queued. -/
def State.online (s : State) (g : Fin 4) : State :=
  ((s.modSeg g fun q => { q with ctl := .online, tecCount := 0, recCount := 0, recovery := 0 }).stuWrite g).event .segment

theorem State.goOnline_eq {g : Fin 4} (empty : LanesEmpty s g) (other : (s.seg g).ctl ≠ .online) : s.goOnline g = s.online g := by
  have set : (s.modSeg g fun q => { q with tecCount := 0, recCount := 0, recovery := 0 }).setCtl g .online = s.online g := by
    unfold State.setCtl
    rw [if_neg (by rw [State.seg_modSeg]; exact other)]
    simp [State.online, State.modSeg, upd]
  unfold State.goOnline
  rw [set, State.arbitrate_empty]
  unfold LanesEmpty State.online
  rw [State.event_seg, State.seg_stuWrite, State.seg_modSeg]
  exact empty

theorem State.online_seg (s : State) (g : Fin 4) :
    (s.online g).seg g =
      { s.seg g with ctl := .online, tecCount := 0, recCount := 0, recovery := 0, counter := (s.seg g).counter + 1 } := by
  rw [State.online, State.event_seg, State.seg_stuWrite, State.seg_modSeg]

theorem State.online_seg_ne (s : State) {g k : Fin 4} (h : k ≠ g) : (s.online g).seg k = s.seg k := by
  rw [State.online, State.event_seg, State.stuWrite_seg_ne _ h, State.seg_modSeg_ne _ _ h]

theorem State.online_eq (s : State) (g : Fin 4) :
    s.online g = { s with segs := (s.online g).segs, mem := (s.online g).mem
                          regs := { s.regs with event := s.regs.event ||| Event.segment.bit } } := by
  unfold State.online
  rw [State.stuWrite_eq]
  rfl

theorem State.online_state (s : State) (g : Fin 4) : (s.online g).mem.read (segBase g + 2) = 1 := by
  rw [State.online, State.event_mem, State.stuWrite_state, State.seg_modSeg]
  rfl

@[simp] theorem State.stuWrite_info (s : State) (g : Fin 4) : (s.stuWrite g).info = s.info := by rw [State.stuWrite_eq]

theorem State.online_info (s : State) (g : Fin 4) : (s.online g).info = s.info := by
  rw [State.online, State.event_info, State.stuWrite_info, State.modSeg_info]

@[simp] theorem State.stuWrite_regs (s : State) (g : Fin 4) : (s.stuWrite g).regs = s.regs := by rw [State.stuWrite_eq]

theorem State.online_regs (s : State) (g : Fin 4) :
    (s.online g).regs = { s.regs with event := s.regs.event ||| Event.segment.bit } := by
  rw [State.online, State.event_regs, State.stuWrite_regs, State.modSeg_regs]

theorem State.online_frame (s : State) (g : Fin 4) : MemFrame s (s.online g) (Within (segBase g) 128) :=
  (State.stuWrite_frame (s.modSeg g fun q => { q with ctl := .online, tecCount := 0, recCount := 0, recovery := 0 }) g)

/-- Settles O57. -/
theorem joinAndRecovery : Obligations.JoinAndRecovery := by
  unfold Obligations.JoinAndRecovery
  intro g s ⟨clean, line⟩ empty
  dsimp only
  have online : (s.seg g).ctl ≠ .online → ∃ t, complete (s.goOnline g) = .next t ∧
      t.seg g = { s.seg g with ctl := .online, tecCount := 0, recCount := 0, recovery := 0, counter := (s.seg g).counter + 1 } ∧
        t.mem.read (segBase g + 2) = 1 ∧ (∀ h, h ≠ g → t.seg h = s.seg h) ∧
        t.regs = { s.regs with event := s.regs.event ||| Event.segment.bit, irq := irqOf t.regs } ∧
        t = { s with segs := t.segs, regs := t.regs, mem := t.mem } ∧ MemFrame s t (Within (segBase g) 128) := by
    intro other
    have still : (s.online g).info.dirty = false := by rw [State.online_info]; exact clean
    rw [State.goOnline_eq empty other, complete_clean still]
    refine ⟨_, rfl, s.online_seg g, s.online_state g, fun h ne => ?_, ?_, ?_, s.online_frame g⟩
    · rw [State.irqUpdate_seg, s.online_seg_ne ne]
    · rw [State.irqUpdate_regs, State.online_regs]
      rfl
    · rw [State.irqUpdate_eq, s.online_eq g]
  refine ⟨fun joining => ?_, fun off auto low => ?_, fun off auto full => ?_, fun manual => ?_⟩
  · show ∃ t, execJoinComplete g s = .next t ∧ _
    rw [execJoinComplete, if_pos joining]
    exact online (by rw [joining]; decide)
  · show execRecessiveRunCounted g s = _
    rw [execRecessiveRunCounted, if_pos ⟨off, auto, low⟩, complete]
    exact congrArg Host.Outcome.next (Settled.finish (s := s.modSeg g _) ⟨clean, line⟩)
  · show ∃ t, execBusOffRecovery g s = .next t ∧ _
    rw [execBusOffRecovery, if_pos ⟨off, auto, full⟩]
    exact online (by rw [off]; decide)
  · have none : (s.segSet g).autoRecovery = false := manual
    constructor
    · show execRecessiveRunCounted g s = _
      rw [execRecessiveRunCounted, if_neg (by simp [none])]
      rfl
    · show execBusOffRecovery g s = _
      rw [execBusOffRecovery, if_neg (by simp [none])]
      rfl

end Sys2Proof.Machine
end

section
/-! PROOFS. The end of a cell with any outcome (R187): what it stores and what it leaves alone. -/

namespace Sys2Proof.Machine

variable {s t : State}

/-! ### The result area (11.4) -/

theorem TDetail.bytes_length (d : Option TDetail) : (TDetail.bytes d).length = 4 := by
  cases d <;> simp [TDetail.bytes, zeros]

theorem FaultRec.tail_length (f : FaultRec) (s : State) : (f.tail s).length = 16 := by
  unfold FaultRec.tail
  dsimp only
  cases f.progress <;> split <;> simp [TDetail.bytes_length, zeros]

theorem resultBytes_length (s : State) (c : Fin 32) (e : CellEnd) : (resultBytes s c e).length = 64 := by
  obtain ⟨fault, _, _, _, _, _, _⟩ := e
  cases fault <;> simp [resultBytes, pad28, zeros, FaultRec.head, FaultRec.tail_length]

/-- The kind's own fields stand from byte 36 of the result area on (11.4). -/
theorem resultBytes_kind (s : State) (c : Fin 32) (e : CellEnd) : (resultBytes s c e).drop 36 = pad28 e.kind := by
  obtain ⟨fault, _, _, _, _, _, _⟩ := e
  cases fault
  · simp [resultBytes, zeros, le16, le32, List.replicate]
  · simp [resultBytes, le16, le32, FaultRec.head, FaultRec.tail_length]

/-- The first eight bytes: the result state, the flags, the response length, the grant, and the head of the fault record (11.4). -/
theorem resultBytes_head (s : State) (c : Fin 32) (e : CellEnd) :
    (resultBytes s c e).take 8 =
      [byte e.state.code, byte e.flags] ++ le16 e.respLen ++ [byte (s.cell c).grant] ++
        (match e.fault with
          | some f => f.head
          | none => zeros 3) := by
  obtain ⟨fault, _, _, _, _, _, _⟩ := e
  cases fault <;> rfl

/-- The rest of a fault record stands from byte 20 of the result area on (11.4). -/
theorem resultBytes_tail (s : State) (c : Fin 32) {e : CellEnd} {f : FaultRec} (failed : e.fault = some f) :
    ((resultBytes s c e).drop 20).take 16 = f.tail s := by
  obtain ⟨fault, _, _, _, _, _, _⟩ := e
  subst failed
  have rest : ∀ kind, (f.tail s ++ pad28 kind).take 16 = f.tail s := fun _ => List.take_left' (FaultRec.tail_length f s)
  simpa [resultBytes, le16, le32, FaultRec.head] using rest _

/-! ### The end on the board -/

section
variable (s) (c : Fin 32) (e : CellEnd)

theorem State.endCellOn_cell : (s.endCellOn none c e).cell c = { s.cell c with st := e.state } := by
  rw [State.endCellOn_none]
  exact upd_same s.board.cells c _

theorem State.endCellOn_cell_ne {d : Fin 32} (h : d ≠ c) : (s.endCellOn none c e).cell d = s.cell d := by
  rw [State.endCellOn_none]
  exact upd_ne s.board.cells _ h

theorem State.endCellOn_posts : (s.endCellOn none c e).board.posts = s.board.posts := by rw [State.endCellOn_none]

theorem State.endCellOn_regs :
    (s.endCellOn none c e).regs = { s.regs with done := s.regs.done ||| (1#32 <<< c.val) } := by rw [State.endCellOn_none]

theorem State.endCellOn_info : (s.endCellOn none c e).info = s.info := by rw [State.endCellOn_none]

/-- The end changes nothing but the board, the register window and RAM. -/
theorem State.endCellOn_boardOnly : BoardOnly s (s.endCellOn none c e) := by
  unfold BoardOnly
  rw [State.endCellOn_none]

theorem State.endCellOn_frame : MemFrame s (s.endCellOn none c e) (EndPlaces c) := by
  intro a h
  unfold EndPlaces at h
  rw [State.endCellOn_none]
  refine (Mem.read_write_outside _ ?_).trans (Mem.read_write_outside _ ?_)
  · exact fun w => h (.inl w)
  · rw [resultBytes_length]
    exact fun w => h (.inr w)

/-- A run of bytes of the result area after the end of the cell. -/
theorem State.endCellOn_bytes {o n : Nat} (h : o + n ≤ 64) :
    (s.endCellOn none c e).mem.bytes (cellBase c + 64 + o) n = ((resultBytes s c e).drop o).take n := by
  have hb := cellBase_bounds c
  rw [State.endCellOn_none]
  refine (Mem.bytes_write_beside _ ?_).trans (Mem.bytes_write_inside _ ?_ ?_)
  · simp only [le16_length]; omega
  · rw [resultBytes_length]; exact h
  · rw [resultBytes_length]; simp only [Config.ramSize]; omega

/-- A byte of the first eight of the result area after the end of the cell. -/
theorem State.endCellOn_read {o : Nat} {b : Byte} (h : o < 8)
    (eq : ([byte e.state.code, byte e.flags] ++ le16 e.respLen ++ [byte (s.cell c).grant] ++
        (match e.fault with
          | some f => f.head
          | none => zeros 3))[o]? = some b) : (s.endCellOn none c e).mem.read (cellBase c + 64 + o) = b := by
  rw [← resultBytes_head, List.getElem?_take_of_lt h] at eq
  refine Mem.read_of_bytes_one ((State.endCellOn_bytes s c e (by omega)).trans ?_)
  rw [List.take_one, List.head?_drop, eq]
  rfl

theorem State.endCellOn_kind {n : Nat} (len : n = e.kind.length) (h : e.kind.length ≤ 28) :
    (s.endCellOn none c e).mem.bytes (cellBase c + 100) n = e.kind := by
  subst len
  refine (State.endCellOn_bytes s c e (o := 36) (by omega)).trans ?_
  rw [resultBytes_kind, pad28, List.take_take, Nat.min_eq_left h, List.take_left]

theorem State.endCellOn_shows : CellShows (s.endCellOn none c e) c e.state := by
  have hb := cellBase_bounds c
  refine ⟨by rw [State.endCellOn_cell], ?_⟩
  rw [State.endCellOn_none]
  exact Mem.word_write _ _ (by simp only [Config.ramSize]; omega)

theorem State.endCellOn_doneBit : (s.endCellOn none c e).regs.done.getLsbD c.val = true := by
  rw [State.endCellOn_regs]
  simp

theorem State.endCellOn_onlyCell : OnlyCellState s (s.endCellOn none c e) c :=
  ⟨s.endCellOn_posts c e, by rw [State.endCellOn_cell], fun _ h => s.endCellOn_cell_ne c e h⟩

end

theorem State.endCellOn_endsDone (s : State) (c : Fin 32) {e : CellEnd} (ok : e.fault = none) : EndsDone (s.endCellOn none c e) c := by
  have shown := s.endCellOn_shows c e
  have state : e.state = .done := by rw [CellEnd.state, ok]
  rw [state] at shown
  refine ⟨shown, s.endCellOn_read c e (o := 0) (by decide) (by rw [state]; rfl), ?_, s.endCellOn_doneBit c e⟩
  refine (s.endCellOn_bytes c e (o := 5) (n := 3) (by decide)).trans ?_
  have head := congrArg (List.drop 5) (resultBytes_head s c e)
  rw [List.drop_take, ok] at head
  exact head

theorem State.endCellOn_endsFailed (s : State) (c : Fin 32) {e : CellEnd} {f : FaultRec} (failed : e.fault = some f) :
    EndsFailed (s.endCellOn none c e) c f.stage f.reason := by
  have shown := s.endCellOn_shows c e
  have state : e.state = .failed := by rw [CellEnd.state, failed]
  rw [state] at shown
  refine ⟨shown, s.endCellOn_read c e (o := 0) (by decide) (by rw [state]; rfl),
    s.endCellOn_read c e (o := 5) (by decide) (by rw [failed]; rfl), s.endCellOn_read c e (o := 6) (by decide) (by rw [failed]; rfl),
    s.endCellOn_doneBit c e⟩

/-- A byte of the rest of the fault record after the end of the cell. -/
theorem State.endCellOn_faultByte (s : State) (c : Fin 32) {e : CellEnd} {f : FaultRec} (failed : e.fault = some f) {o : Nat} {b : Byte}
    (h : o < 16) (eq : (f.tail s)[o]? = some b) : (s.endCellOn none c e).mem.read (cellBase c + 84 + o) = b := by
  rw [← resultBytes_tail s c failed, List.getElem?_take_of_lt h, List.getElem?_drop] at eq
  have byte := s.endCellOn_bytes c e (o := 20 + o) (n := 1) (by omega)
  rw [List.take_one, List.head?_drop, eq, ← Nat.add_assoc] at byte
  exact Mem.read_of_bytes_one byte

/-! ### What follows the end leaves it standing -/

/-- Later updates that store outside the cell's state word and keep its true state keep what it shows. -/
theorem CellShows.later {c : Fin 32} {st : CellState} {p : Nat → Prop} (h : CellShows s c st) (same : (t.cell c).st = (s.cell c).st)
    (frame : MemFrame s t p) (apart : ∀ a, Within (cellBase c) 2 a → ¬ p a) : CellShows t c st := by
  refine ⟨same.trans h.1, ?_⟩
  rw [Mem.word, frame.bytes fun k hk => apart _ (by unfold Within; omega)]
  exact h.2

theorem EndsDone.later {c : Fin 32} {p : Nat → Prop} (h : EndsDone s c) (same : (t.cell c).st = (s.cell c).st)
    (frame : MemFrame s t p) (apart : ∀ a, EndPlaces c a → ¬ p a) (bit : t.regs.done.getLsbD c.val = s.regs.done.getLsbD c.val) :
    EndsDone t c := by
  obtain ⟨shown, state, zero, done⟩ := h
  refine ⟨shown.later same frame fun a w => apart a (.inl w), ?_, ?_, bit.trans done⟩
  · rw [frame _ (apart _ (.inr (by unfold Within; omega)))]
    exact state
  · rw [frame.bytes fun k hk => apart _ (.inr (by unfold Within; omega))]
    exact zero

theorem EndsFailed.later {c : Fin 32} {p : Nat → Prop} {stage : Stage} {reason : Reason} (h : EndsFailed s c stage reason)
    (same : (t.cell c).st = (s.cell c).st) (frame : MemFrame s t p) (apart : ∀ a, EndPlaces c a → ¬ p a)
    (bit : t.regs.done.getLsbD c.val = s.regs.done.getLsbD c.val) : EndsFailed t c stage reason := by
  obtain ⟨shown, state, head, why, done⟩ := h
  refine ⟨shown.later same frame fun a w => apart a (.inl w), ?_, ?_, ?_, bit.trans done⟩
  · rw [frame _ (apart _ (.inr (by unfold Within; omega)))]
    exact state
  · rw [frame _ (apart _ (.inr (by unfold Within; omega)))]
    exact head
  · rw [frame _ (apart _ (.inr (by unfold Within; omega)))]
    exact why

/-- The places of the Information Block that go with a write of it lie below every cell. -/
theorem endPlaces_not_infoShared {c : Fin 32} {a : Nat} (h : EndPlaces c a) : ¬ InfoShared a := by
  have hb := cellBase_bounds c
  unfold EndPlaces Within at h
  unfold InfoShared Within
  omega

theorem State.finish_cell (s : State) (c : Fin 32) : s.finish.cell c = s.cell c := by rw [State.finish_eq]; rfl
@[simp] theorem State.finish_board (s : State) : s.finish.board = s.board := by rw [State.finish_eq]
theorem State.finish_done (s : State) : s.finish.regs.done = s.regs.done := by rw [State.finish_eq]

theorem CellShows.finish {c : Fin 32} {st : CellState} (h : CellShows s c st) : CellShows s.finish c st :=
  h.later (by rw [State.finish_cell]) s.finish_frame fun _ w => endPlaces_not_infoShared (.inl w)

theorem EndsDone.finish {c : Fin 32} (h : EndsDone s c) : EndsDone s.finish c :=
  h.later (by rw [State.finish_cell]) s.finish_frame (fun _ => endPlaces_not_infoShared) (by rw [State.finish_done])

theorem EndsFailed.finish {c : Fin 32} {stage : Stage} {reason : Reason} (h : EndsFailed s c stage reason) :
    EndsFailed s.finish c stage reason :=
  h.later (by rw [State.finish_cell]) s.finish_frame (fun _ => endPlaces_not_infoShared) (by rw [State.finish_done])

/-- A cell that has ended holds no abort after its receipt (R182). -/
theorem State.endCellOn_actHeld (s : State) (c : Fin 32) (e : CellEnd) (held : (s.cell c).abortHeld = false) :
    (s.endCellOn none c e).actHeld c = s.endCellOn none c e :=
  State.actHeld_of_not_held (by rw [State.endCellOn_cell]; exact held)

end Sys2Proof.Machine
end

section
/-! PROOFS. FREEZE and UNFREEZE at the Load Regulator (R109). -/

namespace Sys2Proof.Machine

variable {s t : State}

/-- An event ends the register window as the end of a cell does, if it has set that done bit and these events. -/
theorem EndRegs.finish {x : State} {c : Fin 32} {events : BitVec 8}
    (h : x.regs = { s.regs with done := s.regs.done ||| (1#32 <<< c.val), event := s.regs.event ||| events }) :
    EndRegs s x.finish c events := by
  unfold EndRegs
  have regs : x.finish.regs = { x.regs with irq := irqOf x.regs } := by rw [State.finish_eq]
  rw [regs, h]
  rfl

/-- A receipt that ends its cell and has written nothing into the Information Block. -/
theorem State.endCellOn_finish_clean {c : Fin 32} (e : CellEnd) (clean : s.info.dirty = false) :
    (s.endCellOn none c e).finish = (s.endCellOn none c e).irqUpdate :=
  State.finish_clean _ (by rw [State.endCellOn_info, clean])

/-- What the board shows does not depend on how the rest of the part came about. -/
theorem OnlyCellState.of_board {u x : State} {c : Fin 32} (h : OnlyCellState u x c) (from_ : u.board = s.board) :
    OnlyCellState s x c := by
  unfold OnlyCellState State.cell at h ⊢
  rw [← from_]
  exact h

theorem OnlyCellState.irqUpdate {c : Fin 32} (h : OnlyCellState s t c) : OnlyCellState s t.irqUpdate c := h

theorem MemFrame.irqUpdate {p : Nat → Prop} (h : MemFrame s t p) : MemFrame s t.irqUpdate p := h

theorem MemFrame.both {u : State} {p q : Nat → Prop} (x : MemFrame s t p) (y : MemFrame t u q) : MemFrame s u fun a => p a ∨ q a :=
  (x.mono fun _ => .inl).trans (y.mono fun _ => .inr)

theorem MemFrame.finish {p : Nat → Prop} (h : MemFrame s t p) : MemFrame s t.finish fun a => p a ∨ InfoShared a :=
  (h.mono fun _ => .inl).trans (t.finish_frame.mono fun _ => .inr)

theorem State.setFreeze_eq (s : State) (g : Fin 4) (v : Bool) :
    s.setFreeze g v = { s with segs := (s.setFreeze g v).segs, mem := (s.setFreeze g v).mem } := by
  unfold State.setFreeze
  split
  · rfl
  · rw [State.lrWrite_eq]
    rfl

theorem State.setFreeze_seg (s : State) (g : Fin 4) (v : Bool) :
    (s.setFreeze g v).seg g =
      if (s.seg g).freeze = v then s.seg g else { s.seg g with freeze := v, counter := (s.seg g).counter + 1 } := by
  unfold State.setFreeze
  split
  · rfl
  · rw [State.seg_lrWrite, State.seg_modSeg]

theorem State.setFreeze_seg_ne (s : State) {g k : Fin 4} (v : Bool) (h : k ≠ g) : (s.setFreeze g v).seg k = s.seg k := by
  unfold State.setFreeze
  split
  · rfl
  · rw [State.lrWrite_seg_ne _ h, State.seg_modSeg_ne _ _ h]

theorem State.setFreeze_frame (s : State) (g : Fin 4) (v : Bool) :
    MemFrame s (s.setFreeze g v) fun a => (s.seg g).freeze ≠ v ∧ Within (segBase g) 128 a := by
  unfold State.setFreeze
  split
  · exact MemFrame.refl s _
  case isFalse other =>
    exact (State.lrWrite_frame (s.modSeg g fun q => { q with freeze := v }) g).mono fun a inside => ⟨other, inside⟩

theorem State.endCellOn_seg (s : State) (c : Fin 32) (e : CellEnd) (g : Fin 4) : (s.endCellOn none c e).seg g = s.seg g := by
  rw [State.endCellOn_none]
  rfl

/-- Settles O42. -/
theorem freezeUnfreeze : Obligations.FreezeUnfreeze := by
  unfold Obligations.FreezeUnfreeze
  intro c g v s ⟨⟨clean, line⟩, taken, held⟩ cap q hg ho
  have outer := s.setFreeze_eq g v
  have board : (s.setFreeze g v).board = s.board := by rw [outer]
  have cell : ∀ d, (s.setFreeze g v).cell d = s.cell d := fun d => by rw [State.cell, board, State.cell]
  have regs : (s.setFreeze g v).regs = s.regs := by rw [outer]
  have ps : (s.setFreeze g v).ps = s.ps := by rw [outer]
  have still : (s.setFreeze g v).info.dirty = false := by rw [outer]; exact clean
  have freeze : ((s.setFreeze g v).seg g).freeze = v ∧ ((s.setFreeze g v).seg g).acc = q.acc := by
    rw [State.setFreeze_seg]
    split
    case isTrue same => exact ⟨same, rfl⟩
    case isFalse => exact ⟨rfl, rfl⟩
  have kind : throttleKind (s.setFreeze g v) g q.acc =
      le16 q.acc ++ le16 q.acc ++ [byte (levelOf q.acc), byte (flagBit v 0 + flagBit s.ps.active.regs[g].enabled 1)] := by
    rw [throttleKind, freeze.1, freeze.2, ps]
  have runs : exec (if v then .freeze c else .unfreeze c) s =
      .next (((s.setFreeze g v).throttleDone c g q.acc).actHeld c).finish := by
    cases v
    · exact receiveSegment_eq taken hg ho
    · exact receiveSegment_eq taken hg ho
  have named : channelNamed ((s.setFreeze g v).cell c).captured = none := by
    rw [cell]
    exact channelNamed_throttle (State.kindOf_of_taken taken)
  rw [State.throttleDone, State.endCell_of_no_channel named, State.endCellOn_actHeld _ _ _ (by rw [cell]; exact held)] at runs
  refine ⟨_, runs, (State.endCellOn_endsDone _ c rfl).finish, ?_⟩
  have regsEnd : EndRegs s ((s.setFreeze g v).endCellOn none c (.done (throttleKind (s.setFreeze g v) g q.acc))).finish c 0 :=
    .finish (by rw [State.endCellOn_regs, regs]; simp)
  rw [State.endCellOn_finish_clean _ still] at regsEnd ⊢
  refine ⟨?_, ?_, fun k ne => ?_, ?_, regsEnd, ?_, ?_⟩
  · rw [State.irqUpdate_seg, State.endCellOn_seg, State.setFreeze_seg]
  · rw [State.irqUpdate_mem, State.endCellOn_kind _ _ _ (by rw [kind]; rfl) (by rw [kind]; exact Nat.le_of_ble_eq_true rfl)]
    exact kind
  · rw [State.irqUpdate_seg, State.endCellOn_seg, State.setFreeze_seg_ne _ _ ne]
  · exact ((s.setFreeze g v).endCellOn_onlyCell c _).irqUpdate.of_board board
  · rw [State.irqUpdate_eq, State.endCellOn_none, outer]
  · have set := (s.setFreeze_frame g v).mono (q := fun x => EndPlaces c x ∨ (q.freeze ≠ v ∧ Within (segBase g) 128 x)) fun _ => .inr
    exact (set.trans ((State.endCellOn_frame _ c _).mono fun _ => .inl)).irqUpdate

end Sys2Proof.Machine
end

section
/-! PROOFS. Debounced lines and the commands of time (R42, R153, R154, R156, R158, R163, R191). -/

namespace Sys2Proof.Machine

variable {s t : State}

/-! ### Fields of the Information Block at the end of an event (R191) -/

/-- A field that no reserved byte or bit belongs to is stored as the event left it. -/
theorem State.finish_infoBytes (s : State) {off n : Nat} (free : ∀ k < n, ¬ InfoShared (off + k)) :
    s.finish.mem.bytes off n = s.mem.bytes off n := s.finish_frame.bytes free

/-- Where one run of reserved bits covers a byte, the byte keeps the bits of the run's mask. -/
theorem Mem.read_clear_inside (m : Mem) {pre post : List Reserved} {a n x : Nat} {k : Byte} (inside : Within a n x)
    (hr : a + n ≤ Config.ramSize) (before : ∀ r ∈ pre, ¬ Within r.1 r.2.1 x) (after : ∀ r ∈ post, ¬ Within r.1 r.2.1 x) :
    (m.clear (pre ++ (a, n, k) :: post)).read x = m.read x &&& k := by
  unfold Mem.clear
  rw [List.foldl_append, List.foldl_cons]
  refine (Mem.read_clear_outside _ after).trans ?_
  have size : x < Config.ramSize := by unfold Within at inside; omega
  have kept : ∀ m : Mem, (m.kept a n k).getD (x - a) 0 = m.read x &&& k := by
    intro m
    have place : x - a < n := by unfold Within at inside; omega
    have here : a + (x - a) = x := by unfold Within at inside; omega
    unfold Mem.kept
    split
    case isTrue none => simp [none, List.getD_eq_getElem?_getD, place]
    case isFalse => simp [Mem.bytes, List.getD_eq_getElem?_getD, List.getElem?_range place, here]
  rw [Mem.read_write, Mem.kept_length, if_pos inside, if_pos size, kept]
  exact congrArg (· &&& k) (Mem.read_clear_outside m before)

/-- The memory at the end of an event that has written into the Information Block. -/
theorem State.finish_dirty_mem (s : State) (dirty : s.info.dirty = true) :
    s.finish.mem = (s.mem.clear infoReserved).write 0x0C (le16 (s.info.counter + 1).toNat) := by
  unfold State.finish State.infoClose
  rw [if_pos dirty]
  rfl

/-- A byte of one reserved run of the Information Block at the end of such an event. -/
theorem State.finish_reserved (s : State) (dirty : s.info.dirty = true) {pre post : List Reserved} {a n x : Nat} {k : Byte}
    (run : infoReserved = pre ++ (a, n, k) :: post) (inside : Within a n x) (hr : a + n ≤ Config.ramSize)
    (before : ∀ r ∈ pre, ¬ Within r.1 r.2.1 x) (after : ∀ r ∈ post, ¬ Within r.1 r.2.1 x) (counter : ¬ Within 0x0C 2 x) :
    s.finish.mem.read x = s.mem.read x &&& k := by
  rw [s.finish_dirty_mem dirty, run]
  exact (Mem.read_write_outside _ counter).trans (Mem.read_clear_inside _ inside hr before after)

/-- The byte of the connector lines keeps its three bits. -/
theorem State.finish_lines (s : State) (dirty : s.info.dirty = true) : s.finish.mem.read 0x18 = s.mem.read 0x18 &&& 7 :=
  s.finish_reserved dirty (pre := [(0x09, 1, 0), (0x0A, 1, 1), (0x0E, 2, 0)]) rfl (by decide) (by decide) (by decide) (by decide) (by decide)

/-- A written field of the Information Block, as the event leaves it in RAM. -/
theorem State.wrInfo_bytes (s : State) {off : Nat} {bs : List Byte} (inside : off + bs.length ≤ 0x100) :
    (s.wrInfo off bs).mem.bytes off bs.length = bs := by
  rw [State.wrInfo_mem, Mem.bytes_write _ (by simp only [Config.ramSize]; omega)]

/-- The change counter of the Information Block takes one step for an event that wrote into it. -/
theorem State.finish_info_dirty (clean : s.info.dirty = false) (t : State) (wrote : t.info = { s.info with dirty := true }) :
    t.finish.info = { s.info with counter := s.info.counter + 1 } := by
  rw [State.finish_info, wrote]
  simp only [if_true]
  rw [← clean]

/-- An event that leaves the register window alone leaves the line as it was. -/
theorem State.finish_sameRegs (settled : Settled s) (t : State) (regs : t.regs = s.regs) :
    t.finish = { t with mem := t.finish.mem, info := t.finish.info } := by
  conv_lhs => rw [t.finish_eq]
  rw [regs, ← settled.2, ← regs]

/-! ### Debounced lines (R153, R154, R156, R163) -/

theorem Line.rawChange_same (l : Line) (now len : Nat) : l.rawChange l.raw now len = l := by simp [Line.rawChange]

theorem Line.rawChange_other (l : Line) {v : Bool} (h : v ≠ l.raw) (now len : Nat) :
    l.rawChange v now len = ⟨v, l.level, if v = l.level then none else some (now + len)⟩ := by simp [Line.rawChange, h]

theorem CM.setLine_self (m : CM) (l : ConnLine) : m.setLine l (m.line l) = m := by cases l <;> rfl

@[simp] theorem State.finish_cm (s : State) : s.finish.cm = s.cm := by rw [State.finish_eq]
@[simp] theorem State.finish_regs (s : State) : s.finish.regs = { s.regs with irq := irqOf s.regs } := by rw [State.finish_eq]

/-- The bits of the byte of the connector lines that are kept (11.7). -/
theorem linesByte_bits (s : State) :
    (linesByte s &&& 7).getLsbD 0 = s.cm.presence.level ∧ (linesByte s &&& 7).getLsbD 1 = s.cm.key.level ∧
      (linesByte s &&& 7).getLsbD 2 = (s.cm.presence.level && s.cm.key.level) := by
  have all : ∀ p k : Bool, (byte (flagBit p 0 + flagBit k 1 + flagBit (p && k) 2) &&& 7).getLsbD 0 = p ∧
      (byte (flagBit p 0 + flagBit k 1 + flagBit (p && k) 2) &&& 7).getLsbD 1 = k ∧
      (byte (flagBit p 0 + flagBit k 1 + flagBit (p && k) 2) &&& 7).getLsbD 2 = (p && k) := by decide
  exact all s.cm.presence.level s.cm.key.level

/-- The CM after the expiry of a line's debounce. -/
def CM.lineExpired (m : CM) (l : ConnLine) (now : Nat) : CM :=
  match l with
  | .presence => (m.setLine l (m.line l).expire).setGrace now
  | .key => m.setLine l (m.line l).expire

theorem State.lineExpire_eq (s : State) (l : ConnLine) :
    s.lineExpire l =
      { s with cm := s.cm.lineExpired l s.time.clock
               mem := s.mem.write 0x18 [linesByte { s with cm := s.cm.lineExpired l s.time.clock }]
               regs := { s.regs with event := s.regs.event ||| Event.presence.bit }
               info := { s.info with dirty := true } } := by
  cases l <;> rfl

theorem CM.lineExpired_line (m : CM) (l : ConnLine) (now : Nat) :
    (m.lineExpired l now).line l = { raw := (m.line l).raw, level := (m.line l).raw, timer := none } ∧
      (∀ k, k ≠ l → (m.lineExpired l now).line k = m.line k) ∧
      (m.lineExpired l now).grace = (if l = .key then m.grace else if m.presence.raw then none else some (now + 2000)) ∧
      m.lineExpired l now = { m with presence := (m.lineExpired l now).presence, key := (m.lineExpired l now).key
                                     grace := (m.lineExpired l now).grace } := by
  cases l
  case presence => exact ⟨rfl, fun k h => by cases k <;> [exact absurd rfl h; rfl], rfl, rfl⟩
  case key => exact ⟨rfl, fun k h => by cases k <;> [rfl; exact absurd rfl h], rfl, rfl⟩

/-- Settles O39. -/
theorem debouncedLines : Obligations.DebouncedLines := by
  unfold Obligations.DebouncedLines
  intro l v s settled
  have settles : ∀ cm vsm, complete { s with cm := cm, vsm := vsm } = .next { s with cm := cm, vsm := vsm } := fun cm vsm =>
    congrArg Host.Outcome.next (Settled.finish (s := { s with cm := cm, vsm := vsm }) settled)
  refine ⟨fun other => ?_, fun same => ?_, fun other => ?_, fun same => ?_, fun due => ?_⟩
  · refine (settles (s.cm.setLine l ((s.cm.line l).rawChange v s.time.clock Config.lineDebounce)) s.vsm).trans ?_
    rw [Line.rawChange_other _ other]
    rfl
  · refine (settles (s.cm.setLine l ((s.cm.line l).rawChange v s.time.clock Config.lineDebounce)) s.vsm).trans ?_
    rw [same, Line.rawChange_same, CM.setLine_self]
  · refine (settles s.cm { s.vsm with ignition := s.vsm.ignition.rawChange v s.time.clock Config.ignitionDebounce }).trans ?_
    rw [Line.rawChange_other _ other]
    rfl
  · refine (settles s.cm { s.vsm with ignition := s.vsm.ignition.rawChange v s.time.clock Config.ignitionDebounce }).trans ?_
    rw [same, Line.rawChange_same]
  · obtain ⟨line, others, grace, rest⟩ := s.cm.lineExpired_line l s.time.clock
    have runs : exec (.connectorDebounceExpiry l) s = .next (s.lineExpire l).finish := if_pos due
    have cm : (s.lineExpire l).finish.cm = s.cm.lineExpired l s.time.clock := by rw [State.finish_cm, State.lineExpire_eq]
    have lines : (s.lineExpire l).finish.mem.read 0x18 = linesByte { s with cm := s.cm.lineExpired l s.time.clock } &&& 7 := by
      rw [State.finish_lines _ (by rw [State.lineExpire_eq])]
      rw [State.lineExpire_eq]
      exact congrArg (· &&& 7) (Mem.read_write_inside _ (o := 0) (Nat.one_pos) (by simp [Config.ramSize]))
    obtain ⟨bit0, bit1, bit2⟩ := linesByte_bits { s with cm := s.cm.lineExpired l s.time.clock }
    refine ⟨_, runs, ?_, fun k h => ?_, ?_, ?_, ?_, ?_, ?_, ?_, ?_, ?_⟩
    · rw [cm, line]
    · rw [cm, others k h]
    · rw [cm, grace]
    · rw [cm]; exact rest
    · rw [lines, bit0, cm]
    · rw [lines, bit1, cm]
    · rw [lines, bit2, cm]
    · rw [State.finish_regs, State.lineExpire_eq]
      rfl
    · rw [State.finish_eq, State.lineExpire_eq]
    · refine (MemFrame.finish (s := s) (p := Within 0x18 1) ?_).mono fun a => id
      rw [State.lineExpire_eq]
      exact fun a outside => Mem.read_write_outside _ outside

/-! ### One update of every channel -/

theorem State.updChan_chan_same (s : State) (ch : Fin 8) (f : Chan → Chan) :
    (s.updChan ch f).chan ch =
      if f (s.chan ch) = s.chan ch then s.chan ch else { f (s.chan ch) with counter := (s.chan ch).counter + 1 } := by
  by_cases same : f (s.chan ch) = s.chan ch
  · rw [if_pos same, State.updChan_eq, if_pos same]
  · rw [if_neg same, State.updChan_eq, if_neg same]
    exact upd_same s.chans ch _

/-- An update of a channel changes its record and its Channel Status entry only. -/
theorem State.updChan_whole (s : State) (ch : Fin 8) (f : Chan → Chan) :
    s.updChan ch f = { s with chans := (s.updChan ch f).chans, mem := (s.updChan ch f).mem } := by
  rw [State.updChan_eq]
  split <;> rfl

theorem State.updChan_frame_of (s : State) (ch : Fin 8) (f : Chan → Chan) :
    MemFrame s (s.updChan ch f) fun a => f (s.chan ch) ≠ s.chan ch ∧ Within (chanBase ch) 32 a := by
  by_cases same : f (s.chan ch) = s.chan ch
  · rw [State.updChan_eq, if_pos same]
    exact MemFrame.refl s _
  · exact (s.updChan_frame ch f).mono fun a inside => ⟨same, inside⟩

/-- The same update of each channel of a list. -/
def State.updChans (s : State) (f : Chan → Chan) (l : List (Fin 8)) : State := l.foldl (fun s ch => s.updChan ch f) s

theorem State.updChans_whole (f : Chan → Chan) (l : List (Fin 8)) :
    ∀ s : State, s.updChans f l = { s with chans := (s.updChans f l).chans, mem := (s.updChans f l).mem } := by
  induction l with
  | nil => exact fun _ => rfl
  | cons ch l ih =>
    intro s
    have step : s.updChans f (ch :: l) = (s.updChan ch f).updChans f l := rfl
    rw [step]
    conv_lhs => rw [ih]
    rw [s.updChan_whole ch f]

theorem State.updChans_chan_not (f : Chan → Chan) (l : List (Fin 8)) :
    ∀ (s : State) {k : Fin 8}, k ∉ l → (s.updChans f l).chan k = s.chan k := by
  induction l with
  | nil => exact fun _ _ _ => rfl
  | cons ch l ih =>
    intro s k out
    obtain ⟨ne, out⟩ := not_or.1 (mt List.mem_cons.2 out)
    exact (ih (s.updChan ch f) out).trans (State.updChan_chan_ne s f ne)

theorem State.updChans_chan (f : Chan → Chan) (l : List (Fin 8)) :
    ∀ (s : State), l.Nodup → ∀ {k : Fin 8}, k ∈ l → (s.updChans f l).chan k = (s.updChan k f).chan k := by
  induction l with
  | nil => exact fun _ _ _ mem => absurd mem List.not_mem_nil
  | cons ch l ih =>
    intro s nodup k mem
    obtain ⟨out, nodup⟩ := List.nodup_cons.1 nodup
    rcases List.mem_cons.1 mem with rfl | mem
    · exact State.updChans_chan_not f l _ out
    · have ne : k ≠ ch := fun e => out (e ▸ mem)
      refine (ih (s.updChan ch f) nodup mem).trans ?_
      rw [State.updChan_chan_same, State.updChan_chan_same, State.updChan_chan_ne s f ne]

theorem State.updChans_frame (f : Chan → Chan) (l : List (Fin 8)) :
    ∀ s : State, l.Nodup → MemFrame s (s.updChans f l) fun a => ∃ ch ∈ l, f (s.chan ch) ≠ s.chan ch ∧ Within (chanBase ch) 32 a := by
  induction l with
  | nil => exact fun s _ => MemFrame.refl s _
  | cons ch l ih =>
    intro s nodup
    obtain ⟨out, nodup⟩ := List.nodup_cons.1 nodup
    have first := (s.updChan_frame_of ch f).mono (q := fun a => ∃ k ∈ ch :: l, f (s.chan k) ≠ s.chan k ∧ Within (chanBase k) 32 a)
      fun a h => ⟨ch, List.mem_cons_self, h⟩
    refine first.trans ((ih (s.updChan ch f) nodup).mono ?_)
    rintro a ⟨k, mem, changes, inside⟩
    have ne : k ≠ ch := fun e => out (e ▸ mem)
    rw [State.updChan_chan_ne s f ne] at changes
    exact ⟨k, List.mem_cons_of_mem _ mem, changes, inside⟩

/-- Every channel has taken the update once. -/
theorem State.updChans_all (s : State) (f : Chan → Chan) (k : Fin 8) :
    (s.updChans f (List.finRange 8)).chan k = (s.updChan k f).chan k :=
  State.updChans_chan f _ s (List.nodup_finRange 8) (List.mem_finRange k)

/-! ### The commands of time (R42, R158, R191) -/

theorem countDown_changes (r : Chan) : countDown r ≠ r ↔ r.suspended = true ∧ r.remaining ≠ 0 := by
  unfold countDown
  split
  case isTrue on =>
    have remaining : ({ r with remaining := r.remaining - 1 } : Chan) = r ↔ r.remaining - 1 = r.remaining := by
      constructor
      · exact congrArg Chan.remaining
      · intro e; rw [e]
    rw [ne_eq, remaining]
    simp only [on, true_and]
    omega
  case isFalse off => simp [off]

theorem MemFrame.finish_infoPlaces {off n : Nat} (h : MemFrame s t (Within off n)) : MemFrame s t.finish (InfoPlaces off n) := h.finish

@[simp] theorem State.finish_chan (s : State) (ch : Fin 8) : s.finish.chan ch = s.chan ch := by
  obtain ⟨_, _, _, _, chans, _⟩ := s.finish_fields
  rw [State.chan, chans, State.chan]

@[simp] theorem State.finish_time (s : State) : s.finish.time = s.time := by rw [State.finish_eq]

/-- The part after a millisecond of the running part. -/
def State.msTicked (s : State) : State :=
  { s with time := { s.time with ms := s.time.ms + 1, prescale := s.time.prescale + 1, clock := s.time.clock + 1, us := 0 }
           mem := s.mem.write 0x10 (le32 (s.time.ms + 1).toNat)
           info := { s.info with dirty := true } }

/-- The part after a second, before the channels have counted down. -/
def State.secWritten (s : State) : State :=
  { s with time := { s.time with sec := s.time.sec + 1, prescale := s.time.prescale - 1000 }
           mem := s.mem.write 0x14 (le32 (s.time.sec + 1).toNat)
           info := { s.info with dirty := true } }

theorem State.secWritten_chan (s : State) (ch : Fin 8) : s.secWritten.chan ch = s.chan ch := rfl

theorem State.secAdvance_eq (s : State) : s.secAdvance = s.secWritten.updChans countDown (List.finRange 8) := rfl

/-- What SECONDS_TICK does to a channel (R42). -/
theorem State.countedDown (s : State) (ch : Fin 8) :
    (s.updChan ch countDown).chan ch = if (s.chan ch).suspended = true ∧ (s.chan ch).remaining ≠ 0
      then { s.chan ch with remaining := (s.chan ch).remaining - 1, counter := (s.chan ch).counter + 1 } else s.chan ch := by
  rw [State.updChan_chan_same]
  have changes := countDown_changes (s.chan ch)
  by_cases moves : (s.chan ch).suspended = true ∧ (s.chan ch).remaining ≠ 0
  · rw [if_pos moves, if_neg (changes.2 moves), countDown, if_pos moves.1]
  · rw [if_neg moves, if_pos (not_not.1 (mt changes.1 moves))]

/-- Settles O60. -/
theorem timeCommands : Obligations.TimeCommands := by
  unfold Obligations.TimeCommands
  intro s settled
  refine ⟨fun running => ?_, fun busy => ?_, fun running full => ?_, fun ch suspended ended => ?_, fun d blinks due now => ?_⟩
  · have runs : exec .millisecondTick s =
        .next s.msTicked.finish := by
      show execMillisecondTick s = _
      unfold execMillisecondTick
      rw [running]
      rfl
    refine ⟨_, runs, ?_, ?_, ?_, ?_, ?_⟩
    · rw [State.finish_time, State.msTicked]
    · rw [State.finish_infoBytes _ (by unfold InfoShared Within; omega)]
      exact Mem.bytes_write s.mem (b := 0x10) (bs := le32 (s.time.ms + 1).toNat) (by rw [le32_length]; decide)
    · exact State.finish_info_dirty settled.1 _ rfl
    · rw [State.finish_time, State.finish_sameRegs settled s.msTicked rfl, State.msTicked]
    · refine MemFrame.finish_infoPlaces (off := 0x10) (n := 4) ?_
      exact fun a outside => Mem.read_write_outside _ outside
  · have runs : exec .millisecondTick s = complete (s.modTime fun t => { t with clock := t.clock + 1, us := 0 }) := by
      show execMillisecondTick s = _
      unfold execMillisecondTick
      split <;> simp_all
    rw [runs]
    exact congrArg Host.Outcome.next (Settled.finish (s := s.modTime fun t => { t with clock := t.clock + 1, us := 0 }) settled)
  · have runs : exec .secondsTick s = .next s.secAdvance.finish := if_pos ⟨running, full⟩
    have whole := s.secWritten.updChans_whole countDown (List.finRange 8)
    have frame := s.secWritten.updChans_frame countDown (List.finRange 8) (List.nodup_finRange 8)
    rw [State.secAdvance_eq] at runs
    refine ⟨_, runs, ?_, ?_, fun ch => ?_, ?_, ?_, ?_⟩
    · rw [State.finish_time, whole, State.secWritten]
    · rw [State.finish_infoBytes _ (by unfold InfoShared Within; omega), frame.bytes ?_]
      · exact Mem.bytes_write s.mem (b := 0x14) (bs := le32 (s.time.sec + 1).toNat) (by rw [le32_length]; decide)
      · rintro k hk ⟨ch, _, _, inside⟩
        have := chanBase_bounds ch
        unfold Within at inside
        omega
    · rw [State.finish_chan, State.updChans_all, State.countedDown, State.secWritten_chan]
    · exact State.finish_info_dirty settled.1 _ (by rw [whole, State.secWritten])
    · have regs : (s.secWritten.updChans countDown (List.finRange 8)).regs = s.regs := by rw [whole, State.secWritten]
      rw [State.finish_time, State.finish_sameRegs settled _ regs, whole, State.secWritten]
    · have written : MemFrame s s.secWritten fun a => Within 0x14 4 a := fun a outside => Mem.read_write_outside _ outside
      have counted := (written.mono fun _ => .inl).trans (frame.mono (q := fun a => Within 0x14 4 a ∨
        ∃ ch : Fin 8, (s.chan ch).suspended = true ∧ Within (chanBase ch) 32 a) fun a => by
          rintro ⟨ch, _, changes, inside⟩
          exact .inr ⟨ch, ((countDown_changes _).1 changes).1, inside⟩)
      refine counted.finish.mono fun a => ?_
      rintro ((field | entry) | shared)
      · exact .inl (.inl field)
      · exact .inr entry
      · exact .inl (.inr shared)
  · have runs : exec (.suspensionEnd ch) s = .next (s.unsuspend ch).finish := if_pos ⟨suspended, ended⟩
    have whole := s.updChan_whole ch fun r => { r with suspended := false, remaining := 0, run := 0 }
    have changed : ({ s.chan ch with suspended := false, remaining := 0, run := 0 } : Chan) ≠ s.chan ch := fun e =>
      absurd (congrArg Chan.suspended e) (by simp [suspended])
    have info : (s.unsuspend ch).info = s.info := by
      rw [State.unsuspend, whole]
      rfl
    rw [State.finish_clean _ (by rw [info]; exact settled.1)] at runs
    refine ⟨_, runs, ?_, fun j ne => ?_, ?_, ?_, ?_⟩
    · refine (s.updChan_chan_same ch _).trans ?_
      rw [if_neg changed]
    · exact State.updChan_chan_ne s _ ne
    · rw [State.irqUpdate_regs, State.unsuspend, whole]
      rfl
    · rw [State.irqUpdate_eq, State.unsuspend, whole]
      rfl
    · exact s.updChan_frame ch _
  · have runs : exec .lampBlinkToggle s =
        complete (s.modCm fun m => { m with lit := !m.lit, blink := m.blink.map (· + Config.blinkHalf) }) :=
      if_pos ⟨blinks, by rw [due]; exact decide_eq_true now⟩
    rw [runs]
    refine (congrArg Host.Outcome.next (Settled.finish
      (s := s.modCm fun m => { m with lit := !m.lit, blink := m.blink.map (· + Config.blinkHalf) }) settled)).trans ?_
    rw [State.modCm, due]
    rfl

end Sys2Proof.Machine
end

section
/-! PROOFS. Board errors on cell and slot words, the post list and the take (R180, R181, R184 to R186). -/

namespace Sys2Proof.Machine

variable {s t : State}

/-! ### Board errors (R181) -/

theorem BoardError.bytes_length (b : BoardError) : b.bytes.length = 5 := rfl

/-- RAM at a board error: the host's write, the mirror restored, the record and its count. -/
theorem State.boardError_frame (s : State) (w : HostWrite) {a : Nat} (b : BoardError) :
    MemFrame s (((s.hostWord a w).wr a (le16 b.state)).boardError b) fun x => Within a 2 x ∨ Within 0x2C 9 x := by
  rw [State.boardError_eq]
  intro x outside
  obtain ⟨word, record⟩ := not_or.1 outside
  refine (Mem.read_write_outside _ fun h => record ?_).trans <| (Mem.read_write_outside _ fun h => record ?_).trans <|
    (Mem.read_write_outside _ word).trans (s.hostWord_frame a w x word)
  · rw [le32_length] at h
    unfold Within at *
    omega
  · rw [BoardError.bytes_length] at h
    unfold Within at *
    omega

/-- A watched word that the host has left with a value that the rules refuse. -/
theorem State.boardError_taken (settled : Settled s) (w : HostWrite) {a : Nat} (low : 0x100 ≤ a) (high : a + 2 ≤ 0x10000)
    (b : BoardError) : BoardErrorTaken s (((s.hostWord a w).wr a (le16 b.state)).boardError b).finish a b := by
  have frame := s.boardError_frame w (a := a) b
  have eq := ((s.hostWord a w).wr a (le16 b.state)).boardError_eq b
  generalize hx : ((s.hostWord a w).wr a (le16 b.state)).boardError b = x at frame eq
  have dirty : x.info.dirty = true := by rw [eq]
  have info : x.info = { s.info with lastError := b, errors := s.info.errors + 1, dirty := true } := by
    rw [eq]
    rfl
  have regs : x.regs = { s.regs with event := s.regs.event ||| Event.board.bit } := by
    rw [eq]
    rfl
  have below : ∀ y, y < 0x100 → ¬ Within 0x2C 9 y → x.mem.read y = s.mem.read y := fun y small out =>
    frame y (by simp only [Within] at out ⊢; omega)
  have closed := x.finish_dirty_mem dirty
  refine ⟨?_, ?_, ?_, ?_, ?_, ?_, ?_, ?_, ?_, ?_, ?_, ?_, ?_, ?_⟩
  · rw [State.finish_word _ low, eq]
    refine (Mem.word_write_beside _ (by rw [le32_length]; omega)).trans <|
      (Mem.word_write_beside _ (by rw [BoardError.bytes_length]; omega)).trans ?_
    exact Mem.word_write _ _ high
  · rw [State.finish_infoBytes _ (by unfold InfoShared Within; omega), eq]
    refine (Mem.bytes_write_beside _ (by rw [le32_length]; omega)).trans ?_
    exact Mem.bytes_write _ (bs := b.bytes) (by rw [BoardError.bytes_length]; decide)
  · rw [State.finish_infoBytes _ (by unfold InfoShared Within; omega), eq]
    exact Mem.bytes_write _ (bs := le32 (s.info.errors + 1).toNat) (by rw [le32_length]; decide)
  · have second : x.finish.mem.bytes 0x0E 2 = [0, 0] := by
      have zero : ∀ y, Within 0x0E 2 y → x.finish.mem.read y = 0 := fun y inside =>
        (x.finish_reserved dirty (pre := [(0x09, 1, 0), (0x0A, 1, 1)]) rfl inside (by decide)
          (by unfold Within at *; simp; omega) (by unfold Within at *; simp; omega) (by unfold Within at *; omega)).trans
          (BitVec.and_zero)
      simp [Mem.bytes, List.range_succ, zero 0x0E (by decide), zero 0x0F (by decide)]
    have first : x.finish.mem.bytes 0x0C 2 = le16 (s.info.counter + 1).toNat := by
      rw [closed, info]
      exact Mem.bytes_write _ (bs := le16 _) (by rw [le16_length]; decide)
    have split : x.finish.mem.bytes 0x0C 4 = x.finish.mem.bytes 0x0C 2 ++ x.finish.mem.bytes 0x0E 2 := by
      simp [Mem.bytes, List.range_succ]
    rw [split, first, second]
  · exact (x.finish_reserved dirty (pre := []) rfl (by decide) (by decide) (by decide) (by decide) (by decide)).trans BitVec.and_zero
  · exact (x.finish_reserved dirty (pre := [(0x09, 1, 0), (0x0A, 1, 1), (0x0E, 2, 0), (0x18, 1, 7)]) rfl (by decide) (by decide)
      (by decide) (by decide) (by decide)).trans BitVec.and_zero
  · exact (x.finish_reserved dirty (pre := [(0x09, 1, 0), (0x0A, 1, 1), (0x0E, 2, 0), (0x18, 1, 7), (0x1F, 1, 0)]) rfl (by decide)
      (by decide) (by decide) (by decide) (by decide)).trans BitVec.and_zero
  · have zero : ∀ y, Within 0x35 203 y → x.finish.mem.read y = 0 := fun y inside =>
      (x.finish_reserved dirty (pre := [(0x09, 1, 0), (0x0A, 1, 1), (0x0E, 2, 0), (0x18, 1, 7), (0x1F, 1, 0), (0x23, 1, 0)]) rfl inside
        (by decide) (by unfold Within at *; simp; omega) (by simp) (by unfold Within at *; omega)).trans BitVec.and_zero
    refine List.eq_replicate_iff.2 ⟨by simp, fun y mem => ?_⟩
    obtain ⟨k, hk, rfl⟩ := List.mem_map.1 mem
    exact zero _ (by have := List.mem_range.1 hk; unfold Within; omega)
  · rw [← below 0x0A (by decide) (by decide)]
    exact x.finish_reserved dirty (pre := [(0x09, 1, 0)]) rfl (by decide) (by decide) (by decide) (by decide) (by decide)
  · rw [← below 0x18 (by decide) (by decide)]
    exact x.finish_lines dirty
  · rw [State.finish_info, info]
    simp only [if_true]
    rw [← settled.1]
  · rw [State.finish_regs, regs]
    rfl
  · have fin := x.finish_eq
    generalize x.finish = y at fin ⊢
    rw [fin, eq]
    rfl
  · exact frame.finish.mono fun y h => by rw [or_assoc] at h; exact h

/-- A write to a watched word that the rules refuse is that board error. -/
theorem State.boardError_of_watched {o : Host.Outcome State Fault Refusal} {a : Nat} {w : HostWrite} {v : Word16} {ok : Word16 → Bool} {act : State → Word16 → State}
    (running : Running s) (leaves : Leaves s a w v) (runs : o = watchedWrite s a w ok act) (low : 0x100 ≤ a) (high : a + 2 ≤ 0x10000) (b : BoardError) (this : ok v = true)
    (refused : act (s.hostWord a w) v = ((s.hostWord a w).wr a (le16 b.state)).boardError b) :
    ∃ t, o = .next t ∧ BoardErrorTaken s t a b := by
  subst runs
  obtain ⟨phase, settled⟩ := running
  obtain ⟨enabled, value⟩ := leaves
  refine ⟨_, watchedWrite_running phase enabled (by rw [value]; exact this), ?_⟩
  rw [value, refused]
  exact State.boardError_taken settled w low high b

/-- The meaning of a watched write, by its arm and then by what the arm is. -/
theorem exec_eq {c : Instr} {a : Nat} {w : HostWrite} {ok : Word16 → Bool} {act : State → Word16 → State}
    (arm : Host.Outcome State Fault Refusal) (meaning : exec c s = arm) (is : arm = watchedWrite s a w ok act := by rfl) :
    exec c s = watchedWrite s a w ok act := meaning.trans is

/-- Settles O19. -/
theorem cellBoardErrors : Obligations.CellBoardErrors := by
  unfold Obligations.CellBoardErrors
  intro c w v s running leaves e
  have bounds := cellBase_bounds c
  have error : ∀ {o ok act}, o = watchedWrite s (cellBase c) w ok act → ok v = true → act (s.hostWord (cellBase c) w) v = (s.hostWord (cellBase c) w).cellError c v →
      ∃ t, o = .next t ∧ BoardErrorTaken s t (cellBase c) e := fun runs this refused =>
    State.boardError_of_watched running leaves runs (by omega) (by omega) e this refused
  refine ⟨fun notEmpty notPosted notAbort => ?_, fun posted other => ?_, fun empty notDone notFailed => ?_, fun abort empty => ?_⟩
  · refine error (exec_eq (execCellInvalidWrite c w s) rfl) ?_ ?_
    · simp only [Bool.and_eq_true, bne_iff_ne]
      exact ⟨⟨notEmpty, notPosted⟩, notAbort⟩
    · rfl
  · refine error (exec_eq (execCellPost c w s) rfl) ?_ ?_
    · simp [posted]
    · exact if_neg other
  · refine error (exec_eq (execCellEmpty c w s) rfl) ?_ ?_
    · simp [empty]
    show (s.hostWord (cellBase c) w).emptyCell c v = _
    have st : ((s.hostWord (cellBase c) w).cell c).st = (s.cell c).st := rfl
    unfold State.emptyCell
    rw [st]
    split <;> simp_all
  · refine error (exec_eq (execCellAbort c w s) rfl) ?_ ?_
    · simp [abort]
    show (s.hostWord (cellBase c) w).abortCell c v = _
    have st : ((s.hostWord (cellBase c) w).cell c).st = .empty := empty
    unfold State.abortCell
    rw [st]

theorem State.slotError_of_watched {o : Host.Outcome State Fault Refusal} {n : Fin 8} {w : HostWrite} {v : Word16} {ok : Word16 → Bool} {act : State → Word16 → State}
    (running : Running s) (leaves : Leaves s (slotBase n) w v)
    (runs : o = watchedWrite s (slotBase n) w ok act) (this : ok v = true)
    (refused : act (s.hostWord (slotBase n) w) v = (s.hostWord (slotBase n) w).slotError n v) :
    ∃ t, o = .next t ∧
      BoardErrorTaken s t (slotBase n) { word := 2, number := n.val, value := v, state := (s.slot n).st.code } := by
  have bounds := slotBase_bounds n
  exact State.boardError_of_watched running leaves runs (by omega) (by omega) _ this refused

/-- Settles O24. -/
theorem slotBoardErrors : Obligations.SlotBoardErrors := by
  unfold Obligations.SlotBoardErrors
  intro n w v s running leaves e
  refine ⟨fun notFree notFilled => ?_, fun free state => ?_⟩
  · refine State.slotError_of_watched running leaves (exec_eq (execSlotInvalidWrite n w s) rfl) ?_ ?_
    · simp only [Bool.and_eq_true, bne_iff_ne, Bool.not_eq_true', Bool.and_eq_false_iff, beq_eq_false_iff_ne]
      exact ⟨notFree, Decidable.not_or_of_imp notFilled⟩
    · rfl
  · refine State.slotError_of_watched running leaves (exec_eq (execSlotFree n w s) rfl) ?_ ?_
    · simp [free]
    have st : ((s.hostWord (slotBase n) w).slot n).st = (s.slot n).st := rfl
    unfold State.slotFreed
    rw [st]
    rcases state with state | state <;> rw [state]

end Sys2Proof.Machine
end

section
/-! PROOFS. The post list and the take (R184 to R186). -/

namespace Sys2Proof.Machine

variable {s t : State}

/-! ### CELL_POST -/

theorem CellShows.of_setCell (s : State) (c : Fin 32) (st : CellState) : CellShows (s.setCell c st) c st := s.setCell_shows c st

/-- A change of a cell's true state stores its state word only. -/
theorem State.setCell_frame (s : State) (c : Fin 32) (st : CellState) : MemFrame s (s.setCell c st) (Within (cellBase c) 2) := by
  rw [State.setCell_eq]
  exact fun a outside => Mem.read_write_outside _ outside

theorem State.setCell_cell (s : State) (c : Fin 32) (st : CellState) : (s.setCell c st).cell c = { s.cell c with st := st } := by
  rw [State.setCell_eq]
  exact upd_same s.board.cells c _

theorem State.setCell_posts (s : State) (c : Fin 32) (st : CellState) : (s.setCell c st).board.posts = s.board.posts := by
  rw [State.setCell_eq]

theorem State.setCell_whole (s : State) (c : Fin 32) (st : CellState) :
    s.setCell c st = { s with board := (s.setCell c st).board, mem := (s.setCell c st).mem } := by
  rw [State.setCell_eq]

/-- The part after a cell has been posted. -/
theorem State.post_empty {c : Fin 32} (empty : (s.cell c).st = .empty) (v : Word16) :
    s.post c v = (s.setCell c .posted).setPosts (s.board.posts ++ [c]) := if_pos empty

/-! ### The captured fields (R185) -/

section
variable (s) (c : Fin 32) (rest : List (Fin 32))

theorem State.capture_cell :
    (s.capture c rest).cell c = { Cell.reset with st := .taken, captured := s.mem.bytes (cellBase c) 64, takeTime := s.time.ms } := by
  unfold State.capture
  dsimp only
  rw [State.setCell_cell, State.cell_modCell]

theorem State.capture_cell_ne {d : Fin 32} (h : d ≠ c) : (s.capture c rest).cell d = s.cell d := by
  unfold State.capture
  dsimp only
  rw [State.setCell_cell_ne _ _ h, State.cell_modCell_ne _ _ h]
  rfl

theorem State.capture_posts : (s.capture c rest).board.posts = rest := by
  unfold State.capture
  dsimp only
  rw [State.setCell_posts, State.modCell_board, State.setPosts_board]

theorem State.capture_whole : s.capture c rest = { s with board := (s.capture c rest).board, mem := (s.capture c rest).mem } := by
  unfold State.capture
  dsimp only
  rw [State.setCell_eq]
  rfl

theorem State.capture_shows : CellShows (s.capture c rest) c .taken := State.setCell_shows _ c .taken

theorem State.capture_frame : MemFrame s (s.capture c rest) (Within (cellBase c) 2) :=
  State.setCell_frame ((s.setPosts rest).modCell c fun _ =>
    { Cell.reset with captured := s.mem.bytes (cellBase c) 64, takeTime := s.time.ms }) c .taken

theorem State.capture_otherTransfers : (s.capture c rest).otherTransfers c = s.otherTransfers c := by
  refine List.filter_congr fun d _ => ?_
  by_cases e : d = c
  · simp [e]
  · rw [State.taken, State.active, State.capture_cell_ne s c rest e, State.taken, State.active]

/-- The limits on transfers, of the cell as it is captured (R115). -/
theorem State.capture_limitFault :
    (s.capture c rest).limitFault c =
      if kindOf (s.mem.bytes (cellBase c) 64) ≠ some .transfer then none
      else if 4 ≤ (s.otherTransfers c).length then some (.badField, some 0xF0)
      else if (s.otherTransfers c).any fun d => targetOf (s.cell d).captured == targetOf (s.mem.bytes (cellBase c) 64)
        then some (.badField, some 0xF1) else none := by
  have others : ((s.otherTransfers c).any fun d => targetOf ((s.capture c rest).cell d).captured == targetOf (s.mem.bytes (cellBase c) 64)) =
      (s.otherTransfers c).any fun d => targetOf (s.cell d).captured == targetOf (s.mem.bytes (cellBase c) 64) := by
    rw [Bool.eq_iff_iff, List.any_eq_true, List.any_eq_true]
    refine exists_congr fun d => and_congr_right fun mem => ?_
    have ne : d ≠ c := by
      have pass := (List.mem_filter.1 mem).2
      simp only [Bool.and_eq_true, bne_iff_ne] at pass
      exact pass.1
    rw [State.capture_cell_ne s c rest ne]
  unfold State.limitFault
  rw [State.capture_cell, State.capture_otherTransfers]
  dsimp only
  rw [others]
  rfl

end

section
variable {c : Fin 32} {rest : List (Fin 32)} (running : s.phase = .running) (run : s.regs.run = true)
  (posts : s.board.posts = c :: rest)
include running run posts

theorem execCellTake_pass (pass : (s.capture c rest).takeCheck c = none) : exec .cellTake s = complete (s.capture c rest) := by
  show execCellTake s = _
  unfold execCellTake
  rw [running, run, posts]
  dsimp only
  rw [pass]

theorem execCellTake_fail {reason : Reason} {field : Option Nat} (fail : (s.capture c rest).takeCheck c = some (reason, field)) :
    exec .cellTake s = complete ((s.capture c rest).endCell c
      (.failed { FaultRec.core .board reason ((s.capture c rest).segConcerned ((s.capture c rest).cell c).captured) with field := field })) := by
  show execCellTake s = _
  unfold execCellTake
  rw [running, run, posts]
  dsimp only
  rw [fail]

end

theorem State.capture_takeCheck (s : State) (c : Fin 32) (rest : List (Fin 32)) :
    (s.capture c rest).takeCheck c = (takeFault (s.mem.bytes (cellBase c) 64)).or ((s.capture c rest).limitFault c) := by
  unfold State.takeCheck
  rw [State.capture_cell]
  dsimp only
  cases takeFault (s.mem.bytes (cellBase c) 64) <;> rfl

/-- Settles O21. -/
theorem cellPostAndTake : Obligations.CellPostAndTake := by
  unfold Obligations.CellPostAndTake
  refine ⟨fun c w s running leaves empty => ?_, ?_⟩
  · obtain ⟨phase, settled⟩ := running
    obtain ⟨enabled, value⟩ := leaves
    have posted : Settled (((s.hostWord (cellBase c) w).setCell c .posted).setPosts (s.board.posts ++ [c])) := by
      rw [Settled, State.setPosts_info, State.setPosts_regs, State.setCell_whole]
      exact settled
    have runs : exec (.cellPost c w) s =
        .next (((s.hostWord (cellBase c) w).setCell c .posted).setPosts (s.board.posts ++ [c])) := by
      refine (exec_eq (execCellPost c w s) rfl).trans ((watchedWrite_running phase enabled (by rw [value]; rfl)).trans ?_)
      rw [State.post_empty (s := s.hostWord (cellBase c) w) empty]
      exact congrArg Host.Outcome.next posted.finish
    refine ⟨_, runs, ?_, rfl, ?_, fun d ne => ?_, ?_, ?_⟩
    · exact State.setCell_shows _ c .posted
    · exact State.setCell_cell (s.hostWord (cellBase c) w) c .posted
    · exact State.setCell_cell_ne (s.hostWord (cellBase c) w) .posted ne
    · rw [State.setCell_whole]
      rfl
    · exact (s.hostWord_frame (cellBase c) w).trans (State.setCell_frame _ c .posted)
  · intro c rest s ⟨phase, settled⟩ run posts cap sound limits
    have still : Settled (s.capture c rest) := by
      rw [Settled, State.capture_whole]
      exact settled
    have pass : (s.capture c rest).takeCheck c = none := by
      rw [State.capture_takeCheck, sound, Option.none_or, State.capture_limitFault]
      split
      · rfl
      case isFalse transfer =>
        obtain ⟨few, targets⟩ := limits (not_not.1 transfer)
        rw [if_neg (by omega), if_neg]
        intro same
        obtain ⟨d, mem, eq⟩ := List.any_eq_true.1 same
        exact targets d mem (beq_iff_eq.1 eq)
    have runs : exec .cellTake s = .next (s.capture c rest) := by
      rw [execCellTake_pass phase run posts pass]
      exact congrArg Host.Outcome.next still.finish
    exact ⟨_, runs, State.capture_shows .., State.capture_cell .., State.capture_posts .., fun d ne => State.capture_cell_ne s c rest ne,
      State.capture_whole .., State.capture_frame s c rest⟩

/-! ### A take that fails (R115, R185, R186) -/

theorem State.accrue_nil (s : State) (ch : Fin 8) : s.accrue ch [] = s := by
  unfold State.accrue
  rw [State.updChan_eq]
  exact if_pos rfl

/-- An end that sets no condition is the end of a cell without a channel. -/
theorem State.endCell_of_no_conditions {c : Fin 32} {e : CellEnd} (still : e.conditions = []) : s.endCell c e = s.endCellOn none c e := by
  unfold State.endCell
  cases channelNamed (s.cell c).captured with
  | none => rfl
  | some ch => rw [State.endCellOn_some, still, State.accrue_nil]

/-- A fault of the board sets no condition. -/
theorem CellEnd.conditions_failed {f : FaultRec} (stage : f.stage ∈ [Stage.board, .policy, .connector]) (progress : f.progress = none)
    (reason : f.reason ≠ .ecuRefused) (secondary : f.secondary = none) : (CellEnd.failed f).conditions = [] := by
  unfold CellEnd.conditions CellEnd.failed CellEnd.done
  simp only [progress, secondary]
  have cases : f.stage = .board ∨ f.stage = .policy ∨ f.stage = .connector := by simpa using stage
  rcases cases with e | e | e <;> simp [e, reason]

/-- The field detail stands in byte 87 of a cell that failed with one (11.4). -/
theorem State.endCellOn_field (s : State) (c : Fin 32) {f : FaultRec} :
    (s.endCellOn none c (.failed f)).mem.read (cellBase c + 87) =
      byte (match f.field, f.detail with
        | some o, _ => o
        | none, some d => d.code
        | none, none => 0) := by
  exact s.endCellOn_faultByte c (e := .failed f) rfl (o := 3) (by decide) rfl

theorem checks_reasons (k : Kind) (cap : List Byte) : ∀ x ∈ commonChecks k cap ++ kindChecks k cap, x.2.1 ≠ .ecuRefused := by
  cases k <;> simp [commonChecks, kindChecks, transferChecks, badField, badRef]

/-- No check of a take names the refusal of an ECU. -/
theorem takeFault_reason {cap : List Byte} {reason : Reason} {field : Option Nat} (fault : takeFault cap = some (reason, field)) :
    reason ≠ .ecuRefused := by
  unfold takeFault at fault
  split at fault
  · obtain ⟨rfl, _⟩ := Prod.mk.inj (Option.some.inj fault)
    decide
  case h_2 k _ =>
    obtain ⟨x, found, eq⟩ := Option.map_eq_some_iff.1 fault
    have named := checks_reasons k cap x (List.mem_of_find?_eq_some found)
    rw [eq] at named
    exact named

theorem State.capture_takeCheck_reason {c : Fin 32} {rest : List (Fin 32)} {reason : Reason} {field : Option Nat}
    (failed : (s.capture c rest).takeCheck c = some (reason, field)) : reason ≠ .ecuRefused := by
  rw [State.capture_takeCheck] at failed
  rcases Option.or_eq_some_iff.1 failed with fault | ⟨_, limit⟩
  · exact takeFault_reason fault
  · unfold State.limitFault at limit
    grind

/-- A take that fails ends the cell at stage BOARD, with the failing field in its fault record. -/
theorem execCellTake_fails {c : Fin 32} {rest : List (Fin 32)} (running : Running s) (run : s.regs.run = true)
    (posts : s.board.posts = c :: rest) {reason : Reason} {field : Option Nat}
    (failed : (s.capture c rest).takeCheck c = some (reason, field)) :
    ∃ t, exec .cellTake s = .next t ∧ EndsFailed t c .board reason ∧ t.mem.read (cellBase c + 87) = byte (field.getD 0) ∧
      t.board.posts = rest ∧ (∀ d, d ≠ c → t.cell d = s.cell d) ∧ (t.cell c).captured = s.mem.bytes (cellBase c) 64 ∧
      EndRegs s t c 0 ∧ BoardOnly s t ∧ MemFrame s t (EndPlaces c) := by
  obtain ⟨phase, settled⟩ := running
  have whole := s.capture_whole c rest
  have regs : (s.capture c rest).regs = s.regs := by rw [whole]
  have info : (s.capture c rest).info = s.info := by rw [whole]
  have runs := execCellTake_fail phase run posts failed
  generalize hf : { FaultRec.core .board reason ((s.capture c rest).segConcerned ((s.capture c rest).cell c).captured) with
    field := field } = f at runs
  have still : (CellEnd.failed f).conditions = [] := by
    subst hf
    exact CellEnd.conditions_failed (by simp [FaultRec.core]) rfl (State.capture_takeCheck_reason failed) rfl
  rw [State.endCell_of_no_conditions still] at runs
  refine ⟨_, runs, ?_, ?_, ?_, fun d ne => ?_, ?_, .finish ?_, ?_, ?_⟩
  · have ends := (s.capture c rest).endCellOn_endsFailed c (e := .failed f) rfl
    subst hf
    exact ends.finish
  · have bounds := cellBase_bounds c
    rw [State.finish_read _ (by omega), State.endCellOn_field]
    subst hf
    cases field <;> rfl
  · rw [State.finish_board, State.endCellOn_posts, State.capture_posts]
  · rw [State.finish_cell, State.endCellOn_cell_ne _ _ _ ne, State.capture_cell_ne s c rest ne]
  · rw [State.finish_cell, State.endCellOn_cell, State.capture_cell]
  · rw [State.endCellOn_regs, regs]
    simp
  · rw [State.endCellOn_finish_clean _ (by rw [info]; exact settled.1), BoardOnly, State.irqUpdate_eq, State.endCellOn_none, whole]
  · rw [State.endCellOn_finish_clean _ (by rw [info]; exact settled.1)]
    exact (((s.capture_frame c rest).mono fun _ => .inl).trans (State.endCellOn_frame _ c _)).irqUpdate

/-- Settles O22. -/
theorem cellTakeRefuses : Obligations.CellTakeRefuses := by
  unfold Obligations.CellTakeRefuses
  intro c rest s running run posts
  have fails := fun {reason field} => execCellTake_fails running run posts (reason := reason) (field := field)
  refine ⟨fun reason field fault => fails ?_, fun sound transfer many => fails (field := some 0xF0) ?_,
    fun sound transfer few same => fails (field := some 0xF1) ?_, fun u idle => ?_⟩
  · rw [State.capture_takeCheck, fault]
    rfl
  · rw [State.capture_takeCheck, sound, Option.none_or, State.capture_limitFault, if_neg (not_not.2 transfer), if_pos many]
  · rw [State.capture_takeCheck, sound, Option.none_or, State.capture_limitFault, if_neg (not_not.2 transfer), if_neg (by omega), if_pos]
    obtain ⟨d, mem, eq⟩ := same
    exact List.any_eq_true.2 ⟨d, mem, beq_iff_eq.2 eq⟩
  · show execCellTake u = _
    unfold execCellTake
    split
    · simp_all
    · rfl

end Sys2Proof.Machine
end

section
/-! PROOFS. The tester supply and the CONNECTOR request (R157 to R162). -/

namespace Sys2Proof.Machine

variable {s t : State}

/-! ### The end of a CONNECTOR cell (R161) -/

theorem State.connectorEnds_none (none : s.cm.cell = none) (r : Option Reason) : s.connectorEnds r = s := by
  unfold State.connectorEnds
  rw [none]

/-- How a CONNECTOR cell ends with its start. -/
def connectorEnd (m : CM) (r : Option Reason) : CellEnd :=
  { CellEnd.done (connectorKind m) with fault := r.map fun r => FaultRec.core .connector r none }

theorem connectorEnd_conditions (m : CM) {r : Option Reason} (h : r ≠ some .ecuRefused) : (connectorEnd m r).conditions = [] := by
  cases r with
  | none => rfl
  | some r => exact CellEnd.conditions_failed (f := FaultRec.core .connector r none) (by simp [FaultRec.core]) rfl (fun e => h (congrArg some e)) rfl

theorem State.connectorEnds_some {c : Fin 32} (waits : s.cm.cell = some c) {r : Option Reason} (h : r ≠ some .ecuRefused) :
    s.connectorEnds r =
      (s.modCm fun m => { m with cell := none }).endCellOn none c (connectorEnd { s.cm with cell := none } r) := by
  unfold State.connectorEnds
  rw [waits]
  exact State.endCell_of_no_conditions (connectorEnd_conditions _ h)

theorem State.endCellOn_cm (s : State) (c : Fin 32) (e : CellEnd) : (s.endCellOn none c e).cm = s.cm := by rw [State.endCellOn_none]

/-! ### Supply states (R159) -/

/-- The part once the switch has opened with a fault, from a connector that stands at `m`. -/
def State.supplyOff (s : State) (f : SupplyFault) (m : CM) : State :=
  { s with cm := { m with supply := .off, startTimer := none, fault := f }
           mem := (s.mem.write 0x1D [byte Supply.off.code]).write 0x1E [byte f.code]
           info := { s.info with dirty := true }
           regs := { s.regs with event := s.regs.event ||| Event.supply.bit } }

theorem State.supplyFails_eq (s : State) (f : SupplyFault) (m : CM) :
    ({ s with cm := m } : State).supplyFails f = (s.supplyOff f m).connectorEnds (some .supplyFault) := rfl

theorem State.supplyOff_bytes (s : State) (f : SupplyFault) (m : CM) : (s.supplyOff f m).mem.bytes 0x1D 2 = [0, byte f.code] := by
  have first : (s.supplyOff f m).mem.bytes 0x1D 1 = [0] :=
    (Mem.bytes_write_beside _ (by simp)).trans (Mem.bytes_write s.mem (b := 0x1D) (bs := [byte Supply.off.code]) (by simp [Config.ramSize]))
  have second : (s.supplyOff f m).mem.bytes 0x1E 1 = [byte f.code] :=
    Mem.bytes_write _ (b := 0x1E) (bs := [byte f.code]) (by simp [Config.ramSize])
  have split : ∀ m : Mem, m.bytes 0x1D 2 = m.bytes 0x1D 1 ++ m.bytes 0x1E 1 := fun m => by simp [Mem.bytes, List.range_succ]
  rw [split, first, second]
  rfl

theorem State.supplyOff_frame (s : State) (f : SupplyFault) (m : CM) : MemFrame s (s.supplyOff f m) (Within 0x1D 2) := by
  intro a outside
  unfold Within at outside
  exact (Mem.read_write_outside _ (by simp only [Within, List.length_singleton]; omega)).trans
    (Mem.read_write_outside _ (by simp only [Within, List.length_singleton]; omega))

/-- Bytes of the Information Block after the end of a cell. -/
theorem State.endCellOn_below (s : State) (c : Fin 32) (e : CellEnd) {a n : Nat} (h : a + n ≤ 0x100) :
    (s.endCellOn none c e).mem.bytes a n = s.mem.bytes a n := by
  have bounds := cellBase_bounds c
  exact (s.endCellOn_frame c e).bytes fun k hk => by unfold EndPlaces Within; omega

theorem OnlyCellState.finish {c : Fin 32} (h : OnlyCellState s t c) : OnlyCellState s t.finish c := by
  unfold OnlyCellState at h ⊢
  rw [State.finish_board]
  simp only [State.finish_cell]
  exact h

/-- A fault opens the switch (R159, R161). -/
theorem State.supplyFails_opened (settled : Settled s) (f : SupplyFault) (m : CM) :
    SupplyOpened s (({ s with cm := m } : State).supplyFails f).finish f m := by
  rw [State.supplyFails_eq]
  have free : ∀ k < 2, ¬ InfoShared (0x1D + k) := by unfold InfoShared Within; omega
  cases waits : m.cell with
  | none =>
    rw [State.connectorEnds_none (s := s.supplyOff f m) waits]
    refine ⟨?_, ?_, ?_, (State.finish_settled _).2, State.finish_info_dirty settled.1 _ rfl, fun _ => ⟨?_, ?_, ?_⟩, fun c some => ?_⟩
    · rw [State.finish_cm, State.supplyOff, ← waits]
    · rw [State.finish_infoBytes _ free, State.supplyOff_bytes]
    · rw [State.finish_regs]
      rfl
    · rw [State.finish_done]
      rfl
    · have fin := (s.supplyOff f m).finish_eq
      generalize (s.supplyOff f m).finish = y at fin ⊢
      rw [fin]
      rfl
    · exact (s.supplyOff_frame f m).finish
    · rw [waits] at some
      cases some
  | some c =>
    rw [State.connectorEnds_some (s := s.supplyOff f m) waits (by decide)]
    have fault : (connectorEnd { (s.supplyOff f m).cm with cell := none } (some .supplyFault)).fault =
        some (FaultRec.core .connector .supplyFault none) := rfl
    generalize connectorEnd { (s.supplyOff f m).cm with cell := none } (some .supplyFault) = e at fault
    generalize hx : (s.supplyOff f m).modCm (fun m => { m with cell := none }) = x
    have frame : MemFrame s x (Within 0x1D 2) := hx ▸ s.supplyOff_frame f m
    have bytes : x.mem.bytes 0x1D 2 = [0, byte f.code] := hx ▸ s.supplyOff_bytes f m
    have cm : x.cm = { m with supply := .off, startTimer := none, fault := f, cell := none } := by rw [← hx]; rfl
    have board : x.board = s.board := by rw [← hx]; rfl
    have info : x.info = { s.info with dirty := true } := by rw [← hx]; rfl
    have regs : x.regs = { s.regs with event := s.regs.event ||| Event.supply.bit } := by rw [← hx]; rfl
    have whole : x = { s with cm := x.cm, mem := x.mem, info := x.info, regs := x.regs } := by rw [← hx]; rfl
    clear hx
    refine ⟨?_, ?_, ?_, (State.finish_settled _).2, ?_, fun none => ?_, fun d some => ⟨?_, ?_, ?_, ?_, ?_⟩⟩
    · rw [State.finish_cm, State.endCellOn_cm, cm]
    · rw [State.finish_infoBytes _ free, State.endCellOn_below _ _ _ (by decide), bytes]
    · rw [State.finish_regs, State.endCellOn_regs, regs]
    · exact State.finish_info_dirty settled.1 _ (by rw [State.endCellOn_info, info])
    · rw [waits] at none
      cases none
    all_goals obtain rfl : c = d := Option.some.inj (waits.symm.trans some)
    · exact (x.endCellOn_endsFailed c fault).finish
    · exact ((x.endCellOn_onlyCell c e).of_board board).finish
    · rw [State.finish_done, State.endCellOn_regs, regs]
    · have fin := (x.endCellOn none c e).finish_eq
      generalize (x.endCellOn none c e).finish = y at fin ⊢
      rw [fin, State.endCellOn_none, whole]
    · refine (frame.both (x.endCellOn_frame c e)).finish.mono ?_
      rintro a ((field | cell) | shared)
      · exact .inr (.inl field)
      · exact .inl cell
      · exact .inr (.inr shared)

/-- The part once the supply has come up, from a connector that stands at `m`. -/
def State.supplyOn (s : State) (m : CM) : State :=
  { s with cm := { m with supply := .on, startTimer := none }
           mem := s.mem.write 0x1D [byte Supply.on.code]
           info := { s.info with dirty := true } }

/-- Settles O40. -/
theorem supplyEvents : Obligations.SupplyEvents := by
  unfold Obligations.SupplyEvents
  intro stays s settled
  have only : ∀ cm, complete { s with cm := cm } = .next { s with cm := cm } := fun cm =>
    congrArg Host.Outcome.next (Settled.finish (s := { s with cm := cm }) settled)
  refine ⟨fun other => ?_, fun other => ?_, fun off => ?_, fun starting => ?_, fun on => ?_, fun notOff => ?_, fun starting due => ?_⟩
  · show execSupplyGoodAsserted s = _
    unfold execSupplyGoodAsserted
    dsimp only
    rw [if_neg other]
    exact only _
  · show execSupplyGoodWithdrawn s = _
    unfold execSupplyGoodWithdrawn
    dsimp only
    rw [if_neg other]
    exact only _
  · show execOvercurrentAsserted stays s = _
    unfold execOvercurrentAsserted
    dsimp only
    rw [if_pos off]
    exact only _
  · have runs : exec .supplyGoodAsserted s = .next ((s.supplyOn { s.cm with good := true }).connectorEnds none).finish := by
      show execSupplyGoodAsserted s = _
      unfold execSupplyGoodAsserted
      dsimp only
      rw [if_pos starting]
      rfl
    have free : ∀ k < 1, ¬ InfoShared (0x1D + k) := by unfold InfoShared Within; omega
    have read : ∀ x : State, x.mem.bytes 0x1D 1 = [2] → x.finish.mem.read 0x1D = 2 := fun x shown =>
      Mem.read_of_bytes_one ((State.finish_infoBytes x free).trans shown)
    generalize hx : s.supplyOn { s.cm with good := true } = x at runs
    have frame : MemFrame s x (Within 0x1D 1) := hx ▸ fun a outside => Mem.read_write_outside _ outside
    have bytes : x.mem.bytes 0x1D 1 = [2] := hx ▸ Mem.bytes_write s.mem (b := 0x1D) (bs := [2]) (by simp [Config.ramSize])
    have cm : x.cm = { s.cm with good := true, supply := .on, startTimer := none } := by rw [← hx]; rfl
    have board : x.board = s.board := by rw [← hx]; rfl
    have regs : x.regs = s.regs := by rw [← hx]; rfl
    have whole : x = { s with cm := x.cm, mem := x.mem, info := x.info } := by rw [← hx]; rfl
    clear hx
    cases waits : s.cm.cell with
    | none =>
      rw [State.connectorEnds_none (by rw [cm]; exact waits)] at runs
      refine ⟨_, runs, ?_, read x bytes, fun _ => ⟨?_, frame.finish⟩, nofun⟩
      · rw [State.finish_cm, cm, ← waits]
      · have fin := State.finish_sameRegs settled x regs
        generalize x.finish = y at fin ⊢
        rw [fin, whole]
    | some c =>
      rw [State.connectorEnds_some (by rw [cm]; exact waits) (by decide)] at runs
      generalize he : connectorEnd { x.cm with cell := none } none = e at runs
      have ok : e.fault = none := by rw [← he]; rfl
      generalize hz : x.modCm (fun m => { m with cell := none }) = z at runs
      have zframe : MemFrame s z (Within 0x1D 1) := by rw [← hz]; exact frame
      have zboard : z.board = s.board := by rw [← hz]; exact board
      refine ⟨_, runs, ?_, read _ ?_, nofun, fun d some => ?_⟩
      · rw [State.finish_cm, State.endCellOn_cm, ← hz, State.modCm_cm, cm]
      · rw [State.endCellOn_below _ _ _ (by decide), ← hz]
        exact bytes
      · obtain rfl := Option.some.inj some
        refine ⟨(z.endCellOn_endsDone c ok).finish, ((z.endCellOn_onlyCell c e).of_board zboard).finish, .finish ?_, ?_, ?_⟩
        · rw [State.endCellOn_regs, ← hz, State.modCm_regs, regs]
          simp
        · have fin := (z.endCellOn none c e).finish_eq
          generalize (z.endCellOn none c e).finish = y at fin ⊢
          rw [fin, State.endCellOn_none, ← hz, whole]
          rfl
        · refine (zframe.both (z.endCellOn_frame c e)).finish.mono ?_
          rintro a ((field | cell) | shared)
          · exact .inr (.inl field)
          · exact .inl cell
          · exact .inr (.inr shared)
  · have runs : exec .supplyGoodWithdrawn s = .next (({ s with cm := { s.cm with good := false } } : State).supplyFails .supplyLost).finish := by
      show execSupplyGoodWithdrawn s = _
      unfold execSupplyGoodWithdrawn
      dsimp only
      rw [if_pos on]
      rfl
    exact ⟨_, runs, State.supplyFails_opened settled _ _⟩
  · have runs : exec (.overcurrentAsserted stays) s =
        .next (({ s with cm := { s.cm with overcurrent := stays } } : State).supplyFails .overcurrent).finish := by
      show execOvercurrentAsserted stays s = _
      unfold execOvercurrentAsserted
      dsimp only
      rw [if_neg notOff]
      rfl
    exact ⟨_, runs, State.supplyFails_opened settled _ _⟩
  · have runs : exec .supplyStartTimerExpiry s = .next (s.supplyFails .noSupplyGood).finish := if_pos ⟨starting, due⟩
    exact ⟨_, runs, State.supplyFails_opened settled _ s.cm⟩

end Sys2Proof.Machine
end

section
/-! PROOFS. The CONNECTOR request (R157, R158, R160, R161). -/

namespace Sys2Proof.Machine

variable {s t : State}

/-! ### The lamp (R157, R158) -/

theorem CM.show_eq (m : CM) (i : Lamp) (now : Nat) :
    m.show i now = { m with lampInd := i, lit := (m.show i now).lit, blink := (m.show i now).blink } := by
  cases i <;> rfl

/-- Deriving the indication afresh changes the lamp's own fields, the two bytes that show them, and nothing else. -/
theorem State.lampRefresh_whole (s : State) :
    s.lampRefresh = { s with cm := s.lampRefresh.cm, mem := s.lampRefresh.mem, info := s.lampRefresh.info } := by
  unfold State.lampRefresh
  split <;> rfl

theorem State.lampRefresh_cm (s : State) :
    s.lampRefresh.cm = { s.cm with lampInd := s.indication, lit := s.lampRefresh.cm.lit, blink := s.lampRefresh.cm.blink } := by
  unfold State.lampRefresh
  split
  case isTrue same => rw [same]
  case isFalse => exact CM.show_eq ..

theorem State.lampRefresh_info (s : State) :
    s.lampRefresh.info = if s.indication = s.cm.lampInd then s.info else { s.info with dirty := true } := by
  unfold State.lampRefresh
  split <;> rfl

theorem State.wrInfo_eq (s : State) (off : Nat) (bs : List Byte) :
    s.wrInfo off bs = { s with mem := s.mem.write off bs, info := { s.info with dirty := true } } := rfl

theorem State.wrLamp_frame (s : State) : MemFrame s s.wrLamp (Within 0x19 2) := State.wrInfo_frame s 0x19 _

theorem State.wrLamp_bytes (s : State) : s.wrLamp.mem.bytes 0x19 2 = [byte s.cm.lampMode.code, byte s.cm.lampInd.code] :=
  Mem.bytes_write s.mem (b := 0x19) (bs := [byte s.cm.lampMode.code, byte s.cm.lampInd.code]) (by simp [Config.ramSize])

theorem State.lampRefresh_frame (s : State) : MemFrame s s.lampRefresh (Within 0x19 2) := by
  unfold State.lampRefresh
  split
  · exact MemFrame.refl s _
  · exact State.wrLamp_frame (s.modCm fun m => m.show s.indication s.time.clock)

/-- The part after the lamp mode has been set (R160, step 2). -/
theorem State.connectorLamp_whole (s : State) (l : Lamp) :
    s.connectorLamp l =
      { s with cm := (s.connectorLamp l).cm, mem := (s.connectorLamp l).mem, info := { s.info with dirty := true } } := by
  have whole := (s.modCm fun m => { m with lampMode := l, reqLamp := l }).lampRefresh_whole
  have info := (s.modCm fun m => { m with lampMode := l, reqLamp := l }).lampRefresh_info
  unfold State.connectorLamp State.wrLamp
  dsimp only
  generalize (s.modCm fun m => { m with lampMode := l, reqLamp := l }).lampRefresh = x at whole info ⊢
  have dirty : ({ x.info with dirty := true } : Info) = { s.info with dirty := true } := by
    rw [info]
    split <;> rfl
  rw [State.wrInfo_eq, State.wrInfo_eq, ← dirty, whole]
  rfl


theorem State.connectorLamp_cm (s : State) (l : Lamp) :
    (s.connectorLamp l).cm = { s.cm with lampMode := l, reqLamp := l, lampInd := (s.connectorLamp l).cm.lampInd
                                         lit := (s.connectorLamp l).cm.lit, blink := (s.connectorLamp l).cm.blink } := by
  have cm := (s.modCm fun m => { m with lampMode := l, reqLamp := l }).lampRefresh_cm
  have same : (s.connectorLamp l).cm = (s.modCm fun m => { m with lampMode := l, reqLamp := l }).lampRefresh.cm := rfl
  rw [same, cm]
  rfl

theorem State.connectorLamp_bytes (s : State) (l : Lamp) :
    (s.connectorLamp l).mem.bytes 0x19 2 = [byte l.code, byte (s.connectorLamp l).cm.lampInd.code] ∧
      (s.connectorLamp l).mem.bytes 0x1B 1 = [byte l.code] := by
  have cm := (s.modCm fun m => { m with lampMode := l, reqLamp := l }).lampRefresh_cm
  have same : (s.connectorLamp l).cm = (s.modCm fun m => { m with lampMode := l, reqLamp := l }).lampRefresh.cm := rfl
  rw [same]
  unfold State.connectorLamp
  dsimp only
  generalize (s.modCm fun m => { m with lampMode := l, reqLamp := l }).lampRefresh = x at cm ⊢
  have mode : x.cm.lampMode = l := by rw [cm]; rfl
  constructor
  · refine (Mem.bytes_write_beside _ (by simp)).trans (x.wrLamp_bytes.trans ?_)
    rw [mode]
  · exact Mem.bytes_write _ (b := 0x1B) (bs := [byte l.code]) (by simp [Config.ramSize])

theorem State.connectorLamp_frame (s : State) (l : Lamp) : MemFrame s (s.connectorLamp l) (Within 0x19 3) := by
  have frame := (s.modCm fun m => { m with lampMode := l, reqLamp := l }).lampRefresh_frame
  unfold State.connectorLamp
  dsimp only
  generalize (s.modCm fun m => { m with lampMode := l, reqLamp := l }).lampRefresh = x at frame ⊢
  have written := (x.wrLamp_frame).both (State.wrInfo_frame x.wrLamp 0x1B [byte l.code])
  refine (MemFrame.both (s := s) (t := x) frame written).mono ?_
  rintro a (shown | shown | shown) <;> simp only [Within, List.length_singleton] at * <;> omega

/-! ### CONNECTOR (R160, R161) -/

theorem State.connectorSupersede_none (none : s.cm.cell = none) : s.connectorSupersede = s := by
  unfold State.connectorSupersede
  rw [none]

/-- The end of a cell and of its event change nothing but the board, the register window, RAM and the Information Block. -/
theorem State.endCellOn_finish_whole (s : State) (c : Fin 32) (e : CellEnd) :
    (s.endCellOn none c e).finish =
      { s with board := (s.endCellOn none c e).finish.board, regs := (s.endCellOn none c e).finish.regs
               mem := (s.endCellOn none c e).finish.mem, info := (s.endCellOn none c e).finish.info } := by
  have fin := (s.endCellOn none c e).finish_eq
  generalize (s.endCellOn none c e).finish = y at fin ⊢
  rw [fin, State.endCellOn_none]

/-- The part once the CM has received a CONNECTOR cell that ends DONE, after what the cell asked for left it at `x`. -/
theorem State.connectorSettle_done {x : State} {c : Fin 32} {v : Option Bool} (mine : x.cm.cell = some c)
    (settled : ¬ (v = some true ∧ x.cm.supply = .starting)) :
    x.connectorSettle c v =
      (x.modCm fun m => { m with cell := none }).endCellOn none c (connectorEnd { x.cm with cell := none } none) := by
  unfold State.connectorSettle
  rw [if_neg (by simp [mine]), if_neg settled, State.connectorEnds_some mine (by decide)]

/-- What such a receipt comes to. -/
structure ConnectorDone (s x : State) (c : Fin 32) (t : State) : Prop where
  ends : EndsDone t c
  cm : t.cm = { x.cm with cell := none }
  cells : OnlyCellState s t c
  regs : EndRegs s t c 0
  whole : t = { s with board := t.board, regs := t.regs, mem := t.mem, info := t.info, cm := t.cm }
  kind : t.mem.bytes (cellBase c + 100) 4 = connectorKind x.cm
  info : ∀ {off n : Nat}, off + n ≤ 0x100 → (∀ k < n, ¬ InfoShared (off + k)) → t.mem.bytes off n = x.mem.bytes off n
  frame : ∀ {p : Nat → Prop}, MemFrame s x p → MemFrame s t fun a => EndPlaces c a ∨ p a ∨ InfoShared a

theorem connectorDone {x : State} {c : Fin 32} (received : Receives s c .connector)
    (whole : x = { s with cm := x.cm, mem := x.mem, info := x.info }) (mine : x.cm.cell = some c)
    {v : Option Bool} (settles : ¬ (v = some true ∧ x.cm.supply = .starting))
    (runs : s.connectorReceive c = x.connectorSettle c v) : ∃ t, exec (.connector c) s = .next t ∧ ConnectorDone s x c t := by
  obtain ⟨settled, taken, held⟩ := received
  have exec_eq : exec (.connector c) s = .next ((s.connectorReceive c).actHeld c).finish :=
    (show exec (.connector c) s = execConnector c s from rfl).trans (receive_eq (act := fun s => s.connectorReceive c) taken)
  rw [State.connectorSettle_done mine settles] at runs
  generalize he : connectorEnd { x.cm with cell := none } none = e at runs
  have ok : e.fault = none := by rw [← he]; rfl
  have kind : e.kind = connectorKind x.cm := by rw [← he]; rfl
  generalize hz : x.modCm (fun m => { m with cell := none }) = z at runs
  have board : z.board = s.board := by rw [← hz, State.modCm_board, whole]
  have regs : z.regs = s.regs := by rw [← hz, State.modCm_regs, whole]
  have keeps : (z.cell c).abortHeld = false := by rw [State.cell, board]; exact held
  rw [runs, State.endCellOn_actHeld z c e keeps] at exec_eq
  refine ⟨_, exec_eq, (z.endCellOn_endsDone c ok).finish, ?_, ((z.endCellOn_onlyCell c e).of_board board).finish, .finish ?_, ?_, ?_,
    fun low free => ?_, fun frame => ?_⟩
  · rw [State.finish_cm, State.endCellOn_cm, ← hz, State.modCm_cm]
  · rw [State.endCellOn_regs, regs]
    simp
  · have fin := z.endCellOn_finish_whole c e
    generalize (z.endCellOn none c e).finish = y at fin ⊢
    rw [fin, ← hz, whole]
    rfl
  · have bounds := cellBase_bounds c
    rw [State.finish_bytes _ (by omega), State.endCellOn_kind z c e (n := 4) (by rw [kind]; rfl) (by rw [kind]; exact (by decide : 4 ≤ 28)), kind]
  · rw [State.finish_infoBytes _ free, State.endCellOn_below _ _ _ low, ← hz, State.modCm_mem]
  · have moved := frame
    rw [show MemFrame s x _ = MemFrame s z _ by rw [← hz]; rfl] at moved
    refine (moved.both (z.endCellOn_frame c e)).finish.mono ?_
    rintro a ((place | cell) | shared)
    · exact .inr (.inl place)
    · exact .inl cell
    · exact .inr (.inr shared)

/-- The part once a supply setting has been written and the supply has moved to `v`. -/
def State.supplySet (s : State) (c : Fin 32) (on : Bool) (v : Supply) (timer : Option Nat) : State :=
  { s with cm := { s.cm with cell := some c, reqSupply := on, supply := v, startTimer := timer }
           mem := (s.mem.write 0x1C [byte (if on then 1 else 2)]).write 0x1D [byte v.code]
           info := { s.info with dirty := true } }

theorem State.supplySet_bytes (s : State) (c : Fin 32) (on : Bool) (v : Supply) (timer : Option Nat) :
    (s.supplySet c on v timer).mem.bytes 0x1C 2 = [byte (if on then 1 else 2), byte v.code] := by
  have first : (s.supplySet c on v timer).mem.bytes 0x1C 1 = [byte (if on then 1 else 2)] :=
    (Mem.bytes_write_beside _ (by simp)).trans (Mem.bytes_write s.mem (b := 0x1C) (bs := [byte (if on then 1 else 2)]) (by simp [Config.ramSize]))
  have second : (s.supplySet c on v timer).mem.bytes 0x1D 1 = [byte v.code] :=
    Mem.bytes_write _ (b := 0x1D) (bs := [byte v.code]) (by simp [Config.ramSize])
  have split : ∀ m : Mem, m.bytes 0x1C 2 = m.bytes 0x1C 1 ++ m.bytes 0x1D 1 := fun m => by simp [Mem.bytes, List.range_succ]
  rw [split, first, second]
  rfl

theorem State.supplySet_frame (s : State) (c : Fin 32) (on : Bool) (v : Supply) (timer : Option Nat) :
    MemFrame s (s.supplySet c on v timer) (Within 0x1C 2) := by
  intro a outside
  unfold Within at outside
  exact (Mem.read_write_outside _ (by simp only [Within, List.length_singleton]; omega)).trans
    (Mem.read_write_outside _ (by simp only [Within, List.length_singleton]; omega))

section
variable {c : Fin 32} (none : s.cm.cell = none)
include none

theorem State.connectorReceive_lamp {l : Lamp} (lamp : Lamp.ofField (field8 (s.cell c).captured 16) = some l)
    (field : field8 (s.cell c).captured 17 = 0) :
    s.connectorReceive c = ((s.connectorLamp l).modCm fun m => { m with cell := some c }).connectorSettle c .none := by
  unfold State.connectorReceive
  rw [State.connectorSupersede_none none]
  dsimp only
  rw [lamp, field]
  rfl

theorem State.connectorReceive_supply {on : Bool} (lamp : field8 (s.cell c).captured 16 = 0)
    (supply : supplyField (field8 (s.cell c).captured 17) = some on) :
    s.connectorReceive c = ((s.modCm fun m => { m with cell := some c }).connectorSupply on).connectorSettle c (some on) := by
  unfold State.connectorReceive
  rw [State.connectorSupersede_none none]
  dsimp only
  rw [lamp, supply]
  rfl

end

theorem State.connectorSupply_start (s : State) (c : Fin 32) (off : s.cm.supply = .off) (good : s.cm.good = false)
    (calm : s.cm.overcurrent = false) :
    (s.modCm fun m => { m with cell := some c }).connectorSupply true = s.supplySet c true .starting (some (s.time.clock + 100)) := by
  have still : (s.supplySet c true .starting (some (s.time.clock + 100))).cm.overcurrent = false ∧
      (s.supplySet c true .starting (some (s.time.clock + 100))).cm.good = false := ⟨calm, good⟩
  unfold State.connectorSupply
  simp only [State.wrInfo_cm, State.modCm_cm, off]
  unfold State.supplyStart
  show (if (s.supplySet c true .starting (some (s.time.clock + 100))).cm.overcurrent = true then _ else
    if (s.supplySet c true .starting (some (s.time.clock + 100))).cm.good = true then _ else _) = _
  rw [if_neg (by simp [still.1]), if_neg (by simp [still.2])]
  rfl

theorem State.connectorSupply_stop (s : State) (c : Fin 32) (notOff : s.cm.supply ≠ .off) :
    (s.modCm fun m => { m with cell := some c }).connectorSupply false = s.supplySet c false .off none := by
  unfold State.connectorSupply
  simp only [State.wrInfo_cm, State.modCm_cm]
  cases supply : s.cm.supply with
  | off => exact absurd supply notOff
  | starting => rfl
  | on => rfl

/-- Settles O38. -/
theorem connectorCell : Obligations.ConnectorCell := by
  unfold Obligations.ConnectorCell
  intro c s received none cap
  refine ⟨fun l lamp field => ?_, fun noLamp field off good calm => ?_, fun noLamp field notOff => ?_⟩
  · have eq := State.connectorReceive_lamp none lamp field
    have whole := s.connectorLamp_whole l
    have cm := s.connectorLamp_cm l
    have bytes := s.connectorLamp_bytes l
    have frame := s.connectorLamp_frame l
    generalize s.connectorLamp l = y at eq whole cm bytes frame
    obtain ⟨t, runs, done⟩ := connectorDone (x := y.modCm fun m => { m with cell := some c }) received (by rw [whole]; rfl) rfl (by simp) eq
    have tcm : t.cm = y.cm := by
      rw [done.cm, State.modCm_cm, cm, ← none]
    have shown := done.info (off := 0x19) (n := 2) (by decide) (by unfold InfoShared Within; omega)
    have asked := done.info (off := 0x1B) (n := 1) (by decide) (by unfold InfoShared Within; omega)
    rw [State.modCm_mem, bytes.1, ← tcm] at shown
    rw [State.modCm_mem, bytes.2] at asked
    have single : t.mem.read 0x19 = byte l.code ∧ t.mem.read 0x1A = byte t.cm.lampInd.code := by
      simpa [Mem.bytes, List.range_succ] using shown
    refine ⟨t, runs, done.ends, ?_, single.1, single.2, Mem.read_of_bytes_one asked, ?_, done.cells, done.regs, done.whole, ?_⟩
    · rw [tcm]
      exact cm
    · have parts : y.cm.lampMode = l ∧ y.cm.supply = s.cm.supply ∧ y.cm.fault = s.cm.fault := by
        rw [cm]
        exact ⟨rfl, rfl, rfl⟩
      rw [done.kind, tcm, State.modCm_cm, connectorKind, parts.1, parts.2.1, parts.2.2]
    · refine (done.frame (p := Within 0x19 3) frame).mono ?_
      rintro a (cell | field | shared)
      · exact .inl cell
      · exact .inr (.inl field)
      · exact .inr (.inr shared)
  · obtain ⟨settled, taken, held⟩ := received
    have eq := State.connectorReceive_supply (c := c) (on := true) none noLamp (by rw [field]; rfl)
    rw [State.connectorSupply_start s c off good calm] at eq
    have bytes := s.supplySet_bytes c true .starting (some (s.time.clock + 100))
    have frame := s.supplySet_frame c true .starting (some (s.time.clock + 100))
    have settle : (s.supplySet c true .starting (some (s.time.clock + 100))).connectorSettle c (some true) =
        (s.supplySet c true .starting (some (s.time.clock + 100))).setCell c .active := by
      unfold State.connectorSettle
      rw [if_neg (by simp [State.supplySet]), if_pos ⟨rfl, rfl⟩]
    rw [settle] at eq
    have board : (s.supplySet c true .starting (some (s.time.clock + 100))).board = s.board := rfl
    have regs : (s.supplySet c true .starting (some (s.time.clock + 100))).regs = s.regs := rfl
    have cm : (s.supplySet c true .starting (some (s.time.clock + 100))).cm =
      { s.cm with supply := .starting, startTimer := some (s.time.clock + 100), reqSupply := true, cell := some c } := rfl
    have outer : s.supplySet c true .starting (some (s.time.clock + 100)) =
      { s with cm := (s.supplySet c true .starting (some (s.time.clock + 100))).cm
               mem := (s.supplySet c true .starting (some (s.time.clock + 100))).mem
               info := (s.supplySet c true .starting (some (s.time.clock + 100))).info } := rfl
    generalize s.supplySet c true .starting (some (s.time.clock + 100)) = x at eq bytes frame board regs cm outer
    have keeps : ((x.setCell c .active).cell c).abortHeld = false := by
      rw [State.setCell_cell, State.cell, board]
      exact held
    have runs : exec (.connector c) s = .next (x.setCell c .active).finish := by
      refine (show exec (.connector c) s = execConnector c s from rfl).trans ((receive_eq (act := fun s => s.connectorReceive c) taken).trans ?_)
      rw [eq, State.actHeld_of_not_held keeps]
    have setWhole := x.setCell_whole c .active
    refine ⟨_, runs, (x.setCell_shows c .active).finish, ?_, ?_, ?_, ?_, ?_, ?_⟩
    · rw [State.finish_cm, setWhole]
      exact cm
    · rw [State.finish_infoBytes _ (by unfold InfoShared Within; omega)]
      refine ((x.setCell_frame c .active).bytes fun k hk => ?_).trans bytes
      have bounds := cellBase_bounds c
      unfold Within
      omega
    · refine OnlyCellState.finish (OnlyCellState.of_board (u := x) ⟨x.setCell_posts c _, ?_, fun d ne => State.setCell_cell_ne x _ ne⟩ board)
      rw [State.setCell_cell]
    · rw [State.finish_regs, setWhole, regs, ← settled.2]
    · have fin := State.finish_sameRegs settled (x.setCell c .active) (by rw [setWhole, regs])
      generalize (x.setCell c .active).finish = y at fin ⊢
      rw [fin, setWhole, outer]
    · refine (frame.both (x.setCell_frame c .active)).finish.mono ?_
      rintro a ((field | cell) | shared)
      · exact .inr (.inl field)
      · exact .inl cell
      · exact .inr (.inr shared)
  · have eq := State.connectorReceive_supply (c := c) (on := false) none noLamp (by rw [field]; rfl)
    rw [State.connectorSupply_stop s c notOff] at eq
    obtain ⟨t, runs, done⟩ := connectorDone received rfl rfl (by simp) eq
    refine ⟨t, runs, done.ends, ?_, ?_, done.cells, done.regs, done.whole, ?_⟩
    · rw [done.cm, ← none]
      rfl
    · rw [done.info (by decide) (by unfold InfoShared Within; omega), State.supplySet_bytes]
      rfl
    · refine (done.frame (p := Within 0x1C 2) (s.supplySet_frame c _ _ _)).mono ?_
      rintro a (cell | field | shared)
      · exact .inl cell
      · exact .inr (.inl field)
      · exact .inr (.inr shared)

end Sys2Proof.Machine
end

section
/-! PROOFS. CHECK and the CHANNEL request (R38, R45, R46). -/

namespace Sys2Proof.Machine

variable {s t : State}

/-! ### Receipts that end their cell -/

theorem CellEnd.conditions_done (kind : List Byte) : (CellEnd.done kind).conditions = [] := rfl

/-- What the end of a cell at `x` and of its event come to. -/
structure CellEnded (x t : State) (c : Fin 32) (e : CellEnd) : Prop where
  shows : CellShows t c e.state
  done : e.fault = none → EndsDone t c
  failed : ∀ f, e.fault = some f → EndsFailed t c f.stage f.reason
  kind : ∀ n, n = e.kind.length → n ≤ 28 → t.mem.bytes (cellBase c + 100) n = e.kind
  posts : t.board.posts = x.board.posts
  cell : t.cell c = { x.cell c with st := e.state }
  others : ∀ d, d ≠ c → t.cell d = x.cell d
  regs : t.regs = { x.regs with done := x.regs.done ||| (1#32 <<< c.val), irq := irqOf t.regs }
  info : x.info.dirty = false → t.info = x.info
  whole : t = { x with board := t.board, regs := t.regs, mem := t.mem, info := t.info }
  frame : MemFrame x t fun a => EndPlaces c a ∨ InfoShared a
  clean : x.info.dirty = false → MemFrame x t (EndPlaces c)
  grant : t.mem.read (cellBase c + 68) = byte (x.cell c).grant
  flags : t.mem.read (cellBase c + 65) = byte e.flags
  fault : ∀ f, e.fault = some f → ∀ o b, o < 16 → (f.tail x)[o]? = some b → t.mem.read (cellBase c + 84 + o) = b

theorem cellEnded (x : State) (c : Fin 32) (e : CellEnd) : CellEnded x (x.endCellOn none c e).finish c e := by
  have bounds := cellBase_bounds c
  refine ⟨(x.endCellOn_shows c e).finish, fun ok => (x.endCellOn_endsDone c ok).finish, fun f failed => (x.endCellOn_endsFailed c failed).finish,
    fun n len fits => ?_, ?_, ?_, fun d ne => ?_, ?_, fun clean => ?_, x.endCellOn_finish_whole c e, (x.endCellOn_frame c e).finish,
    fun clean => ?_, ?_, ?_, fun f failed o b lt eq => ?_⟩
  · rw [State.finish_bytes _ (by omega), State.endCellOn_kind x c e len (len ▸ fits)]
  · rw [State.finish_board, State.endCellOn_posts]
  · rw [State.finish_cell, State.endCellOn_cell]
  · rw [State.finish_cell, State.endCellOn_cell_ne _ _ _ ne]
  · have regs := x.endCellOn_regs c e
    have fin := (x.endCellOn none c e).finish_regs
    generalize (x.endCellOn none c e).finish = y at fin ⊢
    rw [fin, regs]
    rfl
  · rw [State.endCellOn_finish_clean e clean, State.irqUpdate_info, State.endCellOn_info]
  · rw [State.endCellOn_finish_clean e clean]
    exact (x.endCellOn_frame c e).irqUpdate
  · rw [State.finish_read _ (by omega)]
    exact x.endCellOn_read c e (o := 4) (by decide) (by simp [le16])
  · rw [State.finish_read _ (by omega)]
    exact x.endCellOn_read c e (o := 1) (by decide) (by simp [le16])
  · rw [State.finish_read _ (by omega)]
    exact x.endCellOn_faultByte c failed lt eq

section
variable {x : State} {c : Fin 32} {e : CellEnd} (ended : CellEnded x t c e)
include ended

theorem CellEnded.onlyCell (board : x.board = s.board) : OnlyCellState s t c := by
  refine ⟨ended.posts.trans (congrArg Board.posts board), ?_, fun d ne => (ended.others d ne).trans ?_⟩
  · rw [ended.cell, State.cell, board, State.cell]
  · rw [State.cell, board, State.cell]

theorem CellEnded.endRegs {events : BitVec 8} (regs : x.regs = { s.regs with event := s.regs.event ||| events }) :
    EndRegs s t c events := by
  have all := ended.regs
  rw [regs] at all
  exact all

theorem CellEnded.endRegs_same (regs : x.regs = s.regs) : EndRegs s t c 0 :=
  ended.endRegs (by rw [regs]; simp)

end

/-- A receipt that ends its cell, which holds no abort, ends with that end. -/
theorem receive_ended {x : State} {c : Fin 32} {k : Kind} {e : CellEnd} {act : State → State} (taken : s.taken c k = true)
    (ends : act s = x.endCellOn none c e) (held : (x.cell c).abortHeld = false) :
    ∃ t, receive s c k act = .next t ∧ CellEnded x t c e := by
  refine ⟨_, receive_eq taken, ?_⟩
  rw [ends, State.endCellOn_actHeld x c e held]
  exact cellEnded x c e

/-- Settles O30. -/
theorem checkIsDryRun : Obligations.CheckIsDryRun := by
  unfold Obligations.CheckIsDryRun
  intro c ch s ⟨⟨clean, line⟩, taken, held⟩ cap verdict named
  generalize hx : s.modCell c (fun k => { k with grant := (checkResult verdict).2 }) = x
  have cell : x.cell c = { s.cell c with grant := (checkResult verdict).2 } := by
    rw [← hx]
    exact upd_same s.board.cells c _
  have cells : ∀ d, d ≠ c → x.cell d = s.cell d := fun d ne => by
    rw [← hx]
    exact upd_ne s.board.cells _ ne
  have whole : x = { s with board := x.board } := by rw [← hx]; rfl
  have posts : x.board.posts = s.board.posts := by rw [← hx]; rfl
  have info : x.info.dirty = false := by rw [whole]; exact clean
  obtain ⟨t, runs, ended⟩ := receive_ended (act := fun s => match channelNamed (s.cell c).captured with
    | some ch =>
      let r := checkResult (s.admission false (checkRequest ch (s.cell c).captured))
      (s.modCell c fun k => { k with grant := r.2 }).endCell c (.done r.1)
    | none => s) (x := x) (e := .done (checkResult verdict).1) taken
    (by
      dsimp only
      rw [named]
      dsimp only
      rw [hx, State.endCell_of_no_conditions (CellEnd.conditions_done _)])
    (by rw [cell]; exact held)
  have kind := ended.kind 2 (by cases verdict <;> rfl) (by decide)
  have grant := ended.grant
  rw [cell] at grant
  have same : t.ps = s.ps ∧ t.chans = s.chans := by
    rw [ended.whole, whole]
    exact ⟨rfl, rfl⟩
  refine ⟨t, runs, ended.done rfl, fun g k allow => ?_, fun reason d j deny => ?_, same.1, same.2,
    fun d ne => (ended.others d ne).trans (cells d ne), ended.posts.trans posts, ended.endRegs_same (by rw [whole]), ?_, ?_⟩
  · rw [allow] at kind grant
    exact ⟨kind, grant⟩
  · rw [deny] at kind grant
    have bytes := kind
    simp only [Mem.bytes, List.range_succ, CellEnd.done, checkResult] at bytes
    simp at bytes
    exact ⟨bytes.1, bytes.2, grant⟩
  · have fin := ended.whole
    rw [ended.info info, whole] at fin
    exact fin
  · intro a outside
    rw [ended.clean info a outside, whole]

/-! ### CLEAR_ACCRUED and RELEASE_SUSPENSION (R45, R46) -/

theorem execChannel_ended {x : State} {c : Fin 32} {ch : Fin 8} {op : Nat} {e : CellEnd} {act : State → Fin 8 → State}
    (taken : s.taken c .channel = true) (named : channelNamed (s.cell c).captured = some ch)
    (field : field8 (s.cell c).captured 16 = op) (ends : act s ch = x.endCellOn none c e)
    (held : (x.cell c).abortHeld = false) : ∃ t, receiveChannel s c op act = .next t ∧ CellEnded x t c e := by
  unfold receiveChannel receiveOp
  rw [if_pos field]
  refine receive_ended taken ?_ held
  rw [named]
  exact ends

theorem channelDone_eq (x : State) (c : Fin 32) (before : BitVec 8) (ch : Fin 8) :
    x.channelDone c before ch = x.endCellOn none c (.done (channelKind before (x.chan ch))) :=
  State.endCell_of_no_conditions (CellEnd.conditions_done _)

/-- What a CHANNEL operation that ends DONE comes to, after what it asked for left the part at `x`. -/
structure ChannelDone (s x t : State) (c : Fin 32) (before : BitVec 8) : Prop where
  ends : EndsDone t c
  shown : t.mem.read (cellBase c + 100) = before
  cells : OnlyCellState s t c
  chans : t.chans = x.chans
  regs : ∀ events, x.regs = { s.regs with event := s.regs.event ||| events } → EndRegs s t c events
  whole : t = { x with board := t.board, regs := t.regs, mem := t.mem, info := t.info }
  info : x.info.dirty = false → t.info = x.info
  frame : MemFrame x t fun a => EndPlaces c a ∨ InfoShared a
  clean : x.info.dirty = false → MemFrame x t (EndPlaces c)

theorem channelDone {x : State} {c : Fin 32} {ch : Fin 8} {op : Nat} {before : BitVec 8} {act : State → Fin 8 → State}
    (taken : s.taken c .channel = true) (named : channelNamed (s.cell c).captured = some ch)
    (field : field8 (s.cell c).captured 16 = op) (held : (s.cell c).abortHeld = false) (board : x.board = s.board)
    (does : act s ch = x.channelDone c before ch) :
    ∃ t, receiveChannel s c op act = .next t ∧ ChannelDone s x t c before := by
  obtain ⟨t, runs, ended⟩ := execChannel_ended (x := x) taken named field (does.trans (channelDone_eq x c before ch))
    (by rw [State.cell, board]; exact held)
  have kind := ended.kind 5 (by rfl) (by decide)
  refine ⟨t, runs, ended.done rfl, ?_, ended.onlyCell board, ?_, fun _ => ended.endRegs, ended.whole, ended.info, ended.frame, ended.clean⟩
  · have first : t.mem.bytes (cellBase c + 100) 5 = t.mem.bytes (cellBase c + 100) 1 ++ t.mem.bytes (cellBase c + 101) 4 := by
      simp [Mem.bytes, List.range_succ]
    rw [first] at kind
    exact (List.cons.inj kind).1
  · rw [ended.whole]

/-- Settles O31. -/
theorem channelClearAndRelease : Obligations.ChannelClearAndRelease := by
  unfold Obligations.ChannelClearAndRelease
  intro c ch s ⟨⟨clean, line⟩, taken, held⟩ cap r frame named
  have framed : ∀ {x t : State} {before : BitVec 8}, x = { s with chans := x.chans, mem := x.mem, regs := x.regs } →
      MemFrame s x (Within (chanBase ch) 32) → (∀ j, j ≠ ch → x.chan j = s.chan j) → ChannelDone s x t c before → frame t := by
    intro x t before whole stored others done
    have still : x.info.dirty = false := by rw [whole]; exact clean
    refine ⟨fun j ne => ?_, done.cells, ?_, (stored.both (done.clean still)).mono fun a => Or.symm⟩
    · rw [State.chan, done.chans]
      exact others j ne
    · have eq := done.whole
      rw [done.info still, whole] at eq
      have chans := done.chans
      rw [← chans] at eq
      exact eq
  refine ⟨fun op => ?_, fun op => ?_⟩
  · generalize hx : s.updChan ch (fun r => { r with accrued := 0 }) = x
    have whole := s.updChan_whole ch fun r => { r with accrued := 0 }
    have chan := s.updChan_chan_same ch fun r => { r with accrued := 0 }
    have others : ∀ j, j ≠ ch → x.chan j = s.chan j := fun j ne => by rw [← hx]; exact s.updChan_chan_ne _ ne
    have stored := s.updChan_frame ch fun r => { r with accrued := 0 }
    rw [hx] at whole chan stored
    obtain ⟨t, runs, done⟩ := channelDone (x := x) (before := r.accrued) (act := fun s ch =>
      (s.updChan ch fun r => { r with accrued := 0 }).channelDone c (s.chan ch).accrued ch) taken named op held (by rw [whole])
      (by rw [hx])
    refine ⟨t, runs, done.ends, done.shown, ?_, done.regs 0 ?_, framed ?_ stored others done⟩
    · rw [State.chan, done.chans, ← State.chan, chan]
      have same : ({ r with accrued := 0 } : Chan) = r ↔ r.accrued = 0 := by
        constructor
        · intro eq
          exact (congrArg Chan.accrued eq).symm
        · intro eq
          rw [← eq]
      simp only [show s.chan ch = r from rfl, same]
    · rw [whole]
      simp
    · rw [whole]
  · by_cases suspended : r.suspended = true
    · generalize hy : s.updChan ch (fun r => { r with suspended := false, remaining := 0, run := 0 }) = y
      have whole := s.updChan_whole ch fun r => { r with suspended := false, remaining := 0, run := 0 }
      have chan := s.updChan_chan_same ch fun r => { r with suspended := false, remaining := 0, run := 0 }
      have others : ∀ j, j ≠ ch → y.chan j = s.chan j := fun j ne => by rw [← hy]; exact s.updChan_chan_ne _ ne
      have stored := s.updChan_frame ch fun r => { r with suspended := false, remaining := 0, run := 0 }
      rw [hy] at whole chan stored
      have changes : ({ r with suspended := false, remaining := 0, run := 0 } : Chan) ≠ r := fun eq =>
        Bool.false_ne_true ((congrArg Chan.suspended eq).trans suspended)
      rw [if_neg changes] at chan
      obtain ⟨t, runs, done⟩ := channelDone (x := y.event .channel) (before := r.accrued) (act := fun s ch =>
        (if (s.chan ch).suspended then s.unsuspend ch else s).channelDone c (s.chan ch).accrued ch) taken named op held
        (by rw [State.event_board, whole]) (by rw [if_pos suspended, State.unsuspend, hy])
      refine ⟨t, runs, done.ends, fun _ => ⟨?_, done.regs _ ?_⟩, fun off => absurd (suspended.symm.trans off) (by decide),
        framed (x := y.event .channel) ?_ stored others done⟩
      · rw [State.chan, done.chans]
        exact chan
      · rw [State.event_regs, whole]
      · rw [State.event, State.modRegs, whole]
    · obtain ⟨t, runs, done⟩ := channelDone (x := s) (before := r.accrued) (act := fun s ch =>
        (if (s.chan ch).suspended then s.unsuspend ch else s).channelDone c (s.chan ch).accrued ch) taken named op held rfl
        (by rw [if_neg suspended])
      refine ⟨t, runs, done.ends, fun on => absurd on suspended, fun _ => ⟨?_, done.regs 0 (by simp)⟩,
        framed rfl (MemFrame.refl s _) (fun _ _ => rfl) done⟩
      rw [State.chan, done.chans]
      rfl

/-! ### CLEAR_LATCH (R46, R158) -/

theorem State.lampRefresh_shows (s : State) : LampShows s s.lampRefresh := by
  intro changed
  by_cases same : s.indication = s.cm.lampInd
  · rw [s.lampRefresh_same same] at changed
    exact absurd rfl changed
  · rw [s.lampRefresh_new same]
    exact State.wrLamp_bytes _

/-- What has been shown of the lamp stays shown where neither the lamp nor those two bytes change. -/
theorem LampShows.later {u : State} {p : Nat → Prop} (shows : LampShows s t) (mode : u.cm.lampMode = t.cm.lampMode)
    (ind : u.cm.lampInd = t.cm.lampInd) (frame : MemFrame t u p) (apart : ∀ a, Within 0x19 2 a → ¬ p a) : LampShows s u := by
  intro changed
  rw [ind] at changed
  rw [mode, ind, ← shows changed]
  exact frame.bytes fun k lt => apart _ (by unfold Within; omega)

/-- The lamp's two bytes are no place of a cell's end, nor do they go with every write of the Information Block. -/
theorem endPlaces_not_lamp {c : Fin 32} {a : Nat} (lamp : Within 0x19 2 a) : ¬ (EndPlaces c a ∨ InfoShared a) := by
  have bounds := cellBase_bounds c
  unfold EndPlaces InfoShared
  unfold Within at *
  omega

/-- Settles O32. -/
theorem clearLatch : Obligations.ClearLatch := by
  unfold Obligations.ClearLatch
  intro c ch s ⟨⟨clean, line⟩, taken, held⟩ cap r named op
  have act : ∀ {x : State} {e : CellEnd}, (if workshop s then (s.clearLatch ch).channelDone c (s.chan ch).accrued ch
      else s.endCell c (.failed (FaultRec.core .policy .notInWorkshop none))) = x.endCellOn none c e → (x.cell c).abortHeld = false →
      ∃ t, exec (.clearLatch c) s = .next t ∧ CellEnded x t c e := fun eq keeps =>
    execChannel_ended (act := fun s ch => if workshop s then (s.clearLatch ch).channelDone c (s.chan ch).accrued ch
      else s.endCell c (.failed (FaultRec.core .policy .notInWorkshop none))) taken named op eq keeps
  have simple : ∀ {t : State} {e : CellEnd}, CellEnded s t c e →
      t.chans = s.chans ∧ EndRegs s t c 0 ∧ BoardOnly s t ∧ MemFrame s t (EndPlaces c) := fun ended => by
    have whole := ended.whole
    rw [ended.info clean] at whole
    refine ⟨?_, ended.endRegs_same rfl, whole, ended.clean clean⟩
    rw [whole]
  by_cases shop : workshop s = true
  · rw [if_pos shop, channelDone_eq] at act
    by_cases latched : r.latch = none
    · have still : s.clearLatch ch = s := by
        unfold State.clearLatch
        rw [if_neg (by simp [show (s.chan ch).latch = none from latched])]
      rw [still] at act
      obtain ⟨t, runs, ended⟩ := act rfl held
      exact ⟨t, runs, fun off => absurd (shop.symm.trans off) (by decide), fun _ _ => ⟨ended.done rfl, simple ended⟩,
        fun _ some => absurd latched some, ended.onlyCell rfl⟩
    · generalize hy : s.updChan ch (fun r => { r with latch := none }) = y
      have whole := s.updChan_whole ch fun r => { r with latch := none }
      have chan := s.updChan_chan_same ch fun r => { r with latch := none }
      have others : ∀ j, j ≠ ch → y.chan j = s.chan j := fun j ne => by rw [← hy]; exact s.updChan_chan_ne _ ne
      have stored := s.updChan_frame ch fun r => { r with latch := none }
      rw [hy] at whole chan stored
      rw [if_neg fun eq => latched (congrArg Chan.latch eq).symm] at chan
      have runs : s.clearLatch ch = (y.event .channel).lampRefresh := by
        rw [State.clearLatch, if_pos (Option.isSome_iff_ne_none.2 latched), hy]
      have lamp := (y.event .channel).lampRefresh_whole
      have cm := (y.event .channel).lampRefresh_cm
      have shows := (y.event .channel).lampRefresh_shows
      have shown := (y.event .channel).lampRefresh_frame
      generalize (y.event .channel).lampRefresh = x at runs lamp cm shows shown
      have ycm : y.cm = s.cm := by rw [whole]
      rw [runs] at act
      obtain ⟨t, runs, ended⟩ := act rfl (by rw [lamp, State.event, State.modRegs, whole]; exact held)
      have end_ := ended.whole
      have tcm : t.cm = x.cm := by rw [end_]
      have tchans : t.chans = y.chans := by
        rw [end_, lamp]
        rfl
      refine ⟨t, runs, fun off => absurd (shop.symm.trans off) (by decide), fun _ none => absurd none latched,
        fun _ _ => ⟨ended.done rfl, ?_, fun j ne => ?_, ended.endRegs ?_, ?_, ?_, ?_, ?_⟩, ended.onlyCell ?_⟩
      · rw [State.chan, tchans]
        exact chan
      · rw [State.chan, tchans]
        exact others j ne
      · rw [lamp, State.event, State.modRegs, whole]
      · rw [tcm, cm, State.event_cm, ycm]
      · have first : LampShows s x := fun changed => shows (by rw [State.event_cm, ycm]; exact changed)
        exact first.later (by rw [tcm]) (by rw [tcm]) ended.frame fun a => endPlaces_not_lamp
      · have eq := end_
        have same : t.chans = x.chans := by rw [end_]
        rw [← tcm, ← same, lamp, State.event, State.modRegs, whole] at eq
        exact eq
      · refine ((stored.both (MemFrame.both (s := y) shown ended.frame)).mono ?_)
        rintro a (place | lamp | place | shared)
        · exact .inr (.inl place)
        · exact .inr (.inr (.inl lamp))
        · exact .inl place
        · exact .inr (.inr (.inr shared))
      · rw [lamp, State.event, State.modRegs, whole]
  · rw [if_neg shop] at act
    obtain ⟨t, runs, ended⟩ := act (State.endCell_of_no_conditions (CellEnd.conditions_failed (by simp [FaultRec.core]) rfl (by simp [FaultRec.core]) rfl)) held
    exact ⟨t, runs, fun _ => ⟨ended.failed _ rfl, simple ended⟩, fun on => absurd on shop, fun on => absurd on shop, ended.onlyCell rfl⟩

end Sys2Proof.Machine
end

section
/-! PROOFS. A denied admission (R37, R42). -/

namespace Sys2Proof.Machine

variable {s t : State}

/-! ### Accrued conditions (R175) -/

theorem foldl_or_getLsbD (fs : List Flag) {a : BitVec 8} {i : Nat} (set : a.getLsbD i = true) :
    (fs.foldl (fun a f => a ||| f.bit) a).getLsbD i = true := by
  induction fs generalizing a with
  | nil => exact set
  | cons f fs ih => exact ih (by rw [BitVec.getLsbD_or, set, Bool.true_or])

/-- The channel of an accrual: its conditions grow, its change counter may move, and nothing else does. -/
theorem State.accrue_chan (s : State) (ch : Fin 8) (fs : List Flag) :
    (s.accrue ch fs).chan ch =
      { s.chan ch with accrued := fs.foldl (fun a f => a ||| f.bit) (s.chan ch).accrued
                       counter := ((s.accrue ch fs).chan ch).counter } := by
  unfold State.accrue
  exact s.updChan_chan ch _

theorem State.accrue_chan_ne (s : State) {ch k : Fin 8} (fs : List Flag) (ne : k ≠ ch) : (s.accrue ch fs).chan k = s.chan k :=
  s.updChan_chan_ne _ ne

theorem State.accrue_whole (s : State) (ch : Fin 8) (fs : List Flag) :
    s.accrue ch fs = { s with chans := (s.accrue ch fs).chans, mem := (s.accrue ch fs).mem } :=
  s.updChan_whole ch _

theorem State.accrue_frame (s : State) (ch : Fin 8) (fs : List Flag) : MemFrame s (s.accrue ch fs) (Within (chanBase ch) 32) :=
  s.updChan_frame ch _

/-! ### The denial (R37, R42) -/

theorem denyChan_uncounted {p : PolicySet} {reason : Reason} (r : Chan) (uncounted : reason.isCounted = false) :
    denyChan p reason r = { r with denied := r.denied + 1, accrued := r.accrued ||| Flag.denied.bit } := by
  simp [denyChan, uncounted]

theorem denyChan_below {p : PolicySet} {reason : Reason} (r : Chan) (counted : reason.isCounted = true) (below : r.run + 1 < p.threshold) :
    denyChan p reason r = { r with denied := r.denied + 1, accrued := r.accrued ||| Flag.denied.bit, run := r.run + 1 } := by
  simp [denyChan, counted, below]

theorem denyChan_reaches {p : PolicySet} {reason : Reason} (r : Chan) (counted : reason.isCounted = true)
    (reaches : p.threshold ≤ r.run + 1) :
    denyChan p reason r = { r with denied := r.denied + 1, run := 0, suspended := true, remaining := p.suspension
                                   accrued := r.accrued ||| Flag.denied.bit ||| Flag.suspended.bit } := by
  simp [denyChan, counted, Nat.not_lt.2 reaches]

theorem denyChan_keeps (p : PolicySet) (reason : Reason) (r : Chan) :
    (denyChan p reason r).denied = r.denied + 1 ∧ (denyChan p reason r).admitted = r.admitted ∧ (denyChan p reason r).latch = r.latch ∧
      (denyChan p reason r).accrued.getLsbD 0 = true := by
  unfold denyChan
  dsimp only
  split
  · simp [Flag.bit]
  · split <;> simp [Flag.bit]

/-- The part after the AU has counted a denial. -/
structure DenialCounted (s z : State) (ch : Fin 8) (reason : Reason) : Prop where
  chan : z.chan ch = { denyChan s.ps.active reason (s.chan ch) with counter := (z.chan ch).counter }
  others : ∀ k, k ≠ ch → z.chan k = s.chan k
  regs : z.regs = { s.regs with event := s.regs.event ||| if suspends s.ps.active reason (s.chan ch) then Event.channel.bit else 0 }
  whole : z = { s with regs := z.regs, mem := z.mem, chans := z.chans }
  frame : MemFrame s z (Within (chanBase ch) 32)

theorem denialCounted (s : State) (ch : Fin 8) (reason : Reason) (d : Option Detail) (j : Option Nat) :
    DenialCounted s (s.countVerdict ch (.deny reason d j)) ch reason := by
  have chan := s.updChan_chan ch (denyChan s.ps.active reason)
  have whole := s.updChan_whole ch (denyChan s.ps.active reason)
  have frame := s.updChan_frame ch (denyChan s.ps.active reason)
  have others := fun k (ne : k ≠ ch) => s.updChan_chan_ne (denyChan s.ps.active reason) ne
  unfold State.countVerdict
  dsimp only
  generalize s.updChan ch (denyChan s.ps.active reason) = y at chan whole frame others
  have regs : y.regs = s.regs := by rw [whole]
  split
  case isTrue hit =>
    refine ⟨chan, others, ?_, ?_, frame⟩
    · rw [if_pos hit, State.event_regs, regs]
    · rw [State.event, State.modRegs, whole]
  case isFalse miss =>
    refine ⟨chan, others, ?_, ?_, frame⟩
    · rw [if_neg miss, regs]
      simp
    · rw [whole]

/-- What a denied admission comes to (R37, R42). -/
structure AdmissionDenied (s t : State) (c : Fin 32) (ch : Fin 8) (reason : Reason) (d : Option Detail) : Prop where
  ends : EndsFailed t c .admission reason
  detail : t.mem.read (cellBase c + 87) = byte (match d with
    | some d => d.code
    | none => 0)
  chan : ∃ (fs : List Flag) (n : Word16), t.chan ch = { denyChan s.ps.active reason (s.chan ch) with
    accrued := fs.foldl (fun a f => a ||| f.bit) (denyChan s.ps.active reason (s.chan ch)).accrued, counter := n }
  chans : ∀ k, k ≠ ch → t.chan k = s.chan k
  cells : ∀ e, e ≠ c → t.cell e = s.cell e
  posts : t.board.posts = s.board.posts
  regs : EndRegs s t c (if suspends s.ps.active reason (s.chan ch) then Event.channel.bit else 0)
  whole : t = { s with board := t.board, regs := t.regs, mem := t.mem, chans := t.chans }
  frame : MemFrame s t fun a => EndPlaces c a ∨ Within (chanBase ch) 32 a

/-- The end of a denied cell: only the cell's own record may have changed since the denial was counted. -/
theorem admissionDenied {y z : State} {c : Fin 32} {ch : Fin 8} {k : Kind} {reason : Reason} {d : Option Detail}
    {act : State → State} {target : Nat} (received : Receives s c k) (counted : DenialCounted s z ch reason)
    (named : channelNamed (y.cell c).captured = some ch) (held : (y.cell c).abortHeld = false)
    (recorded : y = { z with board := y.board }) (cells : ∀ e, e ≠ c → y.cell e = s.cell e) (posts : y.board.posts = s.board.posts)
    (does : act s = y.endCell c (.failed (denialFault y target .admission reason d))) :
    ∃ t, receive s c k act = .next t ∧ AdmissionDenied s t c ch reason d := by
  obtain ⟨⟨clean, line⟩, taken, _⟩ := received
  generalize hf : denialFault y target .admission reason d = f at does
  have faulty : f.stage = .admission ∧ f.reason = reason ∧ f.detail = d ∧ f.field = none := by
    rw [← hf]
    exact ⟨rfl, rfl, rfl, rfl⟩
  rw [State.endCell, named, State.endCellOn_some] at does
  have accrued := y.accrue_chan ch (CellEnd.failed f).conditions
  have others := fun k (ne : k ≠ ch) => y.accrue_chan_ne (CellEnd.failed f).conditions ne
  have whole := y.accrue_whole ch (CellEnd.failed f).conditions
  have frame := y.accrue_frame ch (CellEnd.failed f).conditions
  generalize y.accrue ch (CellEnd.failed f).conditions = x at does accrued others whole frame
  generalize (CellEnd.failed f).conditions = fs at accrued
  have zwhole := counted.whole
  have board : x.board = y.board := by rw [whole]
  have info : x.info.dirty = false := by rw [whole, recorded, zwhole]; exact clean
  have ychan : ∀ k, y.chan k = z.chan k := fun k => by rw [recorded]; rfl
  obtain ⟨t, runs, ended⟩ := receive_ended taken does (by
    have same : x.cell c = y.cell c := by rw [whole]; rfl
    rw [same]; exact held)
  have tchan : ∀ k, t.chan k = x.chan k := fun k => by
    have eq := ended.whole
    rw [eq]
    rfl
  refine ⟨t, runs, ?_, ?_, ⟨fs, ?_⟩, fun k ne => ?_, fun e ne => ?_, ?_, ended.endRegs ?_, ?_, ?_⟩
  · have failed := ended.failed f rfl
    rw [faulty.1, faulty.2.1] at failed
    exact failed
  · obtain ⟨-, -, detail, field⟩ := faulty
    refine ended.fault f rfl 3 _ (by decide) (congrArg some ?_)
    rw [field, detail]
    cases d <;> rfl
  · have first := tchan ch
    rw [accrued, ychan, counted.chan] at first
    exact ⟨_, first⟩
  · rw [tchan, others k ne, ychan, counted.others k ne]
  · rw [ended.others e ne, State.cell, board]
    exact cells e ne
  · rw [ended.posts, board, posts]
  · rw [whole, recorded]
    exact counted.regs
  · have eq := ended.whole
    have chans : t.chans = x.chans := by rw [eq]
    rw [ended.info info, ← chans, whole, recorded, zwhole] at eq
    exact eq
  · have stored : MemFrame s y (Within (chanBase ch) 32) := by
      rw [recorded]
      exact counted.frame
    refine ((stored.trans frame).both (ended.clean info)).mono fun a => Or.symm

/-- The receipt of a cell of one service code that is denied. -/
theorem serviceDenied {c : Fin 32} {ch : Fin 8} {k : Kind} {code target : Nat} {reason : Reason} {d : Option Detail} {j : Option Nat}
    {act : State → State} (received : Receives s c k) (named : channelNamed (s.cell c).captured = some ch)
    (does : act s = ((s.countVerdict ch (.deny reason d j)).recordService c code).endCell c
      (.failed (denialFault ((s.countVerdict ch (.deny reason d j)).recordService c code) target .admission reason d))) :
    ∃ t, receive s c k act = .next t ∧ AdmissionDenied s t c ch reason d := by
  generalize hz : s.countVerdict ch (.deny reason d j) = z at does
  have counted := denialCounted s ch reason d j
  rw [hz] at counted
  have zcell : ∀ e, z.cell e = s.cell e := fun e => by rw [counted.whole]; rfl
  have mine : (z.recordService c code).cell c = { s.cell c with service := code, cls := (z.classIndex code).val } := by
    rw [State.recordService, State.cell_modCell, zcell]
  exact admissionDenied received counted (y := z.recordService c code) (by rw [mine]; exact named) (by rw [mine]; exact received.2.2) rfl
    (fun e ne => (State.cell_modCell_ne z _ ne).trans (zcell e)) (by rw [counted.whole]; rfl) does

/-- Settles O27. -/
theorem exchangeDenied : Obligations.ExchangeDenied := by
  unfold Obligations.ExchangeDenied
  intro c ch reason d j s received cap code r suspend named deny
  obtain ⟨t, runs, denied⟩ := serviceDenied (act := fun s => s.exchangeReceive c) (code := code) (target := targetOf cap) (j := j) received named (by
    unfold State.exchangeReceive
    dsimp only
    rw [named]
    dsimp only
    rw [show s.admission false (plainRequest ch (s.firstByte (requestRef (s.cell c).captured)) (targetOf (s.cell c).captured)) =
      .deny reason d j from deny]
    rfl)
  obtain ⟨fs, n, chan⟩ := denied.chan
  have keeps := denyChan_keeps s.ps.active reason r
  refine ⟨t, runs, denied.ends, denied.detail, ?_, ?_, ?_, ?_, fun no => ?_, fun yes below => ?_, fun both => ?_, fun no => ?_,
    denied.chans, denied.cells, denied.posts, denied.whole, denied.frame⟩
  · rw [chan]
    exact keeps.1
  · rw [chan]
    exact keeps.2.1
  · rw [chan]
    exact keeps.2.2.1
  · rw [chan]
    exact foldl_or_getLsbD fs keeps.2.2.2
  · rw [chan, denyChan_uncounted _ no]
    exact ⟨rfl, rfl⟩
  · rw [chan, denyChan_below _ yes below]
    exact ⟨rfl, rfl⟩
  · have regs := denied.regs
    rw [if_pos (by simpa [suspends] using both)] at regs
    rw [chan, denyChan_reaches _ both.1 both.2]
    exact ⟨rfl, rfl, rfl, foldl_or_getLsbD fs (by simp [Flag.bit]), regs⟩
  · have regs := denied.regs
    have not : ¬ suspends s.ps.active reason r = true := fun hit => no (by simpa [suspends] using hit)
    rw [if_neg not] at regs
    exact regs

end Sys2Proof.Machine
end

section
/-! PROOFS. An admitted EXCHANGE (R35, R37, R49). -/

namespace Sys2Proof.Machine

variable {s t : State}

/-! ### The charge and the counts (R35, R37) -/

theorem State.charge_usage (s : State) (grant : Nat) (i : Fin 16) :
    (s.charge grant).ps.usage[i] =
      if grant = i.val then { s.ps.usage[i] with count := min (s.ps.usage[i].count + 1) 65535 } else s.ps.usage[i] := by
  by_cases inside : grant < 16
  · rw [State.charge_eq s inside]
    by_cases hit : grant = i.val
    · subst hit
      rw [if_pos rfl]
      exact upd_same s.ps.usage i _
    · rw [if_neg hit]
      exact upd_ne s.ps.usage _ fun eq => hit (congrArg Fin.val eq).symm
  · rw [State.charge_none s (n := grant) (by omega), if_neg (by omega)]

theorem State.charge_whole (s : State) (grant : Nat) :
    s.charge grant = { s with ps := { s.ps with usage := (s.charge grant).ps.usage } } := by
  by_cases inside : grant < 16
  · rw [State.charge_eq s inside]
  · rw [State.charge_none s (n := grant) (by omega)]

/-- The part after the AU has charged and counted an admission. -/
structure AdmissionCounted (s z : State) (ch : Fin 8) (grant : Nat) : Prop where
  chan : z.chan ch = { s.chan ch with run := 0, admitted := (s.chan ch).admitted + 1, counter := (s.chan ch).counter + 1 }
  others : ∀ k, k ≠ ch → z.chan k = s.chan k
  usage : ∀ i : Fin 16, z.ps.usage[i] =
    if grant = i.val then { s.ps.usage[i] with count := min (s.ps.usage[i].count + 1) 65535 } else s.ps.usage[i]
  whole : z = { s with ps := { s.ps with usage := z.ps.usage }, mem := z.mem, chans := z.chans }
  frame : MemFrame s z (Within (chanBase ch) 32)

theorem admissionCounted (s : State) (ch : Fin 8) (grant : Nat) (g : Fin 4) :
    AdmissionCounted s (s.countVerdict ch (.allow grant g)) ch grant := by
  have usage := s.charge_usage grant
  have charged := s.charge_whole grant
  rw [State.countVerdict_allow]
  generalize s.charge grant = y at usage charged
  have moves : ({ y.chan ch with run := 0, admitted := (y.chan ch).admitted + 1 } : Chan) ≠ y.chan ch := fun eq => by
    have admitted : (y.chan ch).admitted + 1 = (y.chan ch).admitted := congrArg Chan.admitted eq
    bv_omega
  have chan := y.updChan_chan_same ch fun r => { r with run := 0, admitted := r.admitted + 1 }
  rw [if_neg moves] at chan
  have whole := y.updChan_whole ch fun r => { r with run := 0, admitted := r.admitted + 1 }
  have frame := y.updChan_frame ch fun r => { r with run := 0, admitted := r.admitted + 1 }
  have others := fun k (ne : k ≠ ch) => y.updChan_chan_ne (fun r => { r with run := 0, admitted := r.admitted + 1 }) ne
  generalize (y.updChan ch fun r => { r with run := 0, admitted := r.admitted + 1 }) = x at chan whole frame others
  have same : ∀ k, y.chan k = s.chan k := fun k => by rw [charged]; rfl
  have ps : x.ps = y.ps := by rw [whole]
  refine ⟨?_, fun k ne => (others k ne).trans (same k), fun i => ?_, ?_, ?_⟩
  · rw [chan, same]
  · rw [ps]
    exact usage i
  · rw [whole, charged]
  · rw [charged] at frame
    exact frame

/-! ### Joining a lane (R49, R55) -/

theorem State.join_whole (s : State) (g : Fin 4) (e : Entry) :
    s.join g e = { s with segs := (s.join g e).segs, mem := (s.join g e).mem } := by
  unfold State.join
  rw [State.lsWrite_eq]
  rfl

theorem State.join_seg_ne (s : State) {g k : Fin 4} (e : Entry) (ne : k ≠ g) : (s.join g e).seg k = s.seg k := by
  unfold State.join
  rw [State.lsWrite_seg_ne _ ne, State.seg_modSeg_ne _ _ ne]

theorem State.join_frame (s : State) (g : Fin 4) (e : Entry) : MemFrame s (s.join g e) (Within (segBase g) 128) :=
  State.lsWrite_frame (s.modSeg g fun q => { q with lanes := q.lanes.mod e.lane (· ++ [e]) }) g

theorem canStart_with_lanes (q : Seg) (lanes : Lanes) (counter : Word16) :
    Seg.canStart { q with lanes := lanes, counter := counter } = q.canStart := rfl

/-- An entry that joins a segment which can start nothing waits there. -/
theorem State.joinRun_waits {g : Fin 4} (e : Entry) (waits : Waits s g) : s.joinRun g e = s.join g e := by
  unfold State.joinRun
  refine State.arbitrate_waits ?_
  rw [Waits, State.seg_join, canStart_with_lanes]
  exact waits

theorem State.newEntry_congr {x : State} (active : x.ps.active = s.ps.active) (g : Fin 4) (c : Fin 32) (target : Nat) (role : Role)
    (code : Nat) (deadline : Word32) : x.newEntry g c target role code deadline = s.newEntry g c target role code deadline := by
  unfold State.newEntry State.laneOf State.classIndex
  rw [active]

/-- The part once an admitted EXCHANGE cell is QUEUED, before its entry joins. -/
structure ExchangeTaken (s x : State) (c : Fin 32) (ch : Fin 8) (grant code : Nat) : Prop where
  shows : CellShows x c .queued
  cell : x.cell c = { s.cell c with st := .queued, service := code, cls := (s.classIndex code).val, grant := grant }
  cells : ∀ d, d ≠ c → x.cell d = s.cell d
  posts : x.board.posts = s.board.posts
  chan : x.chan ch = { s.chan ch with run := 0, admitted := (s.chan ch).admitted + 1, counter := (s.chan ch).counter + 1 }
  chans : ∀ k, k ≠ ch → x.chan k = s.chan k
  usage : ∀ i : Fin 16, x.ps.usage[i] =
    if grant = i.val then { s.ps.usage[i] with count := min (s.ps.usage[i].count + 1) 65535 } else s.ps.usage[i]
  ps : x.ps = { s.ps with usage := x.ps.usage }
  whole : x = { s with board := x.board, mem := x.mem, ps := x.ps, chans := x.chans }
  read : x.mem.read (cellBase c + 68) = byte grant
  frame : MemFrame s x fun a => Within (cellBase c) 2 a ∨ a = cellBase c + 68 ∨ Within (chanBase ch) 32 a

theorem exchangeTaken (s : State) (c : Fin 32) (ch : Fin 8) (grant code : Nat) (g : Fin 4) :
    ExchangeTaken s ((((s.countVerdict ch (.allow grant g)).recordService c code).setGrant c grant).setCell c .queued) c ch grant code := by
  have counted := admissionCounted s ch grant g
  generalize s.countVerdict ch (.allow grant g) = z at counted
  have zwhole := counted.whole
  have zcell : ∀ e, z.cell e = s.cell e := fun e => by rw [zwhole]; rfl
  have zclass : z.classIndex code = s.classIndex code := by rw [State.classIndex, State.classIndex, zwhole]
  have ywhole : ∃ y, y = (z.recordService c code).setGrant c grant := ⟨_, rfl⟩
  obtain ⟨y, hy⟩ := ywhole
  rw [← hy]
  have ycell : y.cell c = { s.cell c with service := code, cls := (s.classIndex code).val, grant := grant } := by
    rw [hy, State.setGrant, State.cell, State.wr_board, ← State.cell, State.cell_modCell, State.recordService, State.cell_modCell, zcell,
      zclass]
  have yothers : ∀ d, d ≠ c → y.cell d = s.cell d := fun d ne => by
    rw [hy, State.setGrant, State.cell, State.wr_board, ← State.cell, State.cell_modCell_ne _ _ ne, State.recordService,
      State.cell_modCell_ne _ _ ne, zcell]
  have yposts : y.board.posts = s.board.posts := by rw [hy, zwhole]; rfl
  have yframe : MemFrame z y (Within (cellBase c + 68) 1) := by
    rw [hy]
    exact State.wr_frame _ (cellBase c + 68) [byte grant]
  have bounds := cellBase_bounds c
  have yread : y.mem.read (cellBase c + 68) = byte grant := by
    rw [hy]
    exact Mem.read_write_inside z.mem (b := cellBase c + 68) (bs := [byte grant]) (o := 0) Nat.zero_lt_one
      (by simp only [List.length_singleton, Config.ramSize]; omega)
  have whole : y = { z with board := y.board, mem := y.mem } := by rw [hy]; rfl
  clear hy
  have xshows := CellShows.of_setCell y c .queued
  have xcell := y.setCell_cell c .queued
  have xothers := fun d (ne : d ≠ c) => y.setCell_cell_ne .queued ne
  have xposts := y.setCell_posts c .queued
  have xframe := y.setCell_frame c .queued
  have xwhole : y.setCell c .queued = { y with board := (y.setCell c .queued).board, mem := (y.setCell c .queued).mem } := by
    rw [State.setCell_eq]
  generalize y.setCell c .queued = x at *
  have xps : x.ps = z.ps := by rw [xwhole, whole]
  have xchan : ∀ k, x.chan k = z.chan k := fun k => by rw [xwhole, whole]; rfl
  refine ⟨xshows, by rw [xcell, ycell], fun d ne => (xothers d ne).trans (yothers d ne), xposts.trans yposts, (xchan ch).trans counted.chan,
    fun k ne => (xchan k).trans (counted.others k ne), fun i => by rw [xps]; exact counted.usage i, by rw [xps, zwhole], ?_, ?_, ?_⟩
  · rw [xwhole, whole, zwhole]
  · rw [xframe _ (by unfold Within; omega), yread]
  · refine ((counted.frame.both yframe).both xframe).mono ?_
    rintro a ((chan | one) | cell)
    · exact .inr (.inr chan)
    · refine .inr (.inl ?_)
      unfold Within at one
      omega
    · exact .inl cell

/-- Settles O26. -/
theorem exchangeAdmitted : Obligations.ExchangeAdmitted := by
  unfold Obligations.ExchangeAdmitted
  intro c ch grant g s ⟨⟨clean, line⟩, taken, held⟩ cap code k named allow waits
  have done := exchangeTaken s c ch grant code g
  have does : s.exchangeReceive c =
      let x := ((((s.countVerdict ch (.allow grant g)).recordService c code).setGrant c grant).setCell c .queued)
      x.joinRun g (x.newEntry g c (targetOf cap) .exchange code (exchangeDeadline (x.cell c))) := by
    unfold State.exchangeReceive
    dsimp only
    rw [named]
    dsimp only
    rw [show s.admission false (plainRequest ch (s.firstByte (requestRef (s.cell c).captured)) (targetOf (s.cell c).captured)) =
      .allow grant g from allow]
    rfl
  dsimp only at does
  generalize ((((s.countVerdict ch (.allow grant g)).recordService c code).setGrant c grant).setCell c .queued) = x at done does
  have whole := done.whole
  have xseg : ∀ j, x.seg j = s.seg j := fun j => by rw [whole]; rfl
  have active : x.ps.active = s.ps.active := by rw [done.ps]
  rw [State.newEntry_congr active, State.joinRun_waits _ (by rw [Waits, xseg]; exact waits), done.cell] at does
  generalize he : s.newEntry g c (targetOf cap) .exchange code _ = e at does
  have joined := x.join_whole g e
  have seg := x.seg_join g e
  have segs := fun j (ne : j ≠ g) => x.join_seg_ne e ne
  have frame := x.join_frame g e
  generalize x.join g e = t at does joined seg segs frame
  have tcell : ∀ d, t.cell d = x.cell d := fun d => by rw [joined]; rfl
  have settled : Settled t := by rw [joined, whole]; exact ⟨clean, line⟩
  have runs : exec (.exchangeAdmission c) s = .next t := by
    refine (show exec (.exchangeAdmission c) s = execExchangeAdmission c s from rfl).trans
      ((receive_eq (act := fun s => s.exchangeReceive c) taken).trans ?_)
    rw [does, State.actHeld_of_not_held (by rw [tcell, done.cell]; exact held), settled.finish]
  have tchan : ∀ k, t.chan k = x.chan k := fun k => by rw [joined]; rfl
  have tps : t.ps = x.ps := by rw [joined]
  have cb := cellBase_bounds c
  have sb := segBase_bounds g
  rw [xseg] at seg
  refine ⟨t, runs, done.shows.later (by rw [tcell]) frame (by unfold Within; omega), by rw [tcell, done.cell], ?_,
    (tchan ch).trans done.chan, fun i => ?_, ?_, ?_, ?_,
    fun j ne => (segs j ne).trans (xseg j), fun j ne => (tchan j).trans (done.chans j ne), fun d ne => (tcell d).trans (done.cells d ne), ?_, ?_, ?_⟩
  · rw [seg, ← he]
    rfl
  · rw [tps]
    exact done.usage i
  · rw [tps, done.ps]
  · rw [frame _ (by unfold Within; omega), done.read]
  · rw [seg]
  · rw [joined]
    exact done.posts
  · rw [joined, whole]
  · refine (done.frame.both frame).mono ?_
    rintro a ((cell | one | chan) | seg)
    · exact .inl cell
    · exact .inr (.inl one)
    · exact .inr (.inr (.inl chan))
    · exact .inr (.inr (.inr seg))

end Sys2Proof.Machine
end

section
/-! PROOFS. Commits that are not carried out, and the armed commit (R12 to R14). -/

namespace Sys2Proof.Machine

variable {s t : State}

theorem receiveOp_eq {c : Fin 32} {k : Kind} {off op : Nat} {act : State → State} (field : field8 (s.cell c).captured off = op) :
    receiveOp s c k off op act = receive s c k act := if_pos field

/-- A fault record of the policy unit holds the offset of the invalid item at byte 96 of the cell (R12, 11.4). -/
theorem FaultRec.tail_offset (x : State) (o : Nat) {i : Nat} (lt : i < 2) :
    (({ FaultRec.core .policy .invalidSet none with offset := some o } : FaultRec).tail x)[12 + i]? = (le16 o)[i]? := by
  match i, lt with
  | 0, _ => rfl
  | 1, _ => rfl

/-- A COMMIT cell that fails at the policy unit. -/
theorem commit_fails {c : Fin 32} {f : FaultRec} (received : Receives s c .commit) (op : field8 (s.cell c).captured 16 = 1)
    (does : s.runCommit c = s.endCell c (.failed f)) (still : (CellEnd.failed f).conditions = []) :
    ∃ t, exec (.commitNow c) s = .next t ∧ CellEnded s t c (.failed f) ∧ EndsFailed t c f.stage f.reason ∧ t.ps = s.ps ∧
      OnlyCellState s t c ∧ EndRegs s t c 0 ∧ BoardOnly s t ∧ MemFrame s t (EndPlaces c) := by
  obtain ⟨⟨clean, line⟩, taken, held⟩ := received
  rw [State.endCell_of_no_conditions still] at does
  obtain ⟨t, runs, ended⟩ := receive_ended (act := fun s => s.runCommit c) taken does held
  have whole := ended.whole
  rw [ended.info clean] at whole
  have ps : t.ps = s.ps := by rw [whole]
  exact ⟨t, (receiveOp_eq op).trans runs, ended, ended.failed f rfl, ps, ended.onlyCell rfl, ended.endRegs_same rfl, whole, ended.clean clean⟩

/-! ### The armed commit (R14) -/

theorem exec_arm {c : Fin 32} (taken : s.taken c .commit = true) (op : field8 (s.cell c).captured 16 = 2)
    (held : ((s.arm c).cell c).abortHeld = false) : exec (.commitAtIgnition c) s = .next (s.arm c).finish := by
  refine (show exec (.commitAtIgnition c) s = execCommitAtIgnition c s from rfl).trans
    ((receiveOp_eq op).trans ((receive_eq (act := fun s => s.arm c) taken).trans ?_))
  rw [State.actHeld_of_not_held held]

/-- The cell becomes the armed commit. -/
theorem armed_setCell (y : State) (c : Fin 32) :
    CellShows ((y.modPs fun p => { p with armed := some c }).setCell c .active) c .active ∧
      ((y.modPs fun p => { p with armed := some c }).setCell c .active).ps = { y.ps with armed := some c } ∧
      OnlyCellState y ((y.modPs fun p => { p with armed := some c }).setCell c .active) c ∧
      ((y.modPs fun p => { p with armed := some c }).setCell c .active) =
        { y with board := ((y.modPs fun p => { p with armed := some c }).setCell c .active).board
                 mem := ((y.modPs fun p => { p with armed := some c }).setCell c .active).mem
                 ps := { y.ps with armed := some c } } ∧
      MemFrame y ((y.modPs fun p => { p with armed := some c }).setCell c .active) (Within (cellBase c) 2) := by
  generalize hz : (y.modPs fun p => { p with armed := some c }) = z
  have board : z.board = y.board := by rw [← hz]; rfl
  have ps : z.ps = { y.ps with armed := some c } := by rw [← hz]; rfl
  have whole : z = { y with ps := { y.ps with armed := some c } } := by rw [← hz]; rfl
  have cell : ∀ d, z.cell d = y.cell d := fun d => by rw [State.cell, board, State.cell]
  have frame := z.setCell_frame c .active
  rw [show MemFrame z (z.setCell c .active) (Within (cellBase c) 2) = MemFrame y (z.setCell c .active) (Within (cellBase c) 2) by
    rw [whole]; rfl] at frame
  refine ⟨.of_setCell z c .active, ?_, ⟨?_, ?_, fun d ne => ?_⟩, ?_, frame⟩
  · rw [State.setCell_eq, ps]
  · rw [State.setCell_posts, board]
  · rw [State.setCell_cell, cell]
  · rw [State.setCell_cell_ne _ _ ne, cell]
  · rw [State.setCell_eq, whole]

theorem armCommit_none {c : Fin 32} (received : Receives s c .commit) (op : field8 (s.cell c).captured 16 = 2)
    (free : s.ps.armed = none) :
    ∃ t, exec (.commitAtIgnition c) s = .next t ∧ CellShows t c .active ∧ t.ps = { s.ps with armed := some c } ∧
      OnlyCellState s t c ∧ t = { s with board := t.board, mem := t.mem, ps := t.ps } ∧ MemFrame s t (Within (cellBase c) 2) := by
  obtain ⟨settled, taken, held⟩ := received
  have runs := exec_arm (s := s) taken op
  have arms : s.arm c = (s.modPs fun p => { p with armed := some c }).setCell c .active := by
    unfold State.arm
    rw [free]
  have after := armed_setCell s c
  rw [← arms] at after
  generalize s.arm c = x at runs after
  obtain ⟨shows, ps, cells, whole, frame⟩ := after
  have still : Settled x := by rw [whole]; exact settled
  rw [still.finish] at runs
  refine ⟨x, runs (by rw [cells.2.1]; exact held), shows, ps, cells, ?_, frame⟩
  rw [← ps] at whole
  exact whole

theorem armCommit_some {c : Fin 32} (received : Receives s c .commit) (op : field8 (s.cell c).captured 16 = 2) (d : Fin 32)
    (armed : s.ps.armed = some d) (ne : d ≠ c) :
    ∃ t, exec (.commitAtIgnition c) s = .next t ∧ CellShows t c .active ∧ EndsFailed t d .policy .superseded ∧
      t.mem.read (cellBase d + 65) = 4 ∧ t.ps = { s.ps with armed := some c } ∧ EndRegs s t d 0 ∧
      (∀ e, e ≠ c → e ≠ d → t.cell e = s.cell e) ∧
      t = { s with board := t.board, regs := t.regs, mem := t.mem, ps := t.ps } ∧
      MemFrame s t fun a => EndPlaces d a ∨ Within (cellBase c) 2 a := by
  obtain ⟨⟨clean, line⟩, taken, held⟩ := received
  have runs := exec_arm (s := s) taken op
  have still : ({ CellEnd.failed (FaultRec.core .policy .superseded none) with superseded := true } : CellEnd).conditions = [] :=
    CellEnd.conditions_failed (by simp [FaultRec.core]) rfl (by simp [FaultRec.core]) rfl
  generalize he : ({ CellEnd.failed (FaultRec.core .policy .superseded none) with superseded := true } : CellEnd) = e at still
  have arms : s.arm c = ((s.endCellOn none d e).modPs fun p => { p with armed := some c }).setCell c .active := by
    unfold State.arm
    rw [armed]
    dsimp only
    rw [he, State.endCell_of_no_conditions still]
  have after := armed_setCell (s.endCellOn none d e) c
  rw [← arms] at after
  generalize s.arm c = x at runs after
  obtain ⟨shows, ps, cells, whole, frame⟩ := after
  have failed := s.endCellOn_endsFailed d (e := e) (f := FaultRec.core .policy .superseded none) (by rw [← he]; rfl)
  have flags := s.endCellOn_read d e (o := 1) (b := 4) (by decide) (by rw [← he]; rfl)
  have first := s.endCellOn_frame d e
  have regs := s.endCellOn_regs d e
  have info := s.endCellOn_info d e
  have others := fun k (ne : k ≠ d) => s.endCellOn_cell_ne d e ne
  have only := s.endCellOn_boardOnly d e
  generalize s.endCellOn none d e = y at *
  have yps : y.ps = s.ps := by rw [only]
  have apart := cellBase_apart ne
  have xclean : x.info.dirty = false := by rw [whole, info]; exact clean
  have xregs : x.regs = y.regs := by rw [whole]
  have ended : EndRegs s x.finish d 0 := .finish (by rw [xregs, regs]; simp)
  rw [x.finish_clean xclean] at runs ended
  rw [yps] at ps whole
  refine ⟨x.irqUpdate, runs (by rw [cells.2.1, others c ne.symm]; exact held), shows, ?_, ?_, ?_, ended, fun k nc nd => ?_, ?_, ?_⟩
  · refine failed.later ?_ frame (fun a place => ?_) (by show x.regs.done.getLsbD d.val = _; rw [xregs])
    · rw [State.irqUpdate_cell, cells.2.2 d ne]
    · unfold EndPlaces at place
      unfold Within at *
      omega
  · rw [State.irqUpdate_mem, frame _ (by unfold Within; omega), ← flags]
  · rw [State.irqUpdate_ps]
    exact ps
  · rw [State.irqUpdate_cell, cells.2.2 k nc, others k nd]
  · have eq := whole
    rw [← ps, only] at eq
    rw [State.irqUpdate_eq, eq]
  · exact (first.both frame).irqUpdate

/-- Settles O34. -/
theorem commitNotCarriedOut : Obligations.CommitNotCarriedOut := by
  unfold Obligations.CommitNotCarriedOut
  refine ⟨?_, fun c s received op => ⟨armCommit_none received op, armCommit_some received op⟩⟩
  intro c s received op p
  refine ⟨fun o invalid => ?_, fun valid grant outside => ?_⟩
  · have does : s.runCommit c = s.endCell c (.failed { FaultRec.core .policy .invalidSet none with offset := some o }) := by
      unfold State.runCommit
      dsimp only
      rw [show s.staged.invalidAt = some o from invalid]
    obtain ⟨t, runs, ended, failed, rest⟩ := commit_fails received op does
      (CellEnd.conditions_failed (by simp [FaultRec.core]) rfl (by simp [FaultRec.core]) rfl)
    have read : ∀ i < 2, ∀ b, (le16 o)[i]? = some b → t.mem.read (cellBase c + 84 + (12 + i)) = b := fun i lt b eq =>
      ended.fault _ rfl (12 + i) b (by omega) ((FaultRec.tail_offset s o lt).trans eq)
    have low := read 0 (by decide) _ rfl
    have high := read 1 (by decide) _ rfl
    refine ⟨t, runs, failed, ?_, rest⟩
    simp only [Mem.bytes, List.range_succ, List.range_zero, List.nil_append, List.map_cons, List.map_nil, List.singleton_append]
    rw [show cellBase c + 96 + 0 = cellBase c + 84 + (12 + 0) from rfl, show cellBase c + 96 + 1 = cellBase c + 84 + (12 + 1) from rfl,
      low, high]
    rfl
  · have does : s.runCommit c = s.endCell c (.failed (FaultRec.core .policy .notInWorkshop Option.none)) := by
      unfold State.runCommit
      dsimp only
      rw [show s.staged.invalidAt = .none from valid]
      dsimp only
      rw [if_pos (by rw [show s.staged.hasGrant = true from grant, outside]; rfl)]
    obtain ⟨t, runs, ended, rest⟩ := commit_fails received op does
      (CellEnd.conditions_failed (by simp [FaultRec.core]) rfl (by simp [FaultRec.core]) rfl)
    exact ⟨t, runs, rest⟩

end Sys2Proof.Machine
end

section
/-! PROOFS. RAM_CLEAR_DONE and SOFT_RESET_READY (R192, R193). -/

namespace Sys2Proof.Machine

variable {s t : State}

/-! ### Tables of equal entries -/

theorem length_flatMap_of_length {α : Type} {f : α → List Byte} {k : Nat} (len : ∀ x, (f x).length = k) (l : List α) :
    (l.flatMap f).length = l.length * k := by
  induction l with
  | nil => simp
  | cons x l ih => rw [List.flatMap_cons, List.length_append, len, ih, List.length_cons]; ring

/-- Entry `i` of a table of entries of `k` bytes. -/
theorem flatMap_entry {α : Type} {f : α → List Byte} {k : Nat} (len : ∀ x, (f x).length = k) (l : List α) {i : Nat} (h : i < l.length) :
    ((l.flatMap f).drop (i * k)).take k = f l[i] := by
  induction l generalizing i with
  | nil => exact absurd h (Nat.not_lt_zero _)
  | cons x l ih =>
    rw [List.flatMap_cons]
    cases i with
    | zero => rw [Nat.zero_mul, List.drop_zero, List.take_left' (len x)]; rfl
    | succ i =>
      have skip : (i + 1) * k = (f x).length + i * k := by rw [len]; ring
      rw [skip, List.drop_append, List.drop_of_length_le (by omega), Nat.add_sub_cancel_left, List.nil_append, List.getElem_cons_succ]
      exact ih (Nat.lt_of_succ_lt_succ h)

/-! ### The lengths of the areas (11.6 to 11.9) -/

@[simp] theorem leInt16_length (x : Int) : (leInt16 x).length = 2 := rfl
@[simp] theorem zeros_length (n : Nat) : (zeros n).length = n := List.length_replicate

theorem PolicySet.bytes_length (p : PolicySet) : p.bytes.length = 0x800 := by
  have routes : ∀ r : Route, r.bytes.length = 16 := fun r => by simp [Route.bytes]
  have grants : ∀ r : Grant, r.bytes.length = 32 := fun r => by simp [Grant.bytes]
  have regs : ∀ r : RegSet, r.bytes.length = 32 := fun r => by simp [RegSet.bytes]
  have paces : ∀ v : Vector Pace 8, (v.toList.flatMap fun q => q.bytes ++ zeros 2).length = 64 := fun v => by
    rw [length_flatMap_of_length (k := 8) (fun q => by simp [Pace.bytes])]
    simp
  have segs : ∀ r : SegSet, r.bytes.length = 8 := fun r => by simp [SegSet.bytes]
  have veh : p.veh.bytes.length = 16 := by simp [VehSet.bytes]
  have lanes : ∀ v : Vector Nat 8, (v.toList.map byte).length = 8 := fun v => by simp
  have phases : ∀ v : Vector Nat 16, (v.toList.map byte).length = 16 := fun v => by simp
  simp only [PolicySet.bytes, PolicySet.headerBytes, List.length_append, length_flatMap_of_length routes, length_flatMap_of_length grants,
    length_flatMap_of_length regs, length_flatMap_of_length paces, length_flatMap_of_length segs, length_flatMap_of_length lanes,
    length_flatMap_of_length phases, veh, zeros_length, List.length_map, Vector.length_toList, List.length_cons, List.length_nil]

theorem infoBytes_length (u : State) (ready : Bool) : (infoBytes u ready).length = 256 := by
  simp [infoBytes, BoardError.bytes]

theorem segStatusBytes_length (u : State) (g : Fin 4) : (segStatusBytes u g).length = 128 := by
  simp [segStatusBytes, stuBytes_length, lsBytes_length, lrBytes_length]

theorem chanArea_length (u : State) : (u.chans.toList.flatMap Chan.bytes).length = 256 := by
  rw [length_flatMap_of_length Chan.bytes_length, Vector.length_toList]

theorem segArea_length (u : State) : ((List.finRange 4).flatMap (segStatusBytes u)).length = 512 := by
  rw [length_flatMap_of_length (segStatusBytes_length u), List.length_finRange]

/-! ### RAM with the areas written (R192, R193) -/

section
variable (m : Mem) (u : State)

theorem Mem.withAreas_info : (m.withAreas u).bytes 0 256 = infoBytes u true := by
  unfold Mem.withAreas
  have whole := Mem.bytes_write ((m.write (chanBase 0) (u.chans.toList.flatMap Chan.bytes)).write (segBase 0)
    ((List.finRange 4).flatMap (segStatusBytes u))) (b := 0) (bs := infoBytes u true) (by rw [infoBytes_length]; decide)
  rw [infoBytes_length] at whole
  exact whole

theorem Mem.withAreas_chan (ch : Fin 8) : (m.withAreas u).bytes (chanBase ch) 32 = (u.chan ch).bytes := by
  have bounds := chanBase_bounds ch
  have place : chanBase ch = chanBase 0 + ch.val * 32 := by simp [chanBase]
  unfold Mem.withAreas
  rw [Mem.bytes_write_beside _ (by rw [infoBytes_length]; omega), Mem.bytes_write_beside _ (by unfold segBase; omega), place,
    Mem.bytes_write_inside _ (by rw [chanArea_length]; omega) (by rw [chanArea_length]; decide),
    flatMap_entry Chan.bytes_length _ (by simp)]
  simp [State.chan]

theorem Mem.withAreas_seg (g : Fin 4) : (m.withAreas u).bytes (segBase g) 128 = segStatusBytes u g := by
  have bounds := segBase_bounds g
  have place : segBase g = segBase 0 + g.val * 128 := by simp [segBase]
  unfold Mem.withAreas
  rw [Mem.bytes_write_beside _ (by rw [infoBytes_length]; omega), place,
    Mem.bytes_write_inside _ (by rw [segArea_length]; omega) (by rw [segArea_length]; decide),
    flatMap_entry (segStatusBytes_length u) _ (by simp)]
  simp

theorem Mem.withAreas_outside {a : Nat} (out : ¬ (a < 0x100 ∨ (0x1100 ≤ a ∧ a < 0x1200) ∨ (0x1280 ≤ a ∧ a < 0x1480))) :
    (m.withAreas u).read a = m.read a := by
  unfold Mem.withAreas
  refine (Mem.read_write_outside _ ?_).trans ((Mem.read_write_outside _ ?_).trans (Mem.read_write_outside _ ?_))
  · rw [infoBytes_length]; unfold Within; omega
  · rw [segArea_length]; unfold Within segBase; simp only [Fin.val_zero]; omega
  · rw [chanArea_length]; unfold Within chanBase; simp only [Fin.val_zero]; omega

end

/-! ### The part as it becomes ready -/

/-- What an event that ends in Ready leaves, from the part `s` whose change counters are set. -/
structure BecameReady (s t : State) : Prop where
  phase : t.phase = .running
  time : t.time = { s.time with ms := 0, prescale := 0 }
  ready : t.mem.read 0x0A = 1
  info : t.mem.bytes 0 256 = infoBytes t true
  chans : ∀ ch : Fin 8, t.chan ch = s.chan ch ∧ t.mem.bytes (chanBase ch) 32 = (t.chan ch).bytes
  segs : ∀ g : Fin 4, t.seg g = { s.seg g with winStart := some s.time.clock } ∧ t.mem.bytes (segBase g) 128 = segStatusBytes t g
  regs : t.regs = { s.regs with irq := irqOf s.regs }
  whole : t = { s with phase := t.phase, mem := t.mem, regs := t.regs, time := t.time, segs := t.segs }
  frame : MemFrame s t fun a => a < 0x100 ∨ (0x1100 ≤ a ∧ a < 0x1200) ∨ (0x1280 ≤ a ∧ a < 0x1480)

theorem becameReady (clean : s.info.dirty = false) : BecameReady s s.becomeReady.finish := by
  have still : s.becomeReady.info.dirty = false := clean
  have whole : s.becomeReady.finish =
      { s.readied with mem := s.mem.withAreas s.readied, regs := { s.regs with irq := irqOf s.regs } } := by
    rw [State.finish_clean _ still, State.becomeReady_eq]
    rfl
  have info := s.mem.withAreas_info s.readied
  have chan := s.mem.withAreas_chan s.readied
  have seg := s.mem.withAreas_seg s.readied
  have outside := fun a => s.mem.withAreas_outside s.readied (a := a)
  generalize s.becomeReady.finish = t at whole
  have tmem : t.mem = s.mem.withAreas s.readied := by rw [whole]
  have tseg : ∀ g, t.seg g = { s.seg g with winStart := some s.time.clock } := fun g => by
    rw [whole]
    simp [State.seg, State.readied]
  have shown : t.mem.bytes 0 256 = infoBytes t true := by
    rw [tmem, info, whole]
    rfl
  refine ⟨by rw [whole]; rfl, by rw [whole]; rfl, ?_, shown, fun ch => ⟨by rw [whole]; rfl, ?_⟩, fun g => ⟨tseg g, ?_⟩, by rw [whole],
    by rw [whole]; rfl, fun a out => by rw [tmem]; exact outside a out⟩
  · have byte : (t.mem.bytes 0 256)[10]? = (infoBytes t true)[10]? := by rw [shown]
    have first : (t.mem.bytes 0 256)[10]? = some (t.mem.read 10) := by simp [Mem.bytes]
    have second : (infoBytes t true)[10]? = some 1 := by rfl
    exact Option.some.inj (first.symm.trans (byte.trans second))
  · rw [tmem, chan, whole]
    rfl
  · rw [tmem, seg, whole]
    rfl

/-! ### RAM_CLEAR_DONE (R192) -/

theorem Mem.nil_read (a : Nat) : Mem.read [] a = 0 := by rfl

theorem State.cleared_mirror (s : State) : s.cleared.mem.bytes 0x2000 0x800 = s.ps.active.bytes := by
  have whole := Mem.bytes_write ([] : Mem) (b := mirrorBase) (bs := s.ps.active.bytes) (by rw [PolicySet.bytes_length]; decide)
  rw [PolicySet.bytes_length] at whole
  exact whole

theorem State.cleared_read {a : Nat} (out : ¬ Within 0x2000 0x800 a) : s.cleared.mem.read a = 0 := by
  have beside := Mem.read_write_outside ([] : Mem) (b := mirrorBase) (bs := s.ps.active.bytes) (a := a) (by rw [PolicySet.bytes_length]; exact out)
  exact beside.trans (Mem.nil_read a)

/-- Settles O12. -/
theorem ramClearDone : Obligations.RamClearDone := by
  unfold Obligations.RamClearDone
  intro s phase
  have runs : exec .ramClearDone s = .next s.cleared.becomeReady.finish := by
    refine (show exec .ramClearDone s = execRamClearDone s from rfl).trans ?_
    unfold execRamClearDone
    rw [phase]
    rfl
  have ready := becameReady (s := s.cleared) rfl
  have mirror := s.cleared_mirror
  have rest := fun a => s.cleared_read (a := a)
  have whole : s.cleared = { s with mem := s.cleared.mem, info := { s.info with counter := 0, dirty := false }
                                    time := { s.time with sec := 0 }, chans := s.chans.map fun r => { r with counter := 0 }
                                    segs := s.segs.map fun q => { q with counter := 0 } } := rfl
  have chan : ∀ ch, s.cleared.chan ch = { s.chan ch with counter := 0 } := fun ch => by
    rw [whole]
    simp [State.chan]
  have seg : ∀ g, s.cleared.seg g = { s.seg g with counter := 0 } := fun g => by
    rw [whole]
    simp [State.seg]
  generalize s.cleared.becomeReady.finish = t at runs ready
  generalize s.cleared = x at *
  have clock : x.time = { s.time with sec := 0 } := by rw [whole]
  have regs : x.regs = s.regs := by rw [whole]
  refine ⟨t, runs, ready.phase, ?_, ready.ready, ready.info, ?_, fun a place => ?_, fun ch => ?_, fun g => ?_, ?_, ?_, ?_⟩
  · rw [ready.time, clock]
  · rw [ready.frame.bytes fun k lt => by omega, mirror]
  · rw [ready.frame a (by omega)]
    exact rest a (by unfold Within; omega)
  · rw [← chan]
    exact ready.chans ch
  · have entry := ready.segs g
    rw [seg, clock] at entry
    exact entry
  · rw [ready.whole, whole]
  · rw [ready.regs, regs]
  · have eq := ready.whole
    have info : t.info = x.info := by rw [ready.whole]
    have chans : t.chans = x.chans := by rw [ready.whole]
    rw [← info, ← chans, whole] at eq
    exact eq

/-! ### SOFT_RESET_READY (R193) -/

/-- The part as SOFT_RESET_READY finds it, its counters stepped, and the mirror written without RETAIN. -/
def State.stepped (s : State) : State := if s.regs.retain then s.stepCounters else s.stepCounters.wrMirror

theorem State.stepped_whole (s : State) :
    s.stepped = { s with mem := s.stepped.mem, info := { s.info with counter := s.info.counter + 1, dirty := false }
                         chans := s.chans.map fun r => { r with counter := r.counter + 1 }
                         segs := s.segs.map fun q => { q with counter := q.counter + 1 } } := by
  unfold State.stepped
  split <;> rfl

theorem State.stepped_mirror (s : State) (forget : s.regs.retain = false) : s.stepped.mem.bytes 0x2000 0x800 = s.ps.active.bytes := by
  have whole := Mem.bytes_write s.mem (b := mirrorBase) (bs := s.ps.active.bytes) (by rw [PolicySet.bytes_length]; decide)
  rw [PolicySet.bytes_length] at whole
  rw [State.stepped, if_neg (by simp [forget])]
  exact whole

theorem State.stepped_frame (s : State) : MemFrame s s.stepped fun a => s.regs.retain = false ∧ 0x2000 ≤ a ∧ a < 0x2800 := by
  unfold State.stepped
  split
  case isTrue => exact fun _ _ => rfl
  case isFalse forget =>
    intro a out
    exact Mem.read_write_outside s.mem (b := mirrorBase) (by
      rw [PolicySet.bytes_length]
      intro inside
      exact out ⟨by simpa using forget, inside⟩)

/-- Settles O14. -/
theorem softResetReady : Obligations.SoftResetReady := by
  unfold Obligations.SoftResetReady
  intro s phase
  have runs : exec .softResetReady s = .next s.stepped.becomeReady.finish := by
    refine (show exec .softResetReady s = execSoftResetReady s from rfl).trans ?_
    unfold execSoftResetReady State.stepped
    rw [phase]
    dsimp only
    split <;> rfl
  have whole := s.stepped_whole
  have ready := becameReady (s := s.stepped) (by rw [whole])
  have mirror := s.stepped_mirror
  have frame := s.stepped_frame
  have chan : ∀ ch, s.stepped.chan ch = { s.chan ch with counter := (s.chan ch).counter + 1 } := fun ch => by
    rw [whole]
    simp [State.chan]
  have seg : ∀ g, s.stepped.seg g = { s.seg g with counter := (s.seg g).counter + 1 } := fun g => by
    rw [whole]
    simp [State.seg]
  generalize s.stepped.becomeReady.finish = t at runs ready
  generalize s.stepped = x at *
  have time : x.time = s.time := by rw [whole]
  have regs : x.regs = s.regs := by rw [whole]
  refine ⟨t, runs, ready.phase, ?_, ready.ready, ready.info, fun forget => ?_, fun ch => ?_, fun g => ?_, ?_, ?_, ?_, ?_⟩
  · rw [ready.time, time]
  · rw [ready.frame.bytes fun k lt => by omega]
    exact mirror forget
  · rw [← chan]
    exact ready.chans ch
  · have entry := ready.segs g
    rw [seg, time] at entry
    exact entry
  · rw [ready.whole, whole]
  · rw [ready.regs, regs]
  · have eq := ready.whole
    have info : t.info = x.info := by rw [ready.whole]
    have chans : t.chans = x.chans := by rw [ready.whole]
    rw [← info, ← chans, whole] at eq
    exact eq
  · refine (frame.both ready.frame).mono ?_
    rintro a (mirror | info | chan | seg)
    · exact .inr (.inr (.inr mirror))
    · exact .inl info
    · exact .inr (.inl chan)
    · exact .inr (.inr (.inl seg))

end Sys2Proof.Machine
end

section
/-! PROOFS. SOFT_RESET (R193). -/

namespace Sys2Proof.Machine

variable {s t : State}

/-! ### The state words (R193) -/

theorem foldl_zeroWord_read {α : Type} (f : α → Nat) (l : List α) (a : Nat) :
    ∀ m : Mem, ((∃ x ∈ l, Within (f x) 2 a) → a < Config.ramSize → (l.foldl (fun m x => m.write (f x) (le16 0)) m).read a = 0) ∧
      ((∀ x ∈ l, ¬ Within (f x) 2 a) → (l.foldl (fun m x => m.write (f x) (le16 0)) m).read a = m.read a) := by
  induction l with
  | nil => exact fun m => ⟨fun ⟨x, mem, _⟩ => absurd mem List.not_mem_nil, fun _ => rfl⟩
  | cons y l ih =>
    intro m
    obtain ⟨zero, kept⟩ := ih (m.write (f y) (le16 0))
    refine ⟨fun hit inside => ?_, fun miss => ?_⟩
    · by_cases later : ∃ x ∈ l, Within (f x) 2 a
      · exact zero later inside
      · have here : Within (f y) 2 a := by
          obtain ⟨x, mem, within⟩ := hit
          rcases List.mem_cons.1 mem with rfl | mem
          · exact within
          · exact absurd ⟨x, mem, within⟩ later
        have out : ∀ x ∈ l, ¬ Within (f x) 2 a := fun x mem within => later ⟨x, mem, within⟩
        refine (kept out).trans ?_
        rw [Mem.read_write, if_pos (by rw [le16_length]; exact here), if_pos inside]
        unfold Within at here
        have place : a - f y = 0 ∨ a - f y = 1 := by omega
        rcases place with eq | eq <;> rw [eq] <;> rfl
    · refine (kept fun x mem => miss x (List.mem_cons_of_mem _ mem)).trans (Mem.read_write_outside _ ?_)
      rw [le16_length]
      exact miss y List.mem_cons_self

theorem Mem.clearWords_cell (m : Mem) (c : Fin 32) : (m.clearWords).word (cellBase c) = 0 := by
  have bounds := cellBase_bounds c
  have byte : ∀ k < 2, m.clearWords.read (cellBase c + k) = 0 := fun k lt => by
    unfold Mem.clearWords
    refine ((foldl_zeroWord_read slotBase _ _ _).2 fun n _ within => ?_).trans
      ((foldl_zeroWord_read cellBase _ _ m).1 ⟨c, List.mem_finRange c, by unfold Within; omega⟩ (by simp only [Config.ramSize]; omega))
    have slot := slotBase_bounds n
    unfold Within at within
    omega
  have first := byte 0 (by decide)
  have second := byte 1 (by decide)
  simp only [Mem.word, Mem.bytes, List.range_succ, List.range_zero, List.nil_append, List.singleton_append, List.map_cons, List.map_nil, first,
    second]
  rfl

theorem Mem.clearWords_slot (m : Mem) (n : Fin 8) : (m.clearWords).word (slotBase n) = 0 := by
  have bounds := slotBase_bounds n
  have byte : ∀ k < 2, m.clearWords.read (slotBase n + k) = 0 := fun k lt => by
    unfold Mem.clearWords
    exact (foldl_zeroWord_read slotBase _ _ _).1 ⟨n, List.mem_finRange n, by unfold Within; omega⟩ (by simp only [Config.ramSize]; omega)
  have first := byte 0 (by decide)
  have second := byte 1 (by decide)
  simp only [Mem.word, Mem.bytes, List.range_succ, List.range_zero, List.nil_append, List.singleton_append, List.map_cons, List.map_nil, first,
    second]
  rfl

theorem Mem.clearWords_outside (m : Mem) {a : Nat} (cells : ∀ c : Fin 32, ¬ Within (cellBase c) 2 a)
    (slots : ∀ n : Fin 8, ¬ Within (slotBase n) 2 a) : m.clearWords.read a = m.read a := by
  unfold Mem.clearWords
  exact ((foldl_zeroWord_read slotBase _ _ _).2 fun n _ => slots n).trans ((foldl_zeroWord_read cellBase _ _ m).2 fun c _ => cells c)

/-! ### The latches of a soft reset with RETAIN (R140) -/

/-- The latch that cell `c` leaves, over those of `v`. -/
def leaveLatch (s : State) (v : Vector Chan 8) (c : Fin 32) : Vector Chan 8 :=
  match s.transfer c with
  | some t => if t.touched then upd v t.channel fun r => { r with latch := some t.target } else v
  | none => v

theorem State.softLatches_eq (s : State) : s.softLatches = (List.finRange 32).foldl (leaveLatch s) s.chans := rfl

theorem leaveLatch_other {v : Vector Chan 8} {c : Fin 32} {ch : Fin 8}
    (other : ∀ r, s.transfer c = some r → r.touched = true → r.channel ≠ ch) : (leaveLatch s v c)[ch] = v[ch] := by
  unfold leaveLatch
  split
  case h_1 r here =>
    split
    case isTrue touched => exact upd_ne v _ (other r here touched).symm
    case isFalse => rfl
  case h_2 => rfl

theorem foldl_leaveLatch_other {ch : Fin 8} (l : List (Fin 32))
    (other : ∀ c ∈ l, ∀ r, s.transfer c = some r → r.touched = true → r.channel ≠ ch) :
    ∀ v : Vector Chan 8, (l.foldl (leaveLatch s) v)[ch] = v[ch] := by
  induction l with
  | nil => exact fun _ => rfl
  | cons c l ih =>
    exact fun v => (ih (fun d mem => other d (List.mem_cons_of_mem _ mem)) _).trans (leaveLatch_other (other c List.mem_cons_self))

/-- The latch of the highest touched cell of a channel stands. -/
theorem State.softLatches_highest {c : Fin 32} {r : Transfer} (here : s.transfer c = some r) (touched : r.touched = true)
    (highest : ∀ d q, c < d → s.transfer d = some q → q.touched = true → q.channel ≠ r.channel) :
    s.softLatches[r.channel].latch = some r.target := by
  obtain ⟨pre, post, split⟩ := List.append_of_mem (List.mem_finRange c)
  have above : ∀ d ∈ post, c < d := by
    have sorted := List.pairwise_lt_finRange 32
    rw [split, List.pairwise_append] at sorted
    exact (List.pairwise_cons.1 sorted.2.1).1
  rw [State.softLatches_eq, split, List.foldl_append, List.foldl_cons,
    foldl_leaveLatch_other post fun d mem q there => highest d q (above d mem) there]
  generalize pre.foldl (leaveLatch s) s.chans = v
  have step : leaveLatch s v c = upd v r.channel fun q => { q with latch := some r.target } := by
    unfold leaveLatch
    rw [here]
    exact if_pos touched
  rw [step, upd_same]

theorem State.softLatches_none {ch : Fin 8} (other : ∀ c r, s.transfer c = some r → r.touched = true → r.channel ≠ ch) :
    s.softLatches[ch] = s.chan ch :=
  foldl_leaveLatch_other _ (fun c _ => other c) s.chans

/-! ### The soft reset -/

theorem State.softUnits_frame (s : State) (retain : Bool) :
    MemFrame s (s.softUnits retain) fun a => a = 0x0A ∨ Within 0x2C 9 a ∨ (∃ c : Fin 32, Within (cellBase c) 2 a) ∨
      ∃ n : Fin 8, Within (slotBase n) 2 a := by
  intro a out
  rw [not_or, not_or, not_or] at out
  obtain ⟨ready, errors, cells, slots⟩ := out
  refine (Mem.clearWords_outside _ (fun c within => cells ⟨c, within⟩) fun n within => slots ⟨n, within⟩).trans
    ((Mem.read_write_outside _ ?_).trans (Mem.read_write_outside _ ?_))
  · rw [zeros_length]
    exact errors
  · simp only [Within, List.length_singleton]
    omega

theorem State.softUnits_errors (s : State) (retain : Bool) :
    (s.softUnits retain).mem.read 0x0A = 0 ∧ (s.softUnits retain).mem.bytes 0x2C 9 = zeros 9 := by
  have apart : ∀ a, a < 0x100 → (s.softUnits retain).mem.read a = ((s.mem.write 0x0A [0]).write 0x2C (zeros 9)).read a := fun a low =>
    Mem.clearWords_outside _ (fun c within => by have := cellBase_bounds c; unfold Within at within; omega)
      fun n within => by have := slotBase_bounds n; unfold Within at within; omega
  refine ⟨?_, ?_⟩
  · rw [apart _ (by decide), Mem.read_write_outside _ (by decide)]
    exact Mem.read_write_inside s.mem (b := 0x0A) (bs := [0]) (o := 0) (by decide) (by decide)
  · have same : (s.softUnits retain).mem.bytes 0x2C 9 = ((s.mem.write 0x0A [0]).write 0x2C (zeros 9)).bytes 0x2C 9 :=
      List.map_congr_left fun k mem => apart _ (by have := List.mem_range.1 mem; omega)
    rw [same]
    exact Mem.bytes_write (s.mem.write 0x0A [0]) (b := 0x2C) (bs := zeros 9) (by decide)

theorem State.softUnits_slot (s : State) (retain : Bool) (n : Fin 8) : (s.softUnits retain).slot n = Slot.reset := by
  simp [State.slot, State.softUnits]

/-- Settles O13. -/
theorem softReset : Obligations.SoftReset := by
  unfold Obligations.SoftReset
  intro retain s phase
  have runs : exec (.softReset retain) s = .next (s.softUnits retain).lampRefresh.finish := by
    refine (show exec (.softReset retain) s = execSoftReset retain s from rfl).trans ?_
    unfold execSoftReset
    rw [phase, ← State.softReset_eq]
    rfl
  have lampWhole := (s.softUnits retain).lampRefresh_whole
  have lampCm := (s.softUnits retain).lampRefresh_cm
  have lampFrame := (s.softUnits retain).lampRefresh_frame
  have lampInfo := (s.softUnits retain).lampRefresh_info
  have lampShows := (s.softUnits retain).lampRefresh_shows
  have frame := s.softUnits_frame retain
  have errors := s.softUnits_errors retain
  have seg := s.softUnits_seg retain
  have chan := s.softUnits_chan retain
  have slot := s.softUnits_slot retain
  have cells : ∀ c : Fin 32, (s.softUnits retain).mem.word (cellBase c) = 0 := fun c => Mem.clearWords_cell _ c
  have slots : ∀ n : Fin 8, (s.softUnits retain).mem.word (slotBase n) = 0 := fun n => Mem.clearWords_slot _ n
  have none : ∀ c, (s.softUnits retain).transfer c = none ∧ (s.softUnits retain).watch c = none := fun c => by
    simp [State.transfer, State.watch, State.softUnits]
  have info : (s.softUnits retain).info = { s.info with dirty := true, cause := .soft, errors := 0, lastError := BoardError.none } := rfl
  have cm : (s.softUnits retain).cm = softCm s.cm s.time.clock := rfl
  have regs : (s.softUnits retain).regs = Regs.reset retain := rfl
  have others : (s.softUnits retain).phase = .resetting ∧ (s.softUnits retain).board = Board.reset ∧
    (s.softUnits retain).ps = softPs retain s.ps ∧ (s.softUnits retain).vsm = VSM.reset s.vsm.ignition.raw s.time.clock ∧
    (s.softUnits retain).time = s.time ∧ (s.softUnits retain).pending = s.pending := ⟨rfl, rfl, rfl, rfl, rfl, rfl⟩
  generalize s.softUnits retain = x at *
  generalize x.lampRefresh = y at *
  have dirty : y.info.dirty = true := by
    rw [lampInfo, info]
    split <;> rfl
  have fin := y.finish_eq
  have closing := y.finish_frame
  have finInfo := y.finish_info
  have finReady := y.finish_reserved dirty (pre := [(0x09, 1, 0)]) (a := 0x0A) (n := 1) (x := 0x0A) (k := 1) rfl (by decide) (by decide) (by decide) (by decide) (by decide)
  generalize y.finish = t at *
  have whole : t = { x with cm := y.cm, mem := t.mem, regs := t.regs, info := t.info } := by
    rw [fin, lampWhole]
  have tchan : ∀ ch, t.chan ch = x.chan ch := fun ch => by rw [whole]; rfl
  have tps : t.ps = softPs retain s.ps := by rw [whole]; exact others.2.2.1
  have tcm : t.cm = y.cm := by rw [whole]
  have tinfo : t.info.cause = .soft ∧ t.info.errors = 0 ∧ t.info.lastError = BoardError.none := by
    have kept : y.info.cause = .soft ∧ y.info.errors = 0 ∧ y.info.lastError = BoardError.none := by
      rw [lampInfo, info]
      split <;> exact ⟨rfl, rfl, rfl⟩
    rw [finInfo]
    split <;> exact kept
  have word : ∀ a, 0x100 ≤ a → t.mem.word a = x.mem.word a := fun a high => by
    rw [Mem.word, closing.bytes (by unfold InfoShared Within; omega), lampFrame.bytes (by unfold Within; omega), Mem.word]
  have tregs : t.regs = { x.regs with irq := irqOf x.regs } := by rw [fin, lampWhole]
  refine ⟨t, runs, ?_, ?_, ?_, ?_, fun c => ⟨?_, ?_, ?_⟩, fun n => ⟨?_, ?_⟩, ?_, fun g => ?_, fun ch => ⟨?_, ?_, ?_, ?_, ?_, ?_, fun forget => ?_, ?_,
    fun keep out => ?_⟩, fun c r keep here touched highest => ?_, ?_, ?_, ?_, ?_, ?_, ?_, ?_, ?_, ?_, ?_, ?_⟩
  · rw [whole]; exact others.1
  · rw [tregs, regs]
    cases retain <;> rfl
  · rw [whole]; exact others.2.1
  · rw [finReady, lampFrame _ (by decide), errors.1]
    rfl
  · rw [whole]; exact (none c).1
  · rw [whole]; exact (none c).2
  · rw [word _ (cellBase_bounds c).1, cells]
  · have eq : t.slot n = x.slot n := by rw [whole]; rfl
    rw [eq, slot]
    rfl
  · rw [word _ (by have := slotBase_bounds n; omega), slots]
  · rw [tps]
    rfl
  · have eq : t.seg g = x.seg g := by rw [whole]; rfl
    rw [eq, seg, tps]
  · rw [tchan, chan]
    rfl
  · rw [tchan, chan]
    rfl
  · rw [tchan, chan]
    rfl
  · rw [tchan, chan]
    rfl
  · rw [tchan, chan]
  · rw [tchan, chan]
  · rw [tchan, chan, forget]
    rfl
  · rw [tchan, chan]
  · rw [tchan, chan, keep]
    dsimp only
    rw [if_pos rfl, State.softLatches_none out]
  · rw [tchan, chan, keep]
    exact State.softLatches_highest here touched highest
  · rw [whole]; exact others.2.2.2.1
  · rw [tcm, lampCm, cm]
    rfl
  · have same : t.indication = x.indication := State.indication_congr (by rw [tcm, lampCm])
      (by rw [whole]; exact Iff.rfl) (by rw [whole]; rfl)
    rw [tcm, lampCm, same]
  · have first : LampShows s y := fun changed => lampShows (by rw [cm]; exact changed)
    exact first.later (by rw [tcm]) (by rw [tcm]) closing fun a lamp => by unfold InfoShared; unfold Within at *; omega
  · exact tinfo.1
  · exact tinfo.2.1
  · exact tinfo.2.2
  · rw [closing.bytes (by unfold InfoShared Within; omega), lampFrame.bytes (by unfold Within; omega), errors.2]
  · rw [whole]; exact others.2.2.2.2.1
  · rw [whole]; exact others.2.2.2.2.2
  · refine ((frame.both lampFrame).both closing).mono ?_
    rintro a (((rfl | error | cell | slot) | lamp) | shared)
    · exact .inl (.inl (by decide))
    · exact .inr (.inr (.inl error))
    · exact .inr (.inr (.inr (.inl cell)))
    · exact .inr (.inr (.inr (.inr slot)))
    · exact .inr (.inl lamp)
    · exact .inl (.inr shared)

end Sys2Proof.Machine
end

section
/-! PROOFS. The seven admission checks in their order (R26 to R34, R38). -/

namespace Sys2Proof.Machine

variable {s t : State}

/-! ### What the checks ask -/

/-- A code of the request has a class with the flag. -/
abbrev State.hasClass (s : State) (q : Request) (f : Fin 8 → Bool) : Prop :=
  ∃ code ∈ q.codes, ∃ k, s.ps.active.classOf code = some k ∧ f k = true

/-- Class `k` is a class of the request and needs a grant. -/
abbrev State.needs (s : State) (q : Request) (k : Fin 8) : Prop :=
  s.ps.active.grantRequired k = true ∧ ∃ code ∈ q.codes, s.ps.active.classOf code = some k

abbrev State.mine (s : State) (q : Request) (i : Fin 16) : Prop :=
  s.ps.active.grants[i].used = true ∧ s.ps.active.grants[i].channel = q.channel.val

abbrev State.liveGrant (s : State) (b : Bool) (q : Request) (i : Fin 16) : Prop :=
  s.mine q i ∧ s.ps.usage[i].expired = false ∧ (b = false → s.ps.usage[i].spent = false ∧
    (s.ps.active.grants[i].budget = 0 ∨ s.ps.usage[i].count < s.ps.active.grants[i].budget))

abbrev State.permits (s : State) (b : Bool) (q : Request) (i : Fin 16) : Prop :=
  s.liveGrant b q i ∧ ∀ k, s.needs q k → s.ps.active.grants[i].permits k = true

abbrev State.reaches (s : State) (b : Bool) (q : Request) (i : Fin 16) : Prop :=
  s.permits b q i ∧ s.ps.active.grants[i].hasTarget q.target = true

abbrev State.fits (s : State) (b : Bool) (q : Request) (i : Fin 16) : Prop :=
  s.reaches b q i ∧ ((∃ k, s.needs q k ∧ s.ps.active.rangeChecked k = true) → ∀ e ∈ q.range,
    s.ps.active.grants[i].base ≤ e.1 ∧ e.1 + e.2 ≤ s.ps.active.grants[i].base +
      (if s.ps.active.grants[i].length = 0 then 0x100000000 else s.ps.active.grants[i].length))

/-! ### Classes of a request (R27) -/

theorem State.mem_classesOf {codes : List Nat} {k : Fin 8} :
    k ∈ s.classesOf codes ↔ ∃ code ∈ codes, s.ps.active.classOf code = some k := List.mem_filterMap

theorem State.any_classesOf (q : Request) (f : Fin 8 → Bool) : (s.classesOf q.codes).any f = true ↔ s.hasClass q f := by
  rw [List.any_eq_true]
  constructor
  · rintro ⟨k, mem, hit⟩
    obtain ⟨code, here, eq⟩ := State.mem_classesOf.1 mem
    exact ⟨code, here, k, eq, hit⟩
  · rintro ⟨code, here, k, eq, hit⟩
    exact ⟨k, State.mem_classesOf.2 ⟨code, here, eq⟩, hit⟩

theorem State.mem_need {q : Request} {k : Fin 8} :
    k ∈ (s.classesOf q.codes).filter s.ps.active.grantRequired ↔ s.needs q k := by
  rw [List.mem_filter, State.mem_classesOf, and_comm]

/-! ### Check 5 (R31, R32) -/

theorem State.mem_grantsOf {q : Request} {i : Fin 16} : i ∈ s.grantsOf q.channel ↔ s.mine q i := by
  rw [State.grantsOf, List.mem_filter]
  simp only [List.mem_finRange, true_and, Bool.and_eq_true, beq_iff_eq]

theorem grantLive_iff (q : Grant) (u : Usage) (b : Bool) : grantLive q u b = true ↔
    q.used = true ∧ u.expired = false ∧ (b = false → u.spent = false ∧ (q.budget = 0 ∨ u.count < q.budget)) := by
  have spent : q.spent u = false ↔ u.spent = false ∧ (q.budget = 0 ∨ u.count < q.budget) := by
    simp [Grant.spent, or_iff_not_imp_left]
  cases b
  · simp [grantLive, spent, and_assoc]
  · simp [grantLive]

/-- The head of a rising list is its lowest element. -/
theorem lowest_of_sorted {n : Nat} {i j : Fin n} {l : List (Fin n)} (sorted : (i :: l).Pairwise (· < ·)) (mem : j ∈ i :: l) : ¬ j < i := by
  rcases List.mem_cons.1 mem with rfl | tail
  · exact lt_irrefl _
  · exact not_lt.2 (le_of_lt ((List.pairwise_cons.1 sorted).1 j tail))

theorem isEmpty_iff_forall {α : Type} {l : List α} {p : α → Prop} (mem : ∀ x, x ∈ l ↔ p x) : l.isEmpty = true ↔ ∀ x, ¬ p x := by
  rw [List.isEmpty_iff, List.eq_nil_iff_forall_not_mem]
  exact forall_congr' fun x => not_congr (mem x)

theorem exists_of_not_isEmpty {α : Type} {l : List α} {p : α → Prop} (mem : ∀ x, x ∈ l ↔ p x) (some : ¬ l.isEmpty = true) : ∃ x, p x := by
  rw [isEmpty_iff_forall mem] at some
  exact not_forall_not.1 some

/-- The range part of check 5. -/
theorem rangeFits_iff (p : PolicySet) (i : Fin 16) {need : List (Fin 8)} (range : Option (Nat × Nat)) :
    (match range with
      | some (start, len) => !need.any p.rangeChecked || p.grants[i].contains start len
      | none => true) = true ↔
      ((∃ k, k ∈ need ∧ p.rangeChecked k = true) → ∀ e ∈ range, p.grants[i].base ≤ e.1 ∧
        e.1 + e.2 ≤ p.grants[i].base + (if p.grants[i].length = 0 then 0x100000000 else p.grants[i].length)) := by
  cases range with
  | none => simp
  | some e =>
    obtain ⟨start, len⟩ := e
    have any : need.any p.rangeChecked = true ↔ ∃ k, k ∈ need ∧ p.rangeChecked k = true := List.any_eq_true
    rw [← any]
    cases need.any p.rangeChecked <;> simp [Grant.contains, Grant.rangeEnd]

/-- What check 5 finds for the classes that need a grant. -/
inductive GrantFound (s : State) (b : Bool) (q : Request) : Except (Reason × Option Detail) Nat → Prop
  | noGrant (d : Detail) (out : ∀ i, ¬ s.liveGrant b q i) (empty : d = .noGrants ↔ ∀ i, ¬ s.mine q i)
      (expired : d = .expired ↔ (∃ i, s.mine q i) ∧ ∀ i, s.mine q i → s.ps.usage[i].expired = true)
      (spent : d = .spent ↔ ∃ i, s.mine q i ∧ s.ps.usage[i].expired = false) : GrantFound s b q (.error (.noGrant, some d))
  | noClass (live : ∃ i, s.liveGrant b q i) (out : ∀ i, ¬ s.permits b q i) : GrantFound s b q (.error (.classNotGranted, none))
  | noTarget (permits : ∃ i, s.permits b q i) (out : ∀ i, ¬ s.reaches b q i) : GrantFound s b q (.error (.targetNotGranted, none))
  | noRange (reaches : ∃ i, s.reaches b q i) (out : ∀ i, ¬ s.fits b q i) : GrantFound s b q (.error (.rangeNotGranted, none))
  | found (i : Fin 16) (fits : s.fits b q i) (lowest : ∀ j, j < i → ¬ s.fits b q j) : GrantFound s b q (.ok i.val)

theorem grantFound (b : Bool) (q : Request) :
    GrantFound s b q (s.grantCheck b q ((s.classesOf q.codes).filter s.ps.active.grantRequired)) := by
  generalize hneed : (s.classesOf q.codes).filter s.ps.active.grantRequired = need
  have mem : ∀ {k}, k ∈ need ↔ s.needs q k := fun {k} => by rw [← hneed]; exact State.mem_need
  unfold State.grantCheck
  extract_lets mine grant live byClass byTarget byRange
  have inMine : ∀ i, i ∈ mine ↔ s.mine q i := fun i => State.mem_grantsOf
  have inLive : ∀ i, i ∈ live ↔ s.liveGrant b q i := fun i => by
    rw [List.mem_filter, inMine, grantLive_iff]
    exact ⟨fun ⟨own, _, rest⟩ => ⟨own, rest⟩, fun ⟨own, rest⟩ => ⟨own, own.1, rest⟩⟩
  have inClass : ∀ i, i ∈ byClass ↔ s.permits b q i := fun i => by
    rw [List.mem_filter, inLive, List.all_eq_true]
    exact and_congr_right fun _ => forall_congr' fun k => by rw [mem]
  have inTarget : ∀ i, i ∈ byTarget ↔ s.reaches b q i := fun i => by rw [List.mem_filter, inClass]
  have inRange : ∀ i, i ∈ byRange ↔ s.fits b q i := fun i => by
    rw [List.mem_filter, inTarget]
    refine and_congr_right fun _ => (rangeFits_iff s.ps.active i q.range).trans ?_
    simp only [mem]
  have sorted : byRange.Pairwise (· < ·) := ((((((List.pairwise_lt_finRange 16).filter _).filter _).filter _).filter _).filter _)
  clear_value byRange byTarget byClass live mine
  split
  case isTrue none =>
    have nothing := (isEmpty_iff_forall inLive).1 none
    have empty := isEmpty_iff_forall inMine
    have all : (mine.all fun i => s.ps.usage[i].expired) = true ↔ ∀ i, s.mine q i → s.ps.usage[i].expired = true := by
      rw [List.all_eq_true]
      exact forall_congr' fun i => by rw [inMine]
    have some : mine.isEmpty = false → ∃ i, s.mine q i := fun no => exists_of_not_isEmpty inMine (by simp [no])
    cases hm : mine.isEmpty with
    | true =>
      have no := empty.1 hm
      exact .noGrant .noGrants nothing (iff_of_true rfl no) (iff_of_false (by decide) fun ⟨⟨i, own⟩, _⟩ => no i own)
        (iff_of_false (by decide) fun ⟨i, own, _⟩ => no i own)
    | false =>
      obtain ⟨i, own⟩ := some hm
      cases ha : mine.all fun i => s.ps.usage[i].expired with
      | true =>
        have every := all.1 ha
        exact .noGrant .expired nothing (iff_of_false (by decide) fun no => no i own) (iff_of_true rfl ⟨⟨i, own⟩, every⟩)
          (iff_of_false (by decide) fun ⟨j, here, fresh⟩ => Bool.false_ne_true (fresh.symm.trans (every j here)))
      | false =>
        have fresh : ∃ j, s.mine q j ∧ s.ps.usage[j].expired = false := by
          by_contra no
          have every : ∀ j, s.mine q j → s.ps.usage[j].expired = true := fun j here => by
            by_contra off
            exact no ⟨j, here, by simpa using off⟩
          exact Bool.false_ne_true (ha.symm.trans (all.2 every))
        exact .noGrant .spent nothing (iff_of_false (by decide) fun no => no i own)
          (iff_of_false (by decide) fun ⟨_, every⟩ => by
            obtain ⟨j, here, off⟩ := fresh
            exact Bool.false_ne_true (off.symm.trans (every j here)))
          (iff_of_true rfl fresh)
  case isFalse live =>
    split
    case isTrue none => exact .noClass (exists_of_not_isEmpty inLive live) ((isEmpty_iff_forall inClass).1 none)
    case isFalse permits =>
      split
      case isTrue none => exact .noTarget (exists_of_not_isEmpty inClass permits) ((isEmpty_iff_forall inTarget).1 none)
      case isFalse reaches =>
        cases byRange with
        | cons i rest =>
          exact .found i ((inRange i).1 List.mem_cons_self) fun j lt fits => lowest_of_sorted sorted ((inRange j).2 fits) lt
        | nil => exact .noRange (exists_of_not_isEmpty inTarget reaches) fun i fits => List.not_mem_nil ((inRange i).2 fits)

/-! ### Check 6 (R33) -/

/-- Which of the four vehicle conditions fails first. -/
inductive CondFound (ignition stopped running stationary : Prop) : Option Reason → Prop
  | ignition (out : ¬ ignition) : CondFound ignition stopped running stationary (some .ignitionRequired)
  | stop (i : ignition) (out : ¬ stopped) : CondFound ignition stopped running stationary (some .engineMustStop)
  | run (i : ignition) (st : stopped) (out : ¬ running) : CondFound ignition stopped running stationary (some .engineMustRun)
  | moving (i : ignition) (st : stopped) (r : running) (out : ¬ stationary) :
    CondFound ignition stopped running stationary (some .vehicleMoving)
  | holds (i : ignition) (st : stopped) (r : running) (m : stationary) : CondFound ignition stopped running stationary none

theorem condFound (v : VSM) (k : Conds) :
    CondFound (k.ignition = true → v.ignition.level = true)
      (k.stopped = true → v.engine = .stopped ∨ (k.running = true ∧ v.engine = .unknown))
      (k.running = true → v.engine = .running) (k.stationary = true → v.motion = .stationary) (condFailure v k) := by
  have ignition : (k.ignition && !v.ignition.level) = false ↔ (k.ignition = true → v.ignition.level = true) := by simp
  have stopped : (k.stopped && v.engine != .stopped && !(k.running && v.engine == .unknown)) = false ↔
      (k.stopped = true → v.engine = .stopped ∨ (k.running = true ∧ v.engine = .unknown)) := by
    by_cases stopped : v.engine = .stopped <;> simp [stopped]
  have running : (k.running && v.engine != .running) = false ↔ (k.running = true → v.engine = .running) := by simp
  have stationary : (k.stationary && v.motion != .stationary) = false ↔ (k.stationary = true → v.motion = .stationary) := by simp
  rw [← ignition, ← stopped, ← running, ← stationary]
  unfold condFailure
  cases (k.ignition && !v.ignition.level)
  case true => exact .ignition (by simp)
  case false =>
    cases (k.stopped && v.engine != .stopped && !(k.running && v.engine == .unknown))
    case true => exact .stop rfl (by simp)
    case false =>
      cases (k.running && v.engine != .running)
      case true => exact .run rfl rfl (by simp)
      case false =>
        cases (k.stationary && v.motion != .stationary)
        case true => exact .moving rfl rfl rfl (by simp)
        case false => exact .holds rfl rfl rfl rfl

/-! ### The verdict (R28) -/

abbrev State.latchPasses (s : State) (q : Request) : Prop :=
  (s.chan q.channel).latch = none ∨ ¬ s.hasClass q fun k => !s.ps.active.recoveryAllowed k

/-- Checks 1 to 4. -/
abbrev State.upToTarget (s : State) (q : Request) : Prop :=
  (s.chan q.channel).suspended = false ∧ s.latchPasses q ∧ (∀ code ∈ q.codes, s.ps.active.classOf code ≠ none) ∧
    s.ps.active.route q.target ≠ none

abbrev State.grantPasses (s : State) (b : Bool) (q : Request) : Prop := (∃ k, s.needs q k) → ∃ i, s.fits b q i

abbrev State.ignitionHolds (s : State) (q : Request) : Prop := s.hasClass q s.ps.active.needsIgnition → s.vsm.ignition.level = true
abbrev State.stoppedHolds (s : State) (q : Request) : Prop :=
  s.hasClass q s.ps.active.engineStopped → s.vsm.engine = .stopped ∨ (s.hasClass q s.ps.active.engineRunning ∧ s.vsm.engine = .unknown)
abbrev State.runningHolds (s : State) (q : Request) : Prop := s.hasClass q s.ps.active.engineRunning → s.vsm.engine = .running
abbrev State.stationaryHolds (s : State) (q : Request) : Prop := s.hasClass q s.ps.active.stationary → s.vsm.motion = .stationary

/-- The grant under which the request passes check 5. -/
abbrev State.grantUsed (s : State) (b : Bool) (q : Request) (g : Nat) : Prop :=
  ((∀ k, ¬ s.needs q k) → g = 0xFF) ∧
    ((∃ k, s.needs q k) → ∃ i : Fin 16, g = i.val ∧ s.fits b q i ∧ ∀ j, j < i → ¬ s.fits b q j)

/-- How an admission ends, check by check. -/
inductive AdmissionDecides (s : State) (b : Bool) (q : Request) : Verdict → Prop
  | suspended (out : ¬ (s.chan q.channel).suspended = false) : AdmissionDecides s b q (.deny .channelSuspended none none)
  | latched (c1 : (s.chan q.channel).suspended = false) (out : ¬ s.latchPasses q) :
    AdmissionDecides s b q (.deny .recoveryPending none none)
  | blocked (c1 : (s.chan q.channel).suspended = false) (c2 : s.latchPasses q)
      (out : ¬ ∀ code ∈ q.codes, s.ps.active.classOf code ≠ none) : AdmissionDecides s b q (.deny .serviceBlocked none none)
  | noRoute (c1 : (s.chan q.channel).suspended = false) (c2 : s.latchPasses q) (c3 : ∀ code ∈ q.codes, s.ps.active.classOf code ≠ none)
      (out : ¬ s.ps.active.route q.target ≠ none) : AdmissionDecides s b q (.deny .unknownTarget none none)
  | ungranted (c4 : s.upToTarget q) (needs : ∃ k, s.needs q k) {r : Reason} {d : Option Detail} (found : GrantFound s b q (.error (r, d))) :
    AdmissionDecides s b q (.deny r d none)
  | unfit (c4 : s.upToTarget q) (c5 : s.grantPasses b q) {r : Reason} (g : Nat)
      (found : CondFound (s.ignitionHolds q) (s.stoppedHolds q) (s.runningHolds q) (s.stationaryHolds q) (some r)) :
    AdmissionDecides s b q (.deny r none (some g))
  | off (c4 : s.upToTarget q) (c5 : s.grantPasses b q) (g : Nat)
      (c6 : CondFound (s.ignitionHolds q) (s.stoppedHolds q) (s.runningHolds q) (s.stationaryHolds q) none)
      (e : Route) (route : s.ps.active.route q.target = some e) (off : s.enabled e.segment = false) :
    AdmissionDecides s b q (.deny .segmentUnavailable none (some g))
  | allowed (c4 : s.upToTarget q) (c5 : s.grantPasses b q) (g : Nat)
      (c6 : CondFound (s.ignitionHolds q) (s.stoppedHolds q) (s.runningHolds q) (s.stationaryHolds q) none)
      (e : Route) (route : s.ps.active.route q.target = some e) (on : s.enabled e.segment = true) (used : s.grantUsed b q g) :
    AdmissionDecides s b q (.allow g e.segment)

theorem State.lastChecks_decides {b : Bool} {q : Request} {e : Route} {g : Nat} (c4 : s.upToTarget q) (c5 : s.grantPasses b q)
    (route : s.ps.active.route q.target = some e) (used : s.grantUsed b q g) :
    AdmissionDecides s b q (s.lastChecks (s.classesOf q.codes) e.segment g) := by
  have found := condFound s.vsm (s.ps.active.conds (s.classesOf q.codes))
  simp only [PolicySet.conds, State.any_classesOf] at found
  unfold State.lastChecks
  simp only [PolicySet.conds]
  generalize condFailure s.vsm _ = o at found
  cases o with
  | some r => exact .unfit c4 c5 g found
  | none =>
    dsimp only
    split
    case isTrue on => exact .allowed c4 c5 g found e route on used
    case isFalse off => exact .off c4 c5 g found e route (by simpa using off)

theorem admissionDecides (b : Bool) (q : Request) : AdmissionDecides s b q (s.admission b q) := by
  unfold State.admission
  dsimp only
  split
  case isTrue on => exact .suspended (by simp [on])
  case isFalse c1 =>
    have c1 : (s.chan q.channel).suspended = false := by simpa using c1
    have latch : ((s.chan q.channel).latch.isSome && !(s.classesOf q.codes).all s.ps.active.recoveryAllowed) = true ↔ ¬ s.latchPasses q := by
      rw [State.latchPasses, ← State.any_classesOf, not_or, not_not, List.not_all_eq_any_not, Bool.and_eq_true, Option.isSome_iff_ne_none]
    split
    case isTrue out => exact .latched c1 (latch.1 out)
    case isFalse c2 =>
      have c2 : s.latchPasses q := not_not.1 fun out => c2 (latch.2 out)
      have block : (q.codes.any fun code => (s.ps.active.classOf code).isNone) = true ↔
          ¬ ∀ code ∈ q.codes, s.ps.active.classOf code ≠ none := by
        rw [List.any_eq_true]
        simp
      split
      case isTrue out => exact .blocked c1 c2 (block.1 out)
      case isFalse c3 =>
        have c3 := not_not.1 fun out => c3 (block.2 out)
        unfold State.segmentOf
        cases route : s.ps.active.route q.target with
        | none => exact .noRoute c1 c2 c3 (by simp [route])
        | some e =>
          have c4 : s.upToTarget q := ⟨c1, c2, c3, by simp [route]⟩
          have empty : ((s.classesOf q.codes).filter s.ps.active.grantRequired).isEmpty = true ↔ ∀ k, ¬ s.needs q k :=
            isEmpty_iff_forall fun k => State.mem_need
          simp only [Option.map_some]
          split
          case isTrue none =>
            have none := empty.1 none
            exact State.lastChecks_decides c4 (fun ⟨k, hit⟩ => absurd hit (none k)) route ⟨fun _ => rfl, fun ⟨k, hit⟩ => absurd hit (none k)⟩
          case isFalse some =>
            have some : ∃ k, s.needs q k := not_forall_not.1 fun none => some (empty.2 none)
            have found := grantFound (s := s) b q
            generalize s.grantCheck b q _ = o at found
            cases found with
            | found i fits lowest =>
              exact State.lastChecks_decides c4 (fun _ => ⟨i, fits⟩) route
                ⟨fun none => absurd some (not_exists.2 none), fun _ => ⟨i, rfl, fits, lowest⟩⟩
            | noGrant d out empty expired spent => exact .ungranted c4 some (.noGrant d out empty expired spent)
            | noClass live out => exact .ungranted c4 some (.noClass live out)
            | noTarget permits out => exact .ungranted c4 some (.noTarget permits out)
            | noRange reaches out => exact .ungranted c4 some (.noRange reaches out)

/-! ### The requests of a TRANSFER and a CHECK (R27, R38) -/

theorem State.codeOf_toList (s : State) (r : Ref) :
    (if r.len = 0 then none else some (s.firstByte r)).toList = if r.len = 0 then [] else [(s.mem.read r.addr).toNat] := by
  split <;> rfl

theorem transferRequest_eq (s : State) (ch : Fin 8) (cap : List Byte) :
    let first := fun (r : Ref) => if r.len = 0 then [] else [(s.mem.read r.addr).toNat]
    transferRequest ch (s.transferCodes cap) cap =
      { channel := ch, target := targetOf cap, range := some (field32 cap 18, field32 cap 22)
        codes := field8 cap 17 ::
          (first (startRef cap) ++ first (endRef cap) ++ first (verifyRef cap) ++ first (keepaliveRef cap)) } := by
  unfold transferRequest TCodes.list State.transferCodes
  simp only [State.codeOf_toList]
  rfl

/-- Settles O25. -/
theorem admissionOrder : Obligations.AdmissionOrder := by
  unfold Obligations.AdmissionOrder
  refine ⟨fun ch cap s => ⟨transferRequest_eq s ch cap, rfl⟩, fun b q s => ?_⟩
  intro p v has needs mine live permits reaches fits check1 check2 check3 check4 check5 ignition stopped running stationary upTo4 upTo6
  have decided : AdmissionDecides s b q v := admissionDecides b q
  clear_value v
  refine ⟨fun d g eq => ?_, fun d g eq => ?_, fun d g eq => ?_, fun d g eq => ?_, fun r d g eq reason => ?_, fun d g eq => ?_, fun d g eq => ?_,
    fun d g eq => ?_, fun d g eq => ?_, fun d g eq => ?_, fun g n eq => ?_, fun e route on all => ?_⟩
  · subst eq
    cases decided with
    | suspended out => exact out
    | ungranted _ _ found => cases found
    | unfit _ _ _ found => cases found
  · subst eq
    cases decided with
    | latched c1 out => exact ⟨c1, out⟩
    | ungranted _ _ found => cases found
    | unfit _ _ _ found => cases found
  · subst eq
    cases decided with
    | blocked c1 c2 out => exact ⟨c1, c2, out⟩
    | ungranted _ _ found => cases found
    | unfit _ _ _ found => cases found
  · subst eq
    cases decided with
    | noRoute c1 c2 c3 out => exact ⟨c1, c2, c3, out⟩
    | ungranted _ _ found => cases found
    | unfit _ _ _ found => cases found
  · subst eq
    cases decided with
    | ungranted c4 some found =>
      refine ⟨c4, some, ?_⟩
      cases found with
      | noGrant d out empty expired spent =>
        refine ⟨fun i fits => out i fits.1.1.1, fun _ => ⟨out, ?_, ?_, ?_⟩, nofun, nofun, nofun⟩
        · exact Option.some_inj.trans empty
        · exact Option.some_inj.trans expired
        · exact Option.some_inj.trans spent
      | noClass live out => exact ⟨fun i fits => out i fits.1.1, nofun, fun _ => ⟨live, out⟩, nofun, nofun⟩
      | noTarget permits out => exact ⟨fun i fits => out i fits.1, nofun, nofun, fun _ => ⟨permits, out⟩, nofun⟩
      | noRange reaches out => exact ⟨out, nofun, nofun, nofun, fun _ => reaches⟩
    | unfit _ _ _ found => cases found <;> simp at reason
    | suspended => simp at reason
    | latched => simp at reason
    | blocked => simp at reason
    | noRoute => simp at reason
    | off => simp at reason
  · subst eq
    cases decided with
    | unfit c4 c5 _ found =>
      cases found with
      | ignition out => exact ⟨c4, c5, out⟩
    | ungranted _ _ found => cases found
  · subst eq
    cases decided with
    | unfit c4 c5 _ found =>
      cases found with
      | stop i out => exact ⟨c4, c5, i, out⟩
    | ungranted _ _ found => cases found
  · subst eq
    cases decided with
    | unfit c4 c5 _ found =>
      cases found with
      | run i st out => exact ⟨c4, c5, i, st, out⟩
    | ungranted _ _ found => cases found
  · subst eq
    cases decided with
    | unfit c4 c5 _ found =>
      cases found with
      | moving i st r out => exact ⟨c4, c5, i, st, r, out⟩
    | ungranted _ _ found => cases found
  · subst eq
    cases decided with
    | off c4 c5 _ c6 e route off =>
      cases c6 with
      | holds i st r m => exact ⟨⟨c4, c5, i, st, r, m⟩, e, route, off⟩
    | ungranted _ _ found => cases found
    | unfit _ _ _ found => cases found
  · subst eq
    cases decided with
    | allowed c4 c5 _ c6 e route on used =>
      cases c6 with
      | holds i st r m => exact ⟨⟨c4, c5, i, st, r, m⟩, on, ⟨e, route, rfl⟩, used⟩
  · obtain ⟨⟨c1, c2, c3, c4⟩, c5, i, st, r, m⟩ := all
    have unfits : ∀ {o}, CondFound (s.ignitionHolds q) (s.stoppedHolds q) (s.runningHolds q) (s.stationaryHolds q) (some o) → False := by
      intro o found
      cases found with
      | ignition out => exact out i
      | stop _ out => exact out st
      | run _ _ out => exact out r
      | moving _ _ _ out => exact out m
    cases decided with
    | suspended out => exact absurd c1 out
    | latched _ out => exact absurd c2 out
    | blocked _ _ out => exact absurd c3 out
    | noRoute _ _ _ out => exact absurd c4 out
    | ungranted _ some found =>
      obtain ⟨k, fits⟩ := c5 some
      cases found with
      | noGrant _ out => exact absurd fits.1.1.1 (out k)
      | noClass _ out => exact absurd fits.1.1 (out k)
      | noTarget _ out => exact absurd fits.1 (out k)
      | noRange _ out => exact absurd fits (out k)
    | unfit _ _ _ found => exact (unfits found).elim
    | off _ _ _ _ e' route' off =>
      obtain rfl := Option.some.inj (route.symm.trans route')
      exact absurd (on.symm.trans off) (by decide)
    | allowed _ _ g _ e' route' =>
      obtain rfl := Option.some.inj (route.symm.trans route')
      exact ⟨g, rfl⟩

end Sys2Proof.Machine
end

section
/-! PROOFS. The receipt of a WATCH (R142 to R144). -/

namespace Sys2Proof.Machine

variable {s t : State}

/-- An entry has joined segment `g`, and nothing started. -/
structure Joined (x t : State) (g : Fin 4) (e : Entry) : Prop where
  seg : t.seg g = { x.seg g with lanes := (x.seg g).lanes.mod e.lane (· ++ [e]), counter := (x.seg g).counter + 1 }
  segs : ∀ j, j ≠ g → t.seg j = x.seg j
  whole : t = { x with segs := t.segs, mem := t.mem }
  frame : MemFrame x t (Within (segBase g) 128)

theorem joined {x : State} {g : Fin 4} (e : Entry) (waits : Waits x g) : Joined x (x.joinRun g e) g e := by
  rw [State.joinRun_waits e waits]
  exact ⟨x.seg_join g e, fun j ne => x.join_seg_ne e ne, x.join_whole g e, x.join_frame g e⟩

/-- An admission names the segment of the target's route. -/
theorem admission_segment {b : Bool} {q : Request} {grant : Nat} {g : Fin 4} (allow : s.admission b q = .allow grant g) :
    s.segmentOf q.target = some g := by
  have decided := admissionDecides (s := s) b q
  rw [allow] at decided
  cases decided with
  | allowed _ _ _ _ e route => rw [State.segmentOf, route]; rfl

theorem State.stretchOf_segment {x : State} {target : Nat} {g : Fin 4} (route : x.segmentOf target = some g) :
    x.stretchOf target = (x.seg g).pace.stretch := by
  unfold State.stretchOf
  rw [route]

theorem Watch.countBytes_length (w : Watch) : w.countBytes.length = 20 := by
  have fault : ∀ f : Option CycleFault, (CycleFault.bytes f).length = 6 := fun f => by
    cases f <;> simp [CycleFault.bytes, TDetail.bytes_length]
  simp [Watch.countBytes, fault]

/-- The watch once its next due time has been computed at a stretch (R143). -/
def Watch.dueNext (stretch : Nat) (w : Watch) : Watch :=
  { w with nextDue := w.nextDue + BitVec.ofNat 32 (w.period * stretch * 10), effective := w.period * stretch }

/-- The watch with its cycle in a lane. -/
def Watch.inLane (w : Watch) : Watch := { w with out := .lane }

/-- A watch's record only matters where it stands. -/
theorem State.modWatch_congr {c : Fin 32} {f h : Watch → Watch} {w : Watch} (here : s.watch c = some w) (same : f w = h w) :
    s.modWatch c f = s.modWatch c h := by
  have at_ : s.watches[c] = some w := here
  have eq : upd s.watches c (Option.map f) = upd s.watches c (Option.map h) := by
    unfold upd
    rw [at_, Option.map_some, Option.map_some, same]
  unfold State.modWatch
  rw [eq]

theorem State.nextDue_eq {c : Fin 32} {w : Watch} {g : Fin 4} (here : s.watch c = some w) (route : s.segmentOf w.target = some g) :
    s.nextDue c = s.modWatch c (Watch.dueNext (s.seg g).pace.stretch) := by
  unfold State.nextDue
  refine State.modWatch_congr here ?_
  dsimp only
  rw [State.stretchOf_segment route]
  rfl

/-- The part once an admitted WATCH cell is ACTIVE, before its first cycle joins. -/
structure WatchTaken (s x : State) (c : Fin 32) (ch : Fin 8) (grant : Nat) (w : Watch) : Prop where
  shows : CellShows x c .active
  captured : (x.cell c).captured = (s.cell c).captured
  held : (x.cell c).abortHeld = (s.cell c).abortHeld
  cells : ∀ d, d ≠ c → x.cell d = s.cell d
  posts : x.board.posts = s.board.posts
  watch : x.watch c = some w
  watches : ∀ d, d ≠ c → x.watch d = s.watch d
  chan : x.chan ch = { s.chan ch with run := 0, admitted := (s.chan ch).admitted + 1, counter := (s.chan ch).counter + 1 }
  chans : ∀ k, k ≠ ch → x.chan k = s.chan k
  ps : x.ps = { s.ps with usage := x.ps.usage }
  whole : x = { s with board := x.board, mem := x.mem, ps := x.ps, chans := x.chans, watches := x.watches }
  word : x.mem.word (cellBase c + 100) = 0
  frame : MemFrame s x fun a => EndPlaces c a ∨ Within (chanBase ch) 32 a

theorem watchTaken (s : State) (c : Fin 32) (ch : Fin 8) (grant code : Nat) (g : Fin 4) (w : Watch) :
    WatchTaken s (((((((s.countVerdict ch (.allow grant g)).recordService c code).setWatch c (some w)).setCell c .active).setGrant c grant).wr
      (cellBase c + 100) (le16 0))) c ch grant w := by
  have counted := admissionCounted s ch grant g
  generalize s.countVerdict ch (.allow grant g) = z at counted
  have zwhole := counted.whole
  have zcell : ∀ e, z.cell e = s.cell e := fun e => by rw [zwhole]; rfl
  have bounds := cellBase_bounds c
  obtain ⟨y, hy⟩ : ∃ y, y = (z.recordService c code).setWatch c (some w) := ⟨_, rfl⟩
  rw [← hy]
  have ycell : y.cell c = { s.cell c with service := code, cls := (z.classIndex code).val } := by
    rw [hy, State.recordService, State.cell, State.setWatch_board, ← State.cell, State.cell_modCell, zcell]
  have yothers : ∀ d, d ≠ c → y.cell d = s.cell d := fun d ne => by
    rw [hy, State.recordService, State.cell, State.setWatch_board, ← State.cell, State.cell_modCell_ne _ _ ne, zcell]
  have yposts : y.board.posts = s.board.posts := by rw [hy, zwhole]; rfl
  have ywatch : y.watch c = some w := by rw [hy, State.watch_setWatch]
  have ywatches : ∀ d, d ≠ c → y.watch d = s.watch d := fun d ne => by
    rw [hy, State.watch_setWatch_ne _ _ ne, State.recordService, zwhole]
    rfl
  have ywhole : y = { z with board := y.board, watches := y.watches } := by rw [hy]; rfl
  clear hy
  obtain ⟨v, hv⟩ : ∃ v, v = y.setCell c .active := ⟨_, rfl⟩
  rw [← hv]
  have vshows : CellShows v c .active := by rw [hv]; exact .of_setCell y c .active
  have vcell : v.cell c = { y.cell c with st := .active } := by rw [hv, State.setCell_cell]
  have vothers : ∀ d, d ≠ c → v.cell d = y.cell d := fun d ne => by rw [hv, State.setCell_cell_ne _ _ ne]
  have vposts : v.board.posts = y.board.posts := by rw [hv, State.setCell_posts]
  have vframe : MemFrame y v (Within (cellBase c) 2) := by rw [hv]; exact y.setCell_frame c .active
  have vwhole : v = { y with board := v.board, mem := v.mem } := by rw [hv, State.setCell_eq]
  clear hv
  obtain ⟨u, hu⟩ : ∃ u, u = (v.setGrant c grant).wr (cellBase c + 100) (le16 0) := ⟨_, rfl⟩
  rw [← hu]
  have ucell : u.cell c = { v.cell c with grant := grant } := by
    rw [hu, State.setGrant, State.cell, State.wr_board, State.wr_board, ← State.cell, State.cell_modCell]
  have uothers : ∀ d, d ≠ c → u.cell d = v.cell d := fun d ne => by
    rw [hu, State.setGrant, State.cell, State.wr_board, State.wr_board, ← State.cell, State.cell_modCell_ne _ _ ne]
  have uposts : u.board.posts = v.board.posts := by rw [hu]; rfl
  have uwhole : u = { v with board := u.board, mem := u.mem } := by rw [hu]; rfl
  have uframe : MemFrame v u (Within (cellBase c + 64) 64) := by
    intro a out
    rw [hu]
    refine (Mem.read_write_outside _ ?_).trans (Mem.read_write_outside v.mem ?_)
    · unfold Within at *; rw [le16_length]; omega
    · unfold Within at *; rw [List.length_singleton]; omega
  have uword : u.mem.word (cellBase c + 100) = 0 := by
    rw [hu]
    exact Mem.word_write _ 0 (by simp only [Config.ramSize]; omega)
  clear hu
  have wholes : u = { z with board := u.board, mem := u.mem, watches := u.watches } := by rw [uwhole, vwhole, ywhole]
  have ups : u.ps = z.ps := by rw [wholes]
  have uchan : ∀ k, u.chan k = z.chan k := fun k => by rw [wholes]; rfl
  have uwatch : ∀ d, u.watch d = y.watch d := fun d => by rw [uwhole, vwhole]; rfl
  have ymem : y.mem = z.mem := by rw [ywhole]
  refine ⟨?_, by rw [ucell, vcell, ycell], by rw [ucell, vcell, ycell], fun d ne => by rw [uothers d ne, vothers d ne, yothers d ne],
    by rw [uposts, vposts, yposts], by rw [uwatch, ywatch], fun d ne => by rw [uwatch, ywatches d ne], (uchan ch).trans counted.chan,
    fun k ne => (uchan k).trans (counted.others k ne), by rw [ups, zwhole], by rw [wholes, zwhole], uword, ?_⟩
  · refine vshows.later (by rw [ucell]) uframe fun a inside out => ?_
    unfold Within at inside out
    omega
  · have moved : MemFrame s y (Within (chanBase ch) 32) := fun a out => by rw [ymem]; exact counted.frame a out
    refine (moved.both (vframe.both uframe)).mono ?_
    rintro a (chan | word | area)
    · exact .inr chan
    · exact .inl (.inl word)
    · exact .inl (.inr area)

section
variable {x : State} {c : Fin 32} {ch : Fin 8} {grant : Nat} {w : Watch} (taken : WatchTaken s x c ch grant w)
include taken

theorem WatchTaken.modWatch (f : Watch → Watch) : WatchTaken s (x.modWatch c f) c ch grant (f w) := by
  obtain ⟨shows, captured, held, cells, posts, watch, watches, chan, chans, ps, whole, word, frame⟩ := taken
  have same : ∀ d, (x.modWatch c f).cell d = x.cell d := fun d => rfl
  refine ⟨shows, captured, held, cells, posts, ?_, fun d ne => ?_, chan, chans, ps, ?_, word, frame⟩
  · rw [State.watch_modWatch, watch]
    rfl
  · rw [State.watch_modWatch_ne _ _ ne, watches d ne]
  · rw [State.modWatch, whole]

theorem WatchTaken.wrCounts : WatchTaken s (x.wrCounts c) c ch grant w := by
  obtain ⟨shows, captured, held, cells, posts, watch, watches, chan, chans, ps, whole, word, frame⟩ := taken
  have written : x.wrCounts c = x.wr (cellBase c + 108) w.countBytes := by
    unfold State.wrCounts
    rw [watch]
  have stored : MemFrame x (x.wr (cellBase c + 108) w.countBytes) (Within (cellBase c + 108) 20) := by
    have wr := x.wr_frame (cellBase c + 108) w.countBytes
    rw [Watch.countBytes_length] at wr
    exact wr
  rw [written]
  refine ⟨shows.later rfl stored fun a inside out => ?_, captured, held, cells, posts, watch, watches, chan, chans, ps, ?_, ?_, ?_⟩
  · unfold Within at inside out
    omega
  · rw [State.wr, whole]
  · exact (Mem.word_write_beside _ (by omega)).trans word
  · refine (frame.both stored).mono ?_
    rintro a (place | counts)
    · exact place
    · refine .inl (.inr ?_)
      unfold Within at *
      omega

end

/-- The receipt of an admitted WATCH, up to the join of its first cycle. -/
theorem State.watchReceive_allow {c : Fin 32} {ch : Fin 8} {grant : Nat} {g : Fin 4}
    (allow : s.admission false (plainRequest ch (s.firstByte (requestRef (s.cell c).captured)) (targetOf (s.cell c).captured)) = .allow grant g)
    (waits : Waits s g) :
    ∃ x, WatchTaken s x c ch grant ((newWatch s c ch grant).dueNext (s.seg g).pace.stretch).inLane ∧
      Joined x (s.watchReceive c ch) g (s.newEntry g c (targetOf (s.cell c).captured) .cycle
        (s.firstByte (requestRef (s.cell c).captured)) (s.time.ms + BitVec.ofNat 32 (queueLimit (s.cell c).captured 2000))) := by
  have route := admission_segment allow
  have start := watchTaken s c ch grant (s.firstByte (requestRef (s.cell c).captured)) g (newWatch s c ch grant)
  have runs : s.watchReceive c ch =
      ((((((((((s.countVerdict ch (.allow grant g)).recordService c (s.firstByte (requestRef (s.cell c).captured))).setWatch c
        (some (newWatch s c ch grant))).setCell c .active).setGrant c grant).wr (cellBase c + 100) (le16 0))).nextDue c).wrCounts c).joinCycle g c) := by
    unfold State.watchReceive
    dsimp only
    rw [allow]
  generalize ((((((s.countVerdict ch (.allow grant g)).recordService c (s.firstByte (requestRef (s.cell c).captured))).setWatch c
    (some (newWatch s c ch grant))).setCell c .active).setGrant c grant).wr (cellBase c + 100) (le16 0)) = y at start runs
  have active : y.ps.active = s.ps.active := by rw [start.ps]
  have segs : ∀ j, y.seg j = s.seg j := fun j => by rw [start.whole]; rfl
  rw [State.nextDue_eq (g := g) start.watch (by rw [State.segmentOf, active]; exact route), segs] at runs
  have due := (start.modWatch (Watch.dueNext (s.seg g).pace.stretch)).wrCounts
  generalize ((y.modWatch c (Watch.dueNext (s.seg g).pace.stretch)).wrCounts c) = v at due runs
  have lane := due.modWatch Watch.inLane
  have active : v.ps.active = s.ps.active := by rw [due.ps]
  have time : v.time = s.time := by rw [due.whole]
  have joins : s.watchReceive c ch = (v.modWatch c Watch.inLane).joinRun g (s.newEntry g c (targetOf (s.cell c).captured) .cycle
      (s.firstByte (requestRef (s.cell c).captured)) (s.time.ms + BitVec.ofNat 32 (queueLimit (s.cell c).captured 2000))) := by
    rw [runs, State.joinCycle, due.watch]
    dsimp only
    rw [due.captured, State.newEntry_congr active, State.msIn, time]
    rfl
  generalize v.modWatch c Watch.inLane = x at lane joins
  refine ⟨x, lane, ?_⟩
  rw [joins]
  exact joined _ (by rw [Waits, State.seg, lane.whole]; exact waits)

theorem State.watchReceive_deny {c : Fin 32} {ch : Fin 8} {reason : Reason} {d : Option Detail} {j : Option Nat}
    (deny : s.admission false (plainRequest ch (s.firstByte (requestRef (s.cell c).captured)) (targetOf (s.cell c).captured)) =
      .deny reason d j) :
    s.watchReceive c ch =
      ((s.countVerdict ch (.deny reason d j)).recordService c (s.firstByte (requestRef (s.cell c).captured))).endCell c
        (.failed (denialFault ((s.countVerdict ch (.deny reason d j)).recordService c (s.firstByte (requestRef (s.cell c).captured)))
          (targetOf (s.cell c).captured) .admission reason d)) := by
  unfold State.watchReceive
  dsimp only
  rw [deny]

/-- Settles O29. -/
theorem watchReceipt : Obligations.WatchReceipt := by
  unfold Obligations.WatchReceipt
  intro c ch s received cap code verdict named
  have act : exec (.watchReceipt c) s = receive s c .watch fun s => match channelNamed (s.cell c).captured with
    | some ch => s.watchReceive c ch
    | none => s := rfl
  have does : (match channelNamed (s.cell c).captured with
    | some ch => s.watchReceive c ch
    | none => s) = s.watchReceive c ch := by rw [named]
  refine ⟨fun grant g allow waits => ?_, fun reason d j deny => ?_⟩
  · obtain ⟨⟨clean, line⟩, taken, held⟩ := received
    obtain ⟨x, done, join⟩ := State.watchReceive_allow allow waits
    generalize he : s.newEntry g c (targetOf (s.cell c).captured) .cycle _ _ = e at join
    generalize hw : ((newWatch s c ch grant).dueNext (s.seg g).pace.stretch).inLane = w at done
    generalize s.watchReceive c ch = t at does join
    have tcell : ∀ d, t.cell d = x.cell d := fun d => by rw [join.whole]; rfl
    have twatch : ∀ d, t.watch d = x.watch d := fun d => by rw [join.whole]; rfl
    have tchan : ∀ k, t.chan k = x.chan k := fun k => by rw [join.whole]; rfl
    have xseg : ∀ j, x.seg j = s.seg j := fun j => by rw [done.whole]; rfl
    have settled : Settled t := by rw [join.whole, done.whole]; exact ⟨clean, line⟩
    have runs : exec (.watchReceipt c) s = .next t := by
      rw [act, receive_eq taken, does, State.actHeld_of_not_held (by rw [tcell, done.held]; exact held), settled.finish]
    have cb := cellBase_bounds c
    have sb := segBase_bounds g
    have seg := join.seg
    rw [xseg] at seg
    refine ⟨t, w, e, runs, done.shows.later (by rw [tcell]) join.frame (by unfold Within; omega), by rw [twatch, done.watch], ?_⟩
    refine ⟨by rw [← hw]; rfl, by rw [← hw]; rfl, by rw [← hw]; rfl, by rw [← hw]; rfl, by rw [← hw]; rfl, by rw [← hw]; rfl,
      by rw [← hw]; rfl, by rw [← hw]; rfl, by rw [← hw]; rfl, by rw [← hw]; rfl, by rw [← hw]; rfl, by rw [← hw]; rfl,
      by rw [← hw]; rfl, by rw [← hw]; rfl, by rw [← hw]; rfl, ?_, ?_, by rw [← he]; rfl, by rw [← he]; rfl, by rw [← he]; rfl,
      by rw [← he]; rfl, by rw [← he]; rfl, ?_, ?_, fun d ne => ⟨?_, ?_⟩, fun j ne => ?_, fun j ne => ?_, ?_, ?_, ?_, ?_⟩
    · rw [Mem.word, join.frame.bytes (by unfold Within; omega)]
      exact done.word
    · rw [seg]
      cases e.lane <;> rfl
    · rw [tchan, done.chan]
    · rw [tchan, done.chan]
    · rw [tcell, done.cells d ne]
    · rw [twatch, done.watches d ne]
    · rw [tchan, done.chans j ne]
    · rw [join.segs j ne, xseg]
    · rw [join.whole]
      exact done.posts
    · have ps : t.ps = x.ps := by rw [join.whole]
      rw [ps, done.ps]
    · rw [join.whole, done.whole]
    · refine (done.frame.both join.frame).mono ?_
      rintro a ((place | chan) | seg)
      · exact .inl place
      · exact .inr (.inl chan)
      · exact .inr (.inr seg)
  · obtain ⟨t, runs, denied⟩ := serviceDenied (act := fun s => match channelNamed (s.cell c).captured with
      | some ch => s.watchReceive c ch
      | none => s) (code := code) (target := targetOf cap) (j := j) received named (does.trans (State.watchReceive_deny deny))
    obtain ⟨fs, n, chan⟩ := denied.chan
    have keeps := denyChan_keeps s.ps.active reason (s.chan ch)
    have whole := denied.whole
    refine ⟨t, runs, denied.ends, ?_, ?_, ?_, ?_⟩
    · rw [whole]
    · rw [whole]
    · rw [whole]
    · rw [chan]
      exact keeps.1

end Sys2Proof.Machine
end

section
/-! PROOFS. The receipt of a TRANSFER (R116, R118, R124 to R126). -/

namespace Sys2Proof.Machine

variable {s t : State}

theorem Transfer.progressBytes_length (r : Transfer) (cap : List Byte) : (r.progressBytes cap).length = 28 := by
  simp [Transfer.progressBytes]

/-- A cell that has become ACTIVE under a grant. -/
structure ActiveUnder (y u : State) (c : Fin 32) (grant : Nat) : Prop where
  shows : CellShows u c .active
  cell : u.cell c = { y.cell c with st := .active, grant := grant }
  cells : ∀ d, d ≠ c → u.cell d = y.cell d
  posts : u.board.posts = y.board.posts
  whole : u = { y with board := u.board, mem := u.mem }
  frame : MemFrame y u (EndPlaces c)

theorem activeUnder (y : State) (c : Fin 32) (grant : Nat) : ActiveUnder y ((y.setCell c .active).setGrant c grant) c grant := by
  have bounds := cellBase_bounds c
  have vshows := CellShows.of_setCell y c .active
  have vcell := y.setCell_cell c .active
  have vothers := fun d (ne : d ≠ c) => y.setCell_cell_ne .active ne
  have vposts := y.setCell_posts c .active
  have vframe := y.setCell_frame c .active
  have vwhole := y.setCell_whole c .active
  generalize y.setCell c .active = v at *
  have uframe : MemFrame v (v.setGrant c grant) (Within (cellBase c + 68) 1) :=
    fun a out => Mem.read_write_outside v.mem (b := cellBase c + 68) (bs := [byte grant]) out
  refine ⟨vshows.later ?_ uframe fun a inside out => ?_, ?_, fun d ne => ?_, vposts, ?_, (vframe.both uframe).mono ?_⟩
  · rw [State.setGrant, State.cell, State.wr_board, ← State.cell, State.cell_modCell]
  · unfold Within at inside out
    omega
  · rw [State.setGrant, State.cell, State.wr_board, ← State.cell, State.cell_modCell, vcell]
  · rw [State.setGrant, State.cell, State.wr_board, ← State.cell, State.cell_modCell_ne _ _ ne, vothers d ne]
  · rw [State.setGrant, State.modCell, State.wr, vwhole]
  · rintro a (word | grant)
    · exact .inl word
    · refine .inr ?_
      unfold Within at *
      omega

/-- The progress of a transfer, written with its counter stepped (R139). -/
def Transfer.progressed (r : Transfer) : Transfer := { r with progress := r.progress + 1 }

structure ProgressWritten (x y : State) (c : Fin 32) (r : Transfer) : Prop where
  transfer : y.transfer c = some r.progressed
  transfers : ∀ d, d ≠ c → y.transfer d = x.transfer d
  whole : y = { x with mem := y.mem, transfers := y.transfers }
  bytes : y.mem.bytes (cellBase c + 100) 28 = r.progressed.progressBytes (x.cell c).captured
  frame : MemFrame x y (Within (cellBase c + 100) 28)

theorem progressWritten {x : State} {c : Fin 32} {r : Transfer} (here : x.transfer c = some r) : ProgressWritten x (x.wrProgress c) c r := by
  have bounds := cellBase_bounds c
  have eq : x.wrProgress c = (x.modTransfer c Transfer.progressed).wr (cellBase c + 100) (r.progressed.progressBytes (x.cell c).captured) := by
    unfold State.wrProgress
    dsimp only
    rw [State.transfer_modTransfer, here]
    rfl
  rw [eq]
  refine ⟨?_, fun d ne => ?_, rfl, ?_, ?_⟩
  · refine Eq.trans (State.transfer_modTransfer x c Transfer.progressed) ?_
    rw [here]
    rfl
  · exact State.transfer_modTransfer_ne x _ ne
  · have whole := Mem.bytes_write x.mem (b := cellBase c + 100) (bs := r.progressed.progressBytes (x.cell c).captured)
      (by rw [Transfer.progressBytes_length]; simp only [Config.ramSize]; omega)
    rw [Transfer.progressBytes_length] at whole
    exact whole
  · intro a out
    exact Mem.read_write_outside x.mem (by rw [Transfer.progressBytes_length]; exact out)

/-- The part once an admitted TRANSFER cell is ACTIVE, before its first exchange. -/
structure TransferTaken (s x : State) (c : Fin 32) (ch : Fin 8) (grant : Nat) (r : Transfer) : Prop where
  shows : CellShows x c .active
  captured : (x.cell c).captured = (s.cell c).captured
  held : (x.cell c).abortHeld = (s.cell c).abortHeld
  cells : ∀ d, d ≠ c → x.cell d = s.cell d
  posts : x.board.posts = s.board.posts
  transfer : x.transfer c = some r
  transfers : ∀ d, d ≠ c → x.transfer d = s.transfer d
  chan : x.chan ch = { s.chan ch with run := 0, admitted := (s.chan ch).admitted + 1, counter := (s.chan ch).counter + 1 }
  chans : ∀ k, k ≠ ch → x.chan k = s.chan k
  usage : ∀ i : Fin 16, x.ps.usage[i].count = if grant = i.val then min (s.ps.usage[i].count + 1) 65535 else s.ps.usage[i].count
  ps : x.ps = { s.ps with usage := x.ps.usage }
  cm : x.cm = { s.cm with lampInd := x.cm.lampInd, lit := x.cm.lit, blink := x.cm.blink }
  lamp : LampShows s x
  whole : x = { s with board := x.board, mem := x.mem, info := x.info, ps := x.ps, chans := x.chans, transfers := x.transfers, cm := x.cm }
  frame : MemFrame s x fun a => EndPlaces c a ∨ Within (chanBase ch) 32 a ∨ Within 0x19 2 a

theorem transferTaken (s : State) (c : Fin 32) (ch : Fin 8) (grant : Nat) (g : Fin 4) (r : Transfer) :
    TransferTaken s ((((((s.countVerdict ch (.allow grant g)).setTransfer c (some r)).setCell c .active).setGrant c grant).wrProgress c).lampRefresh)
      c ch grant r.progressed := by
  have counted := admissionCounted s ch grant g
  generalize s.countVerdict ch (.allow grant g) = z at counted
  have zwhole := counted.whole
  have zcell : ∀ e, z.cell e = s.cell e := fun e => by rw [zwhole]; rfl
  have ztransfer : ∀ e, z.transfer e = s.transfer e := fun e => by rw [zwhole]; rfl
  obtain ⟨y, hy⟩ : ∃ y, y = z.setTransfer c (some r) := ⟨_, rfl⟩
  rw [← hy]
  have ytransfer : y.transfer c = some r := by rw [hy, State.transfer_setTransfer]
  have yothers : ∀ d, d ≠ c → y.transfer d = s.transfer d := fun d ne => by rw [hy, State.transfer_setTransfer_ne _ _ ne, ztransfer]
  have ywhole : y = { z with transfers := y.transfers } := by rw [hy]; rfl
  clear hy
  have ycell : ∀ e, y.cell e = s.cell e := fun e => by rw [ywhole, ← zcell]; rfl
  have active := activeUnder y c grant
  generalize (y.setCell c .active).setGrant c grant = u at active ⊢
  have uwhole := active.whole
  have utransfer : ∀ d, u.transfer d = y.transfer d := fun d => by rw [uwhole]; rfl
  have progress := progressWritten ((utransfer c).trans ytransfer)
  generalize u.wrProgress c = v at progress ⊢
  have vwhole := progress.whole
  have lampWhole := v.lampRefresh_whole
  have lampCm := v.lampRefresh_cm
  have lampFrame := v.lampRefresh_frame
  have lampShows := v.lampRefresh_shows
  generalize v.lampRefresh = x at *
  have wholes : v = { z with board := u.board, mem := v.mem, transfers := v.transfers } := by rw [vwhole, uwhole, ywhole]
  have vcm : v.cm = s.cm := by rw [wholes, zwhole]
  have xcell : ∀ d, x.cell d = u.cell d := fun d => by rw [lampWhole, vwhole]; rfl
  have xtransfer : ∀ d, x.transfer d = v.transfer d := fun d => by rw [lampWhole]; rfl
  have xchan : ∀ k, x.chan k = z.chan k := fun k => by rw [lampWhole, wholes]; rfl
  have xps : x.ps = z.ps := by rw [lampWhole, wholes]
  refine ⟨?_, by rw [xcell, active.cell, ycell], by rw [xcell, active.cell, ycell], fun d ne => by rw [xcell, active.cells d ne, ycell], ?_,
    by rw [xtransfer, progress.transfer], fun d ne => by rw [xtransfer, progress.transfers d ne, utransfer, yothers d ne],
    (xchan ch).trans counted.chan, fun k ne => (xchan k).trans (counted.others k ne), fun i => ?_, by rw [xps, zwhole], by rw [lampCm, vcm],
    ?_, ?_, ?_⟩
  · refine (active.shows.later (t := v) (by rw [vwhole]; rfl) progress.frame fun a inside out => ?_).later (by rw [xcell, vwhole]; rfl)
      lampFrame fun a inside out => ?_
    · unfold Within at inside out
      omega
    · have bounds := cellBase_bounds c
      unfold Within at inside out
      omega
  · rw [lampWhole, vwhole]
    refine active.posts.trans ?_
    rw [ywhole, zwhole]
  · rw [xps, counted.usage]
    split <;> rfl
  · intro changed
    exact lampShows (by rw [vcm]; exact changed)
  · rw [lampWhole, wholes, zwhole]
  · have moved : MemFrame s y (Within (chanBase ch) 32) := by
      rw [ywhole]
      exact counted.frame
    refine ((moved.both active.frame).both (progress.frame.both lampFrame)).mono ?_
    rintro a ((chan | place) | area | lamp)
    · exact .inr (.inl chan)
    · exact .inl place
    · refine .inl (.inr ?_)
      unfold Within at *
      omega
    · exact .inr (.inr lamp)

theorem TransferTaken.modTransfer {x : State} {c : Fin 32} {ch : Fin 8} {grant : Nat} {r : Transfer}
    (taken : TransferTaken s x c ch grant r) (f : Transfer → Transfer) : TransferTaken s (x.modTransfer c f) c ch grant (f r) := by
  obtain ⟨shows, captured, held, cells, posts, transfer, transfers, chan, chans, usage, ps, cm, lamp, whole, frame⟩ := taken
  refine ⟨shows, captured, held, cells, posts, ?_, fun d ne => ?_, chan, chans, usage, ps, cm, lamp, ?_, frame⟩
  · rw [State.transfer_modTransfer, transfer]
    rfl
  · rw [State.transfer_modTransfer_ne _ _ ne, transfers d ne]
  · rw [State.modTransfer, whole]

/-- What the receipt of an admitted TRANSFER comes to, but for its segment and its record. -/
structure TransferReceived (s t : State) (c : Fin 32) (ch : Fin 8) (grant : Nat) (g : Fin 4) (r : Transfer) : Prop where
  shows : CellShows t c .active
  transfer : t.transfer c = some r
  chan : (t.chan ch).run = 0 ∧ (t.chan ch).admitted = (s.chan ch).admitted + 1
  usage : ∀ i : Fin 16, t.ps.usage[i].count = if grant = i.val then min (s.ps.usage[i].count + 1) 65535 else s.ps.usage[i].count
  ps : t.ps = { s.ps with usage := t.ps.usage }
  others : ∀ d, d ≠ c → t.cell d = s.cell d ∧ t.transfer d = s.transfer d
  chans : ∀ k, k ≠ ch → t.chan k = s.chan k
  segs : ∀ j, j ≠ g → t.seg j = s.seg j
  posts : t.board.posts = s.board.posts
  cm : t.cm = { s.cm with lampInd := t.cm.lampInd, lit := t.cm.lit, blink := t.cm.blink }
  lamp : LampShows s t
  whole : t = { s with board := t.board, mem := t.mem, info := t.info, ps := t.ps, chans := t.chans, segs := t.segs
                       transfers := t.transfers, cm := t.cm }
  frame : MemFrame s t fun a => EndPlaces c a ∨ Within (chanBase ch) 32 a ∨ Within (segBase g) 128 a ∨ InfoPlaces 0x19 2 a

theorem infoShared_not_lamp {a : Nat} (lamp : Within 0x19 2 a) : ¬ InfoShared a := by
  unfold InfoShared
  unfold Within at *
  omega

theorem transferReceived {x y : State} {c : Fin 32} {ch : Fin 8} {grant : Nat} {g : Fin 4} {r : Transfer} (settled : Settled s)
    (taken : TransferTaken s x c ch grant r) (whole : y = { x with segs := y.segs, mem := y.mem })
    (segs : ∀ j, j ≠ g → y.seg j = x.seg j) (frame : MemFrame x y (Within (segBase g) 128)) :
    TransferReceived s y.finish c ch grant g r := by
  have fin := y.finish_eq
  have closing := y.finish_frame
  generalize y.finish = t at *
  have lampPlace := segBase_bounds g
  have cb := cellBase_bounds c
  have tcell : ∀ d, t.cell d = x.cell d := fun d => by rw [fin, whole]; rfl
  have ttransfer : ∀ d, t.transfer d = x.transfer d := fun d => by rw [fin, whole]; rfl
  have tchan : ∀ d, t.chan d = x.chan d := fun d => by rw [fin, whole]; rfl
  have tps : t.ps = x.ps := by rw [fin, whole]
  have tcm : t.cm = x.cm := by rw [fin, whole]
  have xregs : x.regs = s.regs := by rw [taken.whole]
  have tregs : t.regs = s.regs := by
    rw [fin]
    dsimp only
    rw [whole, xregs, ← settled.2]
  have wrote := frame.both closing
  refine ⟨taken.shows.later (by rw [tcell]) wrote fun a inside out => ?_, (ttransfer c).trans taken.transfer, ?_, fun i => by rw [tps, taken.usage],
    by rw [tps, taken.ps], fun d ne => ⟨(tcell d).trans (taken.cells d ne), (ttransfer d).trans (taken.transfers d ne)⟩,
    fun k ne => (tchan k).trans (taken.chans k ne), fun j ne => ?_, ?_, by rw [tcm, taken.cm], taken.lamp.later (by rw [tcm]) (by rw [tcm]) wrote ?_,
    ?_, (taken.frame.both wrote).mono ?_⟩
  · unfold InfoShared Within at out
    unfold Within at inside
    omega
  · rw [tchan, taken.chan]
    exact ⟨rfl, rfl⟩
  · have same : t.seg j = y.seg j := by rw [fin]; rfl
    rw [same, segs j ne, taken.whole]
    rfl
  · rw [fin, whole]
    exact taken.posts
  · rintro a lamp (seg | shared)
    · unfold Within at *
      omega
    · exact infoShared_not_lamp lamp shared
  · have board : t.board = x.board := by rw [fin, whole]
    have chans : t.chans = x.chans := by rw [fin, whole]
    have transfers : t.transfers = x.transfers := by rw [fin, whole]
    have tsegs : t.segs = y.segs := by rw [fin]
    have eq := fin
    rw [whole, ← tsegs, ← board, ← chans, ← transfers, ← tps, ← tcm, taken.whole] at eq
    dsimp only at eq
    rw [← settled.2] at eq
    exact eq
  · rintro a ((place | chan | lamp) | seg | shared)
    · exact .inl place
    · exact .inr (.inl chan)
    · exact .inr (.inr (.inr (.inl lamp)))
    · exact .inr (.inr (.inl seg))
    · exact .inr (.inr (.inr (.inr shared)))

/-! ### The first exchange (R118, R124, R125) -/

/-- The record of a transfer that waits for its first block. -/
def Transfer.fed (feed : Nat) (r : Transfer) : Transfer := { r with feed := some feed }

/-- The record of a transfer whose exchange waits in a lane. -/
def Transfer.handed (role : Role) (block : Nat) (r : Transfer) : Transfer :=
  { r with out := some { role := role, block := block, inCtx := false } }

theorem State.transferResume_streaming {x : State} {c : Fin 32} {r : Transfer} (here : x.transfer c = some r) (quiet : r.out = none)
    (kept : r.withdrawn = none) (phase : r.phase = .streaming) : x.transferResume c = x.needBlock c := by
  unfold State.transferResume
  rw [here]
  dsimp only
  rw [quiet, kept, phase]
  rfl

theorem State.transferResume_starting {x : State} {c : Fin 32} {r : Transfer} (here : x.transfer c = some r) (quiet : r.out = none)
    (kept : r.withdrawn = none) (phase : r.phase = .starting) : x.transferResume c = x.handOver c .start 0 := by
  unfold State.transferResume
  rw [here]
  dsimp only
  rw [quiet, kept, phase]
  rfl

/-- No block is there: the feed timer starts. -/
theorem State.needBlock_none {x : State} {c : Fin 32} {r : Transfer} (here : x.transfer c = some r)
    (none : x.slotWith c r.acked .held = none) :
    x.needBlock c = x.modTransfer c (Transfer.fed (x.time.clock + feedTimeout (x.cell c).captured)) := by
  unfold State.needBlock
  rw [here]
  dsimp only
  rw [none]
  rfl

/-- An exchange is handed over to a segment that is open. -/
theorem State.handOver_open {x : State} {c : Fin 32} {r : Transfer} {g : Fin 4} (here : x.transfer c = some r)
    (opens : x.openSegment r.target = some g) (role : Role) (block : Nat) :
    x.handOver c role block = (x.modTransfer c (Transfer.handed role block)).joinRun g
      (x.newEntry g c r.target role (r.codes.of role) (x.msIn (queueLimit (x.cell c).captured 30000))) := by
  unfold State.handOver
  rw [here]
  dsimp only
  rw [opens]
  rfl

/-- The segment of an admitted request is open. -/
theorem admission_open {b : Bool} {q : Request} {grant : Nat} {g : Fin 4} (allow : s.admission b q = .allow grant g) :
    s.openSegment q.target = some g := by
  have decided := admissionDecides (s := s) b q
  rw [allow] at decided
  cases decided with
  | allowed _ _ _ _ e route on =>
    rw [State.openSegment, State.segmentOf, route]
    simp [Option.filter, on]

theorem State.transferReceive_allow {c : Fin 32} {ch : Fin 8} {grant : Nat} {g : Fin 4}
    (allow : s.admission false (transferRequest ch (s.transferCodes (s.cell c).captured) (s.cell c).captured) = .allow grant g) :
    ∃ x, TransferTaken s x c ch grant (newTransfer s c ch grant).progressed ∧ s.transferReceive c ch = x.transferResume c := by
  refine ⟨_, transferTaken s c ch grant g (newTransfer s c ch grant), ?_⟩
  unfold State.transferReceive
  dsimp only
  rw [allow]

theorem State.transferReceive_deny {c : Fin 32} {ch : Fin 8} {reason : Reason} {d : Option Detail} {j : Option Nat}
    (deny : s.admission false (transferRequest ch (s.transferCodes (s.cell c).captured) (s.cell c).captured) = .deny reason d j) :
    s.transferReceive c ch = (s.countVerdict ch (.deny reason d j)).endCell c
        (.failed (denialFault (s.countVerdict ch (.deny reason d j)) (targetOf (s.cell c).captured) .admission reason d)) := by
  unfold State.transferReceive
  dsimp only
  rw [deny]

/-- Settles O28. -/
theorem transferReceipt : Obligations.TransferReceipt := by
  unfold Obligations.TransferReceipt
  intro c ch s received cap codes verdict named
  have act : exec (.transferReceipt c) s = receive s c .transfer fun s => match channelNamed (s.cell c).captured with
    | some ch => s.transferReceive c ch
    | none => s := rfl
  have does : (match channelNamed (s.cell c).captured with
    | some ch => s.transferReceive c ch
    | none => s) = s.transferReceive c ch := by rw [named]
  refine ⟨fun grant g allow first => ?_, fun reason d j deny => ?_⟩
  · obtain ⟨settled, taken, held⟩ := received
    obtain ⟨x, done, resumes⟩ := State.transferReceive_allow (s := s) (c := c) (ch := ch) allow
    have runs : ∀ {y : State} {r : Transfer}, s.transferReceive c ch = y → TransferReceived s y.finish c ch grant g r →
        (y.cell c).abortHeld = (s.cell c).abortHeld → exec (.transferReceipt c) s = .next y.finish := by
      intro y r eq _ keeps
      rw [act, receive_eq taken, does, eq, State.actHeld_of_not_held (keeps.trans held)]
    have slots : x.slotWith c 0 .held = s.slotWith c 0 .held := by rw [done.whole]; rfl
    have clock : x.time = s.time := by rw [done.whole]
    have active : x.ps.active = s.ps.active := by rw [done.ps]
    have segs : ∀ j, x.seg j = s.seg j := fun j => by rw [done.whole]; rfl
    have quiet : (newTransfer s c ch grant).progressed.out = none ∧ (newTransfer s c ch grant).progressed.withdrawn = none := ⟨rfl, rfl⟩
    by_cases noStart : (startRef cap).len = 0
    · have noBlock : s.slotWith c 0 .held = none := by
        rcases first with ⟨_, none⟩ | ⟨some, _⟩
        · exact none
        · exact absurd noStart some
      have phase : (newTransfer s c ch grant).progressed.phase = .streaming := if_pos noStart
      rw [State.transferResume_streaming done.transfer quiet.1 quiet.2 phase, State.needBlock_none done.transfer (by rw [← noBlock, ← slots]; rfl)] at resumes
      have fed := done.modTransfer (Transfer.fed (x.time.clock + feedTimeout (x.cell c).captured))
      have feed : x.time.clock + feedTimeout (x.cell c).captured = s.time.clock + feedTimeout cap := by rw [clock, done.captured]
      generalize hy : x.modTransfer c (Transfer.fed (x.time.clock + feedTimeout (x.cell c).captured)) = y at resumes fed
      have received := transferReceived (y := y) (g := g) settled fed rfl (fun _ _ => rfl) (MemFrame.refl y _)
      have ran := runs resumes received fed.held
      have ysegs : y.segs = s.segs := by rw [fed.whole]
      have tsegs : y.finish.segs = s.segs := by rw [State.finish_eq, ← ysegs]
      refine ⟨y.finish, _, ran, received.shows, received.transfer, rfl, rfl, rfl, rfl, rfl, rfl, rfl, rfl, rfl, rfl, rfl, rfl, rfl,
        fun _ => ⟨phase, rfl, by rw [← feed]; rfl, tsegs⟩, fun some => absurd noStart some, received.chan.1, received.chan.2, received.usage,
        received.ps, received.others, received.chans, received.segs, received.posts, received.cm, received.lamp, received.whole, received.frame⟩
    · have waits : Waits s g := by
        rcases first with ⟨none, _⟩ | ⟨_, waits⟩
        · exact absurd none noStart
        · exact waits
      have phase : (newTransfer s c ch grant).progressed.phase = .starting := if_neg noStart
      have opens : x.openSegment (newTransfer s c ch grant).progressed.target = some g := by
        rw [State.openSegment, State.segmentOf, active]
        have same : (fun g => x.enabled g) = fun g => s.enabled g := by
          funext j
          rw [State.enabled, active, segs]
          rfl
        rw [same]
        exact admission_open allow
      rw [State.transferResume_starting done.transfer quiet.1 quiet.2 phase, State.handOver_open done.transfer opens] at resumes
      have handed := done.modTransfer (Transfer.handed .start 0)
      have code : (newTransfer s c ch grant).progressed.codes.of .start = (s.mem.read (startRef cap).addr).toNat := by
        show (s.transferCodes cap).start.getD 0 = _
        rw [State.transferCodes]
        dsimp only
        rw [if_neg noStart]
        rfl
      have entry : x.newEntry g c (newTransfer s c ch grant).progressed.target .start ((newTransfer s c ch grant).progressed.codes.of .start)
          (x.msIn (queueLimit (x.cell c).captured 30000)) = s.newEntry g c (targetOf cap) .start (s.mem.read (startRef cap).addr).toNat
          (s.time.ms + BitVec.ofNat 32 (queueLimit cap 30000)) := by
        rw [State.newEntry_congr active, code, State.msIn, clock, done.captured]
        rfl
      rw [entry] at resumes
      generalize he : s.newEntry g c (targetOf cap) .start (s.mem.read (startRef cap).addr).toNat
          (s.time.ms + BitVec.ofNat 32 (queueLimit cap 30000)) = e at resumes
      have vsegs : ∀ j, (x.modTransfer c (Transfer.handed .start 0)).seg j = s.seg j := segs
      generalize x.modTransfer c (Transfer.handed .start 0) = v at resumes handed vsegs
      have join := joined (x := v) e (g := g) (by rw [Waits, vsegs]; exact waits)
      generalize v.joinRun g e = y at resumes join
      have received := transferReceived settled handed join.whole join.segs join.frame
      have ran := runs resumes received (by rw [State.cell, join.whole]; exact handed.held)
      have seg : y.finish.seg g = { s.seg g with lanes := (s.seg g).lanes.mod e.lane (· ++ [e]), counter := (s.seg g).counter + 1 } := by
        have same : y.finish.seg g = y.seg g := by rw [State.finish_eq]; rfl
        rw [same, join.seg, vsegs]
      refine ⟨y.finish, _, ran, received.shows, received.transfer, rfl, rfl, rfl, rfl, rfl, rfl, rfl, rfl, rfl, rfl, rfl, rfl, rfl,
        fun none => absurd none noStart, fun _ => ⟨phase, rfl, rfl, e, by rw [seg], by rw [← he]; rfl, by rw [← he]; rfl, by rw [← he]; rfl,
          by rw [← he]; rfl, by rw [← he]; rfl, by rw [seg]⟩, received.chan.1, received.chan.2, received.usage,
        received.ps, received.others, received.chans, received.segs, received.posts, received.cm, received.lamp, received.whole, received.frame⟩
  · have counted := denialCounted s ch reason d j
    have denies := State.transferReceive_deny (s := s) (c := c) (ch := ch) deny
    generalize s.countVerdict ch (.deny reason d j) = z at counted denies
    have zcell : ∀ e, z.cell e = s.cell e := fun e => by rw [counted.whole]; rfl
    obtain ⟨t, runs, denied⟩ := admissionDenied (act := fun s => match channelNamed (s.cell c).captured with
      | some ch => s.transferReceive c ch
      | none => s) received counted (by rw [zcell]; exact named) (by rw [zcell]; exact received.2.2) rfl (fun e _ => zcell e)
      (by rw [counted.whole]) (does.trans denies)
    obtain ⟨fs, n, chan⟩ := denied.chan
    have keeps := denyChan_keeps s.ps.active reason (s.chan ch)
    have whole := denied.whole
    refine ⟨t, runs, denied.ends, ?_, ?_, ?_, ?_⟩
    · rw [whole]
    · rw [whole]
    · rw [whole]
    · rw [chan]
      exact keeps.1

end Sys2Proof.Machine
end

section
/-! PROOFS. One start of an arbitration (R51, R53, R54, R75). -/

namespace Sys2Proof.Machine

variable {s t : State}

/-! ### Eligibility (R51) -/

/-- Entry `e` could start on a segment that can start an exchange. -/
abbrev CanStart (p : PolicySet) (q : Seg) (e : Entry) : Prop :=
  e.target ∉ q.busy ∧ q.pace.pauses e.lane = false ∧
    ∃ r, p.route e.target = some r ∧ ∀ x : Fin 4, q.ctxs[x].st = .free ∨ q.ctxs[x].respId ≠ r.resp

theorem Seg.listens_iff (q : Seg) (i : CanId) : q.listens i = false ↔ ∀ x : Fin 4, q.ctxs[x].st = .free ∨ q.ctxs[x].respId ≠ i := by
  have any := Vector.any_toList q.ctxs fun x => x.busy && x.respId == i
  rw [Seg.listens, ← Bool.not_eq_true, any, not_exists]
  refine forall_congr' fun x => ?_
  simp [Ctx.busy]
  tauto

theorem eligible_iff (p : PolicySet) (q : Seg) (e : Entry) : eligible p q e = true ↔ CanStart p q e := by
  unfold eligible CanStart
  cases route : p.route e.target with
  | none => simp
  | some r =>
    simp only [Bool.and_eq_true, Bool.not_eq_true', Option.some.injEq, exists_eq_left', Seg.listens_iff, and_assoc]
    simp

/-! ### The choice (R53) -/

/-- Within an arbitration the phases are tried from the pointer on, and each yields its oldest eligible entry. -/
theorem chooseEntry_some {p : PolicySet} {g : Fin 4} {q : Seg} {n : Fin 16} {e : Entry} (chosen : chooseEntry p g q = some (n, e)) :
    ∃ (k : Fin 16) (before after : List Entry), n = q.pointer + k ∧
      (∀ j, j < k → ∀ d ∈ q.lanes.get (p.phaseLane g (q.pointer + j)), ¬ CanStart p q d) ∧
      q.lanes.get (p.phaseLane g (q.pointer + k)) = before ++ e :: after ∧ (∀ d ∈ before, ¬ CanStart p q d) ∧ CanStart p q e := by
  unfold chooseEntry at chosen
  obtain ⟨pre, k, post, split, hit, miss⟩ := List.findSome?_eq_some_iff.1 chosen
  obtain ⟨e', found, eq⟩ := Option.map_eq_some_iff.1 hit
  obtain ⟨rfl, rfl⟩ := Prod.mk.inj eq
  obtain ⟨ok, before, after, queue, earlier⟩ := List.find?_eq_some_iff_append.1 found
  refine ⟨k, before, after, rfl, fun j lt d mem can => ?_, queue, fun d mem can => ?_, (eligible_iff p q _).1 ok⟩
  · have here : j ∈ pre := by
      have sorted := List.pairwise_lt_finRange 16
      have mem := List.mem_finRange j
      rw [split] at sorted mem
      rcases List.mem_append.1 mem with here | tail
      · exact here
      · rcases List.mem_cons.1 tail with rfl | tail
        · exact absurd lt (lt_irrefl _)
        · have above := (List.pairwise_cons.1 (List.pairwise_append.1 sorted).2.1).1 j tail
          exact absurd lt (not_lt.2 (le_of_lt above))
    have none := Option.map_eq_none_iff.1 (miss j here)
    exact List.find?_eq_none.1 none d mem ((eligible_iff p q d).2 can)
  · have out := earlier d mem
    rw [(eligible_iff p q d).2 can] at out
    simp at out

theorem chooseEntry_none {p : PolicySet} {g : Fin 4} {q : Seg} (none : chooseEntry p g q = none) (n : Fin 16) :
    ∀ e ∈ q.lanes.get (p.phaseLane g n), ¬ CanStart p q e := by
  intro e mem can
  unfold chooseEntry at none
  have phase := List.findSome?_eq_none_iff.1 none (n - q.pointer) (List.mem_finRange _)
  have miss := Option.map_eq_none_iff.1 phase
  rw [add_sub_cancel] at miss
  exact List.find?_eq_none.1 miss e mem ((eligible_iff p q e).2 can)

/-- The lowest FREE context. -/
theorem Seg.freeCtx_some {q : Seg} {x : Fin 4} (free : q.freeCtx = some x) : q.ctxs[x].st = .free ∧ ∀ y, y < x → q.ctxs[y].st ≠ .free := by
  obtain ⟨ok, pre, post, split, earlier⟩ := List.find?_eq_some_iff_append.1 free
  refine ⟨by simpa [Ctx.busy] using ok, fun y lt is => ?_⟩
  have sorted := List.pairwise_lt_finRange 4
  have mem := List.mem_finRange y
  rw [split] at sorted mem
  rcases List.mem_append.1 mem with here | tail
  · have out := earlier y here
    simp [Ctx.busy] at out
    exact out is
  · rcases List.mem_cons.1 tail with rfl | tail
    · exact lt_irrefl _ lt
    · exact absurd lt (not_lt.2 (le_of_lt ((List.pairwise_cons.1 (List.pairwise_append.1 sorted).2.1).1 y tail)))

theorem Seg.freeCtx_none {q : Seg} (none : q.freeCtx = none) (x : Fin 4) : q.ctxs[x].st ≠ .free := by
  intro is
  have out := List.find?_eq_none.1 none x (List.mem_finRange x)
  simp [Ctx.busy] at out
  exact out is

/-! ### The start (R54, R75) -/

@[simp] theorem State.stuWrite_board (s : State) (g : Fin 4) : (s.stuWrite g).board = s.board := by rw [State.stuWrite_eq]
@[simp] theorem State.lsWrite_board (s : State) (g : Fin 4) : (s.lsWrite g).board = s.board := by rw [State.lsWrite_eq]

theorem State.startReport_segs (s : State) (e : Entry) : (s.startReport e).segs = s.segs := by
  unfold State.startReport
  cases e.role <;> rfl

theorem State.startReport_exchange (s : State) {e : Entry} (role : e.role = .exchange) :
    s.startReport e = (s.recordStart e.cell).setCell e.cell .active := by
  unfold State.startReport
  dsimp only
  rw [role]

/-- The segment's record after a start (R54). -/
def startedSeg (q : Seg) (n : Fin 16) (e : Entry) (x : Fin 4) (ctx : Ctx) : Seg :=
  { q with lanes := q.lanes.without e.cell, busy := q.busy ++ [e.target], pointer := n + 1, tags := q.tags.set x (q.tags[x] + 1)
           ctxs := q.ctxs.set x ctx }

structure Started (s t : State) (g : Fin 4) (n : Fin 16) (e : Entry) (x : Fin 4) (r : Route) : Prop where
  seg : ∃ m, t.seg g = { startedSeg (s.seg g) n e x (startCtx s e r ((s.seg g).tags[x] + 1)) with counter := m }
  segs : ∀ h, h ≠ g → t.seg h = s.seg h
  active : e.role = .exchange → CellShows t e.cell .active

theorem started (s : State) (g : Fin 4) (n : Fin 16) (e : Entry) (x : Fin 4) (r : Route) : Started s (s.startIn g n e x r) g n e x r := by
  unfold State.startIn
  dsimp only
  obtain ⟨y, hy⟩ : ∃ y, y = s.modSeg g fun q => startedSeg q n e x (startCtx s e r ((s.seg g).tags[x] + 1)) := ⟨_, rfl⟩
  have seg : y.seg g = startedSeg (s.seg g) n e x (startCtx s e r ((s.seg g).tags[x] + 1)) := by rw [hy, State.seg_modSeg]
  have segs : ∀ h, h ≠ g → y.seg h = s.seg h := fun h ne => by rw [hy, State.seg_modSeg_ne _ _ ne]
  have same : (s.modSeg g fun q =>
    { q with
      lanes := q.lanes.without e.cell, busy := q.busy ++ [e.target], pointer := n + 1, tags := q.tags.set x ((s.seg g).tags[x] + 1),
      ctxs := q.ctxs.set x (startCtx s e r ((s.seg g).tags[x] + 1)) }) = y := by
    rw [hy]
    rfl
  rw [same]
  clear hy same
  have report := y.startReport_segs e
  have activates := y.startReport_exchange (e := e)
  generalize y.startReport e = z at report activates
  have zseg : ∀ h, z.seg h = y.seg h := fun h => by rw [State.seg, report]; rfl
  refine ⟨⟨((z.stuWrite g).seg g).counter + 1, ?_⟩, fun h ne => ?_, fun role => ?_⟩
  · rw [State.seg_lsWrite, State.seg_stuWrite, zseg, seg]
  · rw [State.lsWrite_seg_ne _ ne, State.stuWrite_seg_ne _ ne, zseg, segs h ne]
  · have shows : CellShows z e.cell .active := by
      rw [activates role]
      exact .of_setCell _ e.cell .active
    have first := z.stuWrite_frame g
    have stu := z.stuWrite_board g
    generalize z.stuWrite g = a at first stu
    have second := a.lsWrite_frame g
    have ls := a.lsWrite_board g
    refine shows.later (by rw [State.cell, ls, stu, State.cell]) (first.both second) fun a inside out => ?_
    have cb := cellBase_bounds e.cell
    have sb := segBase_bounds g
    unfold Within at inside out
    omega

/-- Settles O45. -/
theorem arbitrationStarts : Obligations.ArbitrationStarts := by
  unfold Obligations.ArbitrationStarts
  intro g s p q can lane
  refine ⟨fun stopped => ?_, fun none open_ free n => ?_, fun t starts => ?_⟩
  · unfold State.startOne
    dsimp only
    rw [if_pos (by rw [show (s.seg g).canStart = false from stopped]; rfl)]
  · unfold State.startOne at none
    dsimp only at none
    rw [if_neg (by rw [show (s.seg g).canStart = true from open_]; decide)] at none
    cases chosen : chooseEntry s.ps.active g (s.seg g) with
    | none => exact chooseEntry_none chosen n
    | some found =>
      obtain ⟨m, e⟩ := found
      obtain ⟨_, _, _, _, _, _, _, _, _, r, route, _⟩ := chooseEntry_some chosen
      rw [chosen] at none
      dsimp only at none
      rw [route] at none
      cases first : (s.seg g).freeCtx with
      | none =>
        obtain ⟨x, is⟩ := free
        exact absurd is (Seg.freeCtx_none first x)
      | some x =>
        rw [first] at none
        exact absurd none (by simp)
  · unfold State.startOne at starts
    dsimp only at starts
    split at starts
    · exact absurd starts (by simp)
    · cases chosen : chooseEntry s.ps.active g (s.seg g) with
      | none =>
        rw [chosen] at starts
        exact absurd starts (by simp)
      | some found =>
        obtain ⟨m, e⟩ := found
        obtain ⟨k, before, after, rfl, earlier, queue, behind, ok⟩ := chooseEntry_some chosen
        rw [chosen] at starts
        dsimp only at starts
        split at starts
        case h_1 x r free route =>
          obtain rfl := Option.some.inj starts
          have done := started s g (q.pointer + k) e x r
          obtain ⟨isFree, lower⟩ := Seg.freeCtx_some free
          obtain ⟨n, seg⟩ := done.seg
          have ctx : (s.startIn g (q.pointer + k) e x r).ctx g x = startCtx s e r ((s.seg g).tags[x] + 1) := by
            have at_ : (s.startIn g (q.pointer + k) e x r).ctx g x = ((s.startIn g (q.pointer + k) e x r).seg g).ctxs[x] := rfl
            rw [at_, seg]
            simp [startedSeg]
          refine ⟨k, e, before, after, x, r, earlier, queue, behind, ok, route, isFree, lower, by rw [seg]; rfl, by rw [seg]; rfl,
            by rw [seg]; rfl, by rw [ctx]; rfl, by rw [ctx]; rfl, by rw [ctx]; rfl, by rw [ctx]; rfl, by rw [ctx]; rfl, by rw [ctx]; rfl,
            by rw [ctx]; rfl, by rw [ctx]; rfl, by rw [ctx]; rfl, by rw [ctx]; rfl, fun y ne => ?_, done.segs, done.active⟩
          have at_ : (s.startIn g (q.pointer + k) e x r).ctx g y = ((s.startIn g (q.pointer + k) e x r).seg g).ctxs[y] := rfl
          rw [at_, seg]
          exact set_ne _ _ ne
        case h_2 => exact absurd starts (by simp)

end Sys2Proof.Machine
end

section
/-! PROOFS. FRAME_OFFER (R72, R76, R104, R105). -/

namespace Sys2Proof.Machine

variable {s t : State}

/-! ### The frame scheduler (R76, R104) -/

/-- The spacing holds the ready frame back. -/
abbrev HeldBack (p : Pace) (k : Ctx) (r : Ready) (now : Nat) : Prop := r.kind = .part ∧ ∃ e, k.partEnd = some e ∧ now < e + partGap p k

theorem partSpaced_iff (p : Pace) (k : Ctx) (r : Ready) (now : Nat) : partSpaced p k r now = false ↔ HeldBack p k r now := by
  unfold partSpaced HeldBack
  split
  case h_1 kind here => simp [kind, here]
  case h_2 none =>
    simp only [Bool.true_eq_false, false_iff, not_and, not_exists]
    exact fun kind e here _ => none e kind here

/-- One step of the scheduler's search. -/
def offerStep (q : Seg) (now : Nat) (best : Option (Fin 4 × Ready)) (x : Fin 4) : Option (Fin 4 × Ready) :=
  match q.ctxs[x].ready with
  | none => best
  | some r =>
    if now < readyAt q.pace q.ctxs[x] r || !partSpaced q.pace q.ctxs[x] r now then best
    else match best with
      | some (y, b) => if readyAt q.pace q.ctxs[x] r < readyAt q.pace q.ctxs[y] b then some (x, r) else best
      | none => some (x, r)

theorem chooseReady_eq (q : Seg) (now : Nat) : chooseReady q now = (List.finRange 4).foldl (offerStep q now) none := rfl

/-- A context offers the frame `r` at this instant. -/
structure Offers (q : Seg) (now : Nat) (x : Fin 4) (r : Ready) : Prop where
  ready : q.ctxs[x].ready = some r
  due : readyAt q.pace q.ctxs[x] r ≤ now
  spaced : ¬ HeldBack q.pace q.ctxs[x] r now

theorem offerStep_cases (q : Seg) (now : Nat) (best : Option (Fin 4 × Ready)) (x : Fin 4) :
    ((∀ r, ¬ Offers q now x r) ∧ offerStep q now best x = best) ∨
      ∃ r, Offers q now x r ∧ offerStep q now best x = match best with
        | some (y, b) => if readyAt q.pace q.ctxs[x] r < readyAt q.pace q.ctxs[y] b then some (x, r) else best
        | none => some (x, r) := by
  unfold offerStep
  cases ready : q.ctxs[x].ready with
  | none => exact .inl ⟨fun r o => absurd (o.ready.symm.trans ready) (by simp), rfl⟩
  | some r =>
    dsimp only
    by_cases early : now < readyAt q.pace q.ctxs[x] r
    · refine .inl ⟨fun n o => ?_, if_pos (by rw [decide_eq_true early]; rfl)⟩
      obtain rfl := Option.some.inj (ready.symm.trans o.ready)
      exact absurd o.due (Nat.not_le.2 early)
    · by_cases held : HeldBack q.pace q.ctxs[x] r now
      · refine .inl ⟨fun n o => ?_, if_pos (by rw [(partSpaced_iff ..).2 held]; exact Bool.or_true _)⟩
        obtain rfl := Option.some.inj (ready.symm.trans o.ready)
        exact o.spaced held
      · have spaced : partSpaced q.pace q.ctxs[x] r now = true := by
          rw [← Bool.not_eq_false, partSpaced_iff]
          exact held
        refine .inr ⟨r, ⟨ready, Nat.not_lt.1 early, held⟩, ?_⟩
        exact if_neg (by rw [decide_eq_false early, spaced]; decide)

/-- What the search has found is a frame of a context that it has passed. -/
theorem foldl_offerStep_some {q : Seg} {now : Nat} (l : List (Fin 4)) :
    ∀ best : Option (Fin 4 × Ready), (∀ y b, best = some (y, b) → Offers q now y b) →
      ∀ y b, l.foldl (offerStep q now) best = some (y, b) → Offers q now y b ∧ (y ∈ l ∨ best = some (y, b)) := by
  induction l with
  | nil => exact fun best sound y b eq => ⟨sound y b eq, .inr eq⟩
  | cons x l ih =>
    intro best sound y b eq
    rw [List.foldl_cons] at eq
    have next : ∀ y b, offerStep q now best x = some (y, b) → Offers q now y b ∧ (y = x ∨ best = some (y, b)) := by
      intro y b eq
      rcases offerStep_cases q now best x with ⟨_, step⟩ | ⟨r, offers, step⟩
      · exact ⟨sound y b (step.symm.trans eq), .inr (step.symm.trans eq)⟩
      · rw [step] at eq
        have new : ∀ {y b}, some (x, r) = some (y, b) → Offers q now y b ∧ (y = x ∨ best = some (y, b)) := fun {y b} same => by
          obtain ⟨rfl, rfl⟩ := Prod.mk.inj (Option.some.inj same)
          exact ⟨offers, .inl rfl⟩
        cases best with
        | none => exact new eq
        | some found =>
          dsimp only at eq
          split at eq
          · exact new eq
          · exact ⟨sound y b eq, .inr eq⟩
    obtain ⟨offers, place⟩ := ih _ (fun y b eq => (next y b eq).1) y b eq
    refine ⟨offers, ?_⟩
    rcases place with tail | best
    · exact .inl (List.mem_cons_of_mem _ tail)
    · rcases (next y b best).2 with rfl | old
      · exact .inl List.mem_cons_self
      · exact .inr old

/-- A frame that no later context precedes is kept. -/
theorem foldl_offerStep_keeps {q : Seg} {now : Nat} {x : Fin 4} {r : Ready} (l : List (Fin 4))
    (first : ∀ y ∈ l, ∀ n, Offers q now y n → ¬ readyAt q.pace q.ctxs[y] n < readyAt q.pace q.ctxs[x] r) :
    l.foldl (offerStep q now) (some (x, r)) = some (x, r) := by
  induction l with
  | nil => rfl
  | cons y l ih =>
    have step : offerStep q now (some (x, r)) y = some (x, r) := by
      rcases offerStep_cases q now (some (x, r)) y with ⟨_, step⟩ | ⟨n, offers, step⟩
      · exact step
      · rw [step]
        exact if_neg (first y List.mem_cons_self n offers)
    rw [List.foldl_cons, step]
    exact ih fun z mem => first z (List.mem_cons_of_mem _ mem)

/-- The scheduler's choice: the earliest of the frames that can be offered, of the lowest context among equals. -/
theorem chooseReady_some {q : Seg} {now : Nat} {x : Fin 4} {r : Ready} (offers : Offers q now x r)
    (first : ∀ y n, y ≠ x → Offers q now y n → readyAt q.pace q.ctxs[x] r < readyAt q.pace q.ctxs[y] n ∨
      (readyAt q.pace q.ctxs[x] r = readyAt q.pace q.ctxs[y] n ∧ x < y)) : chooseReady q now = some (x, r) := by
  obtain ⟨pre, post, split⟩ := List.append_of_mem (List.mem_finRange x)
  have sorted := List.pairwise_lt_finRange 4
  rw [split, List.pairwise_append] at sorted
  obtain ⟨_, tail, below⟩ := sorted
  have above := (List.pairwise_cons.1 tail).1
  rw [chooseReady_eq, split, List.foldl_append, List.foldl_cons]
  have found := foldl_offerStep_some (q := q) (now := now) pre none (fun y b eq => absurd eq (by simp))
  generalize pre.foldl (offerStep q now) none = best at found
  have step : offerStep q now best x = some (x, r) := by
    rcases offerStep_cases q now best x with ⟨none, _⟩ | ⟨n, here, step⟩
    · exact absurd offers (none r)
    · obtain rfl := Option.some.inj (offers.ready.symm.trans here.ready)
      rw [step]
      cases best with
      | none => rfl
      | some pair =>
        obtain ⟨y, b⟩ := pair
        obtain ⟨there, place⟩ := found y b rfl
        have lower : y < x := by
          rcases place with mem | absurd_
          · exact below y mem x List.mem_cons_self
          · exact absurd absurd_ (by simp)
        refine if_pos ?_
        rcases first y b (ne_of_lt lower) there with lt | ⟨_, above⟩
        · exact lt
        · exact absurd above (not_lt.2 (le_of_lt lower))
  rw [step]
  refine foldl_offerStep_keeps post fun y mem n there lt => ?_
  have higher := above y mem
  rcases first y n (ne_of_gt higher) there with lt' | ⟨eq, _⟩ <;> omega

theorem chooseReady_none {q : Seg} {now : Nat} (nobody : ∀ y n, ¬ Offers q now y n) : chooseReady q now = none := by
  rw [chooseReady_eq]
  cases eq : (List.finRange 4).foldl (offerStep q now) Option.none with
  | none => rfl
  | some pair => exact absurd (foldl_offerStep_some _ _ (fun y b eq => absurd eq (by simp)) pair.1 pair.2 eq).1 (nobody pair.1 pair.2)

/-! ### The frame (R72) -/

theorem State.payloadBytes_length (s : State) (p : Payload) (i n : Nat) : (s.payloadBytes p i n).length = n := by
  simp [State.payloadBytes]

/-- A frame of at most eight bytes carries them. -/
theorem partFrame_bytes (i : CanId) {bs : List Byte} (fits : bs.length ≤ 8) :
    (partFrame i bs).data.toList.take (partFrame i bs).dlc.val = bs := by
  have dlc : (Fin.ofNat 9 bs.length).val = bs.length := Nat.mod_eq_of_lt (by omega)
  unfold partFrame
  dsimp only
  rw [dlc]
  apply List.ext_getElem
  · simp
    omega
  · intro k h1 h2
    simp only [List.getElem_take, Vector.getElem_toList, Vector.getElem_ofFn]
    rw [List.getD_eq_getElem?_getD, List.getElem?_eq_getElem h2, Option.getD_some]

/-- What the frame of each kind carries (R72). -/
structure FrameBuilt (s : State) (p : Pace) (x : Fin 4) (k : Ctx) (r : Ready) (o : Offered) : Prop where
  ctx : o.ctx = some x
  kind : o.kind = r.kind
  id : o.frame.id = k.reqId
  remote : o.frame.remote = false
  short : r.kind = .short → k.length ≤ 7 →
    o.frame.data.toList.take o.frame.dlc.val = byte (0x10 + k.length) :: s.payloadBytes k.payload 0 k.length
  opening : r.kind = .opening → o.frame.data.toList.take o.frame.dlc.val =
    [byte (0x20 + k.length / 256), byte k.length, k.tag] ++ s.payloadBytes k.payload 0 5
  part : r.kind = .part → o.frame.data.toList.take o.frame.dlc.val = [byte (0x30 + k.tag.toNat % 16), k.nextPart] ++
    s.payloadBytes k.payload k.sent (min 6 (k.length - k.sent))
  credit : r.kind = .credit → o.frame.data.toList.take o.frame.dlc.val = [0x40, byte p.credit, byte p.rxGap] ∧ o.credit = p.credit

theorem frameBuilt (s : State) (p : Pace) (x : Fin 4) (k : Ctx) (r : Ready) : FrameBuilt s p x k r (buildFrame s p x k r) := by
  obtain ⟨kind, since, spaced⟩ := r
  cases kind with
  | short =>
    refine ⟨rfl, rfl, rfl, rfl, fun _ fits => ?_, nofun, nofun, nofun⟩
    exact partFrame_bytes _ (by simp only [List.length_cons, State.payloadBytes_length]; omega)
  | opening =>
    refine ⟨rfl, rfl, rfl, rfl, nofun, fun _ => ?_, nofun, nofun⟩
    exact partFrame_bytes _ (by simp [State.payloadBytes_length])
  | part =>
    refine ⟨rfl, rfl, rfl, rfl, nofun, nofun, fun _ => ?_, nofun⟩
    exact partFrame_bytes _ (by simp only [List.length_append, List.length_cons, List.length_nil, State.payloadBytes_length]; omega)
  | credit =>
    refine ⟨rfl, rfl, rfl, rfl, nofun, nofun, nofun, fun _ => ⟨partFrame_bytes _ (by simp), rfl⟩⟩

theorem execFrameOffer_some {g : Fin 4} {us : Fin 1000} {x : Fin 4} {r : Ready} (next : (s.atUs us).nextOffer g = some (x, r)) :
    exec (.frameOffer g us) s = complete ((s.atUs us).modSeg g fun q =>
      { q with offered := some (buildFrame (s.atUs us) ((s.atUs us).seg g).pace x ((s.atUs us).ctx g x) r)
               ctxs := upd q.ctxs x fun k => { k with ready := none } }) := by
  refine (show exec (.frameOffer g us) s = execFrameOffer g us s from rfl).trans ?_
  unfold execFrameOffer
  dsimp only
  rw [next]

theorem execFrameOffer_none {g : Fin 4} {us : Fin 1000} (next : (s.atUs us).nextOffer g = none) :
    exec (.frameOffer g us) s = .next s := by
  refine (show exec (.frameOffer g us) s = execFrameOffer g us s from rfl).trans ?_
  unfold execFrameOffer
  dsimp only
  rw [next]
  rfl

theorem State.nextOffer_eq {g : Fin 4} (us : Fin 1000) (sends : (s.seg g).ctl.sends = true) (free : (s.seg g).offered = none)
    (gap : ∀ e, (s.seg g).lastEnd = some e → e + (s.seg g).pace.txGap * 100 ≤ s.time.clock * 1000 + max s.time.us us.val) :
    (s.atUs us).nextOffer g = chooseReady (s.seg g) (s.time.clock * 1000 + max s.time.us us.val) := by
  have passed : gapPassed (s.seg g) (s.time.clock * 1000 + max s.time.us us.val) = true := by
    unfold gapPassed
    split
    case h_1 e here => exact decide_eq_true (gap e here)
    case h_2 => rfl
  unfold State.nextOffer
  exact if_pos (by
    rw [show (s.atUs us).seg g = s.seg g from rfl, show (s.atUs us).now = s.time.clock * 1000 + max s.time.us us.val from rfl, sends, free, passed]
    rfl)

/-- Settles O48. -/
theorem frameOffer : Obligations.FrameOffer := by
  unfold Obligations.FrameOffer
  intro g us x r s settled q k at_ due held sends free gap ready dueNow
  have next := State.nextOffer_eq us sends free gap
  refine ⟨fun back alone => ?_, fun spaced first => ?_⟩
  · refine execFrameOffer_none (next.trans (chooseReady_none fun y n offers => ?_))
    by_cases same : y = x
    · subst same
      obtain rfl := Option.some.inj (ready.symm.trans offers.ready)
      exact offers.spaced back
    · exact absurd (offers.ready.symm.trans (alone y same)) (by simp)
  · have offers : Offers (s.seg g) at_ x r := ⟨ready, dueNow, spaced⟩
    have chosen := next.trans (chooseReady_some offers fun y n ne there => by
      rcases first y n ne there.ready with lt | eq | back
      · exact .inl lt
      · exact .inr eq
      · exact absurd back there.spaced)
    have runs := execFrameOffer_some chosen
    have built := frameBuilt (s.atUs us) ((s.atUs us).seg g).pace x ((s.atUs us).ctx g x) r
    generalize buildFrame (s.atUs us) ((s.atUs us).seg g).pace x ((s.atUs us).ctx g x) r = o at runs built
    obtain ⟨f, hf⟩ : ∃ f : Seg → Seg, f = fun q => { q with offered := some o, ctxs := upd q.ctxs x fun k => { k with ready := none } } := ⟨_, rfl⟩
    rw [← hf] at runs
    have seg : ((s.atUs us).modSeg g f).seg g = f (s.seg g) := State.seg_modSeg _ g f
    have segs : ∀ h, h ≠ g → ((s.atUs us).modSeg g f).seg h = s.seg h := fun h ne => State.seg_modSeg_ne _ f ne
    have whole : (s.atUs us).modSeg g f = { s with segs := ((s.atUs us).modSeg g f).segs
                                                   time := { s.time with us := max s.time.us us.val } } := rfl
    generalize (s.atUs us).modSeg g f = t at runs seg segs whole
    have still : Settled t := by rw [whole]; exact settled
    have ctx : ∀ y, t.ctx g y = (f (s.seg g)).ctxs[y] := fun y => by rw [← seg]; rfl
    refine ⟨t, o, ?_, by rw [seg, hf], built.ctx, built.kind, built.id, built.remote, ⟨built.short, built.opening, built.part, built.credit⟩, ?_,
      fun y ne => ?_, ?_, segs, by rw [whole], ?_⟩
    · rw [runs, complete, still.finish]
    · rw [ctx, hf]
      exact upd_same _ _ _
    · rw [ctx, hf]
      exact upd_ne _ _ ne
    · rw [seg, hf]
    · have time : t.time = { s.time with us := max s.time.us us.val } := by rw [whole]
      rw [← time] at whole
      exact whole

end Sys2Proof.Machine
end

section
/-! PROOFS. The ends of cells, entries that leave their lanes, and the end of an event, each as one rule (R50, R175, R187, R191). -/

namespace Sys2Proof.Machine

variable {s t : State}

/-! ### The end of an event -/

/-- Between `y` and `t` an event has ended: the line follows, and the Information Block is closed. -/
structure Closes (y t : State) : Prop where
  regs : t.regs = { y.regs with irq := irqOf y.regs }
  whole : t = { y with regs := t.regs, mem := t.mem, info := t.info }
  frame : MemFrame y t InfoShared
  clean : y.info.dirty = false → t.mem = y.mem ∧ t.info = y.info

theorem closes (y : State) : Closes y y.finish := by
  have fin := y.finish_eq
  have frame := y.finish_frame
  have clean := y.finish_clean
  generalize y.finish = t at *
  refine ⟨by rw [fin], ?_, frame, fun still => ?_⟩
  · have regs : t.regs = { y.regs with irq := irqOf y.regs } := by rw [fin]
    rw [← regs] at fin
    exact fin
  · rw [clean still]
    exact ⟨rfl, rfl⟩

theorem Closes.line {y : State} (closed : Closes y t) : t.regs.irq = irqOf t.regs := by
  rw [closed.regs]
  rfl

theorem Closes.settled {y : State} (closed : Closes y t) (still : Settled y) : t = y := by
  obtain ⟨clean, line⟩ := still
  obtain ⟨mem, info⟩ := closed.clean clean
  have whole := closed.whole
  rw [closed.regs, mem, info, ← line] at whole
  exact whole

section
variable {x y : State} (closed : Closes y t)
include closed

theorem Closes.cell (c : Fin 32) : t.cell c = y.cell c := by rw [closed.whole]; rfl
theorem Closes.board : t.board = y.board := by rw [closed.whole]
theorem Closes.chan (ch : Fin 8) : t.chan ch = y.chan ch := by rw [closed.whole]; rfl
theorem Closes.seg (g : Fin 4) : t.seg g = y.seg g := by rw [closed.whole]; rfl
theorem Closes.ctx (g x : Fin 4) : t.ctx g x = y.ctx g x := by rw [closed.whole]; rfl
theorem Closes.transfer (c : Fin 32) : t.transfer c = y.transfer c := by rw [closed.whole]; rfl
theorem Closes.watch (c : Fin 32) : t.watch c = y.watch c := by rw [closed.whole]; rfl
theorem Closes.slot (n : Fin 8) : t.slot n = y.slot n := by rw [closed.whole]; rfl
theorem Closes.done : t.regs.done = y.regs.done := by rw [closed.regs]
theorem Closes.event : t.regs.event = y.regs.event := by rw [closed.regs]
theorem Closes.cm : t.cm = y.cm := by rw [closed.whole]
theorem Closes.ps : t.ps = y.ps := by rw [closed.whole]

theorem Closes.shows {c : Fin 32} {st : CellState} (h : CellShows y c st) : CellShows t c st :=
  h.later (by rw [closed.cell]) closed.frame fun _ w => endPlaces_not_infoShared (.inl w)

theorem Closes.endsDone {c : Fin 32} (h : EndsDone y c) : EndsDone t c :=
  h.later (by rw [closed.cell]) closed.frame (fun _ => endPlaces_not_infoShared) (by rw [closed.done])

theorem Closes.endsFailed {c : Fin 32} {stage : Stage} {reason : Reason} (h : EndsFailed y c stage reason) : EndsFailed t c stage reason :=
  h.later (by rw [closed.cell]) closed.frame (fun _ => endPlaces_not_infoShared) (by rw [closed.done])

theorem Closes.onlyCell {c : Fin 32} (h : OnlyCellState x y c) : OnlyCellState x t c := by
  obtain ⟨posts, cell, others⟩ := h
  exact ⟨by rw [closed.board, posts], by rw [closed.cell]; exact cell, fun d ne => by rw [closed.cell, others d ne]⟩

theorem Closes.endRegs {c : Fin 32} {events : BitVec 8}
    (h : y.regs = { x.regs with done := x.regs.done ||| (1#32 <<< c.val), event := x.regs.event ||| events }) : EndRegs x t c events := by
  unfold EndRegs
  have regs := closed.regs
  rw [h] at regs
  rw [regs]
  rfl

theorem Closes.above {a n : Nat} (high : 0x100 ≤ a) : t.mem.bytes a n = y.mem.bytes a n :=
  closed.frame.bytes fun k _ => by unfold InfoShared Within; omega

theorem Closes.read {a : Nat} (high : 0x100 ≤ a) : t.mem.read a = y.mem.read a :=
  closed.frame a (by unfold InfoShared Within; omega)

end

/-! ### The end of a cell with its channel (R175, R187) -/

theorem FaultRec.tail_congr {x y : State} (f : FaultRec) (segs : y.segs = x.segs) (vsm : y.vsm = x.vsm) : f.tail y = f.tail x := by
  unfold FaultRec.tail
  simp only [State.seg, segs, vsm]

/-- A cell has ended, its outcome accrued on the channel of its captured header. -/
structure CellOver (x y : State) (c : Fin 32) (e : CellEnd) : Prop where
  shows : CellShows y c e.state
  done : e.fault = none → EndsDone y c
  failed : ∀ f, e.fault = some f → EndsFailed y c f.stage f.reason
  kind : ∀ n, n = e.kind.length → n ≤ 28 → y.mem.bytes (cellBase c + 100) n = e.kind
  flags : y.mem.read (cellBase c + 65) = byte e.flags
  length : y.mem.bytes (cellBase c + 66) 2 = le16 e.respLen
  fault : ∀ f, e.fault = some f → ∀ o b, o < 16 → (f.tail x)[o]? = some b → y.mem.read (cellBase c + 84 + o) = b
  cell : y.cell c = { x.cell c with st := e.state }
  cells : OnlyCellState x y c
  regs : y.regs = { x.regs with done := x.regs.done ||| (1#32 <<< c.val), irq := y.regs.irq }
  chan : ∀ ch, channelNamed (x.cell c).captured = some ch → y.chan ch =
    { x.chan ch with accrued := e.conditions.foldl (fun a f => a ||| f.bit) (x.chan ch).accrued, counter := (y.chan ch).counter }
  chans : ∀ ch, channelNamed (x.cell c).captured ≠ some ch → y.chan ch = x.chan ch
  whole : y = { x with board := y.board, regs := y.regs, mem := y.mem, chans := y.chans }
  frame : MemFrame x y fun a => EndPlaces c a ∨ ∃ ch, channelNamed (x.cell c).captured = some ch ∧ Within (chanBase ch) 32 a

/-- The part once the conditions of an end are accrued. -/
structure Accrued (x z : State) (named : Option (Fin 8)) (fs : List Flag) : Prop where
  chan : ∀ ch, named = some ch → z.chan ch =
    { x.chan ch with accrued := fs.foldl (fun a f => a ||| f.bit) (x.chan ch).accrued, counter := (z.chan ch).counter }
  chans : ∀ ch, named ≠ some ch → z.chan ch = x.chan ch
  whole : z = { x with mem := z.mem, chans := z.chans }
  frame : MemFrame x z fun a => ∃ ch, named = some ch ∧ Within (chanBase ch) 32 a

theorem endCell_accrues (x : State) (c : Fin 32) (e : CellEnd) :
    ∃ z, Accrued x z (channelNamed (x.cell c).captured) e.conditions ∧ x.endCell c e = z.endCellOn none c e := by
  unfold State.endCell
  cases channelNamed (x.cell c).captured with
  | none => exact ⟨x, ⟨nofun, fun _ _ => rfl, rfl, MemFrame.refl x _⟩, rfl⟩
  | some ch =>
    refine ⟨x.accrue ch e.conditions, ⟨fun k eq => ?_, fun k ne => ?_, x.accrue_whole ch _, ?_⟩, x.endCellOn_some ch c e⟩
    · obtain rfl := Option.some.inj eq
      exact x.accrue_chan ch _
    · exact x.accrue_chan_ne _ fun eq => ne (congrArg some eq.symm)
    · exact (x.accrue_frame ch _).mono fun a inside => ⟨ch, rfl, inside⟩

theorem cellOver (x : State) (c : Fin 32) (e : CellEnd) : CellOver x (x.endCell c e) c e := by
  obtain ⟨z, accrued, eq⟩ := endCell_accrues x c e
  have bounds := cellBase_bounds c
  rw [eq]
  have zcell : ∀ d, z.cell d = x.cell d := fun d => by rw [accrued.whole]; rfl
  have zregs : z.regs = x.regs := by rw [accrued.whole]
  have zboard : z.board = x.board := by rw [accrued.whole]
  have shows := z.endCellOn_shows c e
  have cell := z.endCellOn_cell c e
  have cells := z.endCellOn_onlyCell c e
  have regs := z.endCellOn_regs c e
  have frame := z.endCellOn_frame c e
  have done := fun ok => z.endCellOn_endsDone c (e := e) ok
  have failed := fun f ok => z.endCellOn_endsFailed c (e := e) (f := f) ok
  have kind := fun n len => z.endCellOn_kind c e (n := n) len
  have flags := z.endCellOn_read c e (o := 1) (by decide) (b := byte e.flags) rfl
  have length := z.endCellOn_bytes c e (o := 2) (n := 2) (by decide)
  have fault := fun f (ok : e.fault = some f) o b lt => z.endCellOn_faultByte c ok (o := o) (b := b) lt
  have only := z.endCellOn_boardOnly c e
  generalize z.endCellOn none c e = y at *
  have ychan : ∀ ch, y.chan ch = z.chan ch := fun ch => by rw [only]; rfl
  refine ⟨shows, done, failed, fun n len fits => kind n len (len ▸ fits), flags, ?_, fun f ok o b lt eq => fault f ok o b lt ?_, by rw [cell, zcell],
    cells.of_board zboard, by rw [regs, zregs], fun ch named => ?_, fun ch other => by rw [ychan, accrued.chans ch other], ?_, ?_⟩
  · rw [length]
    have head := resultBytes_head z c e
    have piece : ((resultBytes z c e).drop 2).take 2 = (((resultBytes z c e).take 8).drop 2).take 2 := by
      rw [List.drop_take, List.take_take]
      rfl
    rw [piece, head]
    rfl
  · rw [FaultRec.tail_congr f (by rw [accrued.whole]) (by rw [accrued.whole])]
    exact eq
  · rw [ychan]
    exact accrued.chan ch named
  · have chans : y.chans = z.chans := by rw [only]
    have eq := only
    unfold BoardOnly at eq
    rw [accrued.whole, ← chans] at eq
    exact eq
  · refine (accrued.frame.both frame).mono ?_
    rintro a (chan | place)
    · exact .inr chan
    · exact .inl place

section
variable {x y : State} {c : Fin 32} {e : CellEnd} (ended : CellOver x y c e)
include ended

/-- The end of the event leaves what the end of the cell has done. -/
theorem CellOver.closes (closed : Closes y t) (clean : x.info.dirty = false) : CellOver x t c e := by
  obtain ⟨shows, done, failed, kind, flags, length, fault, cell, cells, regs, chan, chans, whole, frame⟩ := ended
  have bounds := cellBase_bounds c
  have tchans : t.chans = y.chans := by rw [closed.whole]
  have info : y.info = x.info := by rw [whole]
  obtain ⟨mem, tinfo⟩ := closed.clean (by rw [info]; exact clean)
  refine ⟨closed.shows shows, fun ok => closed.endsDone (done ok), fun f ok => closed.endsFailed (failed f ok), fun n len fits => by rw [mem]; exact kind n len fits,
    by rw [mem]; exact flags, by rw [mem]; exact length, fun f ok o b lt hit => by rw [mem]; exact fault f ok o b lt hit, by rw [closed.cell, cell],
    closed.onlyCell cells, ?_, fun ch named => by rw [closed.chan]; exact chan ch named, fun ch other => by rw [closed.chan, chans ch other], ?_, ?_⟩
  · have eq := closed.regs
    rw [regs] at eq
    rw [eq]
  · have eq := closed.whole
    rw [tinfo, whole] at eq
    dsimp only at eq
    rw [← closed.board, ← tchans] at eq
    exact eq
  · intro a out
    rw [mem]
    exact frame a out

theorem CellOver.endRegs (line : y.regs.irq = irqOf y.regs) : EndRegs x y c 0 := by
  unfold EndRegs
  rw [show x.regs.event ||| 0 = x.regs.event from BitVec.or_zero, ← line]
  exact ended.regs

end

/-! ### An entry that leaves its lane (R50, R60) -/

structure Dropped (x y : State) (c : Fin 32) : Prop where
  same : x.entryOf c = none → y = x
  seg : ∀ g e, x.entryOf c = some (g, e) →
    y.seg g = { x.seg g with lanes := (x.seg g).lanes.without c, counter := (x.seg g).counter + 1 } ∧ ∀ h, h ≠ g → y.seg h = x.seg h
  whole : y = { x with segs := y.segs, mem := y.mem }
  frame : MemFrame x y fun a => ∃ g e, x.entryOf c = some (g, e) ∧ Within (segBase g) 128 a

theorem dropped (x : State) (c : Fin 32) : Dropped x (x.dropEntry c) c := by
  cases entry : x.entryOf c with
  | none =>
    rw [State.dropEntry_none entry]
    exact ⟨fun _ => rfl, fun g e eq => absurd (entry.symm.trans eq) (by simp), rfl, MemFrame.refl x _⟩
  | some pair =>
    obtain ⟨g, e⟩ := pair
    rw [State.dropEntry_some entry]
    refine ⟨fun eq => absurd (entry.symm.trans eq) (by simp), fun h d eq => ?_, ?_, ?_⟩
    · obtain ⟨rfl, rfl⟩ := Prod.mk.inj (Option.some.inj (entry.symm.trans eq))
      refine ⟨?_, fun h ne => ?_⟩
      · rw [State.seg_lsWrite, State.seg_modSeg]
      · rw [State.lsWrite_seg_ne _ ne, State.seg_modSeg_ne _ _ ne]
    · rw [State.lsWrite_eq]
      rfl
    · exact (State.lsWrite_frame (x.modSeg g fun q => { q with lanes := q.lanes.without c }) g).mono fun a inside => ⟨g, e, entry, inside⟩

theorem Dropped.entryDropped {y : State} {c : Fin 32} (drop : Dropped s y c) (segs : t.segs = y.segs) : EntryDropped s t c := by
  refine ⟨fun none => by rw [segs, drop.same none], fun g e some => ?_⟩
  have seg := drop.seg g e some
  have same : ∀ h, t.seg h = y.seg h := fun h => by rw [State.seg, segs, State.seg]
  exact ⟨(same g).trans seg.1, fun h ne => (same h).trans (seg.2 h ne)⟩

end Sys2Proof.Machine
end

section
/-! PROOFS. The failure of a transfer, as one rule (R123, R132, R136). -/

namespace Sys2Proof.Machine

variable {s t : State}

/-! ### Slots (R120, R123) -/

theorem State.setSlot_slot (s : State) (n : Fin 8) (st : SlotState) : (s.setSlot n st).slot n = { s.slot n with st := st } :=
  upd_same s.slots n _

theorem State.setSlot_slot_ne (s : State) {n m : Fin 8} (st : SlotState) (ne : m ≠ n) : (s.setSlot n st).slot m = s.slot m :=
  upd_ne s.slots _ ne

theorem State.setSlot_whole (s : State) (n : Fin 8) (st : SlotState) :
    s.setSlot n st = { s with slots := (s.setSlot n st).slots, mem := (s.setSlot n st).mem } := rfl

theorem State.setSlot_frame (s : State) (n : Fin 8) (st : SlotState) : MemFrame s (s.setSlot n st) (Within (slotBase n) 2) :=
  fun _ out => Mem.read_write_outside s.mem (by rw [le16_length]; exact out)

theorem Slot.owned_iff (r : Slot) (c : Fin 32) : r.owned c = true ↔ (r.st = .held ∨ r.st = .sending) ∧ r.owner = c.val := by
  simp [Slot.owned]

/-- The slots of a failed transfer. -/
structure SlotsFreed (x y : State) (c : Fin 32) (l : List (Fin 8)) : Prop where
  slot : ∀ n, y.slot n = if n ∈ l ∧ (x.slot n).owned c = true then { x.slot n with st := .free } else x.slot n
  whole : y = { x with slots := y.slots, mem := y.mem }
  frame : MemFrame x y fun a => ∃ n ∈ l, (x.slot n).owned c = true ∧ Within (slotBase n) 2 a

theorem slotsFreed_fold (c : Fin 32) (l : List (Fin 8)) :
    ∀ x : State, l.Nodup → SlotsFreed x (l.foldl (fun s n => if (s.slot n).owned c then s.setSlot n .free else s) x) c l := by
  induction l with
  | nil => exact fun x _ => ⟨fun n => by rw [if_neg (by simp)]; rfl, rfl, MemFrame.refl x _⟩
  | cons m l ih =>
    intro x nodup
    obtain ⟨out, nodup⟩ := List.nodup_cons.1 nodup
    rw [List.foldl_cons]
    by_cases owned : (x.slot m).owned c = true
    · rw [if_pos owned]
      have rest := ih (x.setSlot m .free) nodup
      have here := x.setSlot_slot m .free
      have others := fun n (ne : n ≠ m) => x.setSlot_slot_ne .free ne
      have whole := x.setSlot_whole m .free
      have frame := x.setSlot_frame m .free
      generalize x.setSlot m .free = z at *
      refine ⟨fun n => ?_, by rw [rest.whole, whole], (frame.both rest.frame).mono ?_⟩
      · rw [rest.slot]
        by_cases same : n = m
        · subst same
          rw [if_neg (fun both => out both.1), if_pos ⟨List.mem_cons_self, owned⟩, here]
        · rw [others n same]
          simp only [List.mem_cons, same, false_or]
      · rintro a (word | ⟨n, mem, own, word⟩)
        · exact ⟨m, List.mem_cons_self, owned, word⟩
        · refine ⟨n, List.mem_cons_of_mem _ mem, ?_, word⟩
          rw [← others n fun same => out (same ▸ mem)]
          exact own
    · rw [if_neg owned]
      have rest := ih x nodup
      refine ⟨fun n => ?_, rest.whole, rest.frame.mono fun a ⟨n, mem, own⟩ => ⟨n, List.mem_cons_of_mem _ mem, own⟩⟩
      rw [rest.slot]
      by_cases same : n = m
      · subst same
        rw [if_neg (fun both => owned both.2), if_neg (fun both => owned both.2)]
      · simp only [List.mem_cons, same, false_or]

theorem slotsFreed (x : State) (c : Fin 32) : SlotsFreed x (x.freeSlots c) c (List.finRange 8) :=
  slotsFreed_fold c _ x (List.nodup_finRange 8)

/-! ### The latch (R43) -/

/-- The latch of a touched transfer, left on its channel. -/
structure Latched (x y : State) (ch : Fin 8) (touched : Bool) (ecu : Nat) : Prop where
  latch : (y.chan ch).latch = if touched then some ecu else (x.chan ch).latch
  accrued : ∀ i, ((x.chan ch).accrued.getLsbD i = true ∨ touched = true ∧ i = 7) → (y.chan ch).accrued.getLsbD i = true
  kept : ∃ l a n, y.chan ch = { x.chan ch with latch := l, accrued := a, counter := n }
  chans : ∀ k, k ≠ ch → y.chan k = x.chan k
  regs : y.regs = { x.regs with event := x.regs.event ||| if touched then Event.channel.bit else 0 }
  whole : y = { x with chans := y.chans, mem := y.mem, regs := y.regs }
  frame : MemFrame x y (Within (chanBase ch) 32)

theorem latched (x : State) (ch : Fin 8) (touched : Bool) (ecu : Nat) :
    Latched x (if touched then x.latchSet ch ecu else x) ch touched ecu := by
  cases touched with
  | false =>
    refine ⟨rfl, fun i h => ?_, ⟨_, _, _, rfl⟩, fun _ _ => rfl, ?_, rfl, MemFrame.refl x _⟩
    · rcases h with h | ⟨h, _⟩
      · exact h
      · exact absurd h (by decide)
    · show x.regs = { x.regs with event := x.regs.event ||| 0#8 }
      rw [BitVec.or_zero]
  | true =>
    rw [if_pos rfl, State.latchSet]
    have chan := x.updChan_chan ch fun r => { r with latch := some ecu, accrued := r.accrued ||| Flag.latched.bit }
    have others := fun k (ne : k ≠ ch) => x.updChan_chan_ne (fun r => { r with latch := some ecu, accrued := r.accrued ||| Flag.latched.bit }) ne
    have whole := x.updChan_whole ch fun r => { r with latch := some ecu, accrued := r.accrued ||| Flag.latched.bit }
    have frame := x.updChan_frame ch fun r => { r with latch := some ecu, accrued := r.accrued ||| Flag.latched.bit }
    generalize (x.updChan ch fun r => { r with latch := some ecu, accrued := r.accrued ||| Flag.latched.bit }) = z at *
    have regs : z.regs = x.regs := by rw [whole]
    have same : (z.event .channel).chan ch = z.chan ch := rfl
    refine ⟨by rw [same, chan]; rfl, fun i h => ?_, ⟨_, _, _, same.trans chan⟩, fun k ne => others k ne, by rw [State.event_regs, regs]; rfl, ?_, frame⟩
    · rw [same, chan]
      dsimp only
      rw [BitVec.getLsbD_or]
      rcases h with h | ⟨_, rfl⟩
      · rw [h, Bool.true_or]
      · rw [show Flag.latched.bit.getLsbD 7 = true from rfl, Bool.or_true]
    · rw [State.event, State.modRegs, whole]

/-! ### The conditions of a failed transfer (R175) -/

theorem foldl_or_of_mem {fs : List Flag} {f : Flag} {i : Nat} (mem : f ∈ fs) (bit : f.bit.getLsbD i = true) :
    ∀ a : BitVec 8, (fs.foldl (fun a f => a ||| f.bit) a).getLsbD i = true := by
  induction fs with
  | nil => exact absurd mem List.not_mem_nil
  | cons k fs ih =>
    intro a
    rw [List.foldl_cons]
    rcases List.mem_cons.1 mem with rfl | tail
    · exact foldl_or_getLsbD fs (by rw [BitVec.getLsbD_or, bit, Bool.or_true])
    · exact ih tail _

theorem transferFault_conditions (x : State) (r : Transfer) (f : TFail) (kind : List Byte) :
    Flag.transferFailed ∈ ({ CellEnd.failed (transferFault x r f) with kind := kind } : CellEnd).conditions ∧
      (f.stage = .transport → Flag.transport ∈ ({ CellEnd.failed (transferFault x r f) with kind := kind } : CellEnd).conditions) ∧
      (f.stage = .queue → Flag.queueLost ∈ ({ CellEnd.failed (transferFault x r f) with kind := kind } : CellEnd).conditions) := by
  unfold CellEnd.conditions CellEnd.failed CellEnd.done transferFault
  refine ⟨?_, fun stage => ?_, fun stage => ?_⟩
  · simp [FaultRec.core]
  · simp [FaultRec.core, stage]
  · simp [FaultRec.core, stage]

/-! ### The failure (R136) -/

/-- The record of a failed transfer. -/
def Transfer.asFailed (r : Transfer) : Transfer :=
  { r with phase := .failed, feed := none, ka := none, withdrawn := none, out := none, pending := none }

/-- The failure of the transfer `r` of cell `c`. -/
structure TransferFails (x y : State) (c : Fin 32) (r : Transfer) (f : TFail) : Prop where
  failed : EndsFailed y c .transfer f.reason
  fault : ∀ o b, 2 ≤ o → o < 16 → ((transferFault x r f).tail x)[o]? = some b → y.mem.read (cellBase c + 84 + o) = b
  kind : y.mem.bytes (cellBase c + 100) 28 = r.asFailed.progressed.progressBytes (x.cell c).captured
  cells : OnlyCellState x y c
  cell : y.cell c = { x.cell c with st := .failed }
  transfer : y.transfer c = none
  transfers : ∀ d, d ≠ c → y.transfer d = x.transfer d
  slot : ∀ n : Fin 8, y.slot n = if ((x.slot n).st = .held ∨ (x.slot n).st = .sending) ∧ (x.slot n).owner = c.val
    then { x.slot n with st := .free } else x.slot n
  latch : (y.chan r.channel).latch = if r.touched then some r.target else (x.chan r.channel).latch
  latched : r.touched = true → y.regs.event.getLsbD 7 = true ∧ (y.chan r.channel).accrued.getLsbD 7 = true
  accrued : ∀ ch, channelNamed (x.cell c).captured = some ch → (y.chan ch).accrued.getLsbD 4 = true ∧
    (f.stage = .transport → (y.chan ch).accrued.getLsbD 2 = true) ∧ (f.stage = .queue → (y.chan ch).accrued.getLsbD 1 = true)
  chans : ∀ ch, ch ≠ r.channel → channelNamed (x.cell c).captured ≠ some ch → y.chan ch = x.chan ch
  regs : y.regs = { x.regs with done := x.regs.done ||| (1#32 <<< c.val), irq := y.regs.irq
                                event := x.regs.event ||| if r.touched then Event.channel.bit else 0 }
  cm : y.cm = { x.cm with lampInd := y.cm.lampInd, lit := y.cm.lit, blink := y.cm.blink }
  lamp : LampShows x y
  whole : y = { x with board := y.board, regs := y.regs, mem := y.mem, info := y.info, chans := y.chans, slots := y.slots
                       transfers := y.transfers, cm := y.cm }
  frame : MemFrame x y fun a => EndPlaces c a ∨ (∃ n : Fin 8, (x.slot n).owner = c.val ∧ Within (slotBase n) 2 a) ∨
    (∃ ch, (ch = r.channel ∨ channelNamed (x.cell c).captured = some ch) ∧ Within (chanBase ch) 32 a) ∨ InfoPlaces 0x19 2 a
  counts : ∀ k, (y.chan k).run = (x.chan k).run ∧ (y.chan k).admitted = (x.chan k).admitted

/-- In an event that has written into the Information Block the lamp leaves its record as it is. -/
theorem State.lampRefresh_info_open {x : State} (dirty : x.info.dirty = true) : x.lampRefresh.info = x.info := by
  rw [State.lampRefresh_info]
  split
  · rfl
  · rw [← dirty]

theorem State.transferFail_eq {x : State} {c : Fin 32} {r : Transfer} (f : TFail) :
    let u := (((x.modTransfer c Transfer.asFailed).freeSlots c).wrProgress c)
    let v := if r.touched then u.latchSet r.channel r.target else u
    u.transfer c = some r.asFailed.progressed → x.transferFail c f =
      (v.endCell c { CellEnd.failed (transferFault v r.asFailed.progressed f) with kind := r.asFailed.progressed.progressBytes (v.cell c).captured }).releaseTransfer c := by
  intro u v there
  unfold State.transferFail
  dsimp only
  rw [show ((x.modTransfer c fun t =>
    { t with phase := .failed, feed := none, ka := none, withdrawn := none, out := none, pending := none }).freeSlots c).wrProgress c = u from rfl, there]
  rfl

/-- The failure of a transfer, and what it leaves of the record of the Information Block. -/
theorem transferFails_open {x : State} {c : Fin 32} {r : Transfer} (here : x.transfer c = some r) (f : TFail) :
    TransferFails x (x.transferFail c f) c r f ∧ (x.info.dirty = true → (x.transferFail c f).info = x.info) := by
  have eq := State.transferFail_eq (x := x) (c := c) (r := r) f
  dsimp only at eq
  obtain ⟨x1, hx1⟩ : ∃ x1, x1 = x.modTransfer c Transfer.asFailed := ⟨_, rfl⟩
  have t1 : x1.transfer c = some r.asFailed := by rw [hx1, State.transfer_modTransfer, here]; rfl
  have o1 : ∀ d, d ≠ c → x1.transfer d = x.transfer d := fun d ne => by rw [hx1, State.transfer_modTransfer_ne _ _ ne]
  have w1 : x1 = { x with transfers := x1.transfers } := by rw [hx1]; rfl
  rw [← hx1] at eq
  clear hx1
  have slot1 : ∀ n, x1.slot n = x.slot n := fun n => by rw [w1]; rfl
  have freed := slotsFreed x1 c
  generalize x1.freeSlots c = x2 at eq freed
  have t2 : ∀ d, x2.transfer d = x1.transfer d := fun d => by rw [freed.whole]; rfl
  have progress := progressWritten ((t2 c).trans t1)
  generalize x2.wrProgress c = x3 at eq progress
  replace eq := eq progress.transfer
  have latch := latched x3 r.channel r.touched r.target
  generalize (if r.touched then x3.latchSet r.channel r.target else x3) = x4 at eq latch
  have w3 : x3 = { x with transfers := x3.transfers, slots := x3.slots, mem := x3.mem } := by rw [progress.whole, freed.whole, w1]
  have w4 : x4 = { x with transfers := x4.transfers, slots := x4.slots, mem := x4.mem, chans := x4.chans, regs := x4.regs } := by
    have lw := latch.whole
    rw [lw, w3]
  have c4 : ∀ d, x4.cell d = x.cell d := fun d => by rw [w4]; rfl
  have ch3 : ∀ k, x3.chan k = x.chan k := fun k => by rw [w3]; rfl
  have r3 : x3.regs = x.regs := by rw [w3]
  have t4 : ∀ d, x4.transfer d = x3.transfer d := fun d => by rw [latch.whole]; rfl
  have s4 : ∀ n, x4.slot n = x2.slot n := fun n => by rw [latch.whole, progress.whole]; rfl
  have fault4 : transferFault x4 r.asFailed.progressed f = transferFault x r f := by
    unfold transferFault State.segmentOf
    rw [w4]
    rfl
  rw [c4, fault4] at eq
  have ended := cellOver x4 c { CellEnd.failed (transferFault x r f) with kind := r.asFailed.progressed.progressBytes (x.cell c).captured }
  have conditions : ∀ i, (i = 4 ∨ f.stage = .transport ∧ i = 2 ∨ f.stage = .queue ∧ i = 1) → ∀ a : BitVec 8,
      (({ CellEnd.failed (transferFault x r f) with kind := r.asFailed.progressed.progressBytes (x.cell c).captured } : CellEnd).conditions.foldl
        (fun a f => a ||| f.bit) a).getLsbD i = true := by
    obtain ⟨failed, transport, lost⟩ := transferFault_conditions x r f (r.asFailed.progressed.progressBytes (x.cell c).captured)
    rintro i (rfl | ⟨stage, rfl⟩ | ⟨stage, rfl⟩)
    · exact foldl_or_of_mem failed rfl
    · exact foldl_or_of_mem (transport stage) rfl
    · exact foldl_or_of_mem (lost stage) rfl
  generalize hend : ({ CellEnd.failed (transferFault x r f) with kind := r.asFailed.progressed.progressBytes (x.cell c).captured } : CellEnd) = e
    at eq ended conditions
  have fault : e.fault = some (transferFault x r f) := by rw [← hend]; rfl
  have ekind : e.kind = r.asFailed.progressed.progressBytes (x.cell c).captured := by rw [← hend]
  have state : e.state = .failed := by rw [CellEnd.state, fault]
  generalize x4.endCell c e = x5 at eq ended
  obtain ⟨x6, hx6⟩ : ∃ x6, x6 = x5.setTransfer c none := ⟨_, rfl⟩
  have t6 : x6.transfer c = none := by rw [hx6, State.transfer_setTransfer]
  have o6 : ∀ d, d ≠ c → x6.transfer d = x5.transfer d := fun d ne => by rw [hx6, State.transfer_setTransfer_ne _ _ ne]
  have w6 : x6 = { x5 with transfers := x6.transfers } := by rw [hx6]; rfl
  rw [State.releaseTransfer, ← hx6] at eq
  clear hx6
  have lampWhole := x6.lampRefresh_whole
  have lampCm := x6.lampRefresh_cm
  have lampInfo := fun dirty : x6.info.dirty = true => x6.lampRefresh_info_open dirty
  have lampFrame := x6.lampRefresh_frame
  have lampShows := x6.lampRefresh_shows
  rw [eq]
  generalize x6.lampRefresh = y at *
  have w5 : x5 = { x with board := x5.board, transfers := x5.transfers, slots := x5.slots, mem := x5.mem, chans := x5.chans, regs := x5.regs } := by
    rw [ended.whole, w4]
  have whole : y = { x with board := y.board, regs := y.regs, mem := y.mem, info := y.info, chans := y.chans, slots := y.slots
                            transfers := y.transfers, cm := y.cm } := by rw [lampWhole, w6, w5]
  have cm6 : x6.cm = x.cm := by rw [w6, w5]
  have ycell : ∀ d, y.cell d = x5.cell d := fun d => by rw [lampWhole, w6]; rfl
  have ychan : ∀ k, y.chan k = x5.chan k := fun k => by rw [lampWhole, w6]; rfl
  have ytransfer : ∀ d, y.transfer d = x6.transfer d := fun d => by rw [lampWhole]; rfl
  have yslot : ∀ n, y.slot n = x2.slot n := fun n => by rw [← s4, lampWhole, w6, ended.whole]; rfl
  have yregs : y.regs = x5.regs := by rw [lampWhole, w6]
  have low : MemFrame x5 y (Within 0x19 2) := by
    rw [w6] at lampFrame
    exact lampFrame
  have apart : ∀ a, EndPlaces c a → ¬ Within 0x19 2 a := fun a place lamp => by
    have bounds := cellBase_bounds c
    unfold EndPlaces at place
    unfold Within at *
    omega
  have over5 := ended.failed _ fault
  have named4 : channelNamed (x4.cell c).captured = channelNamed (x.cell c).captured := by rw [c4]
  have chan5 := ended.chan
  have chans5 := ended.chans
  have frame5 := ended.frame
  have cells5 := ended.cells
  have cell5 := ended.cell
  rw [named4] at chan5 chans5 frame5
  rw [c4] at cell5
  have bits : ∀ k i, (x4.chan k).accrued.getLsbD i = true → (x5.chan k).accrued.getLsbD i = true := fun k i set => by
    by_cases mine : channelNamed (x.cell c).captured = some k
    · rw [chan5 k mine]
      exact foldl_or_getLsbD _ set
    · rw [chans5 k mine]
      exact set
  have latchKept : ∀ k, (x5.chan k).latch = (x4.chan k).latch := fun k => by
    by_cases mine : channelNamed (x.cell c).captured = some k
    · rw [chan5 k mine]
    · rw [chans5 k mine]
  refine ⟨⟨over5.later (by rw [ycell]) low apart (by rw [yregs]), fun o b two lt hit => ?_, ?_, ?_, ?_, ?_, fun d ne => ?_, fun n => ?_, ?_,
    fun touched => ⟨?_, ?_⟩, fun ch named => ⟨?_, fun stage => ?_, fun stage => ?_⟩, fun ch other unnamed => ?_, ?_, ?_, fun changed => ?_, whole, ?_,
    fun k => ?_⟩, fun dirty => ?_⟩
  · have bounds := cellBase_bounds c
    rw [low _ (by unfold Within; omega)]
    refine ended.fault _ fault o b lt ?_
    rw [← hit, FaultRec.tail_congr (x := x) (y := x4) _ (by rw [w4]) (by rw [w4])]
  · have bounds := cellBase_bounds c
    rw [low.bytes fun i _ => by unfold Within; omega, ended.kind 28 (by rw [ekind, Transfer.progressBytes_length]) (Nat.le_refl 28), ekind]
  · have only := cells5.of_board (s := x) (by rw [w4])
    obtain ⟨posts, cell, others⟩ := only
    refine ⟨?_, by rw [ycell]; exact cell, fun d ne => by rw [ycell, others d ne]⟩
    rw [← posts, lampWhole, w6]
  · rw [ycell, cell5, state]
  · rw [ytransfer, t6]
  · rw [ytransfer, o6 d ne, ended.whole]
    refine (t4 d).trans ?_
    rw [progress.transfers d ne, t2, o1 d ne]
  · rw [yslot, freed.slot, slot1]
    simp only [List.mem_finRange, true_and, Slot.owned_iff]
  · rw [ychan, latchKept, latch.latch, ch3]
  · rw [yregs, ended.regs]
    dsimp only
    rw [latch.regs, touched]
    simp [Event.bit]
  · rw [ychan]
    exact bits _ _ (latch.accrued 7 (.inr ⟨touched, rfl⟩))
  · rw [ychan, chan5 ch named]
    exact conditions 4 (.inl rfl) _
  · rw [ychan, chan5 ch named]
    exact conditions 2 (.inr (.inl ⟨stage, rfl⟩)) _
  · rw [ychan, chan5 ch named]
    exact conditions 1 (.inr (.inr ⟨stage, rfl⟩)) _
  · rw [ychan, chans5 ch unnamed, latch.chans ch other, ch3]
  · rw [yregs, ended.regs, latch.regs, r3]
  · rw [lampCm, cm6]
  · exact lampShows (by rw [cm6]; exact changed)
  · have first : MemFrame x x2 fun a => ∃ n ∈ List.finRange 8, (x1.slot n).owned c = true ∧ Within (slotBase n) 2 a := by
      intro a out
      rw [freed.frame a out, w1]
    refine ((first.both (progress.frame.both latch.frame)).both (frame5.both low)).mono ?_
    rintro a ((⟨n, _, owned, word⟩ | area | chan) | (place | ⟨ch, named, chan⟩) | lamp)
    · rw [slot1, Slot.owned_iff] at owned
      exact .inr (.inl ⟨n, owned.2, word⟩)
    · refine .inl (.inr ?_)
      unfold Within at *
      omega
    · exact .inr (.inr (.inl ⟨_, .inl rfl, chan⟩))
    · exact .inl place
    · exact .inr (.inr (.inl ⟨ch, .inr named, chan⟩))
    · exact .inr (.inr (.inr (.inl lamp)))
  · have accrues : (x5.chan k).run = (x4.chan k).run ∧ (x5.chan k).admitted = (x4.chan k).admitted := by
      by_cases mine : channelNamed (x.cell c).captured = some k
      · rw [chan5 k mine]
        exact ⟨rfl, rfl⟩
      · rw [chans5 k mine]
        exact ⟨rfl, rfl⟩
    have latches : (x4.chan k).run = (x3.chan k).run ∧ (x4.chan k).admitted = (x3.chan k).admitted := by
      by_cases same : k = r.channel
      · obtain ⟨l, a, n, kept⟩ := latch.kept
        rw [same, kept]
        exact ⟨rfl, rfl⟩
      · rw [latch.chans k same]
        exact ⟨rfl, rfl⟩
    rw [ychan, accrues.1, accrues.2, latches.1, latches.2, ch3]
    exact ⟨rfl, rfl⟩
  · have same : x6.info = x.info := by rw [w6, w5]
    rw [lampInfo (by rw [same]; exact dirty), same]

theorem transferFails {x : State} {c : Fin 32} {r : Transfer} (here : x.transfer c = some r) (f : TFail) :
    TransferFails x (x.transferFail c f) c r f := (transferFails_open here f).1

section
variable {x y : State} {c : Fin 32} {r : Transfer} {f : TFail} (fails : TransferFails x y c r f)
include fails

theorem TransferFails.released : TransferReleased x y c r f.reason :=
  ⟨fails.failed, fails.transfer, fails.transfers, fails.slot, fails.latch, fails.latched⟩

theorem TransferFails.transferFailed : TransferFailed x y c r f.reason := ⟨fails.released, fails.cells⟩

/-- The end of the event leaves what the failure has done. -/
theorem TransferFails.closes (closed : Closes y t) : TransferFails x t c r f := by
  obtain ⟨failed, fault, kind, cells, cell, transfer, transfers, slot, latch, latched, accrued, chans, regs, cm, lamp, whole, frame, counts⟩ := fails
  have bounds := cellBase_bounds c
  have tcm := closed.cm
  refine ⟨closed.endsFailed failed, fun o b two lt hit => ?_, by rw [closed.above (by omega), kind], closed.onlyCell cells, by rw [closed.cell, cell], by rw [closed.transfer, transfer],
    fun d ne => by rw [closed.transfer, transfers d ne], fun n => by rw [closed.slot, slot], by rw [closed.chan, latch], fun touched => ?_,
    fun ch named => ?_, fun ch other unnamed => by rw [closed.chan, chans ch other unnamed], ?_, by rw [tcm, cm],
    lamp.later (by rw [tcm]) (by rw [tcm]) closed.frame fun a => infoShared_not_lamp, ?_, ?_, fun k => by rw [closed.chan]; exact counts k⟩
  · rw [closed.read (by omega)]
    exact fault o b two lt hit
  · rw [closed.event, closed.chan]
    exact latched touched
  · rw [closed.chan]
    exact accrued ch named
  · have eq := closed.regs
    rw [regs] at eq
    rw [eq]
  · have eq := closed.whole
    have chans : t.chans = y.chans := by rw [closed.whole]
    have slots : t.slots = y.slots := by rw [closed.whole]
    have transfers : t.transfers = y.transfers := by rw [closed.whole]
    rw [whole] at eq
    dsimp only at eq
    rw [← closed.board, ← chans, ← slots, ← transfers, ← closed.cm] at eq
    exact eq
  · refine (frame.both closed.frame).mono ?_
    rintro a ((place | slot | chan | info) | shared)
    · exact .inl place
    · exact .inr (.inl slot)
    · exact .inr (.inr (.inl chan))
    · exact .inr (.inr (.inr info))
    · exact .inr (.inr (.inr (.inr shared)))

end


end Sys2Proof.Machine
end

section
/-! PROOFS. Causes at transfers, and the timers of transfers (R125 to R127, R132). -/

namespace Sys2Proof.Machine

variable {s t : State}

/-! ### Causes (R132) -/

/-- The failure of a transfer as seen from before what else the event did. -/
theorem TransferFailed.seen {x z y : State} {c : Fin 32} {r q : Transfer} {reason : Reason} (failed : TransferFailed z y c r reason)
    (board : z.board = x.board) (slots : z.slots = x.slots) (chans : z.chans = x.chans) (transfers : ∀ d, d ≠ c → z.transfer d = x.transfer d)
    (channel : q.channel = r.channel) (target : q.target = r.target) (touched : q.touched = r.touched) : TransferFailed x y c q reason := by
  obtain ⟨⟨ends, gone, others, slot, latch, latched⟩, cells⟩ := failed
  have zslot : ∀ n, z.slot n = x.slot n := fun n => by rw [State.slot, slots, State.slot]
  have zchan : ∀ k, z.chan k = x.chan k := fun k => by rw [State.chan, chans, State.chan]
  refine ⟨⟨ends, gone, fun d ne => (others d ne).trans (transfers d ne), fun n => ?_, ?_, ?_⟩, cells.of_board board⟩
  · rw [slot, zslot]
  · rw [channel, target, touched, latch, zchan]
  · rw [channel, touched]
    exact latched

/-- A cause that finds nothing pending and no exchange in a context acts at once. -/
theorem State.transferCause_acts {x : State} {c : Fin 32} {r : Transfer} (here : x.transfer c = some r) (free : r.pending = none)
    (apart : r.out.any Outst.inCtx = false) (reason : Reason) :
    x.transferCause c reason = (x.dropEntry c).transferFail c (.plain reason .transfer r.standing) := by
  unfold State.transferCause
  rw [here]
  dsimp only
  rw [free, apart, if_neg (by decide), if_neg (by decide)]

/-- Settles O58's feed timer. -/
theorem feedTimer {c : Fin 32} {r : Transfer} (here : s.transfer c = some r) (due : s.due r.feed = true)
    (quiet : r.out = none) (free : r.pending = none) (noEntry : s.entryOf c = none) :
    ∃ t, exec (.feedTimerExpiry c) s = .next t ∧ TransferFailed s t c r .feedTimeout ∧ t.segs = s.segs ∧
      t.cm = { s.cm with lampInd := t.cm.lampInd, lit := t.cm.lit, blink := t.cm.blink } ∧ LampShows s t ∧
      t = { s with board := t.board, regs := t.regs, mem := t.mem, info := t.info, chans := t.chans, slots := t.slots,
                   transfers := t.transfers, cm := t.cm } ∧
      MemFrame s t fun a => EndPlaces c a ∨ (∃ n : Fin 8, (s.slot n).owner = c.val ∧ Within (slotBase n) 2 a) ∨
        (∃ ch, (ch = r.channel ∨ channelNamed (s.cell c).captured = some ch) ∧ Within (chanBase ch) 32 a) ∨ InfoPlaces 0x19 2 a := by
  obtain ⟨x, hx⟩ : ∃ x, x = s.modTransfer c fun q => { q with feed := none } := ⟨_, rfl⟩
  have there : x.transfer c = some { r with feed := none } := by
    rw [hx, State.transfer_modTransfer, here]
    rfl
  have whole : x = { s with transfers := x.transfers } := by rw [hx]; rfl
  have others : ∀ d, d ≠ c → x.transfer d = s.transfer d := fun d ne => by rw [hx, State.transfer_modTransfer_ne _ _ ne]
  have entry : x.entryOf c = none := by rw [whole]; exact noEntry
  have acts := State.transferCause_acts there free (by rw [quiet]; rfl) .feedTimeout
  rw [(dropped x c).same entry] at acts
  have fails := transferFails there (.plain .feedTimeout .transfer ({ r with feed := none } : Transfer).standing)
  rw [← acts] at fails
  have runs : exec (.feedTimerExpiry c) s = .next (x.transferCause c .feedTimeout).finish := by
    refine (show exec (.feedTimerExpiry c) s = execFeedTimerExpiry c s from rfl).trans ?_
    unfold execFeedTimerExpiry
    rw [here]
    dsimp only
    rw [if_pos due, ← hx]
    rfl
  clear hx
  have done := fails.closes (closes (x.transferCause c .feedTimeout))
  generalize (x.transferCause c .feedTimeout).finish = t at runs done
  have cm : x.cm = s.cm := by rw [whole]
  have tcm := done.cm
  rw [cm] at tcm
  refine ⟨t, runs, done.transferFailed.seen (by rw [whole]) (by rw [whole]) (by rw [whole]) others rfl rfl rfl, ?_, tcm, ?_, ?_, ?_⟩
  · rw [done.whole, whole]
  · intro changed
    exact done.lamp (by rw [cm]; exact changed)
  · have eq := done.whole
    rw [whole] at eq
    exact eq
  · have frame := done.frame
    rw [whole] at frame
    exact frame

/-! ### Keep-alive (R127) -/

/-- A segment that an entry leaves is as open, and as ready to start, as before. -/
theorem Dropped.waits {y : State} {c : Fin 32} {g : Fin 4} (drop : Dropped s y c) (waits : Waits s g) : Waits y g := by
  cases entry : s.entryOf c with
  | none => rw [drop.same entry]; exact waits
  | some pair =>
    obtain ⟨seg, others⟩ := drop.seg pair.1 pair.2 entry
    by_cases same : g = pair.1
    · subst same
      rw [Waits, seg]
      exact waits
    · rw [Waits, others g same]
      exact waits

theorem Dropped.hostDisable {y : State} {c : Fin 32} (drop : Dropped s y c) (g : Fin 4) : (y.seg g).hostDisable = (s.seg g).hostDisable := by
  cases entry : s.entryOf c with
  | none => rw [drop.same entry]
  | some pair =>
    obtain ⟨seg, others⟩ := drop.seg pair.1 pair.2 entry
    by_cases same : g = pair.1
    · subst same
      rw [seg]
    · rw [others g same]

theorem State.openSegment_of {x : State} {target : Nat} {g : Fin 4} (route : s.segmentOf target = some g) (on : s.enabled g = true)
    (active : x.ps.active = s.ps.active) (marks : ∀ h, (x.seg h).hostDisable = (s.seg h).hostDisable) : x.openSegment target = some g := by
  have same : (fun g => x.enabled g) = fun g => s.enabled g := by
    funext h
    rw [State.enabled, State.enabled, active, marks]
  rw [State.openSegment, State.segmentOf, active, same, ← State.segmentOf, route]
  simp [Option.filter, on]

/-- The record of a transfer whose waiting exchange is withdrawn for a keep-alive. -/
def Transfer.aside (held : Option (Fin 4 × Entry × Nat)) (r : Transfer) : Transfer := { r with ka := none, out := none, withdrawn := held }

/-- The exchange of a transfer that waits in a lane, with its lane's entry and its block. -/
def State.withheld (s : State) (c : Fin 32) (r : Transfer) : Option (Fin 4 × Entry × Nat) :=
  match r.out, s.entryOf c with
  | some o, some (g, e) => some (g, e, o.block)
  | _, _ => none

/-- What a keep-alive does that finds `held` waiting. -/
theorem keepalive {c : Fin 32} {r : Transfer} {g : Fin 4} {held : Option (Fin 4 × Entry × Nat)} (settled : Settled s)
    (here : s.transfer c = some r) (due : s.due r.ka = true) (apart : r.out.any Outst.inCtx = false)
    (route : s.segmentOf r.target = some g) (on : s.enabled g = true) (waits : Waits s g)
    (found : s.withheld c r = held) :
    ∃ x t e, Dropped s x c ∧ exec (.keepaliveTimerExpiry c) s = .next t ∧ t.transfer c = some ((r.aside held).handed .keepalive 0) ∧
      (∀ d, d ≠ c → t.transfer d = s.transfer d) ∧
      t.seg g = { x.seg g with lanes := (x.seg g).lanes.mod .urgent (· ++ [e]), counter := (x.seg g).counter + 1 } ∧
      (∀ h, h ≠ g → t.seg h = x.seg h) ∧ e.cell = c ∧ e.role = .keepalive ∧ e.target = r.target ∧ e.lane = .urgent ∧
      e.deadline = s.time.ms + BitVec.ofNat 32 (queueLimit (s.cell c).captured 30000) ∧
      t = { s with mem := t.mem, segs := t.segs, transfers := t.transfers } ∧ MemFrame x t (Within (segBase g) 128) := by
  have drop := dropped s c
  have does : s.keepaliveExpire c r = ((s.dropEntry c).modTransfer c (Transfer.aside held)).handOver c .keepalive 0 := by
    subst found
    rfl
  have runs : exec (.keepaliveTimerExpiry c) s = .next (s.keepaliveExpire c r).finish := by
    refine (show exec (.keepaliveTimerExpiry c) s = execKeepaliveTimerExpiry c s from rfl).trans ?_
    unfold execKeepaliveTimerExpiry
    rw [here]
    dsimp only
    rw [due, apart]
    rfl
  generalize s.dropEntry c = x at drop does
  obtain ⟨v, hv⟩ : ∃ v, v = x.modTransfer c (Transfer.aside held) := ⟨_, rfl⟩
  rw [← hv] at does
  have xtransfer : ∀ d, x.transfer d = s.transfer d := fun d => by rw [drop.whole]; rfl
  have vtransfer : v.transfer c = some (r.aside held) := by rw [hv, State.transfer_modTransfer, xtransfer, here]; rfl
  have vothers : ∀ d, d ≠ c → v.transfer d = s.transfer d := fun d ne => by rw [hv, State.transfer_modTransfer_ne _ _ ne, xtransfer]
  have vwhole : v = { x with transfers := v.transfers } := by rw [hv]; rfl
  clear hv
  have vseg : ∀ h, v.seg h = x.seg h := fun h => by rw [vwhole]; rfl
  have vall : v = { s with segs := v.segs, mem := v.mem, transfers := v.transfers } := by rw [vwhole, drop.whole]
  have opens : v.openSegment (r.aside held).target = some g :=
    State.openSegment_of route on (by rw [vall]) fun h => by rw [vseg, drop.hostDisable]
  rw [State.handOver_open vtransfer opens] at does
  obtain ⟨u, hu⟩ : ∃ u, u = v.modTransfer c (Transfer.handed .keepalive 0) := ⟨_, rfl⟩
  rw [← hu] at does
  have utransfer : u.transfer c = some ((r.aside held).handed .keepalive 0) := by rw [hu, State.transfer_modTransfer, vtransfer]; rfl
  have uothers : ∀ d, d ≠ c → u.transfer d = s.transfer d := fun d ne => by rw [hu, State.transfer_modTransfer_ne _ _ ne, vothers d ne]
  have uwhole : u = { v with transfers := u.transfers } := by rw [hu]; rfl
  clear hu
  have useg : ∀ h, u.seg h = x.seg h := fun h => by rw [uwhole, ← vseg]; rfl
  generalize he : v.newEntry g c (r.aside held).target .keepalive ((r.aside held).codes.of .keepalive)
    (v.msIn (queueLimit (v.cell c).captured 30000)) = e at does
  have lane : e.lane = .urgent := by rw [← he]; rfl
  have deadline : e.deadline = s.time.ms + BitVec.ofNat 32 (queueLimit (s.cell c).captured 30000) := by
    rw [← he, vall]
    rfl
  have join := joined (x := u) e (g := g) (by rw [Waits, useg]; exact drop.waits waits)
  rw [← does] at join
  generalize s.keepaliveExpire c r = t at runs join
  have whole : t = { s with mem := t.mem, segs := t.segs, transfers := t.transfers } := by
    have transfers : t.transfers = u.transfers := by rw [join.whole]
    have eq := join.whole
    rw [uwhole, vall] at eq
    dsimp only at eq
    rw [← transfers] at eq
    exact eq
  have still : Settled t := by rw [whole]; exact settled
  rw [still.finish] at runs
  have seg := join.seg
  rw [useg, lane] at seg
  refine ⟨x, t, e, drop, runs, ?_, fun d ne => ?_, seg, fun h ne => by rw [join.segs h ne, useg], by rw [← he]; rfl, by rw [← he]; rfl,
    by rw [← he]; rfl, lane, deadline, whole, ?_⟩
  · have same : t.transfer c = u.transfer c := by rw [join.whole]; rfl
    rw [same, utransfer]
  · have same : t.transfer d = u.transfer d := by rw [join.whole]; rfl
    rw [same, uothers d ne]
  · intro a out
    rw [join.frame a out, uwhole, vwhole]

/-- Settles O58. -/
theorem transferTimers : Obligations.TransferTimers := by
  unfold Obligations.TransferTimers
  intro c r g s settled here
  refine ⟨fun due quiet free noEntry => feedTimer here due quiet free noEntry, ?_⟩
  intro due route on waits joins
  refine ⟨fun quiet noEntry => ?_, fun o h e out notCtx entry => ?_⟩
  · obtain ⟨x, t, e, drop, runs, mine, others, seg, segs, cell, role, target, lane, deadline, whole, frame⟩ :=
      keepalive (held := none) settled here due (by rw [quiet]; rfl) route on waits (by rw [State.withheld, quiet])
    obtain rfl := drop.same noEntry
    exact ⟨t, runs, mine, ⟨e, by rw [seg]; rfl, cell, role, target, lane, deadline⟩, by rw [seg], others, segs, whole, frame⟩
  · obtain ⟨x, t, k, drop, runs, mine, others, seg, segs, cell, role, target, lane, deadline, whole, frame⟩ :=
      keepalive (held := some (h, e, o.block)) settled here due (by rw [out]; exact notCtx) route on waits (by rw [State.withheld, out, entry])
    obtain ⟨left, rest⟩ := drop.seg h e entry
    have stored := (drop.frame.both frame).mono (q := fun a => Within (segBase g) 128 a ∨ Within (segBase h) 128 a) (by
      rintro a (⟨j, d, eq, inside⟩ | inside)
      · obtain ⟨rfl, _⟩ := Prod.mk.inj (Option.some.inj (entry.symm.trans eq))
        exact .inr inside
      · exact .inl inside)
    by_cases same : h = g
    · subst same
      rw [left] at seg
      refine ⟨t, runs, mine, ⟨k, by rw [seg, if_pos rfl]; rfl, cell, role, target, lane, deadline⟩, fun ne => absurd rfl ne, ?_, others,
        fun j ne _ => by rw [segs j ne, rest j ne], whole, stored⟩
      rw [seg, if_pos rfl]
      have two : (s.seg h).counter + 1 + 1 = (s.seg h).counter + 2 := BitVec.add_assoc _ 1 1
      dsimp only
      rw [two]
    · rw [rest g fun eq => same eq.symm] at seg
      refine ⟨t, runs, mine, ⟨k, by rw [seg, if_neg same]; rfl, cell, role, target, lane, deadline⟩, fun ne => by rw [segs h ne, left], ?_, others,
        fun j ne other => by rw [segs j ne, rest j other], whole, stored⟩
      rw [seg, if_neg same]

end Sys2Proof.Machine
end

section
/-! PROOFS. The end of a watch, as one rule (R149, R150). -/

namespace Sys2Proof.Machine

variable {s t : State}

theorem Mem.bytes_part (m : Mem) (a : Nat) {n i k : Nat} (h : i + k ≤ n) : m.bytes (a + i) k = ((m.bytes a n).drop i).take k := by
  unfold Mem.bytes
  refine List.ext_getElem ?_ fun j first second => ?_
  · simp
    omega
  · simp [Nat.add_assoc]

theorem FaultRec.tail_accs {x y : State} (f : FaultRec) (accs : ∀ g, (y.seg g).acc = (x.seg g).acc) (vsm : y.vsm = x.vsm) : f.tail y = f.tail x := by
  unfold FaultRec.tail
  simp only [accs, vsm]

theorem Dropped.accs {y : State} {c : Fin 32} (drop : Dropped s y c) (g : Fin 4) : (y.seg g).acc = (s.seg g).acc := by
  cases entry : s.entryOf c with
  | none => rw [drop.same entry]
  | some pair =>
    obtain ⟨seg, others⟩ := drop.seg pair.1 pair.2 entry
    by_cases same : g = pair.1
    · subst same
      rw [seg]
    · rw [others g same]

/-! ### The fields of a watch (R151) -/

theorem Watch.kindBytes_length (w : Watch) : w.kindBytes.length = 28 := by
  simp [Watch.kindBytes, Watch.countBytes_length, Sample.bytes]

theorem Watch.kindBytes_counts (w : Watch) : (w.kindBytes.drop 8).take 20 = w.countBytes := by
  have head : (le16 w.seq.toNat ++ w.sample.bytes).length = 8 := by simp [Sample.bytes]
  rw [Watch.kindBytes, ← head, List.drop_left, ← w.countBytes_length, List.take_length]

/-- The counts of a watch, written as they stand. -/
structure CountsWritten (x y : State) (c : Fin 32) (w : Watch) : Prop where
  bytes : y.mem.bytes (cellBase c + 108) 20 = w.countBytes
  whole : y = { x with mem := y.mem }
  frame : MemFrame x y (Within (cellBase c + 108) 20)

theorem countsWritten {x : State} {c : Fin 32} {w : Watch} (here : x.watch c = some w) : CountsWritten x (x.wrCounts c) c w := by
  have bounds := cellBase_bounds c
  have eq : x.wrCounts c = x.wr (cellBase c + 108) w.countBytes := by
    unfold State.wrCounts
    rw [here]
  rw [eq]
  have bytes := Mem.bytes_write x.mem (b := cellBase c + 108) (bs := w.countBytes)
    (by rw [Watch.countBytes_length]; simp only [Config.ramSize]; omega)
  have frame := x.wr_frame (cellBase c + 108) w.countBytes
  rw [Watch.countBytes_length] at bytes frame
  exact ⟨bytes, rfl, frame⟩

/-! ### The end (R149, R150) -/

/-- The conditions of the end of a watch. -/
def watchConditions (f : Option FaultRec) : List Flag := ({ CellEnd.done [] with fault := f } : CellEnd).conditions

/-- The watch `w` of cell `c` has ended, DONE or with a fault record. -/
structure WatchEnds (x y : State) (c : Fin 32) (w : Watch) (f : Option FaultRec) : Prop where
  done : f = none → EndsDone y c
  failed : ∀ r, f = some r → EndsFailed y c r.stage r.reason
  fault : ∀ r, f = some r → ∀ o b, o < 16 → (r.tail x)[o]? = some b → y.mem.read (cellBase c + 84 + o) = b
  counts : y.mem.bytes (cellBase c + 108) 20 = w.countBytes
  kind : y.mem.bytes (cellBase c + 100) 28 = w.kindBytes
  length : y.mem.bytes (cellBase c + 66) 2 = le16 w.sample.length
  cell : y.cell c = { x.cell c with st := (y.cell c).st }
  cells : OnlyCellState x y c
  watches : y.watches = x.watches.set c none
  entry : EntryDropped x y c
  regs : y.regs = { x.regs with done := x.regs.done ||| (1#32 <<< c.val), irq := y.regs.irq }
  chan : ∀ ch, channelNamed (x.cell c).captured = some ch → y.chan ch =
    { x.chan ch with accrued := (watchConditions f).foldl (fun a f => a ||| f.bit) (x.chan ch).accrued, counter := (y.chan ch).counter }
  chans : ∀ ch, channelNamed (x.cell c).captured ≠ some ch → y.chan ch = x.chan ch
  whole : y = { x with board := y.board, regs := y.regs, mem := y.mem, info := y.info, chans := y.chans, segs := y.segs, watches := y.watches }
  clean : x.info.dirty = false → y.info = x.info
  frame : MemFrame x y fun a => EndPlaces c a ∨ (∃ ch, channelNamed (x.cell c).captured = some ch ∧ Within (chanBase ch) 32 a) ∨
    (∃ g e, x.entryOf c = some (g, e) ∧ Within (segBase g) 128 a) ∨ x.info.dirty = true ∧ InfoShared a

theorem watchEnds {x : State} {c : Fin 32} {w : Watch} (here : x.watch c = some w) (f : Option FaultRec) :
    WatchEnds x (x.watchEnd c f) c w f := by
  obtain ⟨y, hy⟩ : ∃ y, y = x.dropEntry c := ⟨_, rfl⟩
  have drop := dropped x c
  rw [← hy] at drop
  have ywatch : y.watch c = some w := by rw [drop.whole]; exact here
  have counted := countsWritten ywatch
  obtain ⟨z, hz⟩ : ∃ z, z = y.wrCounts c := ⟨_, rfl⟩
  rw [← hz] at counted
  have zwatch : z.watch c = some w := by rw [counted.whole]; exact ywatch
  have eq : x.watchEnd c f = (z.endCell c { CellEnd.done w.kindBytes with fault := f, respLen := w.sample.length }).setWatch c none := by
    unfold State.watchEnd
    rw [← hy, ← hz]
    dsimp only
    rw [zwatch]
  clear hy hz
  have conditions : ({ CellEnd.done w.kindBytes with fault := f, respLen := w.sample.length } : CellEnd).conditions = watchConditions f := rfl
  generalize he : ({ CellEnd.done w.kindBytes with fault := f, respLen := w.sample.length } : CellEnd) = e at eq conditions
  have efault : e.fault = f := by rw [← he]
  have ekind : e.kind = w.kindBytes := by rw [← he]; rfl
  have elength : e.respLen = w.sample.length := by rw [← he]
  clear he
  have ended := cellOver z c e
  generalize z.endCell c e = u at eq ended
  rw [eq]
  clear eq
  have zwhole : z = { x with segs := z.segs, mem := z.mem } := by
    have segs : z.segs = y.segs := by rw [counted.whole]
    have eq := counted.whole
    rw [drop.whole] at eq
    dsimp only at eq
    rw [← segs] at eq
    exact eq
  have zcell : ∀ d, z.cell d = x.cell d := fun d => by rw [zwhole]; rfl
  have zchan : ∀ k, z.chan k = x.chan k := fun k => by rw [zwhole]; rfl
  have zregs : z.regs = x.regs := by rw [zwhole]
  have uwatches : u.watches = x.watches := by rw [ended.whole, zwhole]
  have usegs : u.segs = y.segs := by rw [ended.whole, counted.whole]
  obtain ⟨shows, done, failed, kind, -, length, fault, cell, cells, regs, chan, chans, whole, frame⟩ := ended
  rw [zcell] at chan chans frame
  rw [conditions] at chan
  have uinfo : u.info = x.info := by rw [whole, zwhole]
  have cells' := cells.of_board (s := x) (by rw [zwhole])
  obtain ⟨y', hy⟩ : ∃ y', y' = u.setWatch c none := ⟨_, rfl⟩
  rw [← hy]
  have yboard : y'.board = u.board := by rw [hy]; rfl
  have ymem : y'.mem = u.mem := by rw [hy]; rfl
  have yregs : y'.regs = u.regs := by rw [hy]; rfl
  have ychans : y'.chans = u.chans := by rw [hy]; rfl
  have ysegs : y'.segs = u.segs := by rw [hy]; rfl
  have ywatches : y'.watches = u.watches.set c none := by rw [hy]; rfl
  have yinfo : y'.info = u.info := by rw [hy]; rfl
  have ywhole : y' = { u with watches := y'.watches } := by rw [hy]; rfl
  clear hy
  have ychan : ∀ k, y'.chan k = u.chan k := fun k => by rw [State.chan, ychans, State.chan]
  have ycell : ∀ d, y'.cell d = u.cell d := fun d => by rw [State.cell, yboard, State.cell]
  have stay : MemFrame u y' fun _ => False := fun a _ => by rw [ymem]
  refine ⟨fun ok => (done (efault.trans ok)).later (by rw [ycell]) stay (fun _ _ => id) (by rw [yregs]),
    fun r ok => (failed r (efault.trans ok)).later (by rw [ycell]) stay (fun _ _ => id) (by rw [yregs]), fun r ok o b lt hit => ?_, ?_, ?_, ?_, ?_, ?_, ?_,
    drop.entryDropped (ysegs.trans usegs), ?_, fun ch named => ?_, fun ch other => ?_, ?_, fun _ => yinfo.trans uinfo, ?_⟩
  · rw [ymem]
    refine fault r (efault.trans ok) o b lt ?_
    rw [← hit, FaultRec.tail_accs (x := x) (y := z) r (fun g => ?_) (by rw [zwhole])]
    rw [← drop.accs g, State.seg, counted.whole]
    rfl
  · have all := kind 28 (by rw [ekind, Watch.kindBytes_length]) (Nat.le_refl 28)
    rw [ymem]
    refine (Mem.bytes_part u.mem (cellBase c + 100) (n := 28) (i := 8) (k := 20) (by decide)).trans ?_
    rw [all, ekind, Watch.kindBytes_counts]
  · rw [ymem, kind 28 (by rw [ekind, Watch.kindBytes_length]) (Nat.le_refl 28), ekind]
  · rw [ymem, length, elength]
  · rw [ycell, cell, zcell]
  · obtain ⟨posts, only, others⟩ := cells'
    exact ⟨by rw [yboard, posts], by rw [ycell]; exact only, fun d ne => by rw [ycell, others d ne]⟩
  · rw [ywatches, uwatches]
  · rw [yregs, regs, zregs]
  · rw [ychan, chan ch named, zchan]
  · rw [ychan, chans ch other, zchan]
  · have eq := ywhole
    rw [whole, zwhole] at eq
    dsimp only at eq
    have segs : z.segs = y'.segs := by rw [ysegs, whole]
    have info : y'.info = x.info := yinfo.trans uinfo
    rw [← yboard, ← yregs, ← ymem, ← ychans, segs] at eq
    rw [eq]
  · have dropFrame := drop.frame
    refine ((dropFrame.both counted.frame).both (frame.both stay)).mono ?_
    rintro a ((seg | area) | (place | chan) | no)
    · exact .inr (.inr (.inl seg))
    · refine .inl (.inr ?_)
      unfold Within at *
      omega
    · exact .inl place
    · exact .inr (.inl chan)
    · exact no.elim

section
variable {x y : State} {c : Fin 32} {w : Watch} {f : Option FaultRec} (ends : WatchEnds x y c w f)
include ends

/-- The end of the event leaves what the end of the watch has done. -/
theorem WatchEnds.closes (closed : Closes y t) : WatchEnds x t c w f := by
  obtain ⟨done, failed, fault, counts, kind, length, cell, cells, watches, entry, regs, chan, chans, whole, clean, frame⟩ := ends
  have bounds := cellBase_bounds c
  have tsegs : t.segs = y.segs := by rw [closed.whole]
  have twatches : t.watches = y.watches := by rw [closed.whole]
  have tchans : t.chans = y.chans := by rw [closed.whole]
  have tseg : ∀ g, t.seg g = y.seg g := closed.seg
  refine ⟨fun ok => closed.endsDone (done ok), fun r ok => closed.endsFailed (failed r ok), fun r ok o b lt hit => ?_, ?_, ?_, ?_, by rw [closed.cell]; exact cell,
    closed.onlyCell cells, by rw [twatches, watches], ⟨fun none => by rw [tsegs, entry.1 none], fun g e some => ?_⟩, ?_, fun ch named => ?_,
    fun ch other => by rw [closed.chan, chans ch other], ?_, fun still => ?_, ?_⟩
  · rw [closed.read (by omega)]
    exact fault r ok o b lt hit
  · rw [closed.above (by omega)]
    exact counts
  · rw [closed.above (by omega)]
    exact kind
  · rw [closed.above (by omega)]
    exact length
  · obtain ⟨seg, others⟩ := entry.2 g e some
    exact ⟨by rw [tseg, seg], fun h ne => by rw [tseg, others h ne]⟩
  · have eq := closed.regs
    rw [regs] at eq
    rw [eq]
  · rw [closed.chan]
    exact chan ch named
  · have eq := closed.whole
    rw [whole] at eq
    dsimp only at eq
    rw [← closed.board, ← tchans, ← tsegs, ← twatches] at eq
    exact eq
  · have info := clean still
    have dirty : y.info.dirty = false := by rw [info]; exact still
    rw [(closed.clean dirty).2, info]
  · by_cases still : x.info.dirty = false
    · have info := clean still
      have dirty : y.info.dirty = false := by rw [info]; exact still
      intro a out
      rw [(closed.clean dirty).1]
      exact frame a out
    · have dirty : x.info.dirty = true := by simpa using still
      refine (frame.both closed.frame).mono ?_
      rintro a (place | shared)
      · exact place
      · exact .inr (.inr (.inr ⟨dirty, shared⟩))

end

end Sys2Proof.Machine
end

section
/-! PROOFS. A later cycle of a watch falls due (R143, R144). -/

namespace Sys2Proof.Machine

variable {s t : State}

theorem admission_not_refused {b : Bool} {q : Request} {reason : Reason} {d : Option Detail} {j : Option Nat}
    (deny : s.admission b q = .deny reason d j) : reason ≠ .ecuRefused := by
  have decided := admissionDecides (s := s) b q
  rw [deny] at decided
  cases decided with
  | suspended => decide
  | latched => decide
  | blocked => decide
  | noRoute => decide
  | off => decide
  | ungranted _ _ found => cases found <;> decide
  | unfit _ _ _ found => cases found <;> decide

/-- The watch with one more cycle skipped (R145). -/
def Watch.skippedOne (w : Watch) : Watch := { w with skipped := min (w.skipped + 1) 0xFFFF }

/-- What only the records of watches changed. -/
structure WatchOnly (x y : State) (c : Fin 32) (w : Watch) : Prop where
  watch : y.watch c = some w
  watches : ∀ d, d ≠ c → y.watch d = x.watch d
  whole : y = { x with watches := y.watches }

theorem watchOnly {x : State} {c : Fin 32} {w : Watch} (here : x.watch c = some w) (f : Watch → Watch) :
    WatchOnly x (x.modWatch c f) c (f w) :=
  ⟨by rw [State.watch_modWatch, here]; rfl, fun d ne => State.watch_modWatch_ne x f ne, rfl⟩

theorem watches_release {x y : State} {c : Fin 32} (others : ∀ d, d ≠ c → y.watch d = x.watch d) : y.watches.set c none = x.watches.set c none := by
  refine Vector.ext fun i hi => ?_
  by_cases same : i = c.val
  · subst same
    rw [Vector.getElem_set_self, Vector.getElem_set_self]
  · rw [Vector.getElem_set_ne _ _ (Ne.symm same), Vector.getElem_set_ne _ _ (Ne.symm same)]
    exact others ⟨i, hi⟩ fun eq => same (congrArg Fin.val eq)

theorem State.nextDue_stretch {c : Fin 32} {w : Watch} (here : s.watch c = some w) :
    s.nextDue c = s.modWatch c (Watch.dueNext (s.stretchOf w.target)) := by
  unfold State.nextDue
  exact State.modWatch_congr here rfl

/-- A cycle is skipped. -/
theorem cycleSkipped {c : Fin 32} {w : Watch} {x : State} (settled : Settled s) (only : WatchOnly s x c w) :
    ∃ t, ((x.skipCycle c).wrCounts c).finish = t ∧ t.watch c = some w.skippedOne ∧ t.mem.bytes (cellBase c + 108) 20 = w.skippedOne.countBytes ∧
      (∀ d, d ≠ c → t.watch d = s.watch d) ∧ t = { s with watches := t.watches, mem := t.mem } ∧ MemFrame s t (Within (cellBase c + 108) 20) := by
  obtain ⟨watch, watches, whole⟩ := only
  have skip := watchOnly watch Watch.skippedOne
  rw [show x.skipCycle c = x.modWatch c Watch.skippedOne from rfl]
  generalize x.modWatch c Watch.skippedOne = y at skip
  have written := countsWritten skip.watch
  generalize y.wrCounts c = t at written
  have ytwatches : y.watches = t.watches := by rw [written.whole]
  have twatch : ∀ d, t.watch d = y.watch d := fun d => by rw [State.watch, ← ytwatches, State.watch]
  have ywhole : y = { s with watches := y.watches } := by rw [skip.whole, whole]
  have eq : t = { s with watches := t.watches, mem := t.mem } := by
    have eq := written.whole
    rw [ywhole, ytwatches] at eq
    exact eq
  have still : Settled t := by rw [eq]; exact settled
  refine ⟨t, still.finish, by rw [twatch, skip.watch], written.bytes, fun d ne => by rw [twatch, skip.watches d ne, watches d ne], eq, ?_⟩
  have frame := written.frame
  rw [ywhole] at frame
  exact frame

theorem snapshotByte_touched (v : VSM) (touched : Bool) : (byte (snapshotByte v touched)).getLsbD 7 = touched := by
  obtain ⟨ignition, engine, motion, -⟩ := v
  cases touched <;> cases engine <;> cases motion <;> cases level : ignition.level <;> simp [snapshotByte, byte, flagBit, level] <;> decide

theorem watchConditions_admission {f : FaultRec} (stage : f.stage = .admission) (progress : f.progress = none) (secondary : f.secondary = none)
    (reason : f.reason ≠ .ecuRefused) : watchConditions (some f) = [.denied] := by
  simp [watchConditions, CellEnd.conditions, CellEnd.done, stage, progress, secondary, reason]

/-- The watch whose cycle has passed re-admission under a grant (R144). -/
def Watch.granted (grant id : Nat) (w : Watch) : Watch := { w with grant := grant, grantId := id }

/-- A watch ends by the denial of its cycle. -/
theorem cycleDenied {c : Fin 32} {w : Watch} {x : State} {reason : Reason} {d : Option Detail} (settled : Settled s) (only : WatchOnly s x c w)
    (alone : s.entryOf c = none) (refused : reason ≠ .ecuRefused)
    (fails : WatchEnds x t c w (some (watchFault x w .admission reason d))) (line : t.regs.irq = irqOf t.regs) :
    EndsFailed t c .admission reason ∧ t.watches = s.watches.set c none ∧
      (t.mem.read (cellBase c + 85)).getLsbD 7 = w.touched ∧ t.mem.bytes (cellBase c + 108) 20 = w.countBytes ∧
      (∀ ch, channelNamed (s.cell c).captured = some ch → (t.chan ch).accrued = (s.chan ch).accrued ||| Flag.denied.bit) ∧
      (∀ ch, channelNamed (s.cell c).captured ≠ some ch → t.chan ch = s.chan ch) ∧ OnlyCellState s t c ∧ EndRegs s t c 0 ∧
      t = { s with board := t.board, regs := t.regs, mem := t.mem, chans := t.chans, watches := t.watches } ∧
      MemFrame s t fun a => EndPlaces c a ∨ ∃ ch, channelNamed (s.cell c).captured = some ch ∧ Within (chanBase ch) 32 a := by
  have conditions : watchConditions (some (watchFault x w .admission reason d)) = [.denied] := watchConditions_admission rfl rfl rfl refused
  obtain ⟨-, failed, fault, counts, -, -, -, cells, twatches, entry, regs, chan, chans, whole, clean, frame⟩ := fails
  rw [conditions] at chan
  obtain ⟨here, others, xwhole⟩ := only
  have xcell : ∀ d, x.cell d = s.cell d := fun d => by rw [xwhole]; rfl
  have xchan : ∀ k, x.chan k = s.chan k := fun k => by rw [xwhole]; rfl
  have xentry : x.entryOf c = none := by rw [xwhole]; exact alone
  rw [xcell] at chan chans frame
  have still : x.info.dirty = false := by rw [xwhole]; exact settled.1
  have segs : t.segs = x.segs := entry.1 xentry
  have twhole : t = { s with board := t.board, regs := t.regs, mem := t.mem, chans := t.chans, watches := t.watches } := by
    have eq := whole
    rw [segs, clean still, xwhole] at eq
    exact eq
  refine ⟨failed _ rfl, ?_, ?_, counts, fun ch named => ?_, fun ch other => by rw [chans ch other, xchan],
    cells.of_board (by rw [xwhole]), ?_, twhole, ?_⟩
  · rw [twatches, watches_release others]
  · rw [fault _ rfl 1 (byte (snapshotByte x.vsm w.touched)) (by decide) rfl, snapshotByte_touched]
  · rw [chan ch named, xchan]
    rfl
  · unfold EndRegs
    rw [show s.regs.event ||| 0 = s.regs.event from BitVec.or_zero, ← line]
    rw [xwhole] at regs
    exact regs
  · rw [xwhole] at frame
    refine frame.mono ?_
    rintro a (place | chan | ⟨g, e, found, _⟩ | ⟨dirty, _⟩)
    · exact .inl place
    · exact .inr chan
    · exact absurd (found.symm.trans alone) (by simp)
    · exact absurd (dirty.symm.trans settled.1) (by decide)

/-- A cycle that has passed re-admission joins its lane. -/
theorem cycleAdmitted {c : Fin 32} {w : Watch} {x : State} {grant : Nat} {g : Fin 4} (settled : Settled s) (only : WatchOnly s x c w) (waits : Waits s g) :
    ∃ t u e, (((x.watchGrant c grant).wrCounts c).joinCycle g c).finish = t ∧ t.watch c = some u ∧
      u = { w with grant := grant, grantId := u.grantId, out := .lane } ∧
      (t.seg g).lanes = (s.seg g).lanes.mod e.lane (· ++ [e]) ∧ e.cell = c ∧ e.role = .cycle ∧ e.target = w.target ∧
      e.lane = Lane.ofCode (s.ps.active.lanes[g])[s.classIndex w.service] ∧
      e.deadline = s.time.ms + BitVec.ofNat 32 (queueLimit (s.cell c).captured 2000) ∧
      t.cell c = { s.cell c with grant := grant } ∧ (∀ d, d ≠ c → t.cell d = s.cell d ∧ t.watch d = s.watch d) ∧
      t.board.posts = s.board.posts ∧ (∀ h, h ≠ g → t.seg h = s.seg h) ∧
      t = { s with board := t.board, watches := t.watches, mem := t.mem, segs := t.segs } ∧
      MemFrame s t fun a => Within (cellBase c + 108) 20 a ∨ Within (segBase g) 128 a := by
  obtain ⟨watch, watches, whole⟩ := only
  have grants := watchOnly watch (Watch.granted grant (x.grantId grant))
  obtain ⟨y, hy⟩ : ∃ y, y = x.modWatch c (Watch.granted grant (x.grantId grant)) := ⟨_, rfl⟩
  rw [← hy] at grants
  obtain ⟨z, hz⟩ : ∃ z, z = x.watchGrant c grant := ⟨_, rfl⟩
  rw [← hz]
  have begins : z = y.modCell c fun r => { r with grant := grant } := by rw [hz, hy]; rfl
  clear hz hy
  have ycell : ∀ d, y.cell d = s.cell d := fun d => by rw [grants.whole, whole]; rfl
  have zcell : z.cell c = { s.cell c with grant := grant } := by rw [begins, State.cell_modCell, ycell]
  have zcells : ∀ d, d ≠ c → z.cell d = s.cell d := fun d ne => by rw [begins, State.cell_modCell_ne _ _ ne, ycell]
  have zwhole : z = { y with board := z.board } := by rw [begins]; rfl
  have zposts : z.board.posts = s.board.posts := by rw [begins, ← show y.board = s.board by rw [grants.whole, whole]]; rfl
  clear begins
  have zwatch : ∀ d, z.watch d = y.watch d := fun d => by rw [zwhole]; rfl
  have here : z.watch c = some (w.granted grant (x.grantId grant)) := (zwatch c).trans grants.watch
  have written := countsWritten here
  generalize z.wrCounts c = v at written
  have vwatch : ∀ d, v.watch d = z.watch d := fun d => by rw [written.whole]; rfl
  have vhere := (vwatch c).trans here
  have lane := watchOnly vhere Watch.inLane
  have vcell : ∀ d, v.cell d = z.cell d := fun d => by rw [written.whole]; rfl
  have joins : v.joinCycle g c = (v.modWatch c Watch.inLane).joinRun g (v.newEntry g c w.target .cycle w.service
      (v.msIn (queueLimit (v.cell c).captured Config.queueLimitExchange))) := by
    unfold State.joinCycle
    rw [vhere]
    rfl
  rw [vcell, zcell] at joins
  generalize v.modWatch c Watch.inLane = u at lane joins
  have vwhole : v = { s with board := v.board, mem := v.mem, watches := v.watches } := by
    rw [written.whole, zwhole, grants.whole, whole]
  generalize he : v.newEntry g c w.target .cycle w.service (v.msIn (queueLimit (s.cell c).captured Config.queueLimitExchange)) = e at joins
  have useg : ∀ h, u.seg h = s.seg h := fun h => by rw [lane.whole, vwhole]; rfl
  have join := joined (x := u) e (g := g) (by rw [Waits, useg]; exact waits)
  rw [← joins] at join
  clear joins
  generalize v.joinCycle g c = t at join
  have seg := join.seg
  rw [useg] at seg
  have twhole : t = { s with board := t.board, watches := t.watches, mem := t.mem, segs := t.segs } := by
    rw [join.whole, lane.whole, vwhole]
  have still : Settled t := by rw [twhole]; exact settled
  have tcell : ∀ d, t.cell d = z.cell d := fun d => by rw [join.whole, lane.whole, ← vcell]; rfl
  have twatch : ∀ d, t.watch d = u.watch d := fun d => by rw [join.whole]; rfl
  refine ⟨t, (w.granted grant (x.grantId grant)).inLane, e, still.finish, by rw [twatch, lane.watch], rfl, by rw [seg], by rw [← he]; rfl, by rw [← he]; rfl,
    by rw [← he]; rfl, ?_, ?_, by rw [tcell, zcell], fun d ne => ⟨by rw [tcell, zcells d ne], ?_⟩, ?_, fun h ne => by rw [join.segs h ne, useg], twhole, ?_⟩
  · rw [← he, vwhole]
    rfl
  · rw [← he, vwhole]
    rfl
  · rw [twatch, lane.watches d ne, vwatch, zwatch, grants.watches d ne, watches d ne]
  · have board : t.board = z.board := by rw [join.whole, lane.whole, written.whole]
    rw [board, zposts]
  · have first : MemFrame s v (Within (cellBase c + 108) 20) := fun a out => by rw [written.frame a out, zwhole, grants.whole, whole]
    have second : MemFrame v t (Within (segBase g) 128) := fun a out => by rw [join.frame a out, lane.whole]
    exact first.both second

/-- Settles O59. -/
theorem watchDue : Obligations.WatchDue := by
  unfold Obligations.WatchDue
  intro c w s settled here due units next
  have step : exec (.watchDue c) s = .next (s.watchDue c).finish := by
    refine (show exec (.watchDue c) s = execWatchDue c s from rfl).trans ?_
    unfold execWatchDue
    rw [here]
    dsimp only
    rw [if_pos due]
    rfl
  have only := watchOnly here (Watch.dueNext (s.stretchOf w.target))
  have begins := State.nextDue_stretch here
  rw [show Watch.dueNext (s.stretchOf w.target) w = next from rfl] at only
  have nextOut : next.out = w.out := rfl
  have verdicts : ∀ x : State, x = { s with watches := x.watches } → x.watchVerdict next = s.admission true (plainRequest w.channel w.service w.target) := by
    intro x whole
    rw [whole]
    rfl
  have skipped : next.skippedOne = { next with skipped := min (w.skipped + 1) 0xFFFF } := rfl
  generalize s.modWatch c (Watch.dueNext (s.stretchOf w.target)) = x at only begins
  have verdict := verdicts x only.whole
  clear verdicts
  have body : s.watchDue c = (if next.out ≠ .none then (x.skipCycle c).wrCounts c
    else match x.watchVerdict next with
      | .allow grant g => ((x.watchGrant c grant).wrCounts c).joinCycle g c
      | .deny reason detail _ =>
        if reason.isVehicle then (x.skipCycle c).wrCounts c
        else x.watchEnd c (some (watchFault x next .admission reason detail))) := by
    unfold State.watchDue
    dsimp only
    rw [begins, only.watch] <;> rfl
  have entry : x.entryOf c = s.entryOf c := by rw [only.whole]; rfl
  rw [verdict, nextOut] at body
  clear verdict
  obtain ⟨t, fin, skip⟩ := cycleSkipped settled only
  rw [skipped] at skip
  refine ⟨fun out => ⟨t, _, ?_, skip.1, rfl, skip.2⟩, fun grant g out allow waits => ?_, fun reason d j out deny => ⟨fun vehicle =>
    ⟨t, _, ?_, skip.1, rfl, skip.2⟩, fun other none => ?_⟩⟩
  · rw [step, body, if_pos out, fin]
  · rw [out, allow, if_neg (by decide)] at body
    dsimp only at body
    obtain ⟨v, u, e, joins, rest⟩ := cycleAdmitted (grant := grant) settled only waits
    exact ⟨v, u, e, by rw [step, body, joins], rest⟩
  · rw [step, body, out, deny, if_neg (by decide)]
    dsimp only
    rw [if_pos vehicle, fin]
  · rw [out, deny, if_neg (by decide)] at body
    dsimp only at body
    rw [other, if_neg (by decide)] at body
    have fails := watchEnds only.watch (some (watchFault x next .admission reason d))
    rw [← body] at fails
    replace fails := fails.closes (closes (s.watchDue c))
    have line := (closes (s.watchDue c)).line
    generalize (s.watchDue c).finish = t at step fails line
    obtain ⟨ends, watches, rest⟩ := cycleDenied settled only none (admission_not_refused deny) fails line
    refine ⟨t, step, ends, watches, fails.fault _ rfl 3 _ (by decide) ?_, rest⟩
    cases d <;> rfl

end Sys2Proof.Machine
end

section
/-! PROOFS. A failed cycle of a watch, as one rule (R148 to R150). -/

namespace Sys2Proof.Machine

variable {s t : State}

theorem watches_eq_set {x y : State} {c : Fin 32} {v : Option Watch} (here : y.watch c = v) (others : ∀ d, d ≠ c → y.watch d = x.watch d) :
    y.watches = x.watches.set c v := by
  refine Vector.ext fun i hi => ?_
  by_cases same : i = c.val
  · subst same
    rw [Vector.getElem_set_self]
    exact here
  · rw [Vector.getElem_set_ne _ _ (Ne.symm same)]
    exact others ⟨i, hi⟩ fun eq => same (congrArg Fin.val eq)

/-- The watch once a failed cycle is counted (R148). -/
def Watch.tallied (f : CycleFault) (w : Watch) : Watch :=
  { w with lastFault := some f, failed := min (w.failed + 1) 0xFFFF, consecutive := w.consecutive + 1, out := .none }

/-- The fault record of a watch that ends with its fourth failed cycle in a row (R150). -/
def cycleRec (x : State) (w : Watch) (f : CycleFault) : FaultRec :=
  { FaultRec.core f.stage f.reason (x.segmentOf w.target) with secondary := w.pending, transport := f.transport, touched := f.touched }

/-- What the settling of a failed cycle of the watch `u` leaves, whether or not the watch ends. -/
structure CycleLeaves (x y : State) (c : Fin 32) (u : Watch) (f : CycleFault) : Prop where
  accrued : (y.chan u.channel).accrued.getLsbD (if f.stage = .queue then 1 else 2) = true
  counts : y.mem.bytes (cellBase c + 108) 20 = u.countBytes
  cells : OnlyCellState x y c
  whole : y = { x with board := y.board, regs := y.regs, mem := y.mem, info := y.info, chans := y.chans, segs := y.segs, watches := y.watches }
  event : y.regs.event = x.regs.event
  clean : x.info.dirty = false → y.info = x.info
  frame : MemFrame x y fun a => EndPlaces c a ∨
    (∃ ch, (ch = u.channel ∨ channelNamed (x.cell c).captured = some ch) ∧ Within (chanBase ch) 32 a) ∨
    (∃ g e, x.entryOf c = some (g, e) ∧ Within (segBase g) 128 a) ∨ x.info.dirty = true ∧ InfoShared a

/-- A failed cycle of the watch `u`, counted, has been settled: the watch goes on, or it ends. -/
structure CycleSettled (x y : State) (c : Fin 32) (u : Watch) (f : CycleFault) : Prop extends CycleLeaves x y c u f where
  goesOn : u.consecutive < 4 → u.pending = none → y.watches = x.watches ∧ y = { x with mem := y.mem, chans := y.chans } ∧
    MemFrame x y (Within (chanBase u.channel) 32)
  ends : ¬ u.consecutive < 4 ∨ u.pending ≠ none → y.watches = x.watches.set c none ∧ EntryDropped x y c
  fourth : ¬ u.consecutive < 4 → EndsFailed y c f.stage f.reason ∧
    ∀ o b, o < 16 → ((cycleRec x u f).tail x)[o]? = some b → y.mem.read (cellBase c + 84 + o) = b
  aborted : u.consecutive < 4 → u.pending = some .aborted → EndsDone y c
  causes : ∀ p, u.consecutive < 4 → u.pending = some p → p ≠ .aborted → EndsFailed y c .policy p

/-- What follows the count of a failed cycle. -/
def State.cycleSettles (s : State) (c : Fin 32) (u : Watch) (f : CycleFault) (flags : List Flag) : State :=
  let s := s.accrue u.channel flags
  if u.consecutive < Config.watchFailLimit then s.watchBoundary c else s.watchEnd c (some (cycleRec s u f))

/-- The condition that a failed cycle accrues. -/
def CycleFault.flag (f : CycleFault) : Flag := if f.stage = .queue then .queueLost else .transport

theorem State.cycleFailed_queue {x : State} {c : Fin 32} {f : CycleFault} {w : Watch} (here : x.watch c = some w) :
    x.cycleFailed c f none = ((x.modWatch c (Watch.tallied f)).wrCounts c).cycleSettles c (w.tallied f) f [f.flag] := by
  have counted := watchOnly here (Watch.tallied f)
  have there : ((x.modWatch c (Watch.tallied f)).wrCounts c).watch c = some (w.tallied f) := by
    rw [(countsWritten counted.watch).whole]
    exact counted.watch
  unfold State.cycleFailed
  rw [here]
  dsimp only
  rw [show ((x.modWatch c fun w => { w with
    lastFault := some f, failed := min (w.failed + 1) 0xFFFF, consecutive := w.consecutive + 1, out := .none }).wrCounts c) =
      (x.modWatch c (Watch.tallied f)).wrCounts c from rfl, there]
  rfl

/-- The sample fields of a cycle that fails with a response under way (R148). -/
def Report.begun (r : Report) (form : Form) (time : Word32) : Sample :=
  { length := r.respLen, time := time, form := form.code, refusal := r.refusal, truncated := r.truncated, valid := false }

/-- The sample as a failed cycle leaves it. -/
def State.sampleClosed (x : State) (c : Fin 32) (w : Watch) (p : Sample) : State :=
  if w.seq.getLsbD 0 then (x.wrSample c p).bumpSeq c else x

theorem State.cycleFailed_transport {x y : State} {c : Fin 32} {f : CycleFault} {w u : Watch} {r : Report} {form : Form}
    (here : x.watch c = some w) (closed : x.sampleClosed c w (r.begun form x.time.ms) = y) (next : y.watch c = some u) :
    x.cycleFailed c f (some (r, form)) = ((y.modWatch c (Watch.tallied f)).wrCounts c).cycleSettles c (u.tallied f) f
      ([f.flag] ++ if r.truncated then [Flag.truncated] else []) := by
  subst closed
  have counted := watchOnly next (Watch.tallied f)
  have there : (((x.sampleClosed c w (r.begun form x.time.ms)).modWatch c (Watch.tallied f)).wrCounts c).watch c = some (u.tallied f) := by
    rw [(countsWritten counted.watch).whole]
    exact counted.watch
  unfold State.cycleFailed
  rw [here]
  dsimp only
  rw [show (((if w.seq.getLsbD 0 = true then (x.wrSample c
    { length := r.respLen, time := x.time.ms, form := form.code, refusal := r.refusal, truncated := r.truncated, valid := false }).bumpSeq c else x).modWatch c fun w => { w with
    lastFault := some f, failed := min (w.failed + 1) 0xFFFF, consecutive := w.consecutive + 1, out := .none }).wrCounts c) =
      ((x.sampleClosed c w (r.begun form x.time.ms)).modWatch c (Watch.tallied f)).wrCounts c from rfl, there]
  rfl

/-! ### The sample fields (R146 to R148) -/

/-- The watch with the sample of a failed cycle, its sequence word even again. -/
def Watch.closedWith (p : Sample) (w : Watch) : Watch := if w.seq.getLsbD 0 then { w with sample := p, seq := w.seq + 1 } else w

structure SampleClosed (x y : State) (c : Fin 32) (w : Watch) (p : Sample) : Prop where
  watch : y.watch c = some (w.closedWith p)
  watches : ∀ d, d ≠ c → y.watch d = x.watch d
  whole : y = { x with mem := y.mem, watches := y.watches }
  frame : MemFrame x y (Within (cellBase c + 64) 64)

theorem sampleClosed {x : State} {c : Fin 32} {w : Watch} (here : x.watch c = some w) (p : Sample) :
    SampleClosed x (x.sampleClosed c w p) c w p := by
  unfold State.sampleClosed
  by_cases odd : w.seq.getLsbD 0 = true
  · rw [if_pos odd]
    obtain ⟨y, hy⟩ : ∃ y, y = x.wrSample c p := ⟨_, rfl⟩
    rw [← hy]
    have ywatch : y.watch c = some { w with sample := p } := by
      rw [hy]
      exact (State.watch_modWatch x c _).trans (by rw [here]; rfl)
    have yothers : ∀ d, d ≠ c → y.watch d = x.watch d := fun d ne => by rw [hy]; exact State.watch_modWatch_ne x _ ne
    have ywhole : y = { x with mem := y.mem, watches := y.watches } := by rw [hy]; rfl
    have yframe : MemFrame x y (Within (cellBase c + 64) 64) := by
      intro a out
      rw [hy]
      refine (Mem.read_write_outside _ ?_).trans (Mem.read_write_outside x.mem ?_)
      · unfold Within at *; simp [Sample.bytes]; omega
      · unfold Within at *; rw [le16_length]; omega
    clear hy
    have eq : y.bumpSeq c = (y.modWatch c fun w => { w with seq := w.seq + 1 }).wr (cellBase c + 100) (le16 (w.seq + 1).toNat) := by
      unfold State.bumpSeq
      dsimp only
      rw [State.watch_modWatch, ywatch]
      rfl
    rw [eq]
    refine ⟨?_, fun d ne => ?_, ?_, fun a out => ?_⟩
    · refine (State.watch_modWatch y c _).trans ?_
      rw [ywatch, Watch.closedWith, if_pos odd]
      rfl
    · exact (State.watch_modWatch_ne y _ ne).trans (yothers d ne)
    · rw [State.wr, State.modWatch, ywhole]
    · exact (Mem.read_write_outside y.mem (by unfold Within at *; rw [le16_length]; omega)).trans (yframe a out)
  · rw [if_neg odd]
    exact ⟨by rw [Watch.closedWith, if_neg odd, here], fun _ _ => rfl, rfl, MemFrame.refl x _⟩

/-! ### The count and what follows (R148 to R150) -/

theorem CycleFault.flag_bit (f : CycleFault) : f.flag.bit.getLsbD (if f.stage = .queue then 1 else 2) = true := by
  unfold CycleFault.flag
  split <;> rfl

/-- The end of a watch whose failed cycle has accrued its condition. -/
theorem WatchEnds.leaves {x z y : State} {c : Fin 32} {u : Watch} {f : CycleFault} {fr : Option FaultRec} (ends : WatchEnds z y c u fr)
    (whole : z = { x with mem := z.mem, chans := z.chans }) (frame : MemFrame x z (Within (chanBase u.channel) 32))
    (bit : (z.chan u.channel).accrued.getLsbD (if f.stage = .queue then 1 else 2) = true) :
    CycleLeaves x y c u f ∧ y.watches = x.watches.set c none ∧ EntryDropped x y c := by
  obtain ⟨-, -, -, counts, -, -, -, cells, watches, entry, regs, chan, chans, ywhole, clean, yframe⟩ := ends
  have zcell : ∀ d, z.cell d = x.cell d := fun d => by rw [whole]; rfl
  have zinfo : z.info = x.info := by rw [whole]
  have zentry : z.entryOf c = x.entryOf c := by rw [whole]; rfl
  have zseg : ∀ g, z.seg g = x.seg g := fun g => by rw [whole]; rfl
  rw [zcell] at chan chans yframe
  refine ⟨⟨?_, counts, cells.of_board (by rw [whole]), by rw [ywhole, whole], by rw [regs, whole], fun still => ?_, ?_⟩, by rw [watches, whole], ?_, ?_⟩
  · by_cases mine : channelNamed (x.cell c).captured = some u.channel
    · rw [chan _ mine]
      exact foldl_or_getLsbD _ bit
    · rw [chans _ mine]
      exact bit
  · rw [← zinfo] at still
    rw [clean still, zinfo]
  · refine (frame.both yframe).mono ?_
    rintro a (chan | place | ⟨ch, named, area⟩ | ⟨g, e, found, area⟩ | ⟨dirty, shared⟩)
    · exact .inr (.inl ⟨_, .inl rfl, chan⟩)
    · exact .inl place
    · exact .inr (.inl ⟨ch, .inr named, area⟩)
    · exact .inr (.inr (.inl ⟨g, e, zentry.symm.trans found, area⟩))
    · exact .inr (.inr (.inr ⟨zinfo ▸ dirty, shared⟩))
  · intro none
    rw [entry.1 (zentry.trans none), whole]
  · intro g e found
    obtain ⟨seg, others⟩ := entry.2 g e (zentry.trans found)
    exact ⟨by rw [seg, zseg], fun h ne => by rw [others h ne, zseg]⟩

theorem cycleSettled {x : State} {c : Fin 32} {u : Watch} {f : CycleFault} {flags : List Flag} (here : x.watch c = some u)
    (counts : x.mem.bytes (cellBase c + 108) 20 = u.countBytes) (flagged : f.flag ∈ flags) : CycleSettled x (x.cycleSettles c u f flags) c u f := by
  have whole := x.accrue_whole u.channel flags
  have frame := x.accrue_frame u.channel flags
  have bit : ((x.accrue u.channel flags).chan u.channel).accrued.getLsbD (if f.stage = .queue then 1 else 2) = true := by
    rw [x.accrue_chan]
    exact foldl_or_of_mem flagged f.flag_bit _
  have eq : x.cycleSettles c u f flags = if u.consecutive < 4 then (x.accrue u.channel flags).watchBoundary c
    else (x.accrue u.channel flags).watchEnd c (some (cycleRec (x.accrue u.channel flags) u f)) := rfl
  generalize x.accrue u.channel flags = z at whole frame bit eq
  have zwatch : z.watch c = some u := by rw [whole]; exact here
  have bounds := cellBase_bounds c
  by_cases few : u.consecutive < 4
  · rw [if_pos few] at eq
    cases pending : u.pending with
    | none =>
      have stays : z.watchBoundary c = z := by
        unfold State.watchBoundary
        rw [zwatch]
        dsimp only
        rw [pending]
      rw [eq, stays]
      have same : z.mem.bytes (cellBase c + 108) 20 = u.countBytes := by
        rw [frame.bytes fun k _ => by unfold Within; have := chanBase_bounds u.channel; omega]
        exact counts
      refine ⟨⟨bit, same, ⟨by rw [whole], by rw [whole]; rfl, fun d ne => by rw [whole]; rfl⟩, by rw [whole], by rw [whole], fun _ => by rw [whole],
        frame.mono fun a area => .inr (.inl ⟨_, .inl rfl, area⟩)⟩, fun _ _ => ⟨by rw [whole], whole, frame⟩, fun ended => ?_,
        fun many => absurd few many, fun _ abort => ?_, fun p _ cause => ?_⟩
      · rcases ended with many | some
        · exact absurd few many
        · exact absurd pending some
      · exact absurd (pending.symm.trans abort) (by simp)
      · exact absurd (pending.symm.trans cause) (by simp)
    | some p =>
      have acts : z.watchBoundary c = z.watchEnd c (if p = .aborted then none else some (watchFault z u .policy p none)) := by
        unfold State.watchBoundary State.watchEndBy
        rw [zwatch]
        dsimp only
        rw [pending]
        dsimp only
        split <;> rfl
      rw [eq, acts]
      have ends := watchEnds zwatch (if p = .aborted then none else some (watchFault z u .policy p none))
      obtain ⟨leaves, gone⟩ := ends.leaves (f := f) whole frame bit
      refine ⟨leaves, fun _ none => absurd (pending.symm.trans none) (by simp), fun _ => gone, fun many => absurd few many, fun _ abort => ?_,
        fun q _ cause other => ?_⟩
      · obtain rfl := Option.some.inj (pending.symm.trans abort)
        exact ends.done rfl
      · obtain rfl := Option.some.inj (pending.symm.trans cause)
        exact ends.failed (watchFault z u .policy p none) (if_neg other)
  · rw [if_neg few] at eq
    rw [eq]
    have ends := watchEnds zwatch (some (cycleRec z u f))
    obtain ⟨leaves, gone⟩ := ends.leaves (f := f) whole frame bit
    refine ⟨leaves, fun less => absurd less few, fun _ => gone, fun _ => ⟨ends.failed _ rfl, fun o b lt hit => ends.fault _ rfl o b lt ?_⟩,
      fun less => absurd less few, fun _ less => absurd less few⟩
    have same : cycleRec z u f = cycleRec x u f := by
      unfold cycleRec State.segmentOf
      rw [whole]
    rw [same, FaultRec.tail_congr (x := x) (y := z) _ (by rw [whole]) (by rw [whole])]
    exact hit

end Sys2Proof.Machine
end

section
/-! PROOFS. The removal of an entry at its deadline (R58, R62, R135, R148). -/

namespace Sys2Proof.Machine

variable {s t : State}

theorem State.entryOf_mem {x : State} {c : Fin 32} {g : Fin 4} {e : Entry} (found : x.entryOf c = some (g, e)) :
    e ∈ (x.seg g).lanes.all ∧ e.cell = c := by
  obtain ⟨h, _, hit⟩ := List.exists_of_findSome?_eq_some found
  obtain ⟨d, first, pair⟩ := Option.map_eq_some_iff.1 hit
  obtain ⟨rfl, rfl⟩ := Prod.mk.inj pair
  exact ⟨List.mem_of_find?_eq_some first, by simpa using List.find?_some first⟩

theorem Lanes.mem_without {l : Lanes} {c : Fin 32} {e : Entry} (inside : e ∈ (l.without c).all) : e.cell ≠ c := by
  simp only [Lanes.all, Lanes.without, List.mem_append, List.mem_filter, bne_iff_ne] at inside
  rcases inside with (⟨_, ne⟩ | ⟨_, ne⟩) | ⟨_, ne⟩ <;> exact ne

/-- The part once an entry has been taken out and counted. -/
structure TimedOut (s x : State) (c : Fin 32) (g : Fin 4) : Prop where
  seg : x.seg g = { s.seg g with lanes := (s.seg g).lanes.without c, queueTimeouts := (s.seg g).queueTimeouts + 1, counter := (x.seg g).counter }
  segs : ∀ h, h ≠ g → x.seg h = s.seg h
  whole : x = { s with segs := x.segs, mem := x.mem }
  frame : MemFrame s x (Within (segBase g) 128)

theorem timedOut (s : State) (c : Fin 32) (g : Fin 4) :
    TimedOut s ((s.modSeg g fun q => { q with lanes := q.lanes.without c, queueTimeouts := q.queueTimeouts + 1 }).lsWrite g) c g := by
  refine ⟨?_, fun h ne => ?_, ?_, ?_⟩
  · rw [State.seg_lsWrite, State.seg_modSeg]
  · rw [State.lsWrite_seg_ne _ ne, State.seg_modSeg_ne _ _ ne]
  · rw [State.lsWrite_eq]
    rfl
  · exact State.lsWrite_frame (s.modSeg g fun q => { q with lanes := q.lanes.without c, queueTimeouts := q.queueTimeouts + 1 }) g

/-- An entry of cell `c` that is left waits on another segment. -/
theorem TimedOut.elsewhere {x : State} {c : Fin 32} {g h : Fin 4} {e : Entry} (out : TimedOut s x c g) (found : x.entryOf c = some (h, e)) :
    h ≠ g ∧ ∃ d ∈ (s.seg h).lanes.all, d.cell = c := by
  obtain ⟨inside, cell⟩ := State.entryOf_mem found
  have ne : h ≠ g := by
    rintro rfl
    rw [out.seg] at inside
    exact Lanes.mem_without inside cell
  refine ⟨ne, e, ?_, cell⟩
  rw [← out.segs h ne]
  exact inside

theorem State.entryTimeout_transfer {x : State} {e : Entry} (role : e.role.ofTransfer) :
    x.entryTimeout e = x.transferEntryLost e.cell .queueTimeout := by
  obtain ⟨exchange, cycle⟩ := role
  unfold State.entryTimeout
  cases h : e.role with
  | exchange => exact absurd h exchange
  | cycle => exact absurd h cycle
  | start => rfl
  | data => rfl
  | ending => rfl
  | verify => rfl
  | keepalive => rfl

/-- What holds whatever the role of the entry is. -/
structure DeadlineLeaves (s t : State) (c : Fin 32) (g : Fin 4) : Prop where
  seg : t.seg g = { s.seg g with lanes := (s.seg g).lanes.without c, queueTimeouts := (s.seg g).queueTimeouts + 1, counter := (t.seg g).counter }
  segs : ∀ k, k ≠ g → (∀ d ∈ (s.seg k).lanes.all, d.cell ≠ c) → t.seg k = s.seg k
  cells : ∀ d, d ≠ c → t.cell d = s.cell d
  posts : t.board.posts = s.board.posts

theorem TimedOut.leaves {x y : State} {c : Fin 32} {g : Fin 4} (out : TimedOut s x c g) (dropped : EntryDropped x y c) (cells : OnlyCellState x y c) :
    DeadlineLeaves s y c g := by
  obtain ⟨posts, -, others⟩ := cells
  have xcell : ∀ d, x.cell d = s.cell d := fun d => by rw [out.whole]; rfl
  have segs : ∀ k, (k = g ∨ ∀ d ∈ (s.seg k).lanes.all, d.cell ≠ c) → y.seg k = x.seg k := by
    intro k where_
    cases found : x.entryOf c with
    | none => rw [State.seg, dropped.1 found, State.seg]
    | some pair =>
      obtain ⟨ne, d, inside, cell⟩ := out.elsewhere found
      refine (dropped.2 pair.1 pair.2 found).2 k fun same => ?_
      subst same
      rcases where_ with here | none
      · exact ne here
      · exact none d inside cell
  refine ⟨?_, fun k ne none => ?_, fun d ne => by rw [others d ne, xcell], by rw [posts, out.whole]⟩
  · rw [segs g (.inl rfl), ← out.seg]
  · rw [segs k (.inr none), out.segs k ne]

theorem DeadlineLeaves.closes {y : State} {c : Fin 32} {g : Fin 4} (leaves : DeadlineLeaves s y c g) (closed : Closes y t) : DeadlineLeaves s t c g := by
  obtain ⟨seg, segs, cells, posts⟩ := leaves
  exact ⟨by rw [closed.seg]; exact seg, fun k ne none => by rw [closed.seg, segs k ne none], fun d ne => by rw [closed.cell, cells d ne],
    by rw [closed.board, posts]⟩

theorem DeadlineLeaves.waits {y : State} {c : Fin 32} {g : Fin 4} (leaves : DeadlineLeaves s y c g) (waits : Waits s g) : Waits y g := by
  rw [Waits, leaves.seg]
  exact waits

theorem EntryDropped.of_segs {x y : State} {c : Fin 32} (segs : y.segs = x.segs) (none : x.entryOf c = none) : EntryDropped x y c :=
  ⟨fun _ => segs, fun g e found => absurd (none.symm.trans found) (by simp)⟩

/-- Nothing else of the segments moves. -/
theorem TimedOut.rest {x y : State} {c : Fin 32} {g : Fin 4} (out : TimedOut s x c g) (segs : y.segs = x.segs) (cells : OnlyCellState x y c) :
    DeadlineLeaves s y c g ∧ ∀ k, k ≠ g → y.seg k = s.seg k := by
  have same : ∀ k, y.seg k = x.seg k := fun k => by rw [State.seg, segs, State.seg]
  obtain ⟨posts, -, others⟩ := cells
  have xcell : ∀ d, x.cell d = s.cell d := fun d => by rw [out.whole]; rfl
  have rest : ∀ k, k ≠ g → y.seg k = s.seg k := fun k ne => by rw [same, out.segs k ne]
  exact ⟨⟨by rw [same, ← out.seg], fun k ne _ => rest k ne, fun d ne => by rw [others d ne, xcell], by rw [posts, out.whole]⟩, rest⟩

/-! ### The bytes of a fault record (R169, R170, R174) -/

theorem FaultRec.tail_transport (x : State) (f : FaultRec) (i : Nat) (lt : i < 4) : (f.tail x)[5 + i]? = (TDetail.bytes f.transport)[i]? := by
  unfold FaultRec.tail
  rw [List.append_assoc]
  generalize hp : TDetail.bytes f.transport = l
  have len : l.length = 4 := by rw [← hp, TDetail.bytes_length]
  rw [List.getElem?_append_right (by simp)]
  simp only [List.length_cons, List.length_nil]
  rw [List.getElem?_append_left (by omega)]
  congr 1
  omega

theorem FaultRec.tail_progress (x : State) (f : FaultRec) (p : TProgress) (has : f.progress = some p) (i : Nat) :
    (f.tail x)[9 + i]? = ([byte p.role.code, byte p.stage.code, 0] ++ le32 p.block)[i]? := by
  unfold FaultRec.tail
  rw [has]
  generalize hp : TDetail.bytes f.transport = l
  have len : l.length = 4 := by rw [← hp, TDetail.bytes_length]
  rw [List.getElem?_append_right (by simp [len])]
  simp only [List.length_append, List.length_cons, List.length_nil, len]
  congr 1
  omega

theorem transferFault_stage (x : State) (r : Transfer) (f : TFail) : ((transferFault x r f).tail x)[10]? = some (byte f.stage.code) :=
  (FaultRec.tail_progress x _ _ rfl 1).trans rfl

/-- The cell of an EXCHANGE ends at its deadline. -/
theorem exchangeTimesOut {x : State} {c : Fin 32} {g : Fin 4} {f : FaultRec} (out : TimedOut s x c g)
    (ended : CellOver x t c (.failed f)) (line : t.regs.irq = irqOf t.regs) (stage : f.stage = .queue) (reason : f.reason = .queueTimeout)
    (conditions : (CellEnd.failed f).conditions = [.queueLost]) :
    EndsFailed t c .queue .queueTimeout ∧ OnlyCellState s t c ∧ EndRegs s t c 0 ∧
      (∀ ch, channelNamed (s.cell c).captured = some ch → (t.chan ch).accrued = (s.chan ch).accrued ||| Flag.queueLost.bit) ∧
      (∀ ch, channelNamed (s.cell c).captured ≠ some ch → t.chan ch = s.chan ch) ∧
      t = { s with board := t.board, regs := t.regs, mem := t.mem, chans := t.chans, segs := t.segs } ∧
      MemFrame s t fun a => EndPlaces c a ∨ Within (segBase g) 128 a ∨
        ∃ ch, channelNamed (s.cell c).captured = some ch ∧ Within (chanBase ch) 32 a := by
  have failed := ended.failed f rfl
  rw [stage, reason] at failed
  have xcell : ∀ d, x.cell d = s.cell d := fun d => by rw [out.whole]; rfl
  have xchan : ∀ k, x.chan k = s.chan k := fun k => by rw [out.whole]; rfl
  have regs := ended.endRegs line
  obtain ⟨-, -, -, -, -, -, -, -, cells, -, chan, chans, whole, frame⟩ := ended
  rw [conditions] at chan
  rw [xcell] at chan chans frame
  refine ⟨failed, cells.of_board (by rw [out.whole]), ?_, fun ch named => ?_, fun ch other => by rw [chans ch other, xchan], ?_, ?_⟩
  · rw [out.whole] at regs
    exact regs
  · rw [chan ch named, xchan]
    rfl
  · rw [whole, out.whole]
  · refine (out.frame.both frame).mono ?_
    rintro a (seg | place | chan)
    · exact .inr (.inl seg)
    · exact .inl place
    · exact .inr (.inr chan)

/-- A transfer fails at the deadline of its entry. -/
theorem transferTimesOut {x : State} {c : Fin 32} {g : Fin 4} {r : Transfer} (out : TimedOut s x c g)
    (fails : TransferFails x t c r (.plain .queueTimeout .queue r.standing)) :
    EndsFailed t c .transfer .queueTimeout ∧ t.transfer c = none ∧ OnlyCellState s t c ∧
      t.mem.read (cellBase c + 94) = byte Stage.queue.code ∧ (∀ d, d ≠ c → t.transfer d = s.transfer d) ∧
      t = { s with board := t.board, regs := t.regs, mem := t.mem, chans := t.chans, segs := t.segs, slots := t.slots,
                   transfers := t.transfers, cm := t.cm, info := t.info } := by
  have xtransfer : ∀ d, x.transfer d = s.transfer d := fun d => by rw [out.whole]; rfl
  refine ⟨fails.failed, fails.transfer, fails.cells.of_board (by rw [out.whole]), fails.fault 10 _ (by decide) (by decide) (transferFault_stage x r _), fun d ne => ?_, ?_⟩
  · rw [fails.transfers d ne, xtransfer]
  · have whole := fails.whole
    have segs : x.segs = t.segs := by rw [whole]
    rw [out.whole, segs] at whole
    exact whole

/-- The last fault of a cycle whose entry reached its deadline. -/
def queueFault : CycleFault := { stage := .queue, reason := .queueTimeout, touched := false, transport := none }

/-- The watch of a cycle whose entry has reached its deadline. -/
structure CycleTimedOut (x z : State) (c : Fin 32) (w : Watch) : Prop where
  only : WatchOnly { x with mem := z.mem } z c (w.tallied queueFault)
  counts : z.mem.bytes (cellBase c + 108) 20 = (w.tallied queueFault).countBytes
  frame : MemFrame x z (Within (cellBase c + 108) 20)

theorem cycleTimesOut {x : State} {c : Fin 32} {w : Watch} (here : x.watch c = some w) :
    ∃ z, CycleTimedOut x z c w ∧ CycleSettled z (x.cycleFailed c queueFault none) c (w.tallied queueFault) queueFault := by
  have counted := watchOnly here (Watch.tallied queueFault)
  rw [State.cycleFailed_queue here]
  generalize x.modWatch c (Watch.tallied queueFault) = v at counted
  have written := countsWritten counted.watch
  generalize v.wrCounts c = z at written
  have zwatch : ∀ d, z.watch d = v.watch d := fun d => by rw [written.whole]; rfl
  have there := (zwatch c).trans counted.watch
  refine ⟨z, ⟨⟨there, fun d ne => ?_, ?_⟩, written.bytes, ?_⟩, cycleSettled there written.bytes (List.mem_singleton.2 rfl)⟩
  · rw [zwatch, counted.watches d ne]
    rfl
  · rw [written.whole, counted.whole]
  · have frame := written.frame
    rw [counted.whole] at frame
    exact frame

theorem State.cycleFailed_none {x : State} {c : Fin 32} {f : CycleFault} (gone : x.watch c = none) (r : Option (Report × Form)) :
    x.cycleFailed c f r = x.modWatch c (Watch.tallied f) := by
  have still : (x.modWatch c (Watch.tallied f)).watch c = none := by rw [State.watch_modWatch, gone]; rfl
  have counts : (x.modWatch c (Watch.tallied f)).wrCounts c = x.modWatch c (Watch.tallied f) := by
    unfold State.wrCounts
    rw [still]
  have tally : ((x.modWatch c fun w => { w with
    lastFault := some f, failed := min (w.failed + 1) 0xFFFF, consecutive := w.consecutive + 1, out := .none }).wrCounts c) =
      x.modWatch c (Watch.tallied f) := counts
  unfold State.cycleFailed
  rw [gone]
  cases r with
  | none =>
    dsimp only
    rw [tally, still]
  | some p =>
    dsimp only
    rw [if_neg (by decide), tally, still]

/-- The watch goes on after a cycle whose entry has reached its deadline. -/
theorem cycleGoesOn {x z y : State} {c : Fin 32} {g : Fin 4} {w : Watch} (settled : Settled s) (out : TimedOut s x c g) (timed : CycleTimedOut x z c w)
    (goes : y.watches = z.watches ∧ y = { z with mem := y.mem, chans := y.chans } ∧ MemFrame z y (Within (chanBase w.channel) 32))
    (counts : y.mem.bytes (cellBase c + 108) 20 = (w.tallied queueFault).countBytes) (closed : Closes y t) :
    ∃ u, t.watch c = some u ∧
      u = { w with lastFault := some ⟨.queue, .queueTimeout, false, none⟩, failed := min (w.failed + 1) 0xFFFF,
                   consecutive := w.consecutive + 1, out := .none } ∧
      t.mem.bytes (cellBase c + 108) 20 = u.countBytes ∧ t.cell c = s.cell c ∧ t.regs = s.regs ∧
      (∀ k, k ≠ g → t.seg k = s.seg k) ∧ (∀ d, d ≠ c → t.watch d = s.watch d) ∧
      t = { s with mem := t.mem, chans := t.chans, segs := t.segs, watches := t.watches } ∧
      MemFrame s t fun a => Within (cellBase c + 108) 20 a ∨ Within (segBase g) 128 a ∨ Within (chanBase w.channel) 32 a := by
  obtain ⟨⟨zwatch, zwatches, zwhole⟩, -, zframe⟩ := timed
  obtain ⟨watches, whole, frame⟩ := goes
  have ywhole : y = { s with mem := y.mem, chans := y.chans, segs := y.segs, watches := y.watches } := by rw [whole, zwhole, out.whole]
  have still : Settled y := by rw [ywhole]; exact settled
  obtain rfl := closed.settled still
  have watch : ∀ d, t.watch d = z.watch d := fun d => by rw [State.watch, watches, State.watch]
  have segs : t.segs = x.segs := by rw [whole, zwhole]
  refine ⟨_, (watch c).trans zwatch, rfl, counts, by rw [ywhole]; rfl, by rw [ywhole], fun k ne => ?_, fun d ne => ?_, ywhole, ?_⟩
  · rw [State.seg, segs]
    exact out.segs k ne
  · rw [watch, zwatches d ne, out.whole]
    rfl
  · refine (out.frame.both (zframe.both frame)).mono ?_
    rintro a (seg | counts | chan)
    · exact .inr (.inl seg)
    · exact .inl counts
    · exact .inr (.inr chan)

/-- Settles O46. -/
theorem queueDeadline : Obligations.QueueDeadline := by
  unfold Obligations.QueueDeadline
  intro c g e s settled entry due waits
  obtain ⟨-, cell⟩ := State.entryOf_mem entry
  have out := timedOut s c g
  have runs : exec (.queueDeadlineExpiry c) s = .next (((((s.modSeg g fun q => { q with lanes := q.lanes.without c, queueTimeouts := q.queueTimeouts + 1 }).lsWrite g).entryTimeout e).arbitrate g).finish) := by
    refine (show exec (.queueDeadlineExpiry c) s = execQueueDeadlineExpiry c s from rfl).trans ?_
    unfold execQueueDeadlineExpiry
    rw [entry]
    dsimp only
    rw [if_pos due, ← cell]
    rfl
  generalize ((s.modSeg g fun q => { q with lanes := q.lanes.without c, queueTimeouts := q.queueTimeouts + 1 }).lsWrite g) = x at out runs
  have finishes : DeadlineLeaves s (x.entryTimeout e) c g →
      ∃ t, exec (.queueDeadlineExpiry c) s = .next t ∧ Closes (x.entryTimeout e) t ∧ DeadlineLeaves s t c g := by
    intro leaves
    rw [State.arbitrate_waits (leaves.waits waits)] at runs
    have closed := closes (x.entryTimeout e)
    exact ⟨_, runs, closed, leaves.closes closed⟩
  have xclean : x.info.dirty = false := by rw [out.whole]; exact settled.1
  have xtransfer : ∀ d, x.transfer d = s.transfer d := fun d => by rw [out.whole]; rfl
  have xwatch : ∀ d, x.watch d = s.watch d := fun d => by rw [out.whole]; rfl
  by_cases exchange : e.role = .exchange
  · have does : x.entryTimeout e = x.endCell c (.failed (denialFault x (targetOf (x.cell c).captured) .queue .queueTimeout none)) := by
      unfold State.entryTimeout
      rw [exchange, cell]
    have ended := cellOver x c (.failed (denialFault x (targetOf (x.cell c).captured) .queue .queueTimeout none))
    rw [← does] at ended
    obtain ⟨leaves, -⟩ := out.rest (by rw [ended.whole]) ended.cells
    obtain ⟨t, step, closed, leaves⟩ := finishes leaves
    replace ended := ended.closes closed xclean
    obtain ⟨-, others⟩ := out.rest (by rw [ended.whole]) ended.cells
    refine ⟨t, step, by rw [leaves.seg], by rw [leaves.seg], ?_, leaves.segs, leaves.cells, leaves.posts,
      fun _ => ⟨others, exchangeTimesOut out ended closed.line rfl rfl rfl⟩, fun r role => ?_, fun w role => ?_, fun w role => ?_⟩
    · have seg := leaves.seg
      rw [seg]
    · rw [exchange] at role
      simp at role
    · exact absurd (exchange.symm.trans role) (by decide)
    · exact absurd (exchange.symm.trans role) (by decide)
  by_cases cycle : e.role = .cycle
  · have does : x.entryTimeout e = x.cycleFailed c queueFault none := by
      unfold State.entryTimeout
      rw [cycle, cell]
      rfl
    have impossible : ∀ {p : Prop}, e.role = .exchange → p := fun role => absurd role exchange
    cases here : s.watch c with
    | none =>
      rw [State.cycleFailed_none ((xwatch c).trans here)] at does
      obtain ⟨leaves, -⟩ := out.rest (y := x.entryTimeout e) (by rw [does]; rfl) (by rw [does]; exact ⟨rfl, rfl, fun _ _ => rfl⟩)
      obtain ⟨t, step, closed, leaves⟩ := finishes leaves
      refine ⟨t, step, by rw [leaves.seg], by rw [leaves.seg], ?_, leaves.segs, leaves.cells, leaves.posts, impossible, fun r role => ?_,
        fun w _ found => absurd found (by simp), fun w _ found => absurd found (by simp)⟩
      · rw [leaves.seg]
      · rw [cycle] at role
        simp at role
    | some w =>
      obtain ⟨z, timed, settles⟩ := cycleTimesOut ((xwatch c).trans here)
      rw [← does] at settles
      have board : z.board = x.board := by rw [timed.only.whole]
      have zsegs : z.segs = x.segs := by rw [timed.only.whole]
      have zentry : z.entryOf c = x.entryOf c := by rw [timed.only.whole]; rfl
      have zseg : ∀ k, z.seg k = x.seg k := fun k => by rw [State.seg, zsegs, State.seg]
      have cells := settles.cells.of_board board
      by_cases on : (w.tallied queueFault).consecutive < 4 ∧ (w.tallied queueFault).pending = none
      · have segs : (x.entryTimeout e).segs = x.segs := by rw [(settles.goesOn on.1 on.2).2.1, zsegs]
        obtain ⟨leaves, others⟩ := out.rest segs cells
        obtain ⟨t, step, closed, leaves⟩ := finishes leaves
        refine ⟨t, step, by rw [leaves.seg], by rw [leaves.seg], ?_, leaves.segs, leaves.cells, leaves.posts, impossible, fun r role => ?_,
          fun v _ found few free => ?_, fun v _ found ended => ?_⟩
        · rw [leaves.seg]
        · rw [cycle] at role
          simp at role
        · obtain rfl := Option.some.inj found
          exact cycleGoesOn settled out timed (settles.goesOn on.1 on.2) settles.counts closed
        · obtain rfl := Option.some.inj found
          exfalso
          rcases ended with many | some
          · exact absurd on.1 (by simp only [Watch.tallied]; omega)
          · exact some on.2
      · have ended : ¬ (w.tallied queueFault).consecutive < 4 ∨ (w.tallied queueFault).pending ≠ none := by
          rw [← not_and_or]
          exact on
        have gone := (settles.ends ended).2
        have dropped : EntryDropped x (x.entryTimeout e) c :=
          ⟨fun none => by rw [gone.1 (zentry.trans none), zsegs], fun h d found => by
            obtain ⟨seg, rest⟩ := gone.2 h d (zentry.trans found)
            exact ⟨by rw [seg, zseg], fun k ne => by rw [rest k ne, zseg]⟩⟩
        obtain ⟨t, step, closed, leaves⟩ := finishes (out.leaves dropped cells)
        refine ⟨t, step, by rw [leaves.seg], by rw [leaves.seg], ?_, leaves.segs, leaves.cells, leaves.posts, impossible, fun r role => ?_,
          fun v _ found few free => ?_, fun v _ found _ => ?_⟩
        · rw [leaves.seg]
        · rw [cycle] at role
          simp at role
        · obtain rfl := Option.some.inj found
          exact absurd ⟨by simp only [Watch.tallied]; omega, free⟩ on
        · obtain rfl := Option.some.inj found
          have watches : t.watches = (x.entryTimeout e).watches := by rw [closed.whole]
          have release : z.watches.set c none = s.watches.set c none := by
            rw [watches_release timed.only.watches, out.whole]
          refine ⟨by rw [watches, (settles.ends ended).1, release], closed.onlyCell (cells.of_board (by rw [out.whole])), fun many => ?_, fun few abort => ?_,
            fun reason few cause other => ?_⟩
          · exact closed.endsFailed (settles.fourth (by simp only [Watch.tallied]; omega)).1
          · exact closed.endsDone (settles.aborted (by simp only [Watch.tallied]; omega) abort)
          · exact closed.endsFailed (settles.causes reason (by simp only [Watch.tallied]; omega) cause other)
  · have does := State.entryTimeout_transfer (x := x) (e := e) ⟨exchange, cycle⟩
    rw [cell] at does
    have only : OnlyCellState x (x.entryTimeout e) c ∧ (x.entryTimeout e).segs = x.segs := by
      cases here : s.transfer c with
      | none =>
        have stays : x.entryTimeout e = x := by
          rw [does, State.transferEntryLost, xtransfer, here]
        rw [stays]
        exact ⟨⟨rfl, rfl, fun _ _ => rfl⟩, rfl⟩
      | some r =>
        have acts : x.entryTimeout e = x.transferFail c (.plain .queueTimeout .queue r.standing) := by
          rw [does, State.transferEntryLost, xtransfer, here]
        have fails := transferFails ((xtransfer c).trans here) (.plain .queueTimeout .queue r.standing)
        rw [← acts] at fails
        exact ⟨fails.cells, by rw [fails.whole]⟩
    obtain ⟨leaves, -⟩ := out.rest only.2 only.1
    obtain ⟨t, step, closed, leaves⟩ := finishes leaves
    refine ⟨t, step, by rw [leaves.seg], by rw [leaves.seg], ?_, leaves.segs, leaves.cells, leaves.posts, fun role => absurd role exchange, fun r _ here => ?_,
      fun w role => absurd role cycle, fun w role => absurd role cycle⟩
    · rw [leaves.seg]
    · have acts : x.entryTimeout e = x.transferFail c (.plain .queueTimeout .queue r.standing) := by
        rw [does, State.transferEntryLost, xtransfer, here]
      have fails := transferFails ((xtransfer c).trans here) (.plain .queueTimeout .queue r.standing)
      rw [← acts] at fails
      replace fails := fails.closes closed
      exact ⟨(out.rest (by rw [fails.whole]) fails.cells).2, transferTimesOut out fails⟩

end Sys2Proof.Machine
end

section
/-! PROOFS. The failure of the exchange in a context, by its role (R56, R86, R119, R132, R148). -/

namespace Sys2Proof.Machine

variable {s t : State}

/-! ### A context that goes FREE (R56, R76) -/

/-- Segment `g` starts nothing, whichever of its contexts go FREE. -/
abbrev StartsNothing (s : State) (g : Fin 4) : Prop := LanesEmpty s g ∨ (s.seg g).ctl.sends = false

theorem State.arbitrate_nothing {x : State} {g : Fin 4} (nothing : StartsNothing x g) : x.arbitrate g = x := by
  rcases nothing with empty | silent
  · exact State.arbitrate_empty empty
  · refine State.arbitrate_waits ?_
    rw [Waits, Seg.canStart, silent, Bool.false_and]

/-- Context `k` of segment `g` has gone FREE. -/
structure Freed (x y : State) (g k : Fin 4) : Prop where
  seg : y.seg g = { x.seg g with ctxs := (x.seg g).ctxs.set k Ctx.free, busy := (x.seg g).busy.filter (· != (x.ctx g k).target),
                                 offered := (y.seg g).offered, counter := (y.seg g).counter }
  segs : ∀ h, h ≠ g → y.seg h = x.seg h
  whole : y = { x with segs := y.segs, mem := y.mem }
  frame : MemFrame x y (Within (segBase g) 128)

theorem freed {x : State} {g : Fin 4} (k : Fin 4) (nothing : StartsNothing x g) : Freed x (x.freeCtx g k) g k := by
  obtain ⟨y, hy⟩ : ∃ y, y = x.modSeg g fun q => { q with
    ctxs := q.ctxs.set k Ctx.free, busy := q.busy.filter (· != (x.ctx g k).target),
    offered := q.offered.map fun o => if o.ctx = some k then { o with ctx := none } else o } := ⟨_, rfl⟩
  have eq : x.freeCtx g k = ((y.stuWrite g).lsWrite g).arbitrate g := by rw [hy]; rfl
  have yseg : y.seg g = { x.seg g with ctxs := (x.seg g).ctxs.set k Ctx.free, busy := (x.seg g).busy.filter (· != (x.ctx g k).target),
                                       offered := (y.seg g).offered } := by
    rw [hy, State.seg_modSeg]
  have ysegs : ∀ h, h ≠ g → y.seg h = x.seg h := fun h ne => by rw [hy, State.seg_modSeg_ne _ _ ne]
  have ywhole : y = { x with segs := y.segs } := by rw [hy]; rfl
  clear hy
  have zseg := y.seg_stuWrite g
  have zsegs := fun h (ne : h ≠ g) => y.stuWrite_seg_ne ne
  have zwhole := y.stuWrite_eq g
  have zframe := y.stuWrite_frame g
  have useg := (y.stuWrite g).seg_lsWrite g
  have usegs := fun h (ne : h ≠ g) => (y.stuWrite g).lsWrite_seg_ne ne
  have uwhole := (y.stuWrite g).lsWrite_eq g
  have uframe := (y.stuWrite g).lsWrite_frame g
  generalize y.stuWrite g = z at *
  generalize z.lsWrite g = u at *
  have seg : u.seg g = { x.seg g with ctxs := (x.seg g).ctxs.set k Ctx.free, busy := (x.seg g).busy.filter (· != (x.ctx g k).target),
                                      offered := (u.seg g).offered, counter := (u.seg g).counter } := by
    rw [useg, zseg, yseg]
  have still : StartsNothing u g := by
    rcases nothing with empty | silent
    · exact .inl (by rw [LanesEmpty, seg]; exact empty)
    · exact .inr (by rw [seg]; exact silent)
  rw [eq, State.arbitrate_nothing still]
  refine ⟨seg, fun h ne => by rw [usegs h ne, zsegs h ne, ysegs h ne], ?_, ?_⟩
  · have segs : ∀ w : State, w = { y with segs := w.segs, mem := w.mem } → w = { x with segs := w.segs, mem := w.mem } := fun w h => by
      rw [ywhole] at h
      exact h
    refine segs u ?_
    have zw : z = { y with segs := z.segs, mem := z.mem } := by rw [zwhole]
    have uw : u = { z with segs := u.segs, mem := u.mem } := by rw [uwhole]
    rw [uw, zw]
  · have first : MemFrame x z (Within (segBase g) 128) := fun a out => by rw [zframe a out, ywhole]
    exact first.trans uframe

section
variable {x y : State} {g k : Fin 4} (free : Freed x y g k)
include free

theorem Freed.ctx : y.ctx g k = Ctx.free := by
  show (y.seg g).ctxs[k] = Ctx.free
  rw [free.seg]
  exact Vector.getElem_set_self _

theorem Freed.ctxs (j : Fin 4) (ne : j ≠ k) : y.ctx g j = x.ctx g j := by
  show (y.seg g).ctxs[j] = x.ctx g j
  rw [free.seg]
  exact set_ne _ _ ne

theorem Freed.cell (d : Fin 32) : y.cell d = x.cell d := by rw [free.whole]; rfl
theorem Freed.chan (ch : Fin 8) : y.chan ch = x.chan ch := by rw [free.whole]; rfl
theorem Freed.regs : y.regs = x.regs := by rw [free.whole]

theorem Freed.read {a : Nat} (low : a < 0x1280) : y.mem.read a = x.mem.read a :=
  free.frame a (by have := segBase_bounds g; unfold Within; omega)

theorem Freed.bytes {a n : Nat} (low : a + n ≤ 0x1280) : y.mem.bytes a n = x.mem.bytes a n :=
  free.frame.bytes fun i lt => by have := segBase_bounds g; unfold Within; omega

theorem Freed.endsFailed {c : Fin 32} {stage : Stage} {reason : Reason} (h : EndsFailed x c stage reason) : EndsFailed y c stage reason := by
  have bounds := cellBase_bounds c
  have sb := segBase_bounds g
  refine h.later (by rw [free.cell]) free.frame (fun a place => ?_) (by rw [free.regs])
  unfold EndPlaces at place
  unfold Within at *
  omega

theorem Freed.endsDone {c : Fin 32} (h : EndsDone x c) : EndsDone y c := by
  have bounds := cellBase_bounds c
  have sb := segBase_bounds g
  refine h.later (by rw [free.cell]) free.frame (fun a place => ?_) (by rw [free.regs])
  unfold EndPlaces at place
  unfold Within at *
  omega

end

/-! ### The failure (R86) -/

theorem Mem.bytes_four (m : Mem) (a : Nat) : m.bytes a 4 = [m.read a, m.read (a + 1), m.read (a + 2), m.read (a + 3)] := rfl

/-- The transport detail of a fault record that stands in the cell. -/
theorem detailShows {x : State} {c : Fin 32} {g k : Fin 4} {d : Nat × Nat} {f : FaultRec} (transport : f.transport = some ⟨g, k, d.1, d.2⟩)
    (fault : ∀ o b, 2 ≤ o → o < 16 → (f.tail s)[o]? = some b → x.mem.read (cellBase c + 84 + o) = b) : DetailShows x c g k d := by
  have tail := fun i lt => FaultRec.tail_transport s f i lt
  rw [transport] at tail
  unfold DetailShows
  rw [Mem.bytes_four]
  have r0 := fault 5 _ (by decide) (by decide) ((tail 0 (by decide)).trans rfl)
  have r1 := fault 6 _ (by decide) (by decide) ((tail 1 (by decide)).trans rfl)
  have r2 := fault 7 _ (by decide) (by decide) ((tail 2 (by decide)).trans rfl)
  have r3 := fault 8 _ (by decide) (by decide) ((tail 3 (by decide)).trans rfl)
  exact congrArg₂ _ r0 (congrArg₂ _ r1 (congrArg₂ _ r2 (congrArg₂ _ r3 rfl)))

/-- The report of a failure of the exchange in context `k` of segment `g`. -/
def State.failure (x : State) (g k : Fin 4) (reason : Reason) (d : Nat × Nat) : Report :=
  { outcome := .failure reason, respLen := (x.ctx g k).respLen (.failure reason), truncated := (x.ctx g k).truncated,
    refusal := (x.ctx g k).refusal, touched := (x.ctx g k).touched, detail := ⟨g, k, d.1, d.2⟩ }

/-- What holds of a failure in a context whatever its role is. -/
structure ContextFailed (x y : State) (g k : Fin 4) (c : Fin 32) : Prop where
  ctx : y.ctx g k = Ctx.free
  ctxs : ∀ j, j ≠ k → y.ctx g j = x.ctx g j
  seg : y.seg g = { x.seg g with ctxs := (y.seg g).ctxs, busy := (x.seg g).busy.filter (· != (x.ctx g k).target),
                                 offered := (y.seg g).offered, counter := (y.seg g).counter }
  segs : ∀ h, h ≠ g → y.seg h = x.seg h
  cells : OnlyCellState x y c
  event : ∀ i, x.regs.event.getLsbD i = true → y.regs.event.getLsbD i = true
  whole : y = { x with board := y.board, regs := y.regs, mem := y.mem, info := y.info, chans := y.chans, segs := y.segs
                       transfers := y.transfers, slots := y.slots, watches := y.watches, cm := y.cm }
  frame : MemFrame x y (TransferPlaces c)

/-! #### An EXCHANGE cell's exchange -/

/-- The fault record of an EXCHANGE cell whose exchange failed. -/
def State.exchangeFault (x : State) (g k : Fin 4) (c : Fin 32) (reason : Reason) (d : Nat × Nat) : FaultRec :=
  { FaultRec.core .transport reason (x.segmentOf (targetOf (x.cell c).captured)) with
    secondary := if (x.cell c).abortPending then some .aborted else none
    transport := some ⟨g, k, d.1, d.2⟩
    touched := (x.ctx g k).touched }

/-- The exchange of an EXCHANGE cell has failed, and its context is FREE. -/
structure ExchangeFailed (x y : State) (g k : Fin 4) (c : Fin 32) (reason : Reason) (d : Nat × Nat) : Prop where
  common : ContextFailed x y g k c
  fails : ExchangeFails x y g k c reason d
  chans : ∀ ch, channelNamed (x.cell c).captured ≠ some ch → y.chan ch = x.chan ch
  regs : y.regs = { x.regs with done := x.regs.done ||| (1#32 <<< c.val), irq := y.regs.irq }
  whole : y = { x with board := y.board, regs := y.regs, mem := y.mem, chans := y.chans, segs := y.segs }
  frame : MemFrame x y fun a => EndPlaces c a ∨ Within (segBase g) 128 a ∨
    ∃ ch, channelNamed (x.cell c).captured = some ch ∧ Within (chanBase ch) 32 a

theorem exchangeFailed {x : State} {g k : Fin 4} {c : Fin 32} (nothing : StartsNothing x g) (role : (x.ctx g k).role = .exchange)
    (cell : (x.ctx g k).cell = c) (reason : Reason) (d : Nat × Nat) :
    ExchangeFailed x (x.failExchange g k reason d.1 d.2) g k c reason d := by
  subst cell
  generalize hc : (x.ctx g k).cell = c
  have eq : x.failExchange g k reason d.1 d.2 =
      (x.endCell c { CellEnd.failed (x.exchangeFault g k c reason d) with
        truncated := (x.ctx g k).truncated, respLen := (x.ctx g k).respLen (.failure reason) }).freeCtx g k := by
    unfold State.failExchange State.endExchange
    dsimp only
    rw [role, hc]
    rfl
  generalize he : ({ CellEnd.failed (x.exchangeFault g k c reason d) with
    truncated := (x.ctx g k).truncated, respLen := (x.ctx g k).respLen (.failure reason) } : CellEnd) = e at eq
  have fault : e.fault = some (x.exchangeFault g k c reason d) := by rw [← he]; rfl
  have state : e.state = .failed := by rw [CellEnd.state, fault]
  have transport : Flag.transport ∈ e.conditions := by
    unfold CellEnd.conditions
    rw [fault]
    simp [State.exchangeFault, FaultRec.core]
  clear he
  have ended := cellOver x c e
  generalize x.endCell c e = z at eq ended
  have zseg : ∀ h, z.seg h = x.seg h := fun h => by rw [ended.whole]; rfl
  have zctx : ∀ j, z.ctx g j = x.ctx g j := fun j => by rw [ended.whole]; rfl
  have free := freed (x := z) k (g := g) (by unfold StartsNothing LanesEmpty; rw [zseg]; exact nothing)
  rw [← eq] at free
  generalize x.failExchange g k reason d.1 d.2 = y at free
  have seg := free.seg
  rw [zseg, zctx] at seg
  have bounds := cellBase_bounds c
  have whole : y = { x with board := y.board, regs := y.regs, mem := y.mem, chans := y.chans, segs := y.segs } := by rw [free.whole, ended.whole]
  have frame := ended.frame.both free.frame
  have cells : OnlyCellState x y c := by
    obtain ⟨posts, only, others⟩ := ended.cells
    exact ⟨by rw [← posts, free.whole], by rw [free.cell]; exact only, fun d ne => by rw [free.cell, others d ne]⟩
  have regs : y.regs = { x.regs with done := x.regs.done ||| (1#32 <<< c.val), irq := y.regs.irq } := by rw [free.regs]; exact ended.regs
  refine ⟨⟨free.ctx, fun j ne => by rw [free.ctxs j ne, zctx], ?_, fun h ne => by rw [free.segs h ne, zseg], cells, fun i set => ?_,
    by rw [free.whole, ended.whole], ?_⟩, ⟨free.endsFailed (ended.failed _ fault), ?_, ?_, fun ch named => ?_⟩, fun ch other => ?_, regs, whole, ?_⟩
  · have ctxs : (y.seg g).ctxs = (x.seg g).ctxs.set k Ctx.free := by rw [seg]
    rw [ctxs]
    exact seg
  · rw [regs]
    exact set
  · refine frame.mono ?_
    rintro a ((place | ⟨ch, _, chan⟩) | area)
    · exact .inl place
    · exact .inr (.inr (.inl ⟨ch, chan⟩))
    · exact .inr (.inr (.inr (.inl ⟨g, area⟩)))
  · refine detailShows (s := x) (f := x.exchangeFault g k c reason d) rfl fun o b _ lt hit => ?_
    rw [free.read (by omega)]
    exact ended.fault _ fault o b lt hit
  · rw [free.cell, ended.cell, state]
  · rw [free.chan, ended.chan ch named]
    exact foldl_or_of_mem transport rfl _
  · rw [free.chan, ended.chans ch other]
  · refine frame.mono ?_
    rintro a ((place | chan) | area)
    · exact .inl place
    · exact .inr (.inr chan)
    · exact .inr (.inl area)

end Sys2Proof.Machine
end

section
/-! PROOFS. The failure of a transfer's exchange and of a watch's cycle in a context (R119, R132, R135, R148). -/

namespace Sys2Proof.Machine

variable {s t : State}

/-- A transfer that an exchange has touched (R119). -/
def Transfer.touchedBy (touched : Bool) (r : Transfer) : Transfer := { r with touched := r.touched || touched }

/-- How a transfer fails by the failure of its exchange (R132). -/
def State.exchangeTFail (x : State) (g k : Fin 4) (r : Transfer) (reason : Reason) (d : Nat × Nat) : TFail :=
  { reason := reason, secondary := r.pending, stage := .transport, refusal := some (x.ctx g k).refusal, transport := some ⟨g, k, d.1, d.2⟩,
    role := r.standing }

/-- An exchange of the transfer `r` has failed, and its context is FREE. -/
structure TransferFailedIn (x y : State) (g k : Fin 4) (c : Fin 32) (r : Transfer) (reason : Reason) (d : Nat × Nat) : Prop where
  common : ContextFailed x y g k c
  fails : TransferExchangeFails x y g k c r reason d
  whole : y = { x with board := y.board, regs := y.regs, mem := y.mem, info := y.info, chans := y.chans, segs := y.segs
                       transfers := y.transfers, slots := y.slots, cm := y.cm }

theorem FaultRec.tail_secondary (x : State) (f : FaultRec) : (f.tail x)[2]? = some (byte (match f.secondary with
    | some p => p.code
    | none => 0)) := by
  unfold FaultRec.tail
  rfl

theorem State.failExchange_transfer {x : State} {g k : Fin 4} (role : (x.ctx g k).role.ofTransfer) (reason : Reason) (d : Nat × Nat) :
    x.failExchange g k reason d.1 d.2 = ((x.transferReport (x.ctx g k).cell (x.failure g k reason d) (x.ctx g k)).freeCtx g k).transferResume
      (x.ctx g k).cell := by
  obtain ⟨exchange, cycle⟩ := role
  unfold State.failExchange State.endExchange
  dsimp only
  cases h : (x.ctx g k).role with
  | exchange => exact absurd h exchange
  | cycle => exact absurd h cycle
  | start => rfl
  | data => rfl
  | ending => rfl
  | verify => rfl
  | keepalive => rfl

theorem transferFailedIn {x : State} {g k : Fin 4} {c : Fin 32} {r : Transfer} (nothing : StartsNothing x g) (role : (x.ctx g k).role.ofTransfer)
    (cell : (x.ctx g k).cell = c) (here : x.transfer c = some r) (reason : Reason) (named : reason.isTransport = true) (d : Nat × Nat) :
    TransferFailedIn x (x.failExchange g k reason d.1 d.2) g k c r reason d := by
  subst cell
  generalize hc : (x.ctx g k).cell = c at here
  obtain ⟨x1, hx1⟩ : ∃ x1, x1 = x.modTransfer c (Transfer.touchedBy (x.ctx g k).touched) := ⟨_, rfl⟩
  have there : x1.transfer c = some (r.touchedBy (x.ctx g k).touched) := by rw [hx1, State.transfer_modTransfer, here]; rfl
  have others : ∀ e, e ≠ c → x1.transfer e = x.transfer e := fun e ne => by rw [hx1, State.transfer_modTransfer_ne _ _ ne]
  have whole1 : x1 = { x with transfers := x1.transfers } := by rw [hx1]; rfl
  obtain ⟨f, hf⟩ : ∃ f, f = x.exchangeTFail g k r reason d := ⟨_, rfl⟩
  have report : x.transferReport c (x.failure g k reason d) (x.ctx g k) = x1.transferFail c f := by
    unfold State.transferReport
    dsimp only
    rw [show (x.modTransfer c fun t => { t with touched := t.touched || (x.failure g k reason d).touched }) = x1 from hx1.symm, there, hf]
    rfl
  have fails := transferFails there f
  generalize x1.transferFail c f = z at report fails
  have eq : x.failExchange g k reason d.1 d.2 = (z.freeCtx g k).transferResume c := by
    rw [State.failExchange_transfer role reason d, hc, report]
  clear hx1 report
  have zseg : ∀ h, z.seg h = x.seg h := fun h => by rw [fails.whole, whole1]; rfl
  have zctx : ∀ j, z.ctx g j = x.ctx g j := fun j => by rw [fails.whole, whole1]; rfl
  have free := freed (x := z) k (g := g) (by unfold StartsNothing LanesEmpty; rw [zseg]; exact nothing)
  generalize z.freeCtx g k = y at eq free
  have ytransfer : ∀ e, y.transfer e = z.transfer e := fun e => by rw [free.whole]; rfl
  have stays : y.transferResume c = y := by
    unfold State.transferResume
    rw [ytransfer, fails.transfer]
  rw [eq, stays]
  clear eq stays
  have x1cell : ∀ e, x1.cell e = x.cell e := fun e => by rw [whole1]; rfl
  have x1chan : ∀ e, x1.chan e = x.chan e := fun e => by rw [whole1]; rfl
  have x1slot : ∀ n, x1.slot n = x.slot n := fun n => by rw [whole1]; rfl
  have x1regs : x1.regs = x.regs := by rw [whole1]
  have yslot : ∀ n, y.slot n = z.slot n := fun n => by rw [free.whole]; rfl
  have seg := free.seg
  rw [zseg, zctx] at seg
  have bounds := cellBase_bounds c
  have fault : ∀ o b, 2 ≤ o → o < 16 → ((transferFault x1 (r.touchedBy (x.ctx g k).touched) f).tail x1)[o]? = some b →
      y.mem.read (cellBase c + 84 + o) = b := fun o b two lt hit => by
    rw [free.read (by omega)]
    exact fails.fault o b two lt hit
  have transport : (transferFault x1 (r.touchedBy (x.ctx g k).touched) f).transport = some ⟨g, k, d.1, d.2⟩ := by
    rw [hf]
    exact if_pos named
  have released := fails.released
  have freason : f.reason = reason := by rw [hf]; rfl
  have fstage : f.stage = .transport := by rw [hf]; rfl
  refine ⟨⟨free.ctx, fun j ne => by rw [free.ctxs j ne, zctx], ?_, fun h ne => by rw [free.segs h ne, zseg], ?_, fun i set => ?_,
    by rw [free.whole, fails.whole, whole1], ?_⟩, ⟨?_, detailShows transport fault, ?_, ?_, fun o out => ?_, ?_, fun ch name => ?_⟩,
    by rw [free.whole, fails.whole, whole1]⟩
  · have ctxs : (y.seg g).ctxs = (x.seg g).ctxs.set k Ctx.free := by rw [seg]
    rw [ctxs]
    exact seg
  · obtain ⟨posts, only, rest⟩ := fails.cells
    exact ⟨by rw [free.whole, posts, whole1], by rw [free.cell, only, x1cell], fun e ne => by rw [free.cell, rest e ne, x1cell]⟩
  · rw [free.regs, fails.regs, x1regs]
    dsimp only
    rw [BitVec.getLsbD_or, set, Bool.true_or]
  · have first : MemFrame x z (TransferPlaces c) := by
      have frame := fails.frame
      intro a out
      rw [frame a fun place => out ?_, whole1]
      rcases place with place | ⟨n, _, slot⟩ | ⟨ch, _, chan⟩ | lamp
      · exact .inl place
      · exact .inr (.inl ⟨n, slot⟩)
      · exact .inr (.inr (.inl ⟨ch, chan⟩))
      · exact .inr (.inr (.inr (.inr lamp)))
    refine (first.both free.frame).mono ?_
    rintro a (place | area)
    · exact place
    · exact .inr (.inr (.inr (.inl ⟨g, area⟩)))
  · obtain ⟨ends, gone, rest, slot, latch, latched⟩ := released
    rw [freason] at ends
    refine ⟨free.endsFailed ends, by rw [ytransfer, gone], fun e ne => by rw [ytransfer, rest e ne, others e ne], fun n => ?_, ?_, fun touched => ?_⟩
    · rw [yslot, slot, x1slot]
    · rw [free.chan]
      refine latch.trans ?_
      rw [x1chan]
      rfl
    · rw [free.regs, free.chan]
      exact latched touched
  · rw [free.cell, fails.cell, x1cell]
  · rw [fault 2 _ (by decide) (by decide) (FaultRec.tail_secondary _ _), hf]
    rfl
  · rw [fault 9 _ (by decide) (by decide) ((FaultRec.tail_progress x1 _ _ rfl 0).trans rfl), hf]
    show byte r.standing.1.code = _
    rw [Transfer.standing, out]
  · rw [fault 10 _ (by decide) (by decide) (transferFault_stage x1 _ _), fstage]
  · rw [free.chan]
    rw [← x1cell] at name
    obtain ⟨failed, transportBit, -⟩ := fails.accrued ch name
    exact ⟨transportBit fstage, failed⟩

/-! ### A cycle (R148) -/

/-- A watch that an exchange has touched. -/
def Watch.touchedBy (touched : Bool) (w : Watch) : Watch := { w with touched := w.touched || touched }

/-- The fault of a cycle whose exchange failed in a context. -/
def State.cycleFault (x : State) (g k : Fin 4) (reason : Reason) (d : Nat × Nat) : CycleFault :=
  { stage := .transport, reason := reason, touched := (x.ctx g k).touched, transport := some ⟨g, k, d.1, d.2⟩ }

/-- The sample that a cycle which fails in context `k` leaves, if its response had begun. -/
def State.begunSample (x : State) (g k : Fin 4) (reason : Reason) (d : Nat × Nat) : Sample :=
  (x.failure g k reason d).begun (x.ctx g k).form x.time.ms

/-- The watch after the failure of its exchange in context `k`. -/
def Watch.failedIn (x : State) (g k : Fin 4) (reason : Reason) (d : Nat × Nat) (w : Watch) : Watch :=
  ((w.touchedBy (x.ctx g k).touched).closedWith (x.begunSample g k reason d)).tallied (x.cycleFault g k reason d)

/-- A cycle of the watch `w` has failed, and its context is FREE. -/
structure CycleFailedIn (x y : State) (g k : Fin 4) (c : Fin 32) (w : Watch) (reason : Reason) (d : Nat × Nat) : Prop where
  common : ContextFailed x y g k c
  fails : CycleFails x y g k c w reason d
  whole : y = { x with board := y.board, regs := y.regs, mem := y.mem, chans := y.chans, segs := y.segs, watches := y.watches }
  frame : MemFrame x y fun a => EndPlaces c a ∨ Within (segBase g) 128 a ∨
    ∃ ch, (ch = w.channel ∨ channelNamed (x.cell c).captured = some ch) ∧ Within (chanBase ch) 32 a

theorem State.failExchange_cycle {x : State} {g k : Fin 4} (role : (x.ctx g k).role = .cycle) (reason : Reason) (d : Nat × Nat) :
    x.failExchange g k reason d.1 d.2 = (x.watchReport (x.ctx g k).cell (x.failure g k reason d) (x.ctx g k).form).freeCtx g k := by
  unfold State.failExchange State.endExchange
  dsimp only
  rw [role]
  rfl

theorem Watch.failedIn_eq (x : State) (g k : Fin 4) (reason : Reason) (d : Nat × Nat) (w : Watch) :
    w.failedIn x g k reason d = { w with
      touched := w.touched || (x.ctx g k).touched, seq := if w.seq.getLsbD 0 then w.seq + 1 else w.seq
      sample := if w.seq.getLsbD 0 then ⟨if (x.ctx g k).st = .receiving ∧ (x.ctx g k).form ≠ .hold then (x.ctx g k).received else 0, x.time.ms,
        (x.ctx g k).form.code, (x.ctx g k).refusal, (x.ctx g k).truncated, false⟩ else w.sample
      lastFault := some ⟨.transport, reason, (x.ctx g k).touched, some ⟨g, k, d.1, d.2⟩⟩, failed := min (w.failed + 1) 0xFFFF
      consecutive := w.consecutive + 1, out := .none } := by
  have sample : x.begunSample g k reason d = ⟨if (x.ctx g k).st = .receiving ∧ (x.ctx g k).form ≠ .hold then (x.ctx g k).received else 0, x.time.ms,
      (x.ctx g k).form.code, (x.ctx g k).refusal, (x.ctx g k).truncated, false⟩ := by
    simp [State.begunSample, Report.begun, State.failure, Ctx.respLen]
  unfold Watch.failedIn Watch.closedWith
  rw [sample]
  cases odd : (w.touchedBy (x.ctx g k).touched).seq.getLsbD 0 with
  | true =>
    rw [if_pos rfl, if_pos (show w.seq.getLsbD 0 = true from odd), if_pos (show w.seq.getLsbD 0 = true from odd)]
    rfl
  | false =>
    have even : ¬ w.seq.getLsbD 0 = true := by rw [show w.seq.getLsbD 0 = false from odd]; decide
    rw [if_neg (by decide), if_neg even, if_neg even]
    rfl

/-- The part once the watch `u` of a failed cycle is counted. -/
structure CycleReady (x z : State) (c : Fin 32) (u : Watch) : Prop where
  watch : z.watch c = some u
  watches : ∀ e, e ≠ c → z.watch e = x.watch e
  whole : z = { x with mem := z.mem, watches := z.watches }
  frame : MemFrame x z (Within (cellBase c + 64) 64)

theorem cycleReported {x : State} {c : Fin 32} {w : Watch} (here : x.watch c = some w) (g k : Fin 4) (reason : Reason) (d : Nat × Nat) :
    ∃ z, CycleReady x z c (w.failedIn x g k reason d) ∧
      CycleSettled z (x.watchReport c (x.failure g k reason d) (x.ctx g k).form) c (w.failedIn x g k reason d) (x.cycleFault g k reason d) := by
  have touched := watchOnly here (Watch.touchedBy (x.ctx g k).touched)
  obtain ⟨x1, hx1⟩ : ∃ x1, x1 = x.modWatch c (Watch.touchedBy (x.ctx g k).touched) := ⟨_, rfl⟩
  rw [← hx1] at touched
  have time1 : x1.time = x.time := by rw [touched.whole]
  have closed := sampleClosed touched.watch (x.begunSample g k reason d)
  obtain ⟨x2, hx2⟩ : ∃ x2, x2 = x1.sampleClosed c (w.touchedBy (x.ctx g k).touched) (x.begunSample g k reason d) := ⟨_, rfl⟩
  rw [← hx2] at closed
  have counted := watchOnly closed.watch (Watch.tallied (x.cycleFault g k reason d))
  have fails := State.cycleFailed_transport (f := x.cycleFault g k reason d) (r := x.failure g k reason d) (form := (x.ctx g k).form) touched.watch
    (by rw [time1]; exact hx2.symm) closed.watch
  have report : x.watchReport c (x.failure g k reason d) (x.ctx g k).form =
      x1.cycleFailed c (x.cycleFault g k reason d) (some (x.failure g k reason d, (x.ctx g k).form)) := by
    rw [hx1]
    rfl
  clear hx1 hx2
  rw [report, fails]
  clear report fails
  generalize hu : (((w.touchedBy (x.ctx g k).touched).closedWith (x.begunSample g k reason d)).tallied (x.cycleFault g k reason d)) = u at counted ⊢
  have failed : w.failedIn x g k reason d = u := hu
  rw [failed]
  generalize x2.modWatch c (Watch.tallied (x.cycleFault g k reason d)) = x3 at counted ⊢
  have written := countsWritten counted.watch
  generalize x3.wrCounts c = z at written ⊢
  have zwatch : ∀ e, z.watch e = x3.watch e := fun e => by rw [written.whole]; rfl
  have zhere := (zwatch c).trans counted.watch
  refine ⟨z, ⟨zhere, fun e ne => ?_, ?_, fun a out => ?_⟩, cycleSettled zhere written.bytes (List.mem_append_left _ (List.mem_singleton.2 rfl))⟩
  · rw [zwatch, counted.watches e ne, closed.watches e ne, touched.watches e ne]
  · rw [written.whole, counted.whole, closed.whole, touched.whole]
  · rw [written.frame a fun inside => out (by unfold Within at *; omega), counted.whole]
    refine (closed.frame a out).trans ?_
    rw [touched.whole]

theorem cycleFailedIn {x : State} {g k : Fin 4} {c : Fin 32} {w : Watch} (nothing : StartsNothing x g) (role : (x.ctx g k).role = .cycle)
    (cell : (x.ctx g k).cell = c) (here : x.watch c = some w) (alone : x.entryOf c = none) (clean : x.info.dirty = false) (reason : Reason)
    (d : Nat × Nat) : CycleFailedIn x (x.failExchange g k reason d.1 d.2) g k c w reason d := by
  subst cell
  have eq := State.failExchange_cycle role reason d
  generalize hc : (x.ctx g k).cell = c at here alone eq
  obtain ⟨z, ⟨zhere, zothers, zwhole, zframe⟩, settles⟩ := cycleReported here g k reason d
  have expect := Watch.failedIn_eq x g k reason d w
  generalize w.failedIn x g k reason d = u at zhere settles expect
  generalize x.watchReport c (x.failure g k reason d) (x.ctx g k).form = v at settles eq
  have zcell : ∀ e, z.cell e = x.cell e := fun e => by rw [zwhole]; rfl
  have zentry : z.entryOf c = none := by rw [zwhole]; exact alone
  have zsegs : z.segs = x.segs := by rw [zwhole]
  have zclean : z.info.dirty = false := by rw [zwhole]; exact clean
  have vsegs : v.segs = x.segs := by
    by_cases on : u.consecutive < 4 ∧ u.pending = none
    · rw [(settles.goesOn on.1 on.2).2.1, zsegs]
    · have ended : ¬ u.consecutive < 4 ∨ u.pending ≠ none := by rw [← not_and_or]; exact on
      rw [(settles.ends ended).2.1 zentry, zsegs]
  have vseg : ∀ h, v.seg h = x.seg h := fun h => by rw [State.seg, vsegs, State.seg]
  have vctx : ∀ j, v.ctx g j = x.ctx g j := fun j => by rw [State.ctx, vsegs, State.ctx]
  have free := freed (x := v) k (g := g) (by unfold StartsNothing LanesEmpty; rw [vseg]; exact nothing)
  rw [← eq] at free
  generalize x.failExchange g k reason d.1 d.2 = y at free
  clear eq
  have vwhole : v = { x with board := v.board, regs := v.regs, mem := v.mem, chans := v.chans, watches := v.watches } := by
    have whole := settles.whole
    rw [vsegs, settles.clean zclean, zwhole] at whole
    exact whole
  have vframe : MemFrame x v fun a => EndPlaces c a ∨
      ∃ ch, (ch = w.channel ∨ channelNamed (x.cell c).captured = some ch) ∧ Within (chanBase ch) 32 a := by
    have channel : u.channel = w.channel := by rw [expect]
    have frame := settles.frame
    rw [zcell, channel] at frame
    refine (zframe.both frame).mono ?_
    rintro a (area | place | chan | ⟨h, e, found, _⟩ | ⟨dirty, _⟩)
    · exact .inl (.inr area)
    · exact .inl place
    · exact .inr chan
    · exact absurd (found.symm.trans zentry) (by simp)
    · exact absurd (dirty.symm.trans zclean) (by decide)
  have channel : u.channel = w.channel := by rw [expect]
  have consecutive : u.consecutive = w.consecutive + 1 := by rw [expect]
  have pending : u.pending = w.pending := by rw [expect]
  have target : u.target = w.target := by rw [expect]
  have bounds := cellBase_bounds c
  have seg := free.seg
  rw [vseg, vctx] at seg
  have bit := settles.accrued
  rw [channel, if_neg (show ¬ (x.cycleFault g k reason d).stage = .queue from (by decide : ¬ Stage.transport = .queue))] at bit
  have ywatches : y.watches = v.watches := by rw [free.whole]
  have cells : OnlyCellState x y c := by
    obtain ⟨posts, only, others⟩ := settles.cells
    exact ⟨by rw [free.whole, posts, zwhole], by rw [free.cell, only, zcell], fun e ne => by rw [free.cell, others e ne, zcell]⟩
  have whole : y = { x with board := y.board, regs := y.regs, mem := y.mem, chans := y.chans, segs := y.segs, watches := y.watches } := by
    rw [free.whole, vwhole]
  have frame := vframe.both free.frame
  have event : y.regs.event = x.regs.event := by rw [free.regs, settles.event, zwhole]
  refine ⟨⟨free.ctx, fun j ne => by rw [free.ctxs j ne, vctx], ?_, fun h ne => by rw [free.segs h ne, vseg], cells, fun i set => by rw [event]; exact set,
    by rw [free.whole, vwhole], ?_⟩, ⟨by rw [free.chan]; exact bit, ?_, fun few idle => ⟨?_, ?_⟩, fun ended => ⟨?_, cells.2.1, fun many => ?_, fun few abort => ?_,
    fun p few cause other => ?_⟩⟩, whole, ?_⟩
  · have ctxs : (y.seg g).ctxs = (x.seg g).ctxs.set k Ctx.free := by rw [seg]
    rw [ctxs]
    exact seg
  · refine frame.mono ?_
    rintro a ((place | ⟨ch, _, chan⟩) | area)
    · exact .inl place
    · exact .inr (.inr (.inl ⟨ch, chan⟩))
    · exact .inr (.inr (.inr (.inl ⟨g, area⟩)))
  · refine (free.bytes (by omega)).trans (settles.counts.trans ?_)
    exact congrArg Watch.countBytes expect
  · obtain ⟨same, -, -⟩ := settles.goesOn (by rw [consecutive]; omega) (pending.trans idle)
    refine (ywatches.trans same).trans ((watches_eq_set zhere zothers).trans ?_)
    rw [expect]
  · obtain ⟨-, still, -⟩ := settles.goesOn (by rw [consecutive]; omega) (pending.trans idle)
    rw [free.cell, still, ← zcell]
    rfl
  · have gone := (settles.ends (by rw [consecutive, pending]; exact ended.imp (fun many => by omega) id)).1
    rw [ywatches, gone]
    exact watches_release zothers
  · obtain ⟨fails, fault⟩ := settles.fourth (by rw [consecutive]; omega)
    have reads : ∀ o b, 2 ≤ o → o < 16 → ((cycleRec z u (x.cycleFault g k reason d)).tail z)[o]? = some b → y.mem.read (cellBase c + 84 + o) = b :=
      fun o b _ lt hit => by
        rw [free.read (by omega)]
        exact fault o b lt hit
    refine ⟨free.endsFailed fails, detailShows rfl reads, ?_⟩
    rw [reads 2 _ (by decide) (by decide) (FaultRec.tail_secondary _ _)]
    exact congrArg (fun o : Option Reason => byte (match o with
      | some p => p.code
      | none => 0)) pending
  · exact free.endsDone (settles.aborted (by rw [consecutive]; omega) (pending.trans abort))
  · exact free.endsFailed (settles.causes p (by rw [consecutive]; omega) (pending.trans cause) other)
  · refine frame.mono ?_
    rintro a ((place | chan) | area)
    · exact .inl place
    · exact .inr (.inr chan)
    · exact .inr (.inl area)

end Sys2Proof.Machine
end

section
/-! PROOFS. The waits of a context (R78, R79, R82), and the failures of exchanges at the end of their event. -/

namespace Sys2Proof.Machine

variable {s t : State}

section
variable {x y : State} {g k : Fin 4} {c : Fin 32} (closed : Closes y t)
include closed

theorem ContextFailed.closes (fails : ContextFailed x y g k c) : ContextFailed x t g k c := by
  obtain ⟨ctx, ctxs, seg, segs, cells, event, whole, frame⟩ := fails
  have eq := closed.whole
  have chans : t.chans = y.chans := by rw [closed.whole]
  have tsegs : t.segs = y.segs := by rw [closed.whole]
  have transfers : t.transfers = y.transfers := by rw [closed.whole]
  have slots : t.slots = y.slots := by rw [closed.whole]
  have watches : t.watches = y.watches := by rw [closed.whole]
  refine ⟨by rw [closed.ctx, ctx], fun j ne => by rw [closed.ctx, ctxs j ne], by rw [closed.seg]; exact seg, fun h ne => by rw [closed.seg, segs h ne],
    closed.onlyCell cells, fun i set => by rw [closed.event]; exact event i set, ?_, ?_⟩
  · rw [whole] at eq
    dsimp only at eq
    rw [← closed.board, ← chans, ← tsegs, ← transfers, ← slots, ← watches, ← closed.cm] at eq
    exact eq
  · refine (frame.both closed.frame).mono ?_
    rintro a (place | shared)
    · exact place
    · exact .inr (.inr (.inr (.inr (.inr shared))))

theorem Closes.detailShows {d : Nat × Nat} (shows : DetailShows y c g k d) : DetailShows t c g k d := by
  have bounds := cellBase_bounds c
  unfold DetailShows
  rw [closed.above (by omega)]
  exact shows

theorem Closes.exchangeFails {reason : Reason} {d : Nat × Nat} (fails : ExchangeFails x y g k c reason d) : ExchangeFails x t g k c reason d := by
  obtain ⟨ends, detail, cell, chan⟩ := fails
  exact ⟨closed.endsFailed ends, closed.detailShows detail, by rw [closed.cell, cell], fun ch named => by rw [closed.chan]; exact chan ch named⟩

theorem Closes.released {r : Transfer} {reason : Reason} (released : TransferReleased x y c r reason) : TransferReleased x t c r reason := by
  obtain ⟨ends, gone, others, slot, latch, latched⟩ := released
  refine ⟨closed.endsFailed ends, by rw [closed.transfer, gone], fun e ne => by rw [closed.transfer, others e ne], fun n => by rw [closed.slot, slot],
    by rw [closed.chan, latch], fun touched => ?_⟩
  rw [closed.event, closed.chan]
  exact latched touched

theorem Closes.transferExchangeFails {r : Transfer} {reason : Reason} {d : Nat × Nat} (fails : TransferExchangeFails x y g k c r reason d) :
    TransferExchangeFails x t g k c r reason d := by
  obtain ⟨released, detail, cell, secondary, role, stage, accrued⟩ := fails
  have bounds := cellBase_bounds c
  refine ⟨closed.released released, closed.detailShows detail, by rw [closed.cell, cell], ?_, fun o out => ?_, ?_, fun ch named => ?_⟩
  · rw [closed.read (by omega)]
    exact secondary
  · rw [closed.read (by omega)]
    exact role o out
  · rw [closed.read (by omega)]
    exact stage
  · rw [closed.chan]
    exact accrued ch named

theorem Closes.cycleFails {w : Watch} {reason : Reason} {d : Nat × Nat} (fails : CycleFails x y g k c w reason d) : CycleFails x t g k c w reason d := by
  obtain ⟨bit, counts, on, gone⟩ := fails
  have bounds := cellBase_bounds c
  have watches : t.watches = y.watches := by rw [closed.whole]
  refine ⟨by rw [closed.chan]; exact bit, ?_, fun few idle => ?_, fun ended => ?_⟩
  · rw [closed.above (by omega)]
    exact counts
  · obtain ⟨next, cell⟩ := on few idle
    exact ⟨watches.trans next, by rw [closed.cell, cell]⟩
  · obtain ⟨none, cell, fourth, aborted, pending⟩ := gone ended
    refine ⟨watches.trans none, by rw [closed.cell]; exact cell, fun many => ?_, fun few abort => closed.endsDone (aborted few abort),
      fun p few cause other => closed.endsFailed (pending p few cause other)⟩
    obtain ⟨ends, detail, secondary⟩ := fourth many
    refine ⟨closed.endsFailed ends, closed.detailShows detail, ?_⟩
    rw [closed.read (by omega)]
    exact secondary

theorem ExchangeFailed.closes {reason : Reason} {d : Nat × Nat} (failed : ExchangeFailed x y g k c reason d) (clean : x.info.dirty = false) :
    ExchangeFailed x t g k c reason d := by
  obtain ⟨common, fails, chans, regs, whole, frame⟩ := failed
  have info : y.info = x.info := by rw [whole]
  obtain ⟨mem, tinfo⟩ := closed.clean (by rw [info]; exact clean)
  refine ⟨common.closes closed, closed.exchangeFails fails, fun ch other => by rw [closed.chan, chans ch other], ?_, ?_, fun a out => by rw [mem]; exact frame a out⟩
  · have eq := closed.regs
    rw [regs] at eq
    rw [eq]
  · have eq := closed.whole
    have tchans : t.chans = y.chans := by rw [closed.whole]
    have tsegs : t.segs = y.segs := by rw [closed.whole]
    rw [tinfo, whole] at eq
    dsimp only at eq
    rw [← closed.board, ← tchans, ← tsegs] at eq
    exact eq

theorem TransferFailedIn.closes {r : Transfer} {reason : Reason} {d : Nat × Nat} (failed : TransferFailedIn x y g k c r reason d) :
    TransferFailedIn x t g k c r reason d := by
  obtain ⟨common, fails, whole⟩ := failed
  refine ⟨common.closes closed, closed.transferExchangeFails fails, ?_⟩
  have eq := (common.closes closed).whole
  have watches : t.watches = x.watches := by rw [closed.whole, whole]
  rw [watches] at eq
  exact eq

theorem CycleFailedIn.closes {w : Watch} {reason : Reason} {d : Nat × Nat} (failed : CycleFailedIn x y g k c w reason d) (clean : x.info.dirty = false) :
    CycleFailedIn x t g k c w reason d := by
  obtain ⟨common, fails, whole, frame⟩ := failed
  have info : y.info = x.info := by rw [whole]
  obtain ⟨mem, tinfo⟩ := closed.clean (by rw [info]; exact clean)
  refine ⟨common.closes closed, closed.cycleFails fails, ?_, fun a out => by rw [mem]; exact frame a out⟩
  have eq := (common.closes closed).whole
  have transfers : t.transfers = x.transfers := by rw [closed.whole, whole]
  have slots : t.slots = x.slots := by rw [closed.whole, whole]
  have cm : t.cm = x.cm := by rw [closed.whole, whole]
  rw [tinfo, info, transfers, slots, cm] at eq
  exact eq

end

/-- Settles O56. -/
theorem waitExpiries : Obligations.WaitExpiries := by
  unfold Obligations.WaitExpiries
  intro g x s settled empty k c freed fails due
  have acts : ∀ i reason (d : Nat × Nat), exec i s = .next (s.failExchange g x reason d.1 d.2).finish → reason.isTransport = true → fails i reason d := by
    intro i reason d runs named
    have closed := closes (s.failExchange g x reason d.1 d.2)
    generalize (s.failExchange g x reason d.1 d.2).finish = t at runs closed
    have free : ContextFailed s t g x c → freed t := fun common => ⟨common.ctx, common.ctxs, common.seg, common.segs⟩
    refine ⟨fun role => ⟨t, runs, ?_⟩, fun r role here => ⟨t, runs, ?_⟩, fun w role here alone => ⟨t, runs, ?_⟩⟩
    · have failed := (exchangeFailed (.inl empty) role rfl reason d).closes closed settled.1
      refine ⟨free failed.common, failed.fails, failed.chans, failed.common.cells, ?_, failed.whole, failed.frame⟩
      unfold EndRegs
      rw [show s.regs.event ||| 0 = s.regs.event from BitVec.or_zero, ← closed.line]
      exact failed.regs
    · have failed := (transferFailedIn (.inl empty) role rfl here reason named d).closes closed
      exact ⟨free failed.common, failed.fails, failed.common.cells, failed.whole, failed.common.frame⟩
    · have failed := (cycleFailedIn (.inl empty) role rfl here alone settled.1 reason d).closes closed settled.1
      exact ⟨free failed.common, failed.fails, failed.common.cells, failed.whole, failed.frame⟩
  have waits : ∀ st, k.st = st → s.waitDue g x st = true := fun st eq => by
    rw [State.waitDue, due, show (s.ctx g x).st = st from eq]
    simp
  refine ⟨fun st => acts _ _ _ ?_ (by decide), fun st => acts _ _ _ ?_ (by decide), fun st => acts _ _ _ ?_ (by decide)⟩
  · refine (show exec (.creditWaitExpiry g x) s = execCreditWaitExpiry g x s from rfl).trans ?_
    unfold execCreditWaitExpiry
    rw [if_pos (waits _ st)]
    rfl
  · refine (show exec (.responseWaitExpiry g x) s = execResponseWaitExpiry g x s from rfl).trans ?_
    unfold execResponseWaitExpiry
    rw [if_pos (waits _ st)]
    rfl
  · refine (show exec (.partWaitExpiry g x) s = execPartWaitExpiry g x s from rfl).trans ?_
    unfold execPartWaitExpiry
    rw [if_pos (waits _ st)]
    rfl

end Sys2Proof.Machine
end

section
/-! PROOFS. Error counts, controller states and bus errors (R64, R65, R67, R70, R95). -/

namespace Sys2Proof.Machine

variable {s t : State}

/-! ### A controller state (R71) -/

structure CtlSet (x y : State) (g : Fin 4) (k : Ctl) : Prop where
  seg : y.seg g = { x.seg g with ctl := k, counter := (y.seg g).counter }
  segs : ∀ h, h ≠ g → y.seg h = x.seg h
  regs : y.regs = { x.regs with event := x.regs.event ||| if k = (x.seg g).ctl then 0 else Event.segment.bit }
  whole : y = { x with segs := y.segs, regs := y.regs, mem := y.mem }
  frame : MemFrame x y (Within (segBase g) 128)

theorem ctlSet (x : State) (g : Fin 4) (k : Ctl) : CtlSet x (x.setCtl g k) g k := by
  unfold State.setCtl
  by_cases same : (x.seg g).ctl = k
  · rw [if_pos same]
    refine ⟨by rw [← same], fun _ _ => rfl, ?_, rfl, MemFrame.refl x _⟩
    rw [if_pos same.symm, show x.regs.event ||| 0 = x.regs.event from BitVec.or_zero]
  · rw [if_neg same]
    obtain ⟨y, hy⟩ : ∃ y, y = x.modSeg g fun q => { q with ctl := k } := ⟨_, rfl⟩
    rw [← hy]
    have yseg : y.seg g = { x.seg g with ctl := k } := by rw [hy, State.seg_modSeg]
    have ysegs : ∀ h, h ≠ g → y.seg h = x.seg h := fun h ne => by rw [hy, State.seg_modSeg_ne _ _ ne]
    have ywhole : y = { x with segs := y.segs } := by rw [hy]; rfl
    clear hy
    have seg := y.seg_stuWrite g
    have segs := fun h (ne : h ≠ g) => y.stuWrite_seg_ne ne
    have whole : y.stuWrite g = { y with segs := (y.stuWrite g).segs, mem := (y.stuWrite g).mem } := by rw [State.stuWrite_eq]
    have frame := y.stuWrite_frame g
    generalize y.stuWrite g = z at *
    have zregs : z.regs = x.regs := by rw [whole, ywhole]
    refine ⟨?_, fun h ne => ?_, ?_, ?_, ?_⟩
    · show z.seg g = { x.seg g with ctl := k, counter := (z.seg g).counter }
      rw [seg, yseg]
    · show z.seg h = x.seg h
      rw [segs h ne, ysegs h ne]
    · rw [if_neg fun eq => same eq.symm, State.event_regs, zregs]
    · rw [State.event, State.modRegs, whole, ywhole]
    · intro a out
      rw [State.event_mem, frame a out, ywhole]

/-! ### Busy bits (R95) -/

structure BitsTaken (x y : State) (g : Fin 4) (bits : Nat) : Prop where
  seg : y.seg g = { x.seg g with subBits := (x.seg g).subBits + if (x.seg g).winStart.isSome then bits else 0
                                 winBits := (x.seg g).winBits + if (x.seg g).winStart.isSome then bits else 0 }
  segs : ∀ h, h ≠ g → y.seg h = x.seg h
  whole : y = { x with segs := y.segs }

theorem bitsTaken (x : State) (g : Fin 4) (bits : Nat) : BitsTaken x (x.countBits g bits) g bits := by
  refine ⟨?_, fun h ne => State.seg_modSeg_ne _ _ ne, rfl⟩
  rw [State.countBits, State.seg_modSeg]
  split <;> rfl

/-! ### Error counts (R64, R65) -/

/-- The error counts of segment `g` have taken those of `q`, and the controller state follows them. -/
structure ErrorsSettled (x y : State) (g : Fin 4) (q : Seg) : Prop where
  sends : (x.seg g).ctl.sends = true → y.seg g = { x.seg g with
    tecCount := q.tecCount, recCount := q.recCount, ctl := errorState q.tecCount q.recCount, counter := (y.seg g).counter }
  silent : (x.seg g).ctl.sends = false → y.seg g = x.seg g
  segs : ∀ h, h ≠ g → y.seg h = x.seg h
  regs : y.regs = { x.regs with event := x.regs.event ||| ctlEvents x y g }
  whole : y = { x with segs := y.segs, regs := y.regs, mem := y.mem }
  frame : MemFrame x y (Within (segBase g) 128)

theorem errorState_off (tec rec_ : Nat) : errorState tec rec_ = .off ↔ 255 < tec := by
  unfold errorState
  split
  · simpa
  · split
    · simp
      omega
    · split <;> (simp; omega)

theorem errorsSettled {x : State} {g : Fin 4} {f : Seg → Seg} (empty : LanesEmpty x g)
    (counts : ∀ q, f q = { q with tecCount := (f q).tecCount, recCount := (f q).recCount })
    (below : (x.seg g).ctl.sends = true → (f (x.seg g)).tecCount ≤ 255) : ErrorsSettled x (x.modErrors g f) g (f (x.seg g)) := by
  unfold State.modErrors
  cases sends : (x.seg g).ctl.sends with
  | false =>
    rw [if_neg (by decide)]
    refine ⟨fun yes => absurd (sends.symm.trans yes) (by decide), fun _ => rfl, fun _ _ => rfl, ?_, rfl, MemFrame.refl x _⟩
    rw [ctlEvents, if_pos rfl, show x.regs.event ||| 0 = x.regs.event from BitVec.or_zero]
  | true =>
    rw [if_pos rfl]
    obtain ⟨y, hy⟩ : ∃ y, y = x.modSeg g f := ⟨_, rfl⟩
    rw [← hy]
    have yseg : y.seg g = { x.seg g with tecCount := (f (x.seg g)).tecCount, recCount := (f (x.seg g)).recCount } := by
      rw [hy, State.seg_modSeg]
      exact counts _
    have ysegs : ∀ h, h ≠ g → y.seg h = x.seg h := fun h ne => by rw [hy, State.seg_modSeg_ne _ _ ne]
    have ywhole : y = { x with segs := y.segs } := by rw [hy]; rfl
    clear hy
    have on := below sends
    generalize f (x.seg g) = q at *
    have yctl : (y.seg g).ctl = (x.seg g).ctl := by rw [yseg]
    have yregs : y.regs = x.regs := by rw [ywhole]
    have notOff : errorState q.tecCount q.recCount ≠ .off := fun off => absurd ((errorState_off _ _).1 off) (by omega)
    have does : y.settleErrors g = if errorState q.tecCount q.recCount = (x.seg g).ctl then y else (y.setCtl g (errorState q.tecCount q.recCount)).arbitrate g := by
      unfold State.settleErrors
      dsimp only
      rw [yctl, sends, yseg, if_neg (by decide)]
      dsimp only
      cases state : errorState q.tecCount q.recCount with
      | off => exact absurd state notOff
      | joining => rfl
      | online => rfl
      | warning => rfl
      | passive => rfl
      | disabled => rfl
    rw [does]
    by_cases same : errorState q.tecCount q.recCount = (x.seg g).ctl
    · rw [if_pos same]
      refine ⟨fun _ => ?_, fun no => absurd (sends.symm.trans no) (by decide), ysegs, ?_, by rw [ywhole], fun a _ => by rw [ywhole]⟩
      · rw [yseg, same]
      · rw [ctlEvents, if_pos yctl, yregs, show x.regs.event ||| 0 = x.regs.event from BitVec.or_zero]
    · rw [if_neg same]
      have set := ctlSet y g (errorState q.tecCount q.recCount)
      generalize y.setCtl g (errorState q.tecCount q.recCount) = z at set
      have seg := set.seg
      rw [yseg] at seg
      have still : LanesEmpty z g := by
        rw [LanesEmpty, seg]
        exact empty
      rw [State.arbitrate_empty still]
      refine ⟨fun _ => ?_, fun no => absurd (sends.symm.trans no) (by decide), fun h ne => by rw [set.segs h ne, ysegs h ne], ?_, ?_, ?_⟩
      · rw [seg]
      · rw [set.regs, yregs, yctl, if_neg same, ctlEvents, if_neg (by rw [seg]; exact same)]
      · rw [set.whole, ywhole]
      · intro a out
        rw [set.frame a out, ywhole]

theorem ErrorsSettled.follow {x y : State} {g : Fin 4} {q : Seg} (settles : ErrorsSettled x y g q) : CountsFollow x y g q.tecCount q.recCount := by
  refine ⟨fun sends => ?_, fun silent => ?_⟩
  · rw [settles.sends sends]
    exact ⟨rfl, rfl, rfl⟩
  · rw [settles.silent silent]
    exact ⟨rfl, rfl, rfl⟩

/-! ### Errors that leave the controller sending (R65, R69, R70) -/

/-- An error frame has been counted, with the counts `tec` and `rec_` after it. -/
structure ErrorCounted (s t : State) (g : Fin 4) (tec rec_ : Nat) (ack : Bool) : Prop where
  frames : (t.seg g).errorFrames = (s.seg g).errorFrames + 1
  bits : BitsCounted s t g 20
  follow : CountsFollow s t g tec rec_
  seg : t.seg g = { s.seg g with
    errorFrames := (t.seg g).errorFrames, subBits := (t.seg g).subBits, winBits := (t.seg g).winBits, ctl := (t.seg g).ctl
    tecCount := (t.seg g).tecCount, recCount := (t.seg g).recCount, ack := ack, counter := (t.seg g).counter }
  segs : ∀ h, h ≠ g → t.seg h = s.seg h
  regs : t.regs = { s.regs with event := s.regs.event ||| ctlEvents s t g, irq := irqOf t.regs }
  whole : t = { s with segs := t.segs, regs := t.regs, mem := t.mem }
  frame : MemFrame s t (Within (segBase g) 128)

theorem sends_below {g : Fin 4} (agree : ErrorsAgree s) (sends : (s.seg g).ctl.sends = true) : (s.seg g).tecCount ≤ 255 := by
  have here := agree g
  have state : (s.seg g).ctl = errorState (s.seg g).tecCount (s.seg g).recCount := by
    rw [if_neg] at here
    · exact here
    · rintro (joining | disabled)
      · rw [joining] at sends
        exact absurd sends (by decide)
      · rw [disabled] at sends
        exact absurd sends (by decide)
  by_contra many
  rw [(errorState_off _ _).2 (by omega)] at state
  rw [state] at sends
  exact absurd sends (by decide)

theorem errorCounted {x : State} {g : Fin 4} {f : Seg → Seg} {ack : Bool} (settled : Settled s) (empty : LanesEmpty s g)
    (seg : x.seg g = { s.seg g with ack := ack }) (segs : ∀ h, h ≠ g → x.seg h = s.seg h) (whole : x = { s with segs := x.segs })
    (counts : ∀ q, f q = { q with tecCount := (f q).tecCount, recCount := (f q).recCount })
    {tec rec_ : Nat} (tecs : ∀ q, q.tecCount = (s.seg g).tecCount → (f q).tecCount = tec) (recs : ∀ q, q.recCount = (s.seg g).recCount → (f q).recCount = rec_)
    (below : (s.seg g).ctl.sends = true → tec ≤ 255) :
    ErrorCounted s ((x.errorFrame g).modErrors g f).finish g tec rec_ ack := by
  obtain ⟨y, hy⟩ : ∃ y, y = x.modSeg g fun q => { q with errorFrames := q.errorFrames + 1 } := ⟨_, rfl⟩
  have yseg : y.seg g = { s.seg g with ack := ack, errorFrames := (s.seg g).errorFrames + 1 } := by rw [hy, State.seg_modSeg, seg]
  have ysegs : ∀ h, h ≠ g → y.seg h = s.seg h := fun h ne => by rw [hy, State.seg_modSeg_ne _ _ ne, segs h ne]
  have ywhole : y = { s with segs := y.segs } := by rw [hy, whole]; rfl
  rw [State.errorFrame, ← hy]
  clear hy seg segs whole
  have taken := bitsTaken y g errorFrameBits
  generalize y.countBits g errorFrameBits = z at taken
  have zseg := taken.seg
  rw [yseg] at zseg
  have settles := errorsSettled (x := z) (f := f) (g := g) (by rw [LanesEmpty, zseg]; exact empty) counts (by
    rw [tecs _ (by rw [zseg]), zseg]
    exact below)
  have tecz := tecs (z.seg g) (by rw [zseg])
  have recz := recs (z.seg g) (by rw [zseg])
  generalize f (z.seg g) = q at settles tecz recz
  generalize z.modErrors g f = u at settles
  have uwhole : u = { s with segs := u.segs, regs := u.regs, mem := u.mem } := by rw [settles.whole, taken.whole, ywhole]
  have zctl : (z.seg g).ctl = (s.seg g).ctl := by rw [zseg]
  have useg : u.seg g = { s.seg g with
      errorFrames := (s.seg g).errorFrames + 1
      subBits := (s.seg g).subBits + if (s.seg g).winStart.isSome then 20 else 0
      winBits := (s.seg g).winBits + if (s.seg g).winStart.isSome then 20 else 0
      ctl := (u.seg g).ctl, tecCount := (u.seg g).tecCount, recCount := (u.seg g).recCount, ack := ack, counter := (u.seg g).counter } := by
    cases sends : (z.seg g).ctl.sends with
    | true =>
      have eq := settles.sends sends
      rw [zseg] at eq
      rw [eq]
      rfl
    | false =>
      have eq := settles.silent sends
      rw [zseg] at eq
      rw [eq]
      rfl
  have follow := settles.follow
  have closed := closes u
  generalize u.finish = t at closed
  have uregs : u.regs = { s.regs with event := s.regs.event ||| ctlEvents s u g } := by
    have zregs : z.regs = s.regs := by rw [taken.whole, ywhole]
    have same : ctlEvents z u g = ctlEvents s u g := by rw [ctlEvents, ctlEvents, zctl]
    rw [settles.regs, same, zregs]
  obtain ⟨mem, info⟩ := closed.clean (by rw [uwhole]; exact settled.1)
  have tseg : t.seg g = u.seg g := closed.seg g
  refine ⟨by rw [tseg, useg], ⟨by rw [tseg, useg], by rw [tseg, useg]⟩, ?_, ?_, fun h ne => by
    rw [closed.seg, settles.segs h ne, taken.segs h ne, ysegs h ne], ?_, ?_, ?_⟩
  · rw [CountsFollow, tseg]
    rw [CountsFollow, zctl, tecz, recz] at follow
    refine ⟨follow.1, fun silent => ?_⟩
    obtain ⟨tecu, recu, ctlu⟩ := follow.2 silent
    exact ⟨tecu.trans (by rw [zseg]), recu.trans (by rw [zseg]), ctlu⟩
  · rw [tseg]
    rw [useg]
  · have eq := closed.regs
    have same : ctlEvents s t g = ctlEvents s u g := by rw [ctlEvents, ctlEvents, tseg]
    rw [same, ← closed.line, eq, uregs]
  · have eq := closed.whole
    have tsegs : t.segs = u.segs := by rw [closed.whole]
    rw [info, uwhole, ← tsegs] at eq
    exact eq
  · intro a out
    rw [mem, settles.frame a out, taken.whole, ywhole]

/-- Settles the first part of O50. -/
theorem errorFrames {g : Fin 4} (settled : Settled s) (agree : ErrorsAgree s) (empty : LanesEmpty s g) :
    ((s.seg g).offered ≠ none → (s.seg g).tecCount + 8 ≤ 255 → ∃ t, exec (.transmitError g) s = .next t ∧
      ErrorCounted s t g ((s.seg g).tecCount + 8) (s.seg g).recCount (s.seg g).ack) ∧
    ∃ t, exec (.receiveError g) s = .next t ∧ ErrorCounted s t g (s.seg g).tecCount (min ((s.seg g).recCount + 1) 255) false := by
  refine ⟨fun offered below => ⟨_, ?_, errorCounted (x := s) (f := fun q => { q with tecCount := q.tecCount + 8 }) settled empty rfl (fun _ _ => rfl) rfl
    (fun _ => rfl) (fun q eq => by rw [← eq]) (fun q eq => eq) fun _ => below⟩, ⟨_, ?_, errorCounted (x := s.modSeg g fun q => { q with ack := false })
    (f := fun q => { q with recCount := min (q.recCount + 1) 255 }) settled empty (State.seg_modSeg _ _ _) (fun h ne => State.seg_modSeg_ne _ _ ne) rfl
    (fun _ => rfl) (fun q eq => eq) (fun q eq => by rw [← eq]) fun sends => sends_below agree sends⟩⟩
  · refine (show exec (.transmitError g) s = execTransmitError g s from rfl).trans ?_
    unfold execTransmitError
    rw [if_pos (Option.isSome_iff_ne_none.2 offered)]
    rfl
  · rfl

end Sys2Proof.Machine
end

section
/-! PROOFS. The failure of every busy context of a segment that does not send, and bus-off (R67, R86). -/

namespace Sys2Proof.Machine

variable {s t : State}

/-- Context `k` of segment `g` is FREE, and of the segment only contexts, lanes, busy set, offered frame and change counter have moved. -/
structure CtxFreed (x y : State) (g k : Fin 4) : Prop where
  ctx : y.ctx g k = Ctx.free
  ctxs : ∀ j, j ≠ k → y.ctx g j = x.ctx g j
  seg : y.seg g = { x.seg g with ctxs := (y.seg g).ctxs, lanes := (y.seg g).lanes, busy := (y.seg g).busy,
                                 offered := (y.seg g).offered, counter := (y.seg g).counter }
  event : ∀ i, x.regs.event.getLsbD i = true → y.regs.event.getLsbD i = true

theorem ContextFailed.ctxFreed {x y : State} {g k : Fin 4} {c : Fin 32} (failed : ContextFailed x y g k c) : CtxFreed x y g k := by
  refine ⟨failed.ctx, failed.ctxs, ?_, failed.event⟩
  have seg := failed.seg
  have lanes : (y.seg g).lanes = (x.seg g).lanes := by rw [seg]
  have busy : (y.seg g).busy = (x.seg g).busy.filter (· != (x.ctx g k).target) := by rw [seg]
  rw [lanes, busy]
  exact seg

theorem Freed.ctxFreed {x y z : State} {g k : Fin 4} (free : Freed y z g k)
    (seg : y.seg g = { x.seg g with lanes := (y.seg g).lanes, counter := (y.seg g).counter }) (regs : y.regs.event = x.regs.event) : CtxFreed x z g k := by
  have same : ∀ j, y.ctx g j = x.ctx g j := fun j => by
    show (y.seg g).ctxs[j] = x.ctx g j
    rw [seg]
    rfl
  refine ⟨free.ctx, fun j ne => by rw [free.ctxs j ne, same], ?_, fun i set => by rw [free.regs, regs]; exact set⟩
  have after := free.seg
  rw [seg] at after
  rw [after]

theorem State.watchReport_none {x : State} {c : Fin 32} (absent : x.watch c = none) (r : Report) (form : Form) (reason : Reason)
    (failure : r.outcome = .failure reason) : (x.watchReport c r form).segs = x.segs ∧ (x.watchReport c r form).regs = x.regs := by
  obtain ⟨y, hy⟩ : ∃ y, y = x.modWatch c (Watch.touchedBy r.touched) := ⟨_, rfl⟩
  have gone : y.watch c = none := by rw [hy, State.watch_modWatch, absent]; rfl
  have eq : x.watchReport c r form =
      y.cycleFailed c { stage := .transport, reason := reason, touched := r.touched, transport := some r.detail } (some (r, form)) := by
    unfold State.watchReport
    dsimp only
    rw [failure, hy]
    rfl
  rw [eq, State.cycleFailed_none gone, hy]
  exact ⟨rfl, rfl⟩

theorem ctxFreed {x : State} {g k : Fin 4} (silent : (x.seg g).ctl.sends = false) (reason : Reason) (named : reason.isTransport = true) (d : Nat × Nat) :
    CtxFreed x (x.failExchange g k reason d.1 d.2) g k := by
  by_cases exchange : (x.ctx g k).role = .exchange
  · exact (exchangeFailed (.inr silent) exchange rfl reason d).common.ctxFreed
  by_cases cycle : (x.ctx g k).role = .cycle
  · rw [State.failExchange_cycle cycle]
    cases here : x.watch (x.ctx g k).cell with
    | none =>
      obtain ⟨segs, regs⟩ := State.watchReport_none here (x.failure g k reason d) (x.ctx g k).form reason rfl
      generalize x.watchReport (x.ctx g k).cell (x.failure g k reason d) (x.ctx g k).form = v at *
      have vseg : v.seg g = x.seg g := by rw [State.seg, segs, State.seg]
      exact (freed (x := v) k (.inr (by rw [vseg]; exact silent))).ctxFreed (by rw [vseg]) (by rw [regs])
    | some w =>
      obtain ⟨z, ready, settles⟩ := cycleReported here g k reason d
      generalize x.watchReport (x.ctx g k).cell (x.failure g k reason d) (x.ctx g k).form = v at *
      have zseg : z.seg g = x.seg g := by rw [ready.whole]; rfl
      have vseg : v.seg g = { x.seg g with lanes := (v.seg g).lanes, counter := (v.seg g).counter } := by
        by_cases on : (w.failedIn x g k reason d).consecutive < 4 ∧ (w.failedIn x g k reason d).pending = none
        · have same : v.seg g = z.seg g := by rw [(settles.goesOn on.1 on.2).2.1]; rfl
          rw [same, zseg]
        · have dropped := (settles.ends (by rw [← not_and_or]; exact on)).2
          cases entry : z.entryOf (x.ctx g k).cell with
          | none =>
            have same : v.seg g = z.seg g := by rw [State.seg, dropped.1 entry, State.seg]
            rw [same, zseg]
          | some pair =>
            obtain ⟨seg, others⟩ := dropped.2 pair.1 pair.2 entry
            by_cases here : g = pair.1
            · subst here
              rw [seg, zseg]
            · rw [others g here, zseg]
      exact (freed (x := v) k (.inr (by rw [vseg]; exact silent))).ctxFreed vseg (by rw [settles.event, ready.whole])
  · rw [State.failExchange_transfer ⟨exchange, cycle⟩]
    cases here : x.transfer (x.ctx g k).cell with
    | none =>
      have report : x.transferReport (x.ctx g k).cell (x.failure g k reason d) (x.ctx g k) =
          x.modTransfer (x.ctx g k).cell (Transfer.touchedBy (x.ctx g k).touched) := by
        have gone : (x.modTransfer (x.ctx g k).cell (Transfer.touchedBy (x.ctx g k).touched)).transfer (x.ctx g k).cell = none := by
          rw [State.transfer_modTransfer, here]
          rfl
        unfold State.transferReport
        dsimp only
        rw [show (x.modTransfer (x.ctx g k).cell fun t => { t with touched := t.touched || (x.failure g k reason d).touched }) =
          x.modTransfer (x.ctx g k).cell (Transfer.touchedBy (x.ctx g k).touched) from rfl, gone]
      rw [report]
      obtain ⟨v, hv⟩ : ∃ v, v = x.modTransfer (x.ctx g k).cell (Transfer.touchedBy (x.ctx g k).touched) := ⟨_, rfl⟩
      have gone : v.transfer (x.ctx g k).cell = none := by rw [hv, State.transfer_modTransfer, here]; rfl
      have vseg : v.seg g = x.seg g := by rw [hv]; rfl
      have vregs : v.regs = x.regs := by rw [hv]; rfl
      rw [← hv]
      have free := freed (x := v) k (g := g) (.inr (by rw [vseg]; exact silent))
      have stays : (v.freeCtx g k).transferResume (x.ctx g k).cell = v.freeCtx g k := by
        have still : (v.freeCtx g k).transfer (x.ctx g k).cell = none := by rw [free.whole]; exact gone
        unfold State.transferResume
        rw [still]
      rw [stays]
      exact free.ctxFreed (by rw [vseg]) (by rw [vregs])
    | some r =>
      rw [← State.failExchange_transfer ⟨exchange, cycle⟩]
      exact (transferFailedIn (.inr silent) ⟨exchange, cycle⟩ rfl here reason named d).common.ctxFreed

/-! ### Every busy context fails (R67, R89, R91) -/

/-- One context's part of the failure of every busy context. -/
def State.failIfBusy (g : Fin 4) (reason : Reason) (s : State) (k : Fin 4) : State :=
  if (s.ctx g k).busy then s.failExchange g k reason ((s.seg g).lastFrame k).1 ((s.seg g).lastFrame k).2 else s

theorem State.failBusy_eq (s : State) (g : Fin 4) (reason : Reason) :
    s.failBusy g reason = (List.finRange 4).foldl (State.failIfBusy g reason) s := rfl

theorem Ctx.busy_iff (k : Ctx) : k.busy = true ↔ k.st ≠ .free := by simp [Ctx.busy]

/-- The contexts of `l` are FREE. -/
structure BusyFailed (x y : State) (g : Fin 4) (l : List (Fin 4)) : Prop where
  free : ∀ j ∈ l, (y.ctx g j).st = .free
  ctxs : ∀ j, j ∉ l → y.ctx g j = x.ctx g j
  seg : y.seg g = { x.seg g with ctxs := (y.seg g).ctxs, lanes := (y.seg g).lanes, busy := (y.seg g).busy,
                                 offered := (y.seg g).offered, counter := (y.seg g).counter }
  event : ∀ i, x.regs.event.getLsbD i = true → y.regs.event.getLsbD i = true

theorem busyFailed_fold {g : Fin 4} {reason : Reason} (named : reason.isTransport = true) (l : List (Fin 4)) :
    ∀ x : State, (x.seg g).ctl.sends = false → l.Nodup → BusyFailed x (l.foldl (State.failIfBusy g reason) x) g l := by
  induction l with
  | nil => exact fun x _ _ => ⟨fun j mem => absurd mem List.not_mem_nil, fun _ _ => rfl, rfl, fun _ set => set⟩
  | cons k l ih =>
    intro x silent nodup
    obtain ⟨out, nodup⟩ := List.nodup_cons.1 nodup
    rw [List.foldl_cons]
    have first : (State.failIfBusy g reason x k).ctx g k = Ctx.free ∨ (State.failIfBusy g reason x k = x ∧ (x.ctx g k).st = .free) := by
      unfold State.failIfBusy
      by_cases busy : (x.ctx g k).busy = true
      · rw [if_pos busy]
        exact .inl (ctxFreed silent reason named _).ctx
      · rw [if_neg busy]
        exact .inr ⟨rfl, by simpa [Ctx.busy] using busy⟩
    have freed : (∀ j, j ≠ k → (State.failIfBusy g reason x k).ctx g j = x.ctx g j) ∧
        (State.failIfBusy g reason x k).seg g = { x.seg g with
          ctxs := ((State.failIfBusy g reason x k).seg g).ctxs, lanes := ((State.failIfBusy g reason x k).seg g).lanes
          busy := ((State.failIfBusy g reason x k).seg g).busy, offered := ((State.failIfBusy g reason x k).seg g).offered
          counter := ((State.failIfBusy g reason x k).seg g).counter } ∧
        ∀ i, x.regs.event.getLsbD i = true → (State.failIfBusy g reason x k).regs.event.getLsbD i = true := by
      unfold State.failIfBusy
      by_cases busy : (x.ctx g k).busy = true
      · rw [if_pos busy]
        have freed := ctxFreed (k := k) silent reason named ((x.seg g).lastFrame k)
        exact ⟨freed.ctxs, freed.seg, freed.event⟩
      · rw [if_neg busy]
        exact ⟨fun _ _ => rfl, rfl, fun _ set => set⟩
    generalize State.failIfBusy g reason x k = y at first freed
    obtain ⟨ctxs, seg, event⟩ := freed
    have rest := ih y (by rw [seg]; exact silent) nodup
    generalize l.foldl (State.failIfBusy g reason) y = z at rest
    have here : (y.ctx g k).st = .free := by
      rcases first with free | ⟨same, free⟩
      · rw [free]
        rfl
      · rw [same, free]
    refine ⟨fun j mem => ?_, fun j outside => ?_, ?_, fun i set => rest.event i (event i set)⟩
    · rcases List.mem_cons.1 mem with rfl | tail
      · rw [rest.ctxs j out, here]
      · exact rest.free j tail
    · rw [rest.ctxs j fun tail => outside (List.mem_cons_of_mem _ tail), ctxs j fun same => outside (same ▸ List.mem_cons_self)]
    · have after := rest.seg
      rw [seg] at after
      rw [after]

theorem busyFailed {x : State} {g : Fin 4} {reason : Reason} (silent : (x.seg g).ctl.sends = false) (named : reason.isTransport = true) :
    BusyFailed x (x.failBusy g reason) g (List.finRange 4) := by
  rw [State.failBusy_eq]
  exact busyFailed_fold named _ x silent (List.nodup_finRange 4)

theorem failIfBusy_free {g : Fin 4} {reason : Reason} (l : List (Fin 4)) {x : State} (free : ∀ j ∈ l, (x.ctx g j).st = .free) :
    l.foldl (State.failIfBusy g reason) x = x := by
  induction l with
  | nil => rfl
  | cons k l ih =>
    have here : State.failIfBusy g reason x k = x := by
      unfold State.failIfBusy
      rw [if_neg]
      rw [Ctx.busy_iff]
      exact fun busy => busy (free k List.mem_cons_self)
    rw [List.foldl_cons, here]
    exact ih fun j mem => free j (List.mem_cons_of_mem _ mem)

/-- The only busy context is the one that fails. -/
theorem State.failBusy_lone {x : State} {g k : Fin 4} {reason : Reason} (silent : (x.seg g).ctl.sends = false) (named : reason.isTransport = true)
    (lone : LoneContext x g k) : x.failBusy g reason = x.failExchange g k reason ((x.seg g).lastFrame k).1 ((x.seg g).lastFrame k).2 := by
  obtain ⟨busy, others⟩ := lone
  obtain ⟨before, after, eq⟩ := List.append_of_mem (List.mem_finRange k)
  have nodup := List.nodup_finRange 4
  rw [eq] at nodup
  have apart := (List.nodup_append.1 nodup)
  have outBefore : ∀ j ∈ before, j ≠ k := fun j mem => apart.2.2 j mem k List.mem_cons_self
  have outAfter : ∀ j ∈ after, j ≠ k := fun j mem same => (List.nodup_cons.1 apart.2.1).1 (same ▸ mem)
  have step : State.failIfBusy g reason x k = x.failExchange g k reason ((x.seg g).lastFrame k).1 ((x.seg g).lastFrame k).2 := by
    unfold State.failIfBusy
    rw [if_pos ((Ctx.busy_iff _).2 busy)]
  have freed := ctxFreed (k := k) silent reason named ((x.seg g).lastFrame k)
  rw [State.failBusy_eq, eq, List.foldl_append, failIfBusy_free before fun j mem => others j (outBefore j mem), List.foldl_cons, step]
  exact failIfBusy_free after fun j mem => by rw [freed.ctxs j (outAfter j mem), others j (outAfter j mem)]

/-- With no context busy nothing fails. -/
theorem State.failBusy_none {x : State} {g : Fin 4} {reason : Reason} (free : ContextsFree x g) : x.failBusy g reason = x := by
  rw [State.failBusy_eq]
  exact failIfBusy_free _ fun j _ => free j

end Sys2Proof.Machine
end

section
/-! PROOFS. A segment that stops sending with one busy context, and bus-off (R67, R86, R89, R91). -/

namespace Sys2Proof.Machine

variable {s t : State}

/-- Between `s` and `b` only segments, registers and RAM have moved, and no context of segment `g`. -/
structure Moved (s b : State) (g : Fin 4) : Prop where
  whole : b = { s with segs := b.segs, regs := b.regs, mem := b.mem }
  ctxs : (b.seg g).ctxs = (s.seg g).ctxs

section
variable {b y : State} {g k : Fin 4} {c : Fin 32} {reason : Reason} {d : Nat × Nat} (moved : Moved s b g)
include moved

theorem Moved.ctx (j : Fin 4) : b.ctx g j = s.ctx g j := congrArg (fun v : Vector Ctx 4 => v[j]) moved.ctxs
theorem Moved.cell (e : Fin 32) : b.cell e = s.cell e := by rw [moved.whole]; rfl
theorem Moved.chan (ch : Fin 8) : b.chan ch = s.chan ch := by rw [moved.whole]; rfl
theorem Moved.transfer (e : Fin 32) : b.transfer e = s.transfer e := by rw [moved.whole]; rfl
theorem Moved.watch (e : Fin 32) : b.watch e = s.watch e := by rw [moved.whole]; rfl
theorem Moved.slot (n : Fin 8) : b.slot n = s.slot n := by rw [moved.whole]; rfl

theorem Moved.lone (lone : LoneContext s g k) : LoneContext b g k :=
  ⟨by rw [moved.ctx]; exact lone.1, fun j ne => by rw [moved.ctx]; exact lone.2 j ne⟩

theorem Moved.exchangeFails (fails : ExchangeFails b y g k c reason d) : ExchangeFails s y g k c reason d := by
  obtain ⟨ends, detail, cell, chan⟩ := fails
  rw [moved.cell] at cell chan
  exact ⟨ends, detail, cell, chan⟩

theorem Moved.released {r : Transfer} (released : TransferReleased b y c r reason) : TransferReleased s y c r reason := by
  obtain ⟨ends, gone, others, slot, latch, latched⟩ := released
  refine ⟨ends, gone, fun e ne => by rw [others e ne, moved.transfer], fun n => by rw [slot, moved.slot], ?_, latched⟩
  rw [latch, moved.chan]

theorem Moved.transferExchangeFails {r : Transfer} (fails : TransferExchangeFails b y g k c r reason d) : TransferExchangeFails s y g k c r reason d := by
  obtain ⟨released, detail, cell, rest⟩ := fails
  rw [moved.ctx] at released
  rw [moved.cell] at cell rest
  exact ⟨moved.released released, detail, cell, rest⟩

theorem Moved.cycleFails {w : Watch} (fails : CycleFails b y g k c w reason d) : CycleFails s y g k c w reason d := by
  have time : b.time = s.time := by rw [moved.whole]
  have watches : b.watches = s.watches := by rw [moved.whole]
  unfold CycleFails at fails ⊢
  rw [moved.ctx, moved.cell, time, watches] at fails
  exact fails

end

/-- The frame of a segment is dropped. -/
structure FrameDropped (y u : State) (g : Fin 4) : Prop where
  seg : u.seg g = { y.seg g with offered := none }
  segs : ∀ h, h ≠ g → u.seg h = y.seg h
  whole : u = { y with segs := u.segs }

theorem frameDropped (y : State) (g : Fin 4) : FrameDropped y (y.modSeg g fun q => { q with offered := none }) g :=
  ⟨State.seg_modSeg _ _ _, fun _ ne => State.seg_modSeg_ne _ _ ne, rfl⟩

section
variable {x y u : State} {g k : Fin 4} {c : Fin 32} {reason : Reason} {d : Nat × Nat} (dropped : FrameDropped y u g)
include dropped

theorem FrameDropped.cell (e : Fin 32) : u.cell e = y.cell e := by rw [dropped.whole]; rfl

theorem FrameDropped.exchangeFails (fails : ExchangeFails x y g k c reason d) : ExchangeFails x u g k c reason d := by
  rw [dropped.whole]
  exact fails

theorem FrameDropped.transferExchangeFails {r : Transfer} (fails : TransferExchangeFails x y g k c r reason d) :
    TransferExchangeFails x u g k c r reason d := by
  rw [dropped.whole]
  exact fails

theorem FrameDropped.cycleFails {w : Watch} (fails : CycleFails x y g k c w reason d) : CycleFails x u g k c w reason d := by
  rw [dropped.whole]
  exact fails

end

/-- The lone busy context `k` of a segment that has stopped sending has failed, and the frame is dropped. -/
structure LoneFailed (b u : State) (g k : Fin 4) (c : Fin 32) : Prop where
  free : ContextsFree u g
  seg : u.seg g = { b.seg g with ctxs := (u.seg g).ctxs, busy := (b.seg g).busy.filter (· != (b.ctx g k).target), offered := none
                                 counter := (u.seg g).counter }
  segs : ∀ h, h ≠ g → u.seg h = b.seg h
  cells : OnlyCellState b u c
  event : ∀ i, b.regs.event.getLsbD i = true → u.regs.event.getLsbD i = true
  whole : u = { b with board := u.board, regs := u.regs, mem := u.mem, info := u.info, chans := u.chans, segs := u.segs
                       transfers := u.transfers, slots := u.slots, watches := u.watches, cm := u.cm }
  frame : MemFrame b u (TransferPlaces c)

theorem ContextFailed.lone {b y u : State} {g k : Fin 4} {c : Fin 32} (failed : ContextFailed b y g k c) (dropped : FrameDropped y u g)
    (lone : LoneContext b g k) : LoneFailed b u g k c := by
  obtain ⟨ctx, ctxs, seg, segs, cells, event, whole, frame⟩ := failed
  have uctx : ∀ j, u.ctx g j = y.ctx g j := fun j => by
    show (u.seg g).ctxs[j] = y.ctx g j
    rw [dropped.seg]
    rfl
  have useg := dropped.seg
  rw [seg] at useg
  refine ⟨fun j => ?_, ?_, fun h ne => by rw [dropped.segs h ne, segs h ne], ?_, fun i set => ?_, ?_, ?_⟩
  · rw [uctx]
    by_cases same : j = k
    · rw [same, ctx]
      rfl
    · rw [ctxs j same]
      exact lone.2 j same
  · rw [useg]
  · obtain ⟨posts, only, others⟩ := cells
    exact ⟨by rw [dropped.whole]; exact posts, by rw [dropped.cell]; exact only, fun e ne => by rw [dropped.cell, others e ne]⟩
  · rw [dropped.whole]
    exact event i set
  · rw [dropped.whole, whole]
  · intro a out
    rw [dropped.whole]
    exact frame a out

/-! ### Bus-off (R67) -/

/-- The controller of segment `g` has entered OFF, and no context has failed yet. -/
structure GoneOff (s b : State) (g : Fin 4) : Prop where
  seg : b.seg g = { s.seg g with
    errorFrames := (b.seg g).errorFrames, subBits := (b.seg g).subBits, winBits := (b.seg g).winBits, tecCount := (s.seg g).tecCount + 8
    recovery := 0, busOff := (s.seg g).busOff + 1, ctl := .off, counter := (b.seg g).counter }
  segs : ∀ h, h ≠ g → b.seg h = s.seg h
  event : b.regs.event.getLsbD 4 = true
  whole : b = { s with segs := b.segs, regs := b.regs, mem := b.mem }
  frame : MemFrame s b (Within (segBase g) 128)

theorem goneOff {g : Fin 4} (sends : (s.seg g).ctl.sends = true) (above : 255 < (s.seg g).tecCount + 8) :
    ∃ b, GoneOff s b g ∧ ((s.errorFrame g).modErrors g fun q => { q with tecCount := q.tecCount + 8 }) =
      (b.failBusy g .segmentOff).modSeg g fun q => { q with offered := none } := by
  obtain ⟨y, hy⟩ : ∃ y, y = s.modSeg g fun q => { q with errorFrames := q.errorFrames + 1 } := ⟨_, rfl⟩
  have yseg : y.seg g = { s.seg g with errorFrames := (y.seg g).errorFrames } := by rw [hy, State.seg_modSeg]
  have ysegs : ∀ h, h ≠ g → y.seg h = s.seg h := fun h ne => by rw [hy, State.seg_modSeg_ne _ _ ne]
  have ywhole : y = { s with segs := y.segs } := by rw [hy]; rfl
  rw [State.errorFrame, ← hy]
  clear hy
  have taken := bitsTaken y g errorFrameBits
  generalize y.countBits g errorFrameBits = z at taken
  have zseg := taken.seg
  rw [yseg] at zseg
  obtain ⟨v, hv⟩ : ∃ v, v = z.modSeg g fun q => { q with tecCount := q.tecCount + 8 } := ⟨_, rfl⟩
  have vseg : v.seg g = { z.seg g with tecCount := (z.seg g).tecCount + 8 } := by rw [hv, State.seg_modSeg]
  have vsegs : ∀ h, h ≠ g → v.seg h = z.seg h := fun h ne => by rw [hv, State.seg_modSeg_ne _ _ ne]
  have vwhole : v = { z with segs := v.segs } := by rw [hv]; rfl
  rw [zseg] at vseg
  have off : v.settleErrors g = v.busOff g := by
    unfold State.settleErrors
    dsimp only
    rw [vseg]
    dsimp only
    rw [sends, (errorState_off _ _).2 above, if_neg (by decide)]
  have does : z.modErrors g (fun q => { q with tecCount := q.tecCount + 8 }) = v.busOff g := by
    unfold State.modErrors
    rw [← hv, off, zseg]
    dsimp only
    rw [sends, if_pos rfl]
  clear hv
  obtain ⟨w, hw⟩ : ∃ w, w = v.modSeg g fun q => { q with recovery := 0, busOff := q.busOff + 1 } := ⟨_, rfl⟩
  have wseg : w.seg g = { v.seg g with recovery := 0, busOff := (v.seg g).busOff + 1 } := by rw [hw, State.seg_modSeg]
  have wsegs : ∀ h, h ≠ g → w.seg h = v.seg h := fun h ne => by rw [hw, State.seg_modSeg_ne _ _ ne]
  have wwhole : w = { v with segs := w.segs } := by rw [hw]; rfl
  have enters : v.busOff g = ((w.setCtl g .off).failBusy g .segmentOff).modSeg g fun q => { q with offered := none } := by
    rw [hw]
    rfl
  clear hw
  have set := ctlSet w g .off
  generalize w.setCtl g .off = b at set enters
  have seg := set.seg
  rw [wseg, vseg] at seg
  have wctl : (w.seg g).ctl = (s.seg g).ctl := by rw [wseg, vseg]
  refine ⟨b, ⟨by rw [seg], fun h ne => by rw [set.segs h ne, wsegs h ne, vsegs h ne, taken.segs h ne, ysegs h ne], ?_, ?_, ?_⟩, does.trans enters⟩
  · have other : ¬ Ctl.off = (w.seg g).ctl := fun eq => by
      rw [wctl] at eq
      rw [← eq] at sends
      exact absurd sends (by decide)
    rw [set.regs, if_neg other]
    dsimp only
    rw [BitVec.getLsbD_or, show Event.segment.bit.getLsbD 4 = true from rfl, Bool.or_true]
  · rw [set.whole, wwhole, vwhole, taken.whole, ywhole]
  · intro a out
    rw [set.frame a out, wwhole, vwhole, taken.whole, ywhole]

theorem GoneOff.moved {b : State} {g : Fin 4} (off : GoneOff s b g) : Moved s b g := ⟨off.whole, by rw [off.seg]⟩

theorem State.entryOf_lanes {x y : State} {c : Fin 32} (lanes : ∀ h, (y.seg h).lanes = (x.seg h).lanes) : y.entryOf c = x.entryOf c := by
  unfold State.entryOf
  simp only [lanes]

theorem GoneOff.lanes {b : State} {g : Fin 4} (off : GoneOff s b g) (h : Fin 4) : (b.seg h).lanes = (s.seg h).lanes := by
  by_cases same : h = g
  · rw [same, off.seg]
  · rw [off.segs h same]

theorem GoneOff.lastFrame {b : State} {g : Fin 4} (off : GoneOff s b g) (k : Fin 4) : (b.seg g).lastFrame k = (s.seg g).lastFrame k := by
  unfold Seg.lastFrame
  rw [off.seg]

theorem MemFrame.of_seg {x y : State} {g : Fin 4} {c : Fin 32} (frame : MemFrame x y (Within (segBase g) 128)) : MemFrame x y (TransferPlaces c) :=
  frame.mono fun _ area => .inr (.inr (.inr (.inl ⟨g, area⟩)))

/-- What the failure of a lone context leaves, as bus-off shows it. -/
theorem LoneFailed.closes {b u : State} {g k : Fin 4} {c : Fin 32} (failed : LoneFailed b u g k c) (off : GoneOff s b g) (closed : Closes u t) :
    (t.seg g).lanes = (s.seg g).lanes ∧ (∀ d, d ≠ c → t.cell d = s.cell d) ∧ (∀ h, h ≠ g → t.seg h = s.seg h) ∧
      t = { s with board := t.board, regs := t.regs, mem := t.mem, info := t.info, chans := t.chans, segs := t.segs
                   transfers := t.transfers, slots := t.slots, watches := t.watches, cm := t.cm } ∧
      MemFrame s t (TransferPlaces c) := by
  refine ⟨?_, fun d ne => ?_, fun h ne => ?_, ?_, ?_⟩
  · rw [closed.seg, failed.seg, off.seg]
  · rw [closed.cell, failed.cells.2.2 d ne, off.moved.cell]
  · rw [closed.seg, failed.segs h ne, off.segs h ne]
  · rw [closed.whole, failed.whole, off.whole]
  · have first : MemFrame s u (TransferPlaces c) := off.frame.of_seg.trans failed.frame
    refine (first.both closed.frame).mono ?_
    rintro a (place | shared)
    · exact place
    · exact .inr (.inr (.inr (.inr (.inr shared))))

/-- Settles O50. -/
theorem busErrors : Obligations.BusErrors := by
  unfold Obligations.BusErrors
  refine ⟨fun g s settled agree empty => ?_, fun g s settled => ?_⟩
  · obtain ⟨transmit, t, runs, counted⟩ := errorFrames settled agree empty
    refine ⟨fun offered below => ?_, t, runs, counted.frames, counted.bits, counted.follow, counted.seg, counted.segs, counted.regs, counted.whole,
      counted.frame⟩
    obtain ⟨u, step, counts⟩ := transmit offered below
    exact ⟨u, step, counts.frames, counts.bits, counts.follow, counts.seg, counts.segs, counts.regs, counts.whole, counts.frame⟩
  · intro q offered sends above
    obtain ⟨b, off, does⟩ := goneOff sends above
    have runs : exec (.transmitError g) s = .next ((s.errorFrame g).modErrors g fun q => { q with tecCount := q.tecCount + 8 }).finish := by
      refine (show exec (.transmitError g) s = execTransmitError g s from rfl).trans ?_
      unfold execTransmitError
      rw [if_pos (Option.isSome_iff_ne_none.2 offered)]
      rfl
    rw [does] at runs
    clear does
    have silent : (b.seg g).ctl.sends = false := by rw [off.seg]; rfl
    have busy := busyFailed (x := b) (g := g) (reason := .segmentOff) silent (by decide)
    have single := fun k => State.failBusy_lone (k := k) (reason := .segmentOff) silent (by decide)
    have moved := off.moved
    generalize b.failBusy g .segmentOff = y at runs busy single
    have dropped := frameDropped y g
    generalize (y.modSeg g fun q => { q with offered := none }) = u at runs dropped
    have closed := closes u
    generalize u.finish = t at runs closed
    have seg : t.seg g = { b.seg g with
        ctxs := (y.seg g).ctxs, lanes := (y.seg g).lanes, busy := (y.seg g).busy, offered := none, counter := (y.seg g).counter } := by
      rw [closed.seg, dropped.seg, busy.seg]
    refine ⟨t, runs, ?_, ?_, ?_, ?_, ?_, ?_, fun x => ?_, fun x some others role => ?_, fun x lone => ⟨fun r role here => ?_, fun w role here alone => ?_⟩⟩
    · rw [seg, off.seg]
    · rw [seg]
    · rw [seg, off.seg]
    · rw [seg, off.seg]
    · rw [seg, off.seg]
    · rw [closed.event, dropped.whole]
      exact busy.event 4 off.event
    · show ((t.seg g).ctxs[x]).st = .free
      rw [seg]
      exact busy.free x (List.mem_finRange x)
    · have lone : LoneContext s g x := ⟨some, others⟩
      have failed := exchangeFailed (x := b) (.inr silent) ((congrArg Ctx.role (moved.ctx x)).trans role) rfl .segmentOff ((b.seg g).lastFrame x)
      rw [← single x (moved.lone lone), moved.ctx x] at failed
      obtain ⟨lanes, cells, segs, -, -⟩ := (failed.common.lone dropped (moved.lone lone)).closes off closed
      have fails := moved.exchangeFails (dropped.exchangeFails failed.fails)
      have uinfo : u.info = s.info := by rw [dropped.whole, failed.whole, off.whole]
      obtain ⟨mem, info⟩ := closed.clean (by rw [uinfo]; exact settled.1)
      refine ⟨closed.endsFailed fails.1, lanes, cells, segs, ?_, ?_⟩
      · rw [closed.whole, info, dropped.whole, failed.whole, off.whole]
      · have stored : MemFrame y t fun _ => False := fun a _ => by rw [mem, dropped.whole]
        have frame := off.frame.both (failed.frame.both stored)
        rw [moved.cell] at frame
        refine frame.mono ?_
        rintro a (area | (place | area | chan) | no)
        · exact .inr (.inl area)
        · exact .inl place
        · exact .inr (.inl area)
        · exact .inr (.inr chan)
        · exact no.elim
    · have failed := transferFailedIn (x := b) (r := r) (.inr silent) (by rw [moved.ctx x]; exact role) rfl (by rw [moved.ctx x, moved.transfer]; exact here)
        .segmentOff (by decide) ((b.seg g).lastFrame x)
      rw [← single x (moved.lone lone), moved.ctx x, off.lastFrame] at failed
      refine ⟨closed.transferExchangeFails (moved.transferExchangeFails (dropped.transferExchangeFails failed.fails)), ?_,
        (failed.common.lone dropped (moved.lone lone)).closes off closed⟩
      rw [closed.whole, dropped.whole, failed.whole, off.whole]
    · have failed := cycleFailedIn (x := b) (w := w) (.inr silent) ((congrArg Ctx.role (moved.ctx x)).trans role) rfl
        (by rw [moved.ctx x, moved.watch]; exact here)
        (by rw [moved.ctx x, State.entryOf_lanes off.lanes]; exact alone) (by rw [off.whole]; exact settled.1)
        .segmentOff ((b.seg g).lastFrame x)
      rw [← single x (moved.lone lone), moved.ctx x, off.lastFrame] at failed
      refine ⟨closed.cycleFails (moved.cycleFails (dropped.cycleFails failed.fails)), ?_, ?_, (failed.common.lone dropped (moved.lone lone)).closes off closed⟩
      · rw [closed.whole, dropped.whole, failed.whole, off.whole]
      · rw [closed.whole, dropped.whole, failed.whole, off.whole]

end Sys2Proof.Machine
end

section
/-! PROOFS. The SEGMENT requests on a quiet segment (R88 to R91, R111). -/

namespace Sys2Proof.Machine

variable {s t : State}

/-! ### Receipts of SEGMENT cells (R88) -/

/-- A SEGMENT names no channel (11.4). -/
theorem channelNamed_segment {cap : List Byte} (h : kindOf cap = some .segment) : channelNamed cap = none := by
  simp [channelNamed, h, Kind.namesChannel]

/-- The kind result of a SEGMENT cell. -/
def segmentKind (q : Seg) (counts : List Byte) : List Byte := [byte q.ctl.code, byte (flagBit q.hostDisable 0), 0, 0] ++ counts

theorem State.segmentDone_doneFinish {u : State} {c : Fin 32} (hk : kindOf (u.cell c).captured = some .segment) (ha : (u.cell c).abortHeld = false)
    (g : Fin 4) (counts : List Byte) :
    DoneFinish u ((u.segmentDone c g counts).actHeld c).finish c (segmentKind (u.seg g) counts) := by
  have e : u.segmentDone c g counts = u.endCellOn none c (.done (segmentKind (u.seg g) counts)) :=
    State.endCell_of_no_channel (channelNamed_segment hk) _
  have held : ((u.segmentDone c g counts).cell c).abortHeld = false := by
    rw [e, State.endCellOn_none]
    simpa only [State.cell, upd_same] using ha
  rw [State.actHeld_of_not_held held, e]
  exact u.endCellOn_none_doneFinish c _

/-! ### A controller that leaves its state (R89, R91) -/

/-- The controller of segment `g` has taken state `k` with its counts 0, the host-disable mark being `m`, and no context has failed
yet. -/
structure Stopped (s b : State) (g : Fin 4) (k : Ctl) (m : Bool) : Prop where
  seg : b.seg g = { s.seg g with hostDisable := m, tecCount := 0, recCount := 0, recovery := 0, ctl := k
                                 counter := if (s.seg g).ctl = k then (s.seg g).counter else (s.seg g).counter + 1 }
  segs : ∀ h, h ≠ g → b.seg h = s.seg h
  regs : b.regs = { s.regs with event := s.regs.event ||| if k = (s.seg g).ctl then 0 else Event.segment.bit }
  whole : b = { s with segs := b.segs, regs := b.regs, mem := b.mem }
  frame : MemFrame s b (Within (segBase g) 128)

theorem stopped {x : State} {g : Fin 4} (k : Ctl) {m : Bool} (seg : x.seg g = { s.seg g with hostDisable := m })
    (segs : ∀ h, h ≠ g → x.seg h = s.seg h) (whole : x = { s with segs := x.segs }) :
    ∃ b, Stopped s b g k m ∧ x.restartInto g k = (b.failBusy g .segmentRestarted).modSeg g fun q => { q with offered := none } := by
  obtain ⟨y, hy⟩ : ∃ y, y = x.modSeg g fun q => { q with tecCount := 0, recCount := 0, recovery := 0 } := ⟨_, rfl⟩
  have yseg : y.seg g = { s.seg g with hostDisable := m, tecCount := 0, recCount := 0, recovery := 0 } := by rw [hy, State.seg_modSeg, seg]
  have ysegs : ∀ h, h ≠ g → y.seg h = s.seg h := fun h ne => by rw [hy, State.seg_modSeg_ne _ _ ne, segs h ne]
  have ywhole : y = { s with segs := y.segs } := by rw [hy, whole]; rfl
  refine ⟨y.setCtl g k, ?_, by rw [hy]; rfl⟩
  have set := ctlSet y g k
  have exact_ := y.setCtl_seg g k
  generalize y.setCtl g k = b at set exact_
  have yctl : (y.seg g).ctl = (s.seg g).ctl := by rw [yseg]
  have yregs : y.regs = s.regs := by rw [ywhole]
  refine ⟨?_, fun h ne => by rw [set.segs h ne, ysegs h ne], by rw [set.regs, yregs, yctl], by rw [set.whole, ywhole], fun a out => by
    rw [set.frame a out, ywhole]⟩
  rw [exact_, yctl]
  by_cases same : (s.seg g).ctl = k
  · rw [if_pos same, if_pos same, yseg, ← same]
  · rw [if_neg same, if_neg same, yseg]

theorem Stopped.moved {b : State} {g : Fin 4} {k : Ctl} {m : Bool} (off : Stopped s b g k m) : Moved s b g := ⟨off.whole, by rw [off.seg]⟩

theorem Stopped.lanes {b : State} {g : Fin 4} {k : Ctl} {m : Bool} (off : Stopped s b g k m) (h : Fin 4) : (b.seg h).lanes = (s.seg h).lanes := by
  by_cases same : h = g
  · rw [same, off.seg]
  · rw [off.segs h same]

theorem Stopped.lastFrame {b : State} {g : Fin 4} {k : Ctl} {m : Bool} (off : Stopped s b g k m) (x : Fin 4) :
    (b.seg g).lastFrame x = (s.seg g).lastFrame x := by
  unfold Seg.lastFrame
  rw [off.seg]

/-- A segment with no busy context that stops. -/
theorem Stopped.quiet {x b : State} {g : Fin 4} {k : Ctl} {m : Bool} (off : Stopped s b g k m) (free : ContextsFree s g)
    (does : x.restartInto g k = (b.failBusy g .segmentRestarted).modSeg g fun q => { q with offered := none }) :
    FrameDropped b (x.restartInto g k) g := by
  have bfree : ContextsFree b g := fun j => by rw [off.moved.ctx]; exact free j
  rw [does, State.failBusy_none bfree]
  exact frameDropped b g

/-! ### The options of a RESTART (R91, R111) -/

theorem State.levelRun_nothing {x : State} {g : Fin 4} (nothing : StartsNothing x g) (old : Nat) : x.levelRun g old = x.levelSettle g old := by
  have still : StartsNothing (x.levelSettle g old) g := by
    unfold StartsNothing LanesEmpty
    rw [(x.levelSettle_reported g old).seg]
    exact nothing
  simp only [State.levelRun, State.arbitrate_nothing still, ite_self]

/-- The counts cleared and the regulator reset, as the options ask. -/
structure OptionsTaken (x y : State) (g : Fin 4) (clear regulator : Prop) [Decidable clear] [Decidable regulator] : Prop where
  seg : y.seg g = { x.seg g with
    sent := if clear then 0 else (x.seg g).sent, received := if clear then 0 else (x.seg g).received
    errorFrames := if clear then 0 else (x.seg g).errorFrames, stray := if clear then 0 else (x.seg g).stray
    busOff := if clear then 0 else (x.seg g).busOff
    acc := if regulator then clampTo x.ps.active.regs[g] (x.ps.active.regs[g].ceiling * 8192) else (x.seg g).acc
    holdOff := if regulator then 0 else (x.seg g).holdOff
    pace := (y.seg g).pace, levelChanges := (y.seg g).levelChanges, counter := (y.seg g).counter }
  segs : ∀ h, h ≠ g → y.seg h = x.seg h
  same : levelOf (y.seg g).acc = levelOf (x.seg g).acc →
    (y.seg g).pace = (x.seg g).pace ∧ (y.seg g).levelChanges = (x.seg g).levelChanges ∧ y.info = x.info ∧ y.regs = x.regs
  changed : levelOf (y.seg g).acc ≠ levelOf (x.seg g).acc →
    (y.seg g).pace = (x.ps.active.paces[g])[Fin.ofNat 8 (levelOf (y.seg g).acc)] ∧ (y.seg g).levelChanges = (x.seg g).levelChanges + 1 ∧
      y.info = { x.info with dirty := true } ∧ y.regs = { x.regs with event := x.regs.event ||| Event.level.bit } ∧
      y.mem.read (0x24 + g.val) = byte (levelOf (y.seg g).acc)
  whole : y = { x with regs := y.regs, mem := y.mem, segs := y.segs, info := y.info }
  frame : MemFrame x y (LevelPlaces g)

/-- The five counts cleared, where the options ask. -/
structure CountsCleared (x z : State) (g : Fin 4) (clear : Prop) [Decidable clear] : Prop where
  seg : z.seg g = { x.seg g with
    sent := if clear then 0 else (x.seg g).sent, received := if clear then 0 else (x.seg g).received
    errorFrames := if clear then 0 else (x.seg g).errorFrames, stray := if clear then 0 else (x.seg g).stray
    busOff := if clear then 0 else (x.seg g).busOff, counter := (z.seg g).counter }
  segs : ∀ h, h ≠ g → z.seg h = x.seg h
  whole : z = { x with mem := z.mem, segs := z.segs }
  frame : MemFrame x z (Within (segBase g) 128)

theorem countsCleared (x : State) (g : Fin 4) (clear : Prop) [Decidable clear] : CountsCleared x (if clear then x.resetCounters g else x) g clear := by
  by_cases yes : clear
  · rw [if_pos yes]
    obtain ⟨y, hy⟩ : ∃ y, y = x.modSeg g fun q => { q with sent := 0, received := 0, errorFrames := 0, stray := 0, busOff := 0 } := ⟨_, rfl⟩
    have yseg : y.seg g = { x.seg g with sent := 0, received := 0, errorFrames := 0, stray := 0, busOff := 0 } := by rw [hy, State.seg_modSeg]
    have ysegs : ∀ h, h ≠ g → y.seg h = x.seg h := fun h ne => by rw [hy, State.seg_modSeg_ne _ _ ne]
    have ywhole : y = { x with segs := y.segs } := by rw [hy]; rfl
    rw [State.resetCounters, ← hy]
    clear hy
    have seg := y.seg_stuWrite g
    have segs := fun h (ne : h ≠ g) => y.stuWrite_seg_ne ne
    have whole : y.stuWrite g = { y with segs := (y.stuWrite g).segs, mem := (y.stuWrite g).mem } := by rw [State.stuWrite_eq]
    have frame := y.stuWrite_frame g
    generalize y.stuWrite g = z at *
    refine ⟨?_, fun h ne => by rw [segs h ne, ysegs h ne], by rw [whole, ywhole], fun a out => by rw [frame a out, ywhole]⟩
    rw [seg, yseg, if_pos yes, if_pos yes, if_pos yes, if_pos yes, if_pos yes]
  · rw [if_neg yes]
    refine ⟨?_, fun _ _ => rfl, rfl, MemFrame.refl x _⟩
    rw [if_neg yes, if_neg yes, if_neg yes, if_neg yes, if_neg yes]

theorem CountsCleared.optionsTaken {x z y : State} {g : Fin 4} {clear regulator : Prop} [Decidable clear] [Decidable regulator] {a h : Nat}
    (cleared : CountsCleared x z g clear) (report : LevelReported g (levelOf (z.seg g).acc) (z.modSeg g fun q => { q with acc := a, holdOff := h }) y)
    (acc : a = if regulator then clampTo x.ps.active.regs[g] (x.ps.active.regs[g].ceiling * 8192) else (x.seg g).acc)
    (hold : h = if regulator then 0 else (x.seg g).holdOff) : OptionsTaken x y g clear regulator := by
  obtain ⟨w, hw⟩ : ∃ w, w = z.modSeg g fun q => { q with acc := a, holdOff := h } := ⟨_, rfl⟩
  rw [← hw] at report
  have wseg : w.seg g = { z.seg g with acc := a, holdOff := h } := by rw [hw, State.seg_modSeg]
  have wsegs : ∀ j, j ≠ g → w.seg j = z.seg j := fun j ne => by rw [hw, State.seg_modSeg_ne _ _ ne]
  have wwhole : w = { z with segs := w.segs } := by rw [hw]; rfl
  clear hw
  have zacc : (z.seg g).acc = (x.seg g).acc := by rw [cleared.seg]
  have zpace : (z.seg g).pace = (x.seg g).pace := by rw [cleared.seg]
  have zchanges : (z.seg g).levelChanges = (x.seg g).levelChanges := by rw [cleared.seg]
  have wpace : (w.seg g).pace = (x.seg g).pace := by rw [wseg, ← zpace]
  have wchanges : (w.seg g).levelChanges = (x.seg g).levelChanges := by rw [wseg, ← zchanges]
  have winfo : w.info = x.info := by rw [wwhole, cleared.whole]
  have wregs : w.regs = x.regs := by rw [wwhole, cleared.whole]
  have wps : w.ps = x.ps := by rw [wwhole, cleared.whole]
  have yacc : (y.seg g).acc = (w.seg g).acc := by rw [report.seg]
  refine ⟨?_, fun j ne => by rw [report.others j ne, wsegs j ne, cleared.segs j ne], fun same => ?_, fun other => ?_, ?_, ?_⟩
  · rw [report.seg, wseg, cleared.seg, ← acc, ← hold]
  · obtain ⟨pace, changes, info, regs⟩ := report.same (by rw [← yacc, zacc]; exact same)
    exact ⟨pace.trans wpace, changes.trans wchanges, info.trans winfo, regs.trans wregs⟩
  · obtain ⟨pace, changes, info, regs, shown⟩ := report.changed (by rw [← yacc, zacc]; exact other)
    rw [wregs] at regs
    rw [winfo] at info
    refine ⟨?_, changes.trans (by rw [wchanges]), info, regs, by rw [yacc]; exact shown⟩
    rw [pace, State.paceAt, wps]
    exact congrArg (fun n : Nat => (x.ps.active.paces[g])[Fin.ofNat 8 (levelOf n)]) yacc.symm
  · rw [report.whole, wwhole, cleared.whole]
  · have first : MemFrame x w (LevelPlaces g) := fun b out => by
      rw [wwhole]
      exact cleared.frame b fun area => out (.inl area)
    exact first.trans report.frame

theorem optionsTaken {x : State} {g : Fin 4} (nothing : StartsNothing x g) (clear regulator : Prop) [Decidable clear] [Decidable regulator] :
    OptionsTaken x (if regulator then (if clear then x.resetCounters g else x).resetRegulator g else if clear then x.resetCounters g else x) g clear
      regulator := by
  have cleared := countsCleared x g clear
  generalize (if clear then x.resetCounters g else x) = z at cleared
  have zps : z.ps = x.ps := by rw [cleared.whole]
  by_cases yes : regulator
  · rw [if_pos yes]
    have runs : z.resetRegulator g = (z.modSeg g fun q => { q with acc := z.ps.active.regs[g].clamp (z.ps.active.regs[g].ceiling * 8192), holdOff := 0 }).levelSettle g
        (levelOf (z.seg g).acc) := by
      refine State.levelRun_nothing ?_ _
      unfold StartsNothing LanesEmpty
      rw [State.seg_modSeg, cleared.seg]
      exact nothing
    rw [runs]
    refine cleared.optionsTaken (State.levelSettle_reported _ g _) ?_ (by rw [if_pos yes])
    rw [if_pos yes, zps]
    rfl
  · rw [if_neg yes]
    have same : (z.modSeg g fun q => { q with acc := (z.seg g).acc, holdOff := (z.seg g).holdOff }) = z := State.modSeg_self rfl
    refine cleared.optionsTaken (a := (z.seg g).acc) (h := (z.seg g).holdOff) ?_ ?_ ?_
    · rw [same]
      exact .refl g z
    · rw [if_neg yes, cleared.seg]
    · rw [if_neg yes, cleared.seg]

end Sys2Proof.Machine
end

section
/-! PROOFS. DISABLE, ENABLE and RESTART of a quiet segment (R89 to R91). -/

namespace Sys2Proof.Machine

variable {s t : State}

theorem segmentReceived {c : Fin 32} {g : Fin 4} {i : Instr} {op : Nat} {f : State → Fin 4 → State} {u : State} {counts : List Byte}
    (act : exec i s = receiveSegment s c .segment op f) (received : Receives s c .segment) (hg : field8 (s.cell c).captured 16 = g.val)
    (ho : field8 (s.cell c).captured 17 = op) (does : f s g = u.segmentDone c g counts) (cell : u.cell c = s.cell c) :
    ∃ t, exec i s = .next t ∧ DoneFinish u t c (segmentKind (u.seg g) counts) := by
  obtain ⟨-, taken, held⟩ := received
  have done := u.segmentDone_doneFinish (c := c) (by rw [cell]; exact State.kindOf_of_taken taken) (by rw [cell]; exact held) g counts
  refine ⟨_, ?_, done⟩
  rw [act, receiveSegment_eq taken hg ho, does]

/-- What a request has done to its segment before its cell ends. -/
structure Requested (s u : State) (g : Fin 4) (events : BitVec 8) : Prop where
  segs : ∀ h, h ≠ g → u.seg h = s.seg h
  regs : u.regs = { s.regs with event := s.regs.event ||| events }
  whole : u = { s with regs := u.regs, mem := u.mem, segs := u.segs, info := u.info }
  frame : MemFrame s u (LevelPlaces g)

/-- What a request on a quiet segment leaves, of whichever kind it is. -/
theorem Requested.done {u : State} {c : Fin 32} {g : Fin 4} {events : BitVec 8} {kind : List Byte} (acted : Requested s u g events)
    (done : DoneFinish u t c kind)
    (same : events = ctlEvents s t g ||| if levelOf (t.seg g).acc = levelOf (s.seg g).acc then 0#8 else Event.level.bit) :
    EndsDone t c ∧ OnlyCellState s t c ∧
      EndRegs s t c (ctlEvents s t g ||| if levelOf (t.seg g).acc = levelOf (s.seg g).acc then 0#8 else Event.level.bit) ∧
      (∀ k, k ≠ g → t.seg k = s.seg k) ∧
      t = { s with board := t.board, regs := t.regs, mem := t.mem, segs := t.segs, info := t.info } ∧
      MemFrame s t fun x => EndPlaces c x ∨ Within (segBase g) 128 x ∨ InfoPlaces (0x24 + g.val) 1 x := by
  have tsegs : t.segs = u.segs := by rw [done.whole]
  refine ⟨done.ends, done.cells.of_board (by rw [acted.whole]), ?_, fun k ne => by rw [done.seg, acted.segs k ne], ?_, ?_⟩
  · have regs := done.regs
    rw [← same]
    unfold EndRegs at regs ⊢
    rw [acted.regs] at regs
    rw [show s.regs.event ||| events ||| 0 = s.regs.event ||| events from BitVec.or_zero] at regs
    exact regs
  · rw [done.whole, acted.whole]
  · refine (acted.frame.both done.frame).mono ?_
    rintro a ((area | level) | place | shared)
    · exact .inr (.inl area)
    · exact .inr (.inr (.inl level))
    · exact .inl place
    · exact .inr (.inr (.inr shared))

theorem Lanes.empty_all : Lanes.empty.all = [] := rfl

/-- DISABLE of a quiet segment. -/
theorem disableQuiet {g : Fin 4} (empty : LanesEmpty s g) (free : ContextsFree s g) :
    Requested s (s.disableSegment g) g (if .disabled = (s.seg g).ctl then 0 else Event.segment.bit) ∧
      (s.disableSegment g).seg g = (if (s.seg g).ctl = .disabled then { s.seg g with hostDisable := true }
        else { s.seg g with hostDisable := true, ctl := .disabled, tecCount := 0, recCount := 0, recovery := 0, offered := none
                            counter := (s.seg g).counter + 1 }) := by
  obtain ⟨x, hx⟩ : ∃ x, x = s.modSeg g fun q => { q with hostDisable := true } := ⟨_, rfl⟩
  have seg : x.seg g = { s.seg g with hostDisable := true } := by rw [hx, State.seg_modSeg]
  have segs : ∀ h, h ≠ g → x.seg h = s.seg h := fun h ne => by rw [hx, State.seg_modSeg_ne _ _ ne]
  have whole : x = { s with segs := x.segs } := by rw [hx]; rfl
  have does : s.disableSegment g = if (x.seg g).ctl = .disabled then x
      else ((x.restartInto g .disabled).seg g).lanes.all.foldl State.entryDisabled (x.restartInto g .disabled) := by
    unfold State.disableSegment
    rw [← hx]
  clear hx
  have xctl : (x.seg g).ctl = (s.seg g).ctl := by rw [seg]
  rw [xctl] at does
  by_cases off : (s.seg g).ctl = .disabled
  · rw [if_pos off] at does
    rw [does, if_pos off, if_pos off.symm]
    refine ⟨⟨segs, ?_, by rw [whole], fun a _ => by rw [whole]⟩, seg⟩
    rw [show s.regs.event ||| 0 = s.regs.event from BitVec.or_zero, whole]
  · rw [if_neg off] at does
    obtain ⟨b, stop, runs⟩ := stopped .disabled seg segs whole
    have dropped := stop.quiet free runs
    generalize x.restartInto g .disabled = u at does dropped
    have useg := dropped.seg
    rw [stop.seg, if_neg off] at useg
    have lanes : (u.seg g).lanes = Lanes.empty := by rw [useg]; exact empty
    rw [lanes, Lanes.empty_all, List.foldl_nil] at does
    rw [does, if_neg off]
    refine ⟨⟨fun h ne => by rw [dropped.segs h ne, stop.segs h ne], by rw [dropped.whole]; exact stop.regs, by rw [dropped.whole, stop.whole],
      fun a out => ?_⟩, useg⟩
    rw [dropped.whole]
    exact stop.frame a fun area => out (.inl area)

/-- ENABLE of a segment. -/
theorem enableQuiet (s : State) (g : Fin 4) :
    Requested s (s.enableSegment g) g (if (s.seg g).ctl = .disabled ∧ s.ps.active.segs[g].enabled = true then Event.segment.bit else 0) ∧
      (s.enableSegment g).seg g = (if (s.seg g).ctl = .disabled ∧ s.ps.active.segs[g].enabled = true
        then { s.seg g with hostDisable := false, ctl := .joining, tecCount := 0, recCount := 0, counter := (s.seg g).counter + 1 }
        else { s.seg g with hostDisable := false }) := by
  obtain ⟨x, hx⟩ : ∃ x, x = s.modSeg g fun q => { q with hostDisable := false } := ⟨_, rfl⟩
  have seg : x.seg g = { s.seg g with hostDisable := false } := by rw [hx, State.seg_modSeg]
  have segs : ∀ h, h ≠ g → x.seg h = s.seg h := fun h ne => by rw [hx, State.seg_modSeg_ne _ _ ne]
  have whole : x = { s with segs := x.segs } := by rw [hx]; rfl
  have does : s.enableSegment g = if (x.segSet g).enabled && (x.seg g).ctl == .disabled then
      (x.modSeg g fun q => { q with tecCount := 0, recCount := 0 }).setCtl g .joining else x := by
    unfold State.enableSegment
    rw [← hx]
  clear hx
  have set : x.segSet g = s.ps.active.segs[g] := by rw [whole]; rfl
  have xctl : (x.seg g).ctl = (s.seg g).ctl := by rw [seg]
  have iff : ((x.segSet g).enabled && (x.seg g).ctl == .disabled) = true ↔ (s.seg g).ctl = .disabled ∧ s.ps.active.segs[g].enabled = true := by
    rw [set, xctl]
    simp [and_comm]
  by_cases on : (s.seg g).ctl = .disabled ∧ s.ps.active.segs[g].enabled = true
  · rw [if_pos (iff.2 on)] at does
    obtain ⟨y, hy⟩ : ∃ y, y = x.modSeg g fun q => { q with tecCount := 0, recCount := 0 } := ⟨_, rfl⟩
    have yseg : y.seg g = { s.seg g with hostDisable := false, tecCount := 0, recCount := 0 } := by rw [hy, State.seg_modSeg, seg]
    have ysegs : ∀ h, h ≠ g → y.seg h = s.seg h := fun h ne => by rw [hy, State.seg_modSeg_ne _ _ ne, segs h ne]
    have ywhole : y = { s with segs := y.segs } := by rw [hy, whole]; rfl
    rw [← hy] at does
    clear hy
    have yctl : (y.seg g).ctl = .disabled := by rw [yseg]; exact on.1
    have yregs : y.regs = s.regs := by rw [ywhole]
    have joins := ctlSet y g .joining
    have exact_ := y.setCtl_seg g .joining
    rw [← does] at joins exact_
    rw [yctl, if_neg (by decide), yseg] at exact_
    have regs := joins.regs
    rw [yctl, if_neg (by decide), yregs] at regs
    rw [if_pos on, if_pos on]
    exact ⟨⟨fun h ne => by rw [joins.segs h ne, ysegs h ne], regs, by rw [joins.whole, ywhole], fun a out => by
      rw [joins.frame a fun area => out (.inl area), ywhole]⟩, exact_⟩
  · rw [if_neg fun yes => on (iff.1 yes)] at does
    rw [does, if_neg on, if_neg on]
    refine ⟨⟨segs, ?_, by rw [whole], fun a _ => by rw [whole]⟩, seg⟩
    rw [show s.regs.event ||| 0 = s.regs.event from BitVec.or_zero, whole]

/-- The state that a segment restarts into. -/
theorem State.startState_eq (s : State) (g : Fin 4) : s.startState g = if s.enabled g then .joining else .disabled := rfl

theorem State.startState_silent (s : State) (g : Fin 4) : (s.startState g).sends = false := by
  rw [State.startState_eq]
  split <;> rfl

/-- A RESTART up to its options: the counts that it reads, and the segment with its frame dropped. -/
structure RestartedQuiet (s x : State) (g : Fin 4) : Prop where
  seg : x.seg g = { s.seg g with ctl := s.startState g, tecCount := 0, recCount := 0, recovery := 0, offered := none, counter := (x.seg g).counter }
  segs : ∀ h, h ≠ g → x.seg h = s.seg h
  regs : x.regs = { s.regs with event := s.regs.event ||| if s.startState g = (s.seg g).ctl then 0 else Event.segment.bit }
  whole : x = { s with segs := x.segs, regs := x.regs, mem := x.mem }
  frame : MemFrame s x (Within (segBase g) 128)

theorem restartedQuiet {g : Fin 4} (free : ContextsFree s g) : RestartedQuiet s (s.restartInto g (s.startState g)) g := by
  obtain ⟨b, stop, runs⟩ := stopped (s := s) (x := s) (g := g) (s.startState g) (m := (s.seg g).hostDisable) rfl (fun _ _ => rfl) rfl
  have dropped := stop.quiet free runs
  generalize s.restartInto g (s.startState g) = x at dropped
  refine ⟨?_, fun h ne => by rw [dropped.segs h ne, stop.segs h ne], by rw [dropped.whole]; exact stop.regs, by rw [dropped.whole, stop.whole], fun a out => ?_⟩
  · rw [dropped.seg, stop.seg]
  · rw [dropped.whole]
    exact stop.frame a out

theorem State.restartSegment_fst (s : State) (g : Fin 4) (options : Nat) (x : State) (hx : s.restartInto g (s.startState g) = x) :
    (s.restartSegment g options).1 =
      if options % 2 = 1 then (if options / 2 % 2 = 1 then x.resetCounters g else x).resetRegulator g
      else if options / 2 % 2 = 1 then x.resetCounters g else x := by
  subst hx
  rfl

theorem State.restartSegment_snd (s : State) (g : Fin 4) (options : Nat) (x : State) (hx : s.restartInto g (s.startState g) = x) :
    (s.restartSegment g options).2 = if options / 2 % 2 = 1 then countBytes (x.seg g) else [] := by
  subst hx
  rfl

/-- The events of a report of level. -/
theorem OptionsTaken.regs {x y : State} {g : Fin 4} {clear regulator : Prop} [Decidable clear] [Decidable regulator]
    (taken : OptionsTaken x y g clear regulator) :
    y.regs = { x.regs with event := x.regs.event ||| if levelOf (y.seg g).acc = levelOf (x.seg g).acc then 0#8 else Event.level.bit } := by
  by_cases same : levelOf (y.seg g).acc = levelOf (x.seg g).acc
  · obtain ⟨-, -, -, regs⟩ := taken.same same
    rw [if_pos same, BitVec.or_zero, regs]
  · obtain ⟨-, -, -, regs, -⟩ := taken.changed same
    rw [if_neg same, regs]

theorem countBytes_length (q : Seg) : (countBytes q).length = 20 := by simp [countBytes]

/-- The options of a RESTART as the level follows them. -/
theorem OptionsTaken.follows {x u : State} {c : Fin 32} {g : Fin 4} {kind : List Byte} {clear regulator : Prop} [Decidable clear] [Decidable regulator]
    (taken : OptionsTaken x u g clear regulator) (clean : s.info.dirty = false) (acc : (x.seg g).acc = (s.seg g).acc)
    (pace : (x.seg g).pace = (s.seg g).pace) (changes : (x.seg g).levelChanges = (s.seg g).levelChanges) (info : x.info = s.info)
    (ps : x.ps = s.ps) (done : DoneFinish u t c kind) : LevelFollows s t g := by
  have tseg := done.seg g
  have bounds := cellBase_bounds c
  have level : t.mem.read (0x24 + g.val) = u.mem.read (0x24 + g.val) := done.frame _ (by unfold EndPlaces InfoShared Within; omega)
  simp only [LevelFollows, tseg, ← acc, done.info]
  refine ⟨fun same => ?_, fun other => ?_⟩
  · obtain ⟨upace, uchanges, uinfo, -⟩ := taken.same same
    rw [uinfo, info, if_neg (by rw [clean]; decide)]
    exact ⟨uchanges.trans changes, upace.trans pace, rfl⟩
  · obtain ⟨upace, uchanges, uinfo, -, shown⟩ := taken.changed other
    rw [uinfo, info, if_pos rfl, ← clean]
    rw [ps] at upace
    exact ⟨by rw [uchanges, changes], upace, level.trans shown, rfl⟩

/-- What a request on a quiet segment leaves. -/
def QuietFrame (s t : State) (c : Fin 32) (g : Fin 4) : Prop :=
  EndsDone t c ∧ OnlyCellState s t c ∧
    EndRegs s t c (ctlEvents s t g ||| if levelOf (t.seg g).acc = levelOf (s.seg g).acc then 0#8 else Event.level.bit) ∧
    (∀ k, k ≠ g → t.seg k = s.seg k) ∧
    t = { s with board := t.board, regs := t.regs, mem := t.mem, segs := t.segs, info := t.info } ∧
    MemFrame s t fun x => EndPlaces c x ∨ Within (segBase g) 128 x ∨ InfoPlaces (0x24 + g.val) 1 x

theorem DoneFinish.segmentBytes {u : State} {c : Fin 32} {q : Seg} (done : DoneFinish u t c (segmentKind q [])) :
    t.mem.bytes (cellBase c + 100) 2 = [byte q.ctl.code, byte (flagBit q.hostDisable 0)] := by
  refine (Mem.bytes_part t.mem (cellBase c + 100) (n := 4) (i := 0) (k := 2) (by decide)).trans ?_
  rw [show t.mem.bytes (cellBase c + 100) 4 = segmentKind q [] from done.kindBytes (by simp [segmentKind])]
  rfl

theorem disableRequest {c : Fin 32} {g : Fin 4} (received : Receives s c .segment) (empty : LanesEmpty s g) (free : ContextsFree s g)
    (hg : field8 (s.cell c).captured 16 = g.val) (op : field8 (s.cell c).captured 17 = 1) :
    ∃ t, exec (.disable c) s = .next t ∧ QuietFrame s t c g ∧ t.mem.bytes (cellBase c + 100) 2 = [5, 1] ∧
      t.seg g = (if (s.seg g).ctl = .disabled then { s.seg g with hostDisable := true }
        else { s.seg g with hostDisable := true, ctl := .disabled, tecCount := 0, recCount := 0, recovery := 0, offered := none
                            counter := (s.seg g).counter + 1 }) := by
  obtain ⟨acted, seg⟩ := disableQuiet empty free
  obtain ⟨t, runs, done⟩ := segmentReceived (i := .disable c) (op := 1) (u := s.disableSegment g) (counts := []) rfl received hg op rfl
    (by rw [acted.whole]; rfl)
  have tseg := (done.seg g).trans seg
  have state : ((s.disableSegment g).seg g).ctl = .disabled ∧ ((s.disableSegment g).seg g).hostDisable = true ∧
      ((s.disableSegment g).seg g).acc = (s.seg g).acc := by
    rw [seg]
    split
    case isTrue off => exact ⟨off, rfl, rfl⟩
    case isFalse => exact ⟨rfl, rfl, rfl⟩
  obtain ⟨ctl, mark, acc⟩ := state
  have bytes := done.segmentBytes
  rw [ctl, mark] at bytes
  refine ⟨t, runs, acted.done done ?_, bytes, tseg⟩
  rw [ctlEvents, done.seg, ctl, acc, if_pos (rfl : levelOf (s.seg g).acc = _), BitVec.or_zero]

theorem enableRequest {c : Fin 32} {g : Fin 4} (received : Receives s c .segment)
    (hg : field8 (s.cell c).captured 16 = g.val) (op : field8 (s.cell c).captured 17 = 2) :
    ∃ t, exec (.enable c) s = .next t ∧ QuietFrame s t c g ∧ t.mem.bytes (cellBase c + 100) 2 = [byte (t.seg g).ctl.code, 0] ∧
      t.seg g = (if (s.seg g).ctl = .disabled ∧ s.ps.active.segs[g].enabled = true
        then { s.seg g with hostDisable := false, ctl := .joining, tecCount := 0, recCount := 0, counter := (s.seg g).counter + 1 }
        else { s.seg g with hostDisable := false }) := by
  obtain ⟨acted, seg⟩ := enableQuiet s g
  obtain ⟨t, runs, done⟩ := segmentReceived (i := .enable c) (op := 2) (u := s.enableSegment g) (counts := []) rfl received hg op rfl
    (by rw [acted.whole]; rfl)
  have tseg := (done.seg g).trans seg
  have mark : ((s.enableSegment g).seg g).hostDisable = false := by
    rw [seg]
    split <;> rfl
  have bytes := done.segmentBytes
  rw [mark, ← done.seg] at bytes
  refine ⟨t, runs, acted.done done ?_, bytes, tseg⟩
  rw [ctlEvents, tseg]
  by_cases on : (s.seg g).ctl = .disabled ∧ s.ps.active.segs[g].enabled = true
  · rw [if_pos on, if_pos on, if_pos (rfl : levelOf (s.seg g).acc = _), BitVec.or_zero]
    dsimp only
    rw [on.1]
    rfl
  · rw [if_neg on, if_neg on, if_pos (rfl : levelOf (s.seg g).acc = _), BitVec.or_zero]
    exact (if_pos rfl).symm

/-- Counts that are not read are 0 in the result. -/
theorem State.segmentDone_zeros (u : State) (c : Fin 32) (g : Fin 4) : u.segmentDone c g [] = u.segmentDone c g (zeros 20) := by
  have same : ∀ w : State, resultBytes w c (.done (segmentKind (u.seg g) [])) = resultBytes w c (.done (segmentKind (u.seg g) (zeros 20))) := fun _ => rfl
  show u.endCell c (.done (segmentKind (u.seg g) [])) = u.endCell c (.done (segmentKind (u.seg g) (zeros 20)))
  unfold State.endCell State.endCellOn
  simp only [same]
  rfl

theorem restartRequest {c : Fin 32} {g : Fin 4} (received : Receives s c .segment) (free : ContextsFree s g)
    (hg : field8 (s.cell c).captured 16 = g.val) (op : field8 (s.cell c).captured 17 = 3) :
    let q := s.seg g
    let r := s.ps.active.regs[g]
    let clear := field8 (s.cell c).captured 18 / 2 % 2 = 1
    let regulator := field8 (s.cell c).captured 18 % 2 = 1
    ∃ t, exec (.restart c) s = .next t ∧ QuietFrame s t c g ∧ LevelFollows s t g ∧
      t.mem.bytes (cellBase c + 100) 4 = [byte (t.seg g).ctl.code, byte (flagBit q.hostDisable 0), 0, 0] ∧
      t.mem.bytes (cellBase c + 104) 20 = (if clear then countBytes q else zeros 20) ∧
      t.seg g =
        { q with
          ctl := if s.enabled g then .joining else .disabled
          tecCount := 0, recCount := 0, recovery := 0, offered := none
          sent := if clear then 0 else q.sent, received := if clear then 0 else q.received
          errorFrames := if clear then 0 else q.errorFrames, stray := if clear then 0 else q.stray
          busOff := if clear then 0 else q.busOff
          acc := if regulator then clampTo r (r.ceiling * 8192) else q.acc
          holdOff := if regulator then 0 else q.holdOff
          pace := (t.seg g).pace, levelChanges := (t.seg g).levelChanges, counter := (t.seg g).counter } := by
  intro q r clear regulator
  have restarted := restartedQuiet free
  have first := State.restartSegment_fst s g (field8 (s.cell c).captured 18) _ rfl
  have second := State.restartSegment_snd s g (field8 (s.cell c).captured 18) _ rfl
  generalize s.restartInto g (s.startState g) = x at restarted first second
  have taken := optionsTaken (x := x) (g := g) (.inr (by rw [restarted.seg]; exact s.startState_silent g))
    (field8 (s.cell c).captured 18 / 2 % 2 = 1) (field8 (s.cell c).captured 18 % 2 = 1)
  rw [← first] at taken
  clear first
  have xps : x.ps = s.ps := by rw [restarted.whole]
  have xcell : x.cell c = s.cell c := by rw [restarted.whole]; rfl
  have xinfo : x.info = s.info := by rw [restarted.whole]
  have cell : (s.restartSegment g (field8 (s.cell c).captured 18)).1.cell c = s.cell c := by rw [taken.whole, ← xcell]; rfl
  have does : (s.restartSegment g (field8 (s.cell c).captured 18)).1.segmentDone c g (s.restartSegment g (field8 (s.cell c).captured 18)).2 =
      (s.restartSegment g (field8 (s.cell c).captured 18)).1.segmentDone c g (if clear then countBytes (x.seg g) else zeros 20) := by
    rw [second]
    by_cases yes : clear
    · rw [if_pos yes, if_pos yes]
    · rw [if_neg yes, if_neg yes, State.segmentDone_zeros]
  obtain ⟨t, runs, done⟩ := segmentReceived (i := .restart c) (op := 3) rfl received hg op does cell
  clear second does
  generalize (s.restartSegment g (field8 (s.cell c).captured 18)).1 = u at *
  have tseg := done.seg g
  have useg := taken.seg
  rw [xps, restarted.seg] at useg
  have counts : countBytes (x.seg g) = countBytes q := by rw [restarted.seg]; rfl
  rw [counts] at done
  have length : (segmentKind (u.seg g) (if clear then countBytes q else zeros 20)).length = 24 := by
    unfold segmentKind
    split <;> simp [countBytes_length]
  have bytes := done.kindBytes (by rw [length]; decide)
  rw [length] at bytes
  have acc : (x.seg g).acc = q.acc := by rw [restarted.seg]
  have ctl : (u.seg g).ctl = s.startState g := by rw [useg]
  have mark : (u.seg g).hostDisable = q.hostDisable := by rw [useg]
  have acted : Requested s u g ((if s.startState g = q.ctl then 0 else Event.segment.bit) |||
      if levelOf (u.seg g).acc = levelOf (x.seg g).acc then 0#8 else Event.level.bit) := by
    refine ⟨fun h ne => by rw [taken.segs h ne, restarted.segs h ne], ?_, by rw [taken.whole, restarted.whole], ?_⟩
    · have regs := taken.regs
      rw [restarted.regs] at regs
      rw [regs, BitVec.or_assoc]
    · have first : MemFrame s x (LevelPlaces g) := restarted.frame.mono fun _ => .inl
      exact first.trans taken.frame
  refine ⟨t, runs, acted.done done ?_, taken.follows received.1.1 acc (by rw [restarted.seg]) (by rw [restarted.seg]) xinfo xps done, ?_, ?_, ?_⟩
  · rw [ctlEvents, tseg, ctl, acc]
  · refine (Mem.bytes_part t.mem (cellBase c + 100) (n := 24) (i := 0) (k := 4) (by decide)).trans ?_
    rw [bytes, segmentKind, tseg, mark]
    rfl
  · refine (Mem.bytes_part t.mem (cellBase c + 100) (n := 24) (i := 4) (k := 20) (by decide)).trans ?_
    rw [bytes, segmentKind]
    refine List.take_of_length_le ?_
    split <;> simp [countBytes_length]
  · rw [tseg]
    exact useg

end Sys2Proof.Machine
end

section
/-! PROOFS. DISABLE and RESTART of a segment with one busy context (R86, R89, R91). -/

namespace Sys2Proof.Machine

variable {s t : State}

/-- Between `y` and `t` nothing of the end of cell `d` and of its records has changed. -/
structure Later (y t : State) (d : Fin 32) : Prop where
  cell : t.cell d = y.cell d
  chans : t.chans = y.chans
  transfers : t.transfers = y.transfers
  slots : t.slots = y.slots
  watches : t.watches = y.watches
  done : t.regs.done.getLsbD d.val = y.regs.done.getLsbD d.val
  event : ∀ i, y.regs.event.getLsbD i = true → t.regs.event.getLsbD i = true
  frame : MemFrame y t fun a => ¬ EndPlaces d a

section
variable {x y : State} {g k : Fin 4} {d : Fin 32} (later : Later y t d)
include later

theorem Later.trans {u : State} (next : Later t u d) : Later y u d :=
  ⟨next.cell.trans later.cell, next.chans.trans later.chans, next.transfers.trans later.transfers, next.slots.trans later.slots,
    next.watches.trans later.watches, next.done.trans later.done, fun i set => next.event i (later.event i set), later.frame.trans next.frame⟩

theorem Later.read {o : Nat} (low : 64 ≤ o) (high : o < 128) : t.mem.read (cellBase d + o) = y.mem.read (cellBase d + o) :=
  later.frame _ fun out => out (by unfold EndPlaces Within; omega)

theorem Later.bytes {o n : Nat} (low : 64 ≤ o) (high : o + n ≤ 128) : t.mem.bytes (cellBase d + o) n = y.mem.bytes (cellBase d + o) n :=
  later.frame.bytes fun i lt out => out (by unfold EndPlaces Within; omega)

theorem Later.chan (ch : Fin 8) : t.chan ch = y.chan ch := by rw [State.chan, later.chans, State.chan]

theorem Later.endsFailed {stage : Stage} {reason : Reason} (h : EndsFailed y d stage reason) : EndsFailed t d stage reason :=
  h.later (by rw [later.cell]) later.frame (fun _ place out => out place) later.done

theorem Later.endsDone (h : EndsDone y d) : EndsDone t d := h.later (by rw [later.cell]) later.frame (fun _ place out => out place) later.done

theorem Later.detailShows {n : Nat × Nat} (shows : DetailShows y d g k n) : DetailShows t d g k n := by
  unfold DetailShows
  rw [later.bytes (by decide) (by decide)]
  exact shows

theorem Later.exchangeFails {reason : Reason} {n : Nat × Nat} (fails : ExchangeFails x y g k d reason n) : ExchangeFails x t g k d reason n := by
  obtain ⟨ends, detail, cell, chan⟩ := fails
  exact ⟨later.endsFailed ends, later.detailShows detail, later.cell.trans cell, fun ch named => by rw [later.chan]; exact chan ch named⟩

theorem Later.released {r : Transfer} {reason : Reason} (released : TransferReleased x y d r reason) : TransferReleased x t d r reason := by
  obtain ⟨ends, gone, others, slot, latch, latched⟩ := released
  have transfer : ∀ e, t.transfer e = y.transfer e := fun e => by rw [State.transfer, later.transfers, State.transfer]
  have slots : ∀ n, t.slot n = y.slot n := fun n => by rw [State.slot, later.slots, State.slot]
  refine ⟨later.endsFailed ends, by rw [transfer, gone], fun e ne => by rw [transfer, others e ne], fun n => by rw [slots, slot],
    by rw [later.chan, latch], fun touched => ?_⟩
  rw [later.chan]
  exact ⟨later.event 7 (latched touched).1, (latched touched).2⟩

theorem Later.transferExchangeFails {r : Transfer} {reason : Reason} {n : Nat × Nat} (fails : TransferExchangeFails x y g k d r reason n) :
    TransferExchangeFails x t g k d r reason n := by
  obtain ⟨released, detail, cell, secondary, role, stage, accrued⟩ := fails
  refine ⟨later.released released, later.detailShows detail, later.cell.trans cell, ?_, fun o out => ?_, ?_, fun ch named => ?_⟩
  · rw [later.read (by decide) (by decide)]
    exact secondary
  · rw [later.read (by decide) (by decide)]
    exact role o out
  · rw [later.read (by decide) (by decide)]
    exact stage
  · rw [later.chan]
    exact accrued ch named

theorem Later.cycleFails {w : Watch} {reason : Reason} {n : Nat × Nat} (fails : CycleFails x y g k d w reason n) : CycleFails x t g k d w reason n := by
  obtain ⟨bit, counts, on, gone⟩ := fails
  refine ⟨by rw [later.chan]; exact bit, ?_, fun few idle => ?_, fun ended => ?_⟩
  · rw [later.bytes (by decide) (by decide)]
    exact counts
  · obtain ⟨next, cell⟩ := on few idle
    exact ⟨later.watches.trans next, later.cell.trans cell⟩
  · obtain ⟨none, cell, fourth, aborted, pending⟩ := gone ended
    refine ⟨later.watches.trans none, by rw [later.cell]; exact cell, fun many => ?_, fun few abort => later.endsDone (aborted few abort),
      fun p few cause other => later.endsFailed (pending p few cause other)⟩
    obtain ⟨ends, detail, secondary⟩ := fourth many
    refine ⟨later.endsFailed ends, later.detailShows detail, ?_⟩
    rw [later.read (by decide) (by decide)]
    exact secondary

end

/-- The end of a cell leaves the others as they are. -/
theorem DoneFinish.later {u : State} {c d : Fin 32} {kind : List Byte} (done : DoneFinish u t c kind) (ne : d ≠ c) : Later u t d := by
  have regs := done.regs
  unfold EndRegs at regs
  refine ⟨done.cells.2.2 d ne, by rw [done.whole], by rw [done.whole], by rw [done.whole], by rw [done.whole], ?_, fun i set => ?_, ?_⟩
  · have other : (1#32 <<< c.val).getLsbD d.val = false := by
      have values := Fin.val_ne_of_ne ne
      rw [BitVec.getLsbD_shiftLeft, BitVec.getLsbD_one]
      simp
      omega
    rw [regs]
    dsimp only
    rw [BitVec.getLsbD_or, other, Bool.or_false]
  · rw [regs]
    dsimp only
    rw [BitVec.getLsbD_or, set, Bool.true_or]
  · refine done.frame.mono ?_
    have apart := cellBase_apart ne
    have bounds := cellBase_bounds d
    rintro a (place | shared) here
    · unfold EndPlaces Within at *
      omega
    · exact endPlaces_not_infoShared here shared

/-- From `x` to `u` segment `g` keeps its lanes, its contexts and its controller. -/
structure Carried (x u : State) (g : Fin 4) : Prop where
  seg : u.seg g = { u.seg g with
    ctxs := (x.seg g).ctxs, lanes := (x.seg g).lanes, busy := (x.seg g).busy, offered := (x.seg g).offered, ctl := (x.seg g).ctl
    hostDisable := (x.seg g).hostDisable, tecCount := (x.seg g).tecCount, recCount := (x.seg g).recCount, recovery := (x.seg g).recovery }
  segs : ∀ h, h ≠ g → u.seg h = x.seg h
  done : u.regs.done = x.regs.done
  event : ∀ i, x.regs.event.getLsbD i = true → u.regs.event.getLsbD i = true
  whole : u = { x with regs := u.regs, mem := u.mem, segs := u.segs, info := u.info }
  frame : MemFrame x u (LevelPlaces g)

theorem Carried.refl (x : State) (g : Fin 4) : Carried x x g := ⟨rfl, fun _ _ => rfl, rfl, fun _ set => set, rfl, MemFrame.refl x _⟩

theorem OptionsTaken.carried {x u : State} {g : Fin 4} {clear regulator : Prop} [Decidable clear] [Decidable regulator]
    (taken : OptionsTaken x u g clear regulator) : Carried x u g := by
  have regs := taken.regs
  refine ⟨?_, taken.segs, by rw [regs], fun i set => ?_, taken.whole, taken.frame⟩
  · rw [taken.seg]
  · rw [regs]
    dsimp only
    rw [BitVec.getLsbD_or, set, Bool.true_or]

theorem Carried.later {x u : State} {g : Fin 4} (carried : Carried x u g) (d : Fin 32) : Later x u d := by
  refine ⟨by rw [carried.whole]; rfl, by rw [carried.whole], by rw [carried.whole], by rw [carried.whole], by rw [carried.whole],
    by rw [carried.done], carried.event, carried.frame.mono ?_⟩
  have bounds := cellBase_bounds d
  have seg := segBase_bounds g
  rintro a (area | level) here
  · unfold EndPlaces Within at *
    omega
  · unfold EndPlaces Within at *
    omega

/-- What a request leaves that has failed the lone busy context, apart from the failure itself. -/
def LoneStopped (s t : State) (c d : Fin 32) (g x : Fin 4) (st : Ctl) (mark : Bool) : Prop :=
  EndsDone t c ∧ ContextsFree t g ∧ (t.seg g).offered = none ∧
    (t.seg g).ctl = st ∧ (t.seg g).hostDisable = mark ∧ (t.seg g).tecCount = 0 ∧ (t.seg g).recCount = 0 ∧
    (t.seg g).recovery = 0 ∧ (t.seg g).lanes = (s.seg g).lanes ∧ (t.seg g).busy = (s.seg g).busy.filter (· != (s.ctx g x).target) ∧
    (st ≠ (s.seg g).ctl → t.regs.event.getLsbD 4 = true) ∧ (∀ h, h ≠ g → t.seg h = s.seg h) ∧
    (∀ e, e ≠ c → e ≠ d → t.cell e = s.cell e) ∧ t.board.posts = s.board.posts ∧
    t = { s with board := t.board, regs := t.regs, mem := t.mem, info := t.info, chans := t.chans, segs := t.segs
                 transfers := t.transfers, slots := t.slots, watches := t.watches, cm := t.cm } ∧
    MemFrame s t fun a => EndPlaces c a ∨ TransferPlaces d a ∨ InfoPlaces (0x24 + g.val) 1 a

theorem LoneFailed.stopped {b y u : State} {c d : Fin 32} {g x : Fin 4} {st : Ctl} {mark : Bool} {kind : List Byte} (failed : LoneFailed b y g x d)
    (stop : Stopped s b g st mark) (carried : Carried y u g) (done : DoneFinish u t c kind) : LoneStopped s t c d g x st mark := by
  have tseg := (done.seg g).trans carried.seg
  rw [failed.seg, stop.seg] at tseg
  have ctx : b.ctx g x = s.ctx g x := stop.moved.ctx x
  have ctxs : ∀ k, t.ctx g k = y.ctx g k := fun k => by
    show (t.seg g).ctxs[k] = (y.seg g).ctxs[k]
    rw [tseg]
  have event : ∀ i, u.regs.event.getLsbD i = true → t.regs.event.getLsbD i = true := fun i set => by
    have regs := done.regs
    unfold EndRegs at regs
    rw [regs]
    dsimp only
    rw [BitVec.getLsbD_or, set, Bool.true_or]
  refine ⟨done.ends, fun k => by rw [ctxs]; exact failed.free k, by rw [tseg], by rw [tseg], by rw [tseg], by rw [tseg], by rw [tseg], by rw [tseg],
    by rw [tseg], by rw [tseg, ctx], fun moved => ?_, fun h ne => ?_, fun e first second => ?_, ?_, ?_, ?_⟩
  · refine event 4 (carried.event 4 (failed.event 4 ?_))
    rw [stop.regs, if_neg moved]
    dsimp only
    rw [BitVec.getLsbD_or, show Event.segment.bit.getLsbD 4 = true from rfl, Bool.or_true]
  · rw [done.seg, carried.segs h ne, failed.segs h ne, stop.segs h ne]
  · rw [done.cells.2.2 e first, (carried.later e).cell, failed.cells.2.2 e second, stop.moved.cell]
  · rw [done.cells.1, carried.whole]
    dsimp only
    rw [failed.cells.1, stop.whole]
  · rw [done.whole, carried.whole, failed.whole, stop.whole]
  · have first : MemFrame s y (TransferPlaces d) := stop.frame.of_seg.trans failed.frame
    refine ((first.both carried.frame).both done.frame).mono ?_
    rintro a ((place | area | level) | place | shared)
    · exact .inr (.inl place)
    · exact .inr (.inl (.inr (.inr (.inr (.inl ⟨g, area⟩)))))
    · exact .inr (.inr (.inl level))
    · exact .inl place
    · exact .inr (.inr (.inr shared))

/-- A request of `c` that stops segment `g` fails its lone busy context `x` (R86). -/
theorem loneRequest {c : Fin 32} {g x : Fin 4} {i : Instr} {op : Nat} {f : State → Fin 4 → State} {b : State} {st : Ctl}
    {mark : Bool} (received : Receives s c .segment) (lone : LoneContext s g x) (ne : (s.ctx g x).cell ≠ c)
    (act : exec i s = receiveSegment s c .segment op f) (hg : field8 (s.cell c).captured 16 = g.val) (ho : field8 (s.cell c).captured 17 = op)
    (stop : Stopped s b g st mark) (silent : st.sends = false)
    (does : LoneFailed b ((b.failBusy g .segmentRestarted).modSeg g fun q => { q with offered := none }) g x (s.ctx g x).cell →
      ∃ u counts, Carried ((b.failBusy g .segmentRestarted).modSeg g fun q => { q with offered := none }) u g ∧ f s g = u.segmentDone c g counts) :
    ((s.ctx g x).role = .exchange → ∃ t, exec i s = .next t ∧ LoneStopped s t c (s.ctx g x).cell g x st mark ∧
      ExchangeFails s t g x (s.ctx g x).cell .segmentRestarted ((s.seg g).lastFrame x) ∧
      t.transfers = s.transfers ∧ t.watches = s.watches ∧ t.slots = s.slots) ∧
    (∀ r, (s.ctx g x).role.ofTransfer → s.transfer (s.ctx g x).cell = some r → ∃ t, exec i s = .next t ∧ LoneStopped s t c (s.ctx g x).cell g x st mark ∧
      TransferExchangeFails s t g x (s.ctx g x).cell r .segmentRestarted ((s.seg g).lastFrame x) ∧ t.watches = s.watches) ∧
    (∀ w, (s.ctx g x).role = .cycle → s.watch (s.ctx g x).cell = some w → s.entryOf (s.ctx g x).cell = none →
      ∃ t, exec i s = .next t ∧ LoneStopped s t c (s.ctx g x).cell g x st mark ∧
      CycleFails s t g x (s.ctx g x).cell w .segmentRestarted ((s.seg g).lastFrame x) ∧ t.transfers = s.transfers ∧ t.slots = s.slots) := by
  have off : (b.seg g).ctl.sends = false := by rw [stop.seg]; exact silent
  have moved := stop.moved
  have single := State.failBusy_lone (k := x) (reason := .segmentRestarted) off (by decide) (moved.lone lone)
  generalize b.failBusy g .segmentRestarted = y at *
  have dropped := frameDropped y g
  generalize (y.modSeg g fun q => { q with offered := none }) = v at dropped does
  have cellOf : (b.ctx g x).cell = (s.ctx g x).cell := congrArg Ctx.cell (moved.ctx x)
  have ends : LoneFailed b v g x (s.ctx g x).cell → ∃ t, exec i s = .next t ∧ LoneStopped s t c (s.ctx g x).cell g x st mark ∧
      Later v t (s.ctx g x).cell := fun failed => by
    obtain ⟨u, counts, carried, does⟩ := does failed
    have cell : u.cell c = s.cell c := by rw [(carried.later c).cell, failed.cells.2.2 c ne.symm, moved.cell]
    obtain ⟨t, runs, done⟩ := segmentReceived act received hg ho does cell
    exact ⟨t, runs, failed.stopped stop carried done, (carried.later _).trans (done.later ne)⟩
  refine ⟨fun role => ?_, fun r role here => ?_, fun w role here alone => ?_⟩
  · have failed := exchangeFailed (x := b) (.inr off) ((congrArg Ctx.role (moved.ctx x)).trans role) rfl .segmentRestarted ((b.seg g).lastFrame x)
    rw [← single, cellOf, stop.lastFrame] at failed
    obtain ⟨t, runs, after, later⟩ := ends (failed.common.lone dropped (moved.lone lone))
    refine ⟨t, runs, after, later.exchangeFails (moved.exchangeFails (dropped.exchangeFails failed.fails)), ?_, ?_, ?_⟩
    · rw [later.transfers, dropped.whole, failed.whole, stop.whole]
    · rw [later.watches, dropped.whole, failed.whole, stop.whole]
    · rw [later.slots, dropped.whole, failed.whole, stop.whole]
  · have failed := transferFailedIn (x := b) (r := r) (.inr off) (by rw [moved.ctx x]; exact role) rfl (by rw [moved.ctx x, moved.transfer]; exact here)
      .segmentRestarted (by decide) ((b.seg g).lastFrame x)
    rw [← single, moved.ctx x, stop.lastFrame] at failed
    obtain ⟨t, runs, after, later⟩ := ends (failed.common.lone dropped (moved.lone lone))
    refine ⟨t, runs, after, later.transferExchangeFails (moved.transferExchangeFails (dropped.transferExchangeFails failed.fails)), ?_⟩
    rw [later.watches, dropped.whole, failed.whole, stop.whole]
  · have failed := cycleFailedIn (x := b) (w := w) (.inr off) ((congrArg Ctx.role (moved.ctx x)).trans role) rfl (by rw [moved.ctx x, moved.watch]; exact here)
      (by rw [moved.ctx x, State.entryOf_lanes stop.lanes]; exact alone) (by rw [stop.whole]; exact received.1.1)
      .segmentRestarted ((b.seg g).lastFrame x)
    rw [← single, moved.ctx x, stop.lastFrame] at failed
    obtain ⟨t, runs, after, later⟩ := ends (failed.common.lone dropped (moved.lone lone))
    refine ⟨t, runs, after, later.cycleFails (moved.cycleFails (dropped.cycleFails failed.fails)), ?_, ?_⟩
    · rw [later.transfers, dropped.whole, failed.whole, stop.whole]
    · rw [later.slots, dropped.whole, failed.whole, stop.whole]

theorem loneDisable {c : Fin 32} {g x : Fin 4} (received : Receives s c .segment) (lone : LoneContext s g x) (ne : (s.ctx g x).cell ≠ c)
    (hg : field8 (s.cell c).captured 16 = g.val) (ho : field8 (s.cell c).captured 17 = 1) (on : (s.seg g).ctl ≠ .disabled) (empty : LanesEmpty s g) :
    ((s.ctx g x).role = .exchange → ∃ t, exec (.disable c) s = .next t ∧ LoneStopped s t c (s.ctx g x).cell g x .disabled true ∧
      ExchangeFails s t g x (s.ctx g x).cell .segmentRestarted ((s.seg g).lastFrame x) ∧
      t.transfers = s.transfers ∧ t.watches = s.watches ∧ t.slots = s.slots) ∧
    (∀ r, (s.ctx g x).role.ofTransfer → s.transfer (s.ctx g x).cell = some r →
      ∃ t, exec (.disable c) s = .next t ∧ LoneStopped s t c (s.ctx g x).cell g x .disabled true ∧
      TransferExchangeFails s t g x (s.ctx g x).cell r .segmentRestarted ((s.seg g).lastFrame x) ∧ t.watches = s.watches) ∧
    (∀ w, (s.ctx g x).role = .cycle → s.watch (s.ctx g x).cell = some w → s.entryOf (s.ctx g x).cell = none →
      ∃ t, exec (.disable c) s = .next t ∧ LoneStopped s t c (s.ctx g x).cell g x .disabled true ∧
      CycleFails s t g x (s.ctx g x).cell w .segmentRestarted ((s.seg g).lastFrame x) ∧ t.transfers = s.transfers ∧ t.slots = s.slots) := by
  obtain ⟨y, hy⟩ : ∃ y, y = s.modSeg g fun q => { q with hostDisable := true } := ⟨_, rfl⟩
  have seg : y.seg g = { s.seg g with hostDisable := true } := by rw [hy, State.seg_modSeg]
  have segs : ∀ h, h ≠ g → y.seg h = s.seg h := fun h ne => by rw [hy, State.seg_modSeg_ne _ _ ne]
  have whole : y = { s with segs := y.segs } := by rw [hy]; rfl
  have runs : s.disableSegment g = if (y.seg g).ctl = .disabled then y
      else ((y.restartInto g .disabled).seg g).lanes.all.foldl State.entryDisabled (y.restartInto g .disabled) := by
    unfold State.disableSegment
    rw [← hy]
  clear hy
  rw [seg, if_neg on] at runs
  obtain ⟨b, stop, into⟩ := stopped .disabled seg segs whole
  refine loneRequest received lone ne (op := 1) rfl hg ho stop rfl fun failed => ?_
  rw [← into] at failed ⊢
  have lanes : ((y.restartInto g .disabled).seg g).lanes = Lanes.empty := by rw [failed.seg, stop.seg]; exact empty
  rw [lanes, Lanes.empty_all, List.foldl_nil] at runs
  exact ⟨_, [], Carried.refl _ g, by rw [runs]⟩

theorem loneRestart {c : Fin 32} {g x : Fin 4} (received : Receives s c .segment) (lone : LoneContext s g x) (ne : (s.ctx g x).cell ≠ c)
    (hg : field8 (s.cell c).captured 16 = g.val) (ho : field8 (s.cell c).captured 17 = 3) :
    ((s.ctx g x).role = .exchange →
      ∃ t, exec (.restart c) s = .next t ∧ LoneStopped s t c (s.ctx g x).cell g x (s.startState g) (s.seg g).hostDisable ∧
      ExchangeFails s t g x (s.ctx g x).cell .segmentRestarted ((s.seg g).lastFrame x) ∧
      t.transfers = s.transfers ∧ t.watches = s.watches ∧ t.slots = s.slots) ∧
    (∀ r, (s.ctx g x).role.ofTransfer → s.transfer (s.ctx g x).cell = some r →
      ∃ t, exec (.restart c) s = .next t ∧ LoneStopped s t c (s.ctx g x).cell g x (s.startState g) (s.seg g).hostDisable ∧
      TransferExchangeFails s t g x (s.ctx g x).cell r .segmentRestarted ((s.seg g).lastFrame x) ∧ t.watches = s.watches) ∧
    (∀ w, (s.ctx g x).role = .cycle → s.watch (s.ctx g x).cell = some w → s.entryOf (s.ctx g x).cell = none →
      ∃ t, exec (.restart c) s = .next t ∧ LoneStopped s t c (s.ctx g x).cell g x (s.startState g) (s.seg g).hostDisable ∧
      CycleFails s t g x (s.ctx g x).cell w .segmentRestarted ((s.seg g).lastFrame x) ∧ t.transfers = s.transfers ∧ t.slots = s.slots) := by
  obtain ⟨b, stop, into⟩ := stopped (s := s) (x := s) (g := g) (s.startState g) (m := (s.seg g).hostDisable) rfl (fun _ _ => rfl) rfl
  refine loneRequest received lone ne (op := 3) rfl hg ho stop (s.startState_silent g) fun failed => ?_
  rw [← into] at failed ⊢
  have first := State.restartSegment_fst s g (field8 (s.cell c).captured 18) _ rfl
  generalize s.restartInto g (s.startState g) = v at failed first
  have taken := optionsTaken (x := v) (g := g) (.inr (by rw [failed.seg, stop.seg]; exact s.startState_silent g))
    (field8 (s.cell c).captured 18 / 2 % 2 = 1) (field8 (s.cell c).captured 18 % 2 = 1)
  rw [← first] at taken
  exact ⟨_, _, taken.carried, rfl⟩

end Sys2Proof.Machine
end

section
/-! PROOFS. A SEGMENT request on a segment with one waiting entry (R60, R61, R91). -/

namespace Sys2Proof.Machine

variable {s t : State}

theorem queueLost_mem {e : CellEnd} {f : FaultRec} (has : e.fault = some f) (stage : f.stage = .queue) : Flag.queueLost ∈ e.conditions := by
  unfold CellEnd.conditions
  rw [has]
  simp [stage]

/-- The work of the waiting entry of cell `d` has ended at stage QUEUE. -/
structure EntryEnded (u y : State) (d : Fin 32) : Prop where
  cell : y.cell d = { u.cell d with st := .failed }
  cells : OnlyCellState u y d
  entry : EntryDropped u y d
  lost : ∀ ch, channelNamed (u.cell d).captured = some ch → (y.chan ch).accrued.getLsbD 1 = true
  event : ∀ i, u.regs.event.getLsbD i = true → y.regs.event.getLsbD i = true
  whole : y = { u with board := y.board, regs := y.regs, mem := y.mem, info := y.info, chans := y.chans, segs := y.segs
                       transfers := y.transfers, slots := y.slots, watches := y.watches, cm := y.cm }
  frame : MemFrame u y (TransferPlaces d)

theorem EndsFailed.cell {d : Fin 32} {stage : Stage} {reason : Reason} (ends : EndsFailed t d stage reason) (cells : OnlyCellState s t d) :
    t.cell d = { s.cell d with st := .failed } := by
  have same := cells.2.1
  rw [ends.1.1] at same
  exact same

/-- An EXCHANGE that is lost in its lane (R22, R40, R61). -/
theorem exchangeLost {u : State} (d : Fin 32) (reason : Reason) (detail : Option Detail) :
    EndsFailed (u.exchangeLost d reason detail) d .queue reason ∧ EntryEnded u (u.exchangeLost d reason detail) d ∧
      (u.exchangeLost d reason detail).transfers = u.transfers ∧ (u.exchangeLost d reason detail).watches = u.watches ∧
      (u.exchangeLost d reason detail).slots = u.slots := by
  have drop := dropped u d
  rw [State.exchangeLost]
  generalize u.dropEntry d = z at drop
  have ended := cellOver z d (.failed (denialFault z (targetOf (z.cell d).captured) .queue reason detail))
  have conditions := queueLost_mem (e := .failed (denialFault z (targetOf (z.cell d).captured) .queue reason detail)) rfl rfl
  have fails := ended.failed _ rfl
  generalize z.endCell d (.failed (denialFault z (targetOf (z.cell d).captured) .queue reason detail)) = y at *
  have zcell : ∀ e, z.cell e = u.cell e := fun e => by rw [drop.whole]; rfl
  have cells := ended.cells.of_board (s := u) (by rw [drop.whole])
  have regs := ended.regs
  refine ⟨fails, ⟨EndsFailed.cell fails cells, cells, drop.entryDropped (by rw [ended.whole]), fun ch named => ?_, fun i set => ?_, ?_, ?_⟩,
    by rw [ended.whole, drop.whole], by rw [ended.whole, drop.whole], by rw [ended.whole, drop.whole]⟩
  · rw [← zcell] at named
    rw [ended.chan ch named]
    exact foldl_or_of_mem conditions rfl _
  · rw [regs]
    dsimp only
    rw [drop.whole]
    exact set
  · rw [ended.whole, drop.whole]
  · refine (drop.frame.both ended.frame).mono ?_
    rintro a (⟨g, e, -, area⟩ | place | ⟨ch, -, area⟩)
    · exact .inr (.inr (.inr (.inl ⟨g, area⟩)))
    · exact .inl place
    · exact .inr (.inr (.inl ⟨ch, area⟩))

/-- A watch whose entry is lost in its lane (R61). -/
theorem watchLost {u : State} {d : Fin 32} {w : Watch} (here : u.watch d = some w) {f : FaultRec} (stage : f.stage = .queue) :
    EndsFailed (u.watchEnd d (some f)) d .queue f.reason ∧ EntryEnded u (u.watchEnd d (some f)) d ∧
      (u.watchEnd d (some f)).transfers = u.transfers ∧ (u.watchEnd d (some f)).watches = u.watches.set d none ∧
      (u.watchEnd d (some f)).slots = u.slots := by
  have ends := watchEnds here (some f)
  have conditions := queueLost_mem (e := { CellEnd.done [] with fault := some f }) rfl stage
  generalize u.watchEnd d (some f) = y at ends
  have fails := ends.failed f rfl
  rw [stage] at fails
  have regs := ends.regs
  refine ⟨fails, ⟨EndsFailed.cell fails ends.cells, ends.cells, ends.entry, fun ch named => ?_, fun i set => ?_, ?_, ?_⟩,
    by rw [ends.whole], ends.watches, by rw [ends.whole]⟩
  · rw [ends.chan ch named]
    exact foldl_or_of_mem conditions rfl _
  · rw [regs]
    exact set
  · rw [ends.whole]
  · refine ends.frame.mono ?_
    rintro a (place | ⟨ch, -, area⟩ | ⟨g, e, -, area⟩ | ⟨-, shared⟩)
    · exact .inl place
    · exact .inr (.inr (.inl ⟨ch, area⟩))
    · exact .inr (.inr (.inr (.inl ⟨g, area⟩)))
    · exact .inr (.inr (.inr (.inr (.inr shared))))

/-- A transfer whose entry is lost in its lane (R61). -/
theorem transferLost {u z : State} {d : Fin 32} {r : Transfer} (drop : Dropped u z d) (here : u.transfer d = some r) (reason : Reason) :
    TransferFails z (z.transferEntryLost d reason) d r (.plain reason .queue r.standing) ∧ EntryEnded u (z.transferEntryLost d reason) d ∧
      (z.transferEntryLost d reason).watches = u.watches := by
  have there : z.transfer d = some r := by rw [drop.whole]; exact here
  have does : z.transferEntryLost d reason = z.transferFail d (.plain reason .queue r.standing) := by
    rw [State.transferEntryLost, there]
  have fails := transferFails there (.plain reason .queue r.standing)
  rw [does]
  generalize z.transferFail d (.plain reason .queue r.standing) = y at *
  have zcell : ∀ e, z.cell e = u.cell e := fun e => by rw [drop.whole]; rfl
  have cells := fails.cells.of_board (s := u) (by rw [drop.whole])
  have regs := fails.regs
  refine ⟨fails, ⟨by rw [fails.cell, zcell], cells, drop.entryDropped (by rw [fails.whole]), fun ch named => ?_, fun i set => ?_, ?_, ?_⟩,
    by rw [fails.whole, drop.whole]⟩
  · rw [← zcell] at named
    exact (fails.accrued ch named).2.2 rfl
  · rw [regs]
    dsimp only
    rw [BitVec.getLsbD_or, drop.whole]
    dsimp only
    rw [set, Bool.true_or]
  · rw [fails.whole, drop.whole]
  · refine (drop.frame.both fails.frame).mono ?_
    rintro a (⟨g, e, -, area⟩ | place | ⟨n, -, word⟩ | ⟨ch, -, area⟩ | info)
    · exact .inr (.inr (.inr (.inl ⟨g, area⟩)))
    · exact .inl place
    · exact .inr (.inl ⟨n, word⟩)
    · exact .inr (.inr (.inl ⟨ch, area⟩))
    · exact .inr (.inr (.inr (.inr info)))

/-- What a DISABLE leaves that has removed the waiting entry of cell `d`, apart from the end of its work. -/
def EntryDisabledAfter (s t : State) (c d : Fin 32) (g : Fin 4) : Prop :=
  EndsDone t c ∧ LanesEmpty t g ∧
    (t.seg g).ctl = .disabled ∧ (t.seg g).hostDisable = true ∧ (t.seg g).tecCount = 0 ∧ (t.seg g).recCount = 0 ∧
    t.regs.event.getLsbD 4 = true ∧ (∀ h, h ≠ g → t.seg h = s.seg h) ∧
    t.cell d = { s.cell d with st := .failed } ∧ (∀ f, f ≠ c → f ≠ d → t.cell f = s.cell f) ∧
    (∀ ch, channelNamed (s.cell d).captured = some ch → (t.chan ch).accrued.getLsbD 1 = true) ∧
    t = { s with board := t.board, regs := t.regs, mem := t.mem, info := t.info, chans := t.chans, segs := t.segs
                 transfers := t.transfers, slots := t.slots, watches := t.watches, cm := t.cm } ∧
    MemFrame s t fun a => EndPlaces c a ∨ TransferPlaces d a

theorem Lanes.only_without (e : Entry) : (Lanes.only e).without e.cell = Lanes.empty := by
  unfold Lanes.only Lanes.mod Lanes.without Lanes.empty
  cases e.lane <;> simp

theorem Lanes.only_all (e : Entry) : (Lanes.only e).all = [e] := by
  unfold Lanes.only Lanes.mod Lanes.all Lanes.empty
  cases e.lane <;> rfl

/-- Segment `g` has been disabled, its frame dropped, and its entries still wait. -/
structure DisabledWaits (s u : State) (g : Fin 4) : Prop where
  seg : u.seg g = { s.seg g with hostDisable := true, tecCount := 0, recCount := 0, recovery := 0, ctl := .disabled, offered := none
                                 counter := (s.seg g).counter + 1 }
  segs : ∀ h, h ≠ g → u.seg h = s.seg h
  event : u.regs.event.getLsbD 4 = true
  whole : u = { s with segs := u.segs, regs := u.regs, mem := u.mem }
  frame : MemFrame s u (Within (segBase g) 128)

theorem disabledWaits {g : Fin 4} (free : ContextsFree s g) (on : (s.seg g).ctl ≠ .disabled) :
    ∃ u, DisabledWaits s u g ∧ s.disableSegment g = (u.seg g).lanes.all.foldl State.entryDisabled u := by
  obtain ⟨x, hx⟩ : ∃ x, x = s.modSeg g fun q => { q with hostDisable := true } := ⟨_, rfl⟩
  have seg : x.seg g = { s.seg g with hostDisable := true } := by rw [hx, State.seg_modSeg]
  have segs : ∀ h, h ≠ g → x.seg h = s.seg h := fun h ne => by rw [hx, State.seg_modSeg_ne _ _ ne]
  have whole : x = { s with segs := x.segs } := by rw [hx]; rfl
  have does : s.disableSegment g = if (x.seg g).ctl = .disabled then x
      else ((x.restartInto g .disabled).seg g).lanes.all.foldl State.entryDisabled (x.restartInto g .disabled) := by
    unfold State.disableSegment
    rw [← hx]
  clear hx
  have xctl : (x.seg g).ctl = (s.seg g).ctl := by rw [seg]
  rw [xctl, if_neg on] at does
  obtain ⟨b, stop, into⟩ := stopped .disabled seg segs whole
  have dropped := stop.quiet free into
  clear into
  generalize x.restartInto g .disabled = u at does dropped
  refine ⟨u, ⟨?_, fun h ne => by rw [dropped.segs h ne, stop.segs h ne], ?_, by rw [dropped.whole, stop.whole], fun a out => ?_⟩, does⟩
  · rw [dropped.seg, stop.seg, if_neg on]
  · rw [dropped.whole]
    dsimp only
    rw [stop.regs, if_neg fun eq => on eq.symm]
    dsimp only
    rw [BitVec.getLsbD_or, show Event.segment.bit.getLsbD 4 = true from rfl, Bool.or_true]
  · rw [dropped.whole]
    exact stop.frame a out

theorem DisabledWaits.entryOf {u : State} {g : Fin 4} (waits : DisabledWaits s u g) (d : Fin 32) : u.entryOf d = s.entryOf d :=
  State.entryOf_lanes fun h => by
    by_cases same : h = g
    · rw [same, waits.seg]
    · rw [waits.segs h same]

theorem EntryEnded.after {u y : State} {c : Fin 32} {g : Fin 4} {e : Entry} {kind : List Byte} (ended : EntryEnded u y e.cell)
    (waits : DisabledWaits s u g) (lanes : (s.seg g).lanes = Lanes.only e) (entry : s.entryOf e.cell = some (g, e)) (done : DoneFinish y t c kind)
    (later : Later y t e.cell) : EntryDisabledAfter s t c e.cell g := by
  obtain ⟨seg, others⟩ := ended.entry.2 g e ((waits.entryOf e.cell).trans entry)
  have tseg := (done.seg g).trans seg
  rw [waits.seg] at tseg
  have ucell : ∀ f, u.cell f = s.cell f := fun f => by rw [waits.whole]; rfl
  refine ⟨done.ends, ?_, by rw [tseg], by rw [tseg], by rw [tseg], by rw [tseg], later.event 4 (ended.event 4 waits.event), fun h ne => ?_,
    by rw [later.cell, ended.cell, ucell], fun f first second => ?_, fun ch named => ?_, ?_, ?_⟩
  · show (t.seg g).lanes = Lanes.empty
    rw [tseg]
    dsimp only
    rw [lanes, Lanes.only_without]
  · rw [done.seg, others h ne, waits.segs h ne]
  · rw [done.cells.2.2 f first, ended.cells.2.2 f second, ucell]
  · rw [← ucell] at named
    rw [later.chan]
    exact ended.lost ch named
  · rw [done.whole, ended.whole, waits.whole]
  · have first : MemFrame s y (TransferPlaces e.cell) := waits.frame.of_seg.trans ended.frame
    refine (first.both done.frame).mono ?_
    rintro a (place | place | shared)
    · exact .inr place
    · exact .inl place
    · exact .inr (.inr (.inr (.inr (.inr (.inr shared)))))

/-- A DISABLE of a segment with one waiting entry (R61). -/
theorem entryDisable {c : Fin 32} {g : Fin 4} {e : Entry} (received : Receives s c .segment) (free : ContextsFree s g)
    (lanes : (s.seg g).lanes = Lanes.only e) (entry : s.entryOf e.cell = some (g, e)) (ne : e.cell ≠ c)
    (hg : field8 (s.cell c).captured 16 = g.val) (ho : field8 (s.cell c).captured 17 = 1) (on : (s.seg g).ctl ≠ .disabled) :
    (e.role = .exchange → ∃ t, exec (.disable c) s = .next t ∧ EntryDisabledAfter s t c e.cell g ∧ EndsFailed t e.cell .queue .segmentUnavailable ∧
      t.transfers = s.transfers ∧ t.watches = s.watches ∧ t.slots = s.slots) ∧
    (∀ r, e.role.ofTransfer → s.transfer e.cell = some r → ∃ t, exec (.disable c) s = .next t ∧ EntryDisabledAfter s t c e.cell g ∧
      TransferReleased s t e.cell r .segmentUnavailable ∧ t.mem.read (cellBase e.cell + 94) = byte Stage.queue.code ∧ t.watches = s.watches) ∧
    (∀ w, e.role = .cycle → s.watch e.cell = some w → ∃ t, exec (.disable c) s = .next t ∧ EntryDisabledAfter s t c e.cell g ∧
      EndsFailed t e.cell .queue .segmentUnavailable ∧ t.watches = s.watches.set e.cell none ∧ t.transfers = s.transfers ∧ t.slots = s.slots) := by
  obtain ⟨u, waits, does⟩ := disabledWaits free on
  have ulanes : (u.seg g).lanes = Lanes.only e := by rw [waits.seg]; exact lanes
  rw [ulanes, Lanes.only_all, List.foldl_cons, List.foldl_nil] at does
  have moved : Moved s u g := ⟨waits.whole, by rw [waits.seg]⟩
  have finishes : EntryEnded u (u.entryDisabled e) e.cell →
      ∃ t, exec (.disable c) s = .next t ∧ EntryDisabledAfter s t c e.cell g ∧ Later (u.entryDisabled e) t e.cell := fun ended => by
    have cell : (u.entryDisabled e).cell c = s.cell c := by rw [ended.cells.2.2 c ne.symm, moved.cell]
    obtain ⟨t, runs, done⟩ := segmentReceived (i := .disable c) (op := 1) (u := u.entryDisabled e) (counts := []) rfl received hg ho
      (by rw [does]) cell
    exact ⟨t, runs, ended.after waits lanes entry done (done.later ne), done.later ne⟩
  refine ⟨fun role => ?_, fun r role here => ?_, fun w role here => ?_⟩
  · have acts : u.entryDisabled e = u.exchangeLost e.cell .segmentUnavailable none := by
      unfold State.entryDisabled
      rw [role]
    obtain ⟨fails, ended, transfers, watches, slots⟩ := exchangeLost (u := u) e.cell .segmentUnavailable none
    rw [← acts] at fails ended transfers watches slots
    obtain ⟨t, runs, after, later⟩ := finishes ended
    refine ⟨t, runs, after, later.endsFailed fails, ?_, ?_, ?_⟩
    · rw [later.transfers, transfers, waits.whole]
    · rw [later.watches, watches, waits.whole]
    · rw [later.slots, slots, waits.whole]
  · have acts : u.entryDisabled e = (u.dropEntry e.cell).transferEntryLost e.cell .segmentUnavailable := by
      obtain ⟨exchange, cycle⟩ := role
      unfold State.entryDisabled
      cases h : e.role with
      | exchange => exact absurd h exchange
      | cycle => exact absurd h cycle
      | start | data | ending | verify | keepalive => rfl
    have drop := dropped u e.cell
    obtain ⟨fails, ended, watches⟩ := transferLost drop ((moved.transfer e.cell).trans here) .segmentUnavailable
    rw [← acts] at fails ended watches
    generalize u.dropEntry e.cell = z at drop fails
    obtain ⟨t, runs, after, later⟩ := finishes ended
    have zseg := (drop.seg g e ((waits.entryOf e.cell).trans entry)).1
    have dropMoved : Moved u z g := ⟨by rw [drop.whole], by rw [zseg]⟩
    refine ⟨t, runs, after, later.released (moved.released (dropMoved.released fails.released)), ?_, ?_⟩
    · rw [later.read (by decide) (by decide)]
      exact fails.fault 10 _ (by decide) (by decide) (transferFault_stage z r _)
    · rw [later.watches, watches, waits.whole]
  · have there := (moved.watch e.cell).trans here
    have acts : u.entryDisabled e = u.watchEnd e.cell (some (watchFault u w .queue .segmentUnavailable none)) := by
      unfold State.entryDisabled
      rw [role]
      dsimp only
      rw [there]
    obtain ⟨fails, ended, transfers, watches, slots⟩ := watchLost there (f := watchFault u w .queue .segmentUnavailable none) rfl
    rw [← acts] at fails ended transfers watches slots
    obtain ⟨t, runs, after, later⟩ := finishes ended
    refine ⟨t, runs, after, later.endsFailed fails, ?_, ?_, ?_⟩
    · rw [later.watches, watches, waits.whole]
    · rw [later.transfers, transfers, waits.whole]
    · rw [later.slots, slots, waits.whole]

/-- A DISABLE of a segment that is DISABLED sets the mark. -/
theorem disabledDisable {c : Fin 32} {g : Fin 4} (received : Receives s c .segment) (hg : field8 (s.cell c).captured 16 = g.val)
    (ho : field8 (s.cell c).captured 17 = 1) (off : (s.seg g).ctl = .disabled) :
    ∃ t, exec (.disable c) s = .next t ∧ EndsDone t c ∧ t.seg g = { s.seg g with hostDisable := true } ∧ OnlyCellState s t c ∧
      (∀ h, h ≠ g → t.seg h = s.seg h) := by
  obtain ⟨x, hx⟩ : ∃ x, x = s.modSeg g fun q => { q with hostDisable := true } := ⟨_, rfl⟩
  have seg : x.seg g = { s.seg g with hostDisable := true } := by rw [hx, State.seg_modSeg]
  have segs : ∀ h, h ≠ g → x.seg h = s.seg h := fun h ne => by rw [hx, State.seg_modSeg_ne _ _ ne]
  have whole : x = { s with segs := x.segs } := by rw [hx]; rfl
  have does : s.disableSegment g = x := by
    unfold State.disableSegment
    rw [← hx]
    dsimp only
    rw [seg, if_pos off]
  clear hx
  obtain ⟨t, runs, done⟩ := segmentReceived (i := .disable c) (op := 1) (u := x) (counts := []) rfl received hg ho (by rw [does])
    (by rw [whole]; rfl)
  exact ⟨t, runs, done.ends, (done.seg g).trans seg, done.cells.of_board (by rw [whole]), fun h ne => by rw [done.seg, segs h ne]⟩

/-- Settles O44: the segment leaves its state, its lone context and its lone entry fail, and the options of a RESTART follow. -/
theorem segmentRequests : Obligations.SegmentRequests := by
  unfold Obligations.SegmentRequests
  refine ⟨fun c g x s received lone => ?_, fun c g e s received free => ?_, fun c g s received empty free => ?_⟩
  · intro cap q k d fails ne hg
    exact ⟨fun op on empty => loneDisable received lone ne hg op on empty, fun op => loneRestart received lone ne hg op⟩
  · intro cap q d lanes entry ne hg
    refine ⟨fun op => ?_, fun op off => disabledDisable received hg op off, fun op on => entryDisable received free lanes entry ne hg op on⟩
    obtain ⟨t, runs, ⟨ends, cells, -, segs, -⟩, -, -, -, seg⟩ := restartRequest received free hg op
    exact ⟨t, runs, ends, by rw [seg], by rw [seg], cells, segs⟩
  · intro cap q r level frame hg
    exact ⟨fun op => disableRequest received empty free hg op, fun op => enableRequest received hg op, fun op => restartRequest received free hg op⟩

end Sys2Proof.Machine
end

section
/-! PROOFS. The part's own frames (R65, R76, R77, R81). -/

namespace Sys2Proof.Machine

variable {s t : State}

/-! ### A context that moves (R74) -/

/-- Context `k` of segment `g` has become `v`, and at most the segment's fields have been written again. -/
structure CtxMoved (x y : State) (g k : Fin 4) (v : Ctx) : Prop where
  ctx : y.ctx g k = v
  ctxs : ∀ j, j ≠ k → y.ctx g j = x.ctx g j
  seg : y.seg g = { x.seg g with ctxs := (y.seg g).ctxs, counter := (y.seg g).counter }
  segs : ∀ h, h ≠ g → y.seg h = x.seg h
  whole : y = { x with segs := y.segs, mem := y.mem }
  frame : MemFrame x y (Within (segBase g) 128)

theorem CtxMoved.trans {x y z : State} {g k : Fin 4} {v w : Ctx} (first : CtxMoved x y g k v) (second : CtxMoved y z g k w) : CtxMoved x z g k w := by
  refine ⟨second.ctx, fun j ne => by rw [second.ctxs j ne, first.ctxs j ne], ?_, fun h ne => by rw [second.segs h ne, first.segs h ne],
    by rw [second.whole, first.whole], first.frame.trans second.frame⟩
  have seg := second.seg
  rw [first.seg] at seg
  exact seg

theorem State.ctx_modCtx_ne (x : State) (g : Fin 4) {j k : Fin 4} (f : Ctx → Ctx) (ne : j ≠ k) : (x.modCtx g k f).ctx g j = x.ctx g j := by
  show (upd x.segs g _)[g].ctxs[j] = _
  rw [upd_same]
  exact upd_ne _ _ ne

theorem ctxModified (x : State) (g k : Fin 4) (f : Ctx → Ctx) : CtxMoved x (x.modCtx g k f) g k (f (x.ctx g k)) := by
  refine ⟨x.ctx_modCtx g k f, fun j ne => x.ctx_modCtx_ne g f ne, ?_, fun h ne => State.seg_modSeg_ne _ _ ne, rfl, MemFrame.refl x _⟩
  rw [State.modCtx, State.seg_modSeg]

theorem ctxWritten (x : State) (g k : Fin 4) : CtxMoved x (x.stuWrite g) g k (x.ctx g k) := by
  have seg := x.seg_stuWrite g
  have ctxs : ∀ j, (x.stuWrite g).ctx g j = x.ctx g j := fun j => by
    show ((x.stuWrite g).seg g).ctxs[j] = (x.seg g).ctxs[j]
    rw [seg]
  refine ⟨ctxs k, fun j _ => ctxs j, ?_, fun h ne => x.stuWrite_seg_ne ne, by rw [State.stuWrite_eq], x.stuWrite_frame g⟩
  rw [seg]

theorem ctxEntered (x : State) (g k : Fin 4) (st : CtxState) (timer : Option Nat) :
    CtxMoved x (x.enterCtx g k st timer) g k { x.ctx g k with st := st, timer := timer } := by
  have first := ctxModified x g k fun c => { c with st := st, timer := timer }
  rw [State.enterCtx]
  generalize (x.modCtx g k fun c => { c with st := st, timer := timer }) = y at *
  have second := ctxWritten y g k
  rw [first.ctx] at second
  exact first.trans second

/-! ### A frame that is acknowledged (R77, R81) -/

/-- A context whose frame `o` has ended at `now` of millisecond `clock`, on a segment with these waits. -/
def Ctx.afterFrame (now clock creditWait partWait : Nat) (o : Offered) (k : Ctx) : Ctx :=
  match o.kind with
  | .short => { sentCtx now o k with st := .awaitResponse, timer := some (clock + k.respWait) }
  | .opening => { sentCtx now o k with st := .awaitCredit, timer := some (clock + creditWait) }
  | .part =>
    if k.length ≤ (sentCtx now o k).sent then { sentCtx now o k with st := .awaitResponse, timer := some (clock + k.respWait) }
    else if (sentCtx now o k).credit = some 0 then { sentCtx now o k with st := .awaitCredit, timer := some (clock + creditWait) }
    else { sentCtx now o k with ready := some { kind := .part, since := now, spaced := true } }
  | .credit => { sentCtx now o k with granted := if o.credit = 0 then none else some o.credit, timer := some (clock + partWait) }

theorem Ctx.afterFrame_goesOn (now clock creditWait partWait : Nat) (o : Offered) (k : Ctx) :
    let v := k.afterFrame now clock creditWait partWait o
    let sent := k.sent + o.carried.length
    let credit := if o.kind = .part then k.credit.map (· - 1) else k.credit
    v.touched = true ∧ v.sent = sent ∧ v.credit = credit ∧ v.nextPart = (if o.kind = .part then k.nextPart + 1 else k.nextPart) ∧
      v.partEnd = (if o.kind = .part then some now else k.partEnd) ∧
      (o.kind = .short ∨ (o.kind = .part ∧ k.length ≤ sent) → v.st = .awaitResponse ∧ v.timer = some (clock + k.respWait)) ∧
      (o.kind = .opening ∨ (o.kind = .part ∧ sent < k.length ∧ credit = some 0) → v.st = .awaitCredit ∧ v.timer = some (clock + creditWait)) ∧
      (o.kind = .part → sent < k.length → credit ≠ some 0 → v.st = k.st ∧ v.ready = some ⟨.part, now, true⟩) ∧
      (o.kind = .credit → v.st = k.st ∧ v.timer = some (clock + partWait) ∧ v.granted = if o.credit = 0 then none else some o.credit) := by
  unfold Ctx.afterFrame sentCtx
  cases kind : o.kind with
  | short | opening | credit => simp
  | part =>
    by_cases full : k.length ≤ k.sent + o.carried.length
    · simp [full, not_lt.2 full]
    · by_cases spent : k.credit.map (· - 1) = some 0
      · simp [full, spent]
      · simp [full, spent]

theorem frameSent (x : State) (g k : Fin 4) (o : Offered) :
    CtxMoved x (x.frameSent g k o) g k
      ((x.ctx g k).afterFrame x.now x.time.clock x.ps.active.segs[g].creditWait x.ps.active.segs[g].partWait o) := by
  have first := ctxModified x g k (sentCtx x.now o)
  have now : (x.modCtx g k (sentCtx x.now o)).now = x.now := rfl
  have within : ∀ n, (x.modCtx g k (sentCtx x.now o)).timerIn n = some (x.time.clock + n) := fun _ => rfl
  have set : (x.modCtx g k (sentCtx x.now o)).segSet g = x.ps.active.segs[g] := rfl
  have wait : (sentCtx x.now o (x.ctx g k)).respWait = (x.ctx g k).respWait := rfl
  have length : (sentCtx x.now o (x.ctx g k)).length = (x.ctx g k).length := rfl
  unfold State.frameSent
  dsimp only
  generalize x.modCtx g k (sentCtx x.now o) = y at *
  have enters := ctxEntered y g k
  have modifies := ctxModified y g k
  simp only [first.ctx, within, set, now, wait, length] at enters modifies ⊢
  unfold Ctx.afterFrame
  cases o.kind with
  | short => exact first.trans (enters _ _)
  | opening => exact first.trans (enters _ _)
  | credit => exact first.trans (modifies _)
  | part =>
    dsimp only
    split
    case isTrue => exact first.trans (enters _ _)
    case isFalse =>
      split
      case isTrue => exact first.trans (enters _ _)
      case isFalse => exact first.trans (modifies _)

/-- A frame that is not the state frame is none to the VSM. -/
theorem State.observeState_other {x : State} {f : CanFrame} (other : f.id ≠ x.ps.active.veh.canId) (g : Fin 4) : x.observeState g f = x := by
  unfold State.observeState
  rw [if_neg]
  simp [other]

/-- The controller has counted a frame that ended, and its context has gone on. -/
structure FrameEnded (s y : State) (g : Fin 4) (us : Fin 1000) (o : Offered) : Prop where
  seg : y.seg g = { s.seg g with
    offered := none, sent := (s.seg g).sent + 1, lastEnd := some (s.time.clock * 1000 + max s.time.us us.val)
    subBits := (s.seg g).subBits + if (s.seg g).winStart.isSome then frameBits o.frame else 0
    winBits := (s.seg g).winBits + if (s.seg g).winStart.isSome then frameBits o.frame else 0
    ctxs := (y.seg g).ctxs, counter := (y.seg g).counter }
  segs : ∀ h, h ≠ g → y.seg h = s.seg h
  ctx : ∀ x, o.ctx = some x → y.ctx g x = (s.ctx g x).afterFrame (s.time.clock * 1000 + max s.time.us us.val) s.time.clock
    s.ps.active.segs[g].creditWait s.ps.active.segs[g].partWait o
  ctxs : ∀ x, o.ctx ≠ some x → y.ctx g x = s.ctx g x
  whole : y = { s with segs := y.segs, time := { s.time with us := max s.time.us us.val }, mem := y.mem }
  frame : MemFrame s y (Within (segBase g) 128)

theorem frameEnded {x : State} {g : Fin 4} {us : Fin 1000} {o : Offered}
    (does : x = ((s.atUs us).modSeg g fun q => { q with offered := none, sent := q.sent + 1, lastEnd := some (s.atUs us).now }).countBits g (frameBits o.frame)) :
    FrameEnded s (match o.ctx with
      | some k => x.frameSent g k o
      | none => x) g us o := by
  obtain ⟨y, hy⟩ : ∃ y, y = (s.atUs us).modSeg g fun q => { q with offered := none, sent := q.sent + 1, lastEnd := some (s.atUs us).now } := ⟨_, rfl⟩
  have yseg : y.seg g = { s.seg g with offered := none, sent := (s.seg g).sent + 1, lastEnd := some (s.time.clock * 1000 + max s.time.us us.val) } := by
    rw [hy, State.seg_modSeg]
    rfl
  have ysegs : ∀ h, h ≠ g → y.seg h = s.seg h := fun h ne => by
    rw [hy, State.seg_modSeg_ne _ _ ne]
    rfl
  have ywhole : y = { s with segs := y.segs, time := { s.time with us := max s.time.us us.val } } := by rw [hy]; rfl
  rw [← hy] at does
  clear hy
  have taken := bitsTaken y g (frameBits o.frame)
  rw [← does] at taken
  clear does
  have seg := taken.seg
  rw [yseg] at seg
  have segs : ∀ h, h ≠ g → x.seg h = s.seg h := fun h ne => by rw [taken.segs h ne, ysegs h ne]
  have whole : x = { s with segs := x.segs, time := { s.time with us := max s.time.us us.val } } := by rw [taken.whole, ywhole]
  have ctx : ∀ k, x.ctx g k = s.ctx g k := fun k => by
    show (x.seg g).ctxs[k] = (s.seg g).ctxs[k]
    rw [seg]
  cases owner : o.ctx with
  | none =>
    dsimp only
    exact ⟨by rw [seg], segs, fun j eq => absurd (owner.symm.trans eq) (by simp), fun k _ => ctx k, by rw [whole], fun a _ => by rw [whole]⟩
  | some k =>
    dsimp only
    have moved := frameSent x g k o
    have now : x.now = s.time.clock * 1000 + max s.time.us us.val := by rw [whole]; rfl
    have clock : x.time.clock = s.time.clock := by rw [whole]
    have ps : x.ps = s.ps := by rw [whole]
    rw [ctx, now, clock, ps] at moved
    generalize x.frameSent g k o = z at moved
    have zseg := moved.seg
    rw [seg] at zseg
    refine ⟨zseg, fun h ne => by rw [moved.segs h ne, segs h ne], fun j eq => ?_, fun j ne => ?_, ?_, fun a out => ?_⟩
    · obtain rfl := Option.some.inj (owner.symm.trans eq)
      exact moved.ctx
    · rw [moved.ctxs j fun eq => ne (by rw [owner, eq]), ctx]
    · rw [moved.whole, whole]
    · rw [moved.frame a out, whole]

/-- Settles O49. -/
theorem ownFrameAcknowledged : Obligations.OwnFrameAcknowledged := by
  unfold Obligations.OwnFrameAcknowledged
  intro g us o s settled agree empty q offered other
  obtain ⟨x, hx⟩ : ∃ x, x = ((s.atUs us).modSeg g fun q => { q with offered := none, sent := q.sent + 1, lastEnd := some (s.atUs us).now }).countBits g
    (frameBits o.frame) := ⟨_, rfl⟩
  have ended := frameEnded hx
  have runs : exec (.ownFrameAcknowledged g us) s = .next ((((match o.ctx with
      | some k => x.frameSent g k o
      | none => x).modErrors g fun q => { q with tecCount := q.tecCount - 1 }).observeState g o.frame).finish) := by
    refine (show exec (.ownFrameAcknowledged g us) s = execOwnFrameAcknowledged g us s from rfl).trans ?_
    unfold execOwnFrameAcknowledged
    rw [show (s.seg g).offered = some o from offered, hx]
    rfl
  clear hx
  generalize (match o.ctx with
    | some k => x.frameSent g k o
    | none => x) = y at ended runs
  have yctl : (y.seg g).ctl = q.ctl := by rw [ended.seg]
  have ytec : (y.seg g).tecCount = q.tecCount := by rw [ended.seg]
  have yrec : (y.seg g).recCount = q.recCount := by rw [ended.seg]
  have settles := errorsSettled (x := y) (f := fun q => { q with tecCount := q.tecCount - 1 }) (g := g) (by rw [LanesEmpty, ended.seg]; exact empty)
    (fun _ => rfl) (fun sends => by
      rw [yctl] at sends
      have below : q.tecCount ≤ 255 := sends_below agree sends
      dsimp only
      rw [ytec]
      omega)
  generalize (y.modErrors g fun q => { q with tecCount := q.tecCount - 1 }) = u at settles runs
  have uwhole : u = { s with segs := u.segs, time := { s.time with us := max s.time.us us.val }, regs := u.regs, mem := u.mem } := by
    rw [settles.whole, ended.whole]
  rw [State.observeState_other (by rw [uwhole]; exact other)] at runs
  have closed := closes u
  generalize u.finish = t at closed runs
  have useg : u.seg g = { q with
      offered := none, sent := q.sent + 1, lastEnd := some (s.time.clock * 1000 + max s.time.us us.val)
      subBits := q.subBits + if q.winStart.isSome then frameBits o.frame else 0
      winBits := q.winBits + if q.winStart.isSome then frameBits o.frame else 0
      ctxs := (y.seg g).ctxs, ctl := (u.seg g).ctl, tecCount := (u.seg g).tecCount, recCount := (u.seg g).recCount, counter := (u.seg g).counter } := by
    cases sends : (y.seg g).ctl.sends with
    | true =>
      have eq := settles.sends sends
      rw [ended.seg] at eq
      rw [eq]
    | false =>
      have eq := settles.silent sends
      rw [ended.seg] at eq
      rw [eq]
  have tseg : t.seg g = u.seg g := closed.seg g
  have ctx : ∀ k, t.ctx g k = y.ctx g k := fun k => by
    show (t.seg g).ctxs[k] = (y.seg g).ctxs[k]
    rw [tseg, useg]
  have same : ctlEvents s t g = ctlEvents y u g := by rw [ctlEvents, ctlEvents, tseg, yctl]
  obtain ⟨mem, info⟩ := closed.clean (by rw [uwhole]; exact settled.1)
  refine ⟨t, runs, by rw [tseg, useg], by rw [tseg, useg], ⟨by rw [tseg, useg], by rw [tseg, useg]⟩, by rw [tseg, useg], ?_, fun k ne => by
    rw [ctx, ended.ctxs k ne], fun k owner => ?_, ?_, fun h ne => by rw [closed.seg, settles.segs h ne, ended.segs h ne], ?_, ?_, ?_, ?_⟩
  · have follow := settles.follow
    rw [CountsFollow, yctl, ytec, yrec] at follow
    rw [CountsFollow, tseg]
    exact follow
  · intro c sent credit wait
    rw [ctx, ended.ctx k owner]
    exact Ctx.afterFrame_goesOn _ _ _ _ o c
  · rw [tseg]
    rw [useg]
  · rw [closed.whole, uwhole]
  · rw [same, ← closed.line, closed.regs, settles.regs, ended.whole]
  · have eq := closed.whole
    have segs : t.segs = u.segs := by rw [closed.whole]
    have time : t.time = { s.time with us := max s.time.us us.val } := by rw [closed.whole, uwhole]
    rw [info, uwhole, ← segs] at eq
    dsimp only at eq
    rw [← time] at eq
    exact eq
  · intro a out
    rw [mem, settles.frame a out, ended.frame a out]

end Sys2Proof.Machine
end

section
/-! PROOFS. Frames that no context takes (R64, R69, R70, R83, R164). -/

namespace Sys2Proof.Machine

variable {s t : State}

/-! ### A change of vehicle state (R164 to R166) -/

/-- Both vehicle states are set and shown, before the change is reported. -/
def State.vehicleShown (x : State) (e : Engine) (m : Motion) : State :=
  ((x.modVsm fun v => { v with engine := e, motion := m }).wrInfo 0x21 [byte e.code, byte m.code]).event .vehicle

theorem State.putVehicle_eq (x : State) (e : Engine) (m : Motion) : x.putVehicle e m = (x.vehicleShown e m).vehicleChanged := rfl

structure VehicleShown (x y : State) (e : Engine) (m : Motion) : Prop where
  vsm : y.vsm = { x.vsm with engine := e, motion := m }
  bytes : y.mem.bytes 0x21 2 = [byte e.code, byte m.code]
  info : y.info = { x.info with dirty := true }
  regs : y.regs = { x.regs with event := x.regs.event ||| Event.vehicle.bit }
  whole : y = { x with vsm := y.vsm, info := y.info, regs := y.regs, mem := y.mem }
  frame : MemFrame x y (Within 0x21 2)

theorem vehicleShown (x : State) (e : Engine) (m : Motion) : VehicleShown x (x.vehicleShown e m) e m :=
  ⟨rfl, (x.modVsm fun v => { v with engine := e, motion := m }).wrInfo_bytes (bs := [byte e.code, byte m.code]) (by simp), rfl, rfl, rfl,
    State.wrInfo_frame (x.modVsm fun v => { v with engine := e, motion := m }) 0x21 [byte e.code, byte m.code]⟩

theorem foldl_still {α : Type} {f : State → α → State} {x : State} (l : List α) (still : ∀ a ∈ l, f x a = x) : l.foldl f x = x := by
  induction l with
  | nil => rfl
  | cons a l ih => rw [List.foldl_cons, still a (List.mem_cons_self ..), ih fun b mem => still b (List.mem_cons_of_mem a mem)]

theorem State.transfersVehicle_none {x : State} (absent : ∀ c, x.transfer c = none) : x.transfersVehicle = x :=
  foldl_still _ fun c _ => by rw [absent]

theorem State.watchesVehicle_none {x : State} (absent : ∀ c, x.watch c = none) : x.watchesVehicle = x :=
  foldl_still _ fun c _ => by rw [absent]

theorem State.waiting_empty {x : State} (empty : ∀ g, LanesEmpty x g) : x.waiting = [] := by
  unfold State.waiting
  rw [List.flatMap_eq_nil_iff]
  intro g _
  rw [empty g]
  rfl

theorem State.exchangesVehicle_empty {x : State} (empty : ∀ g, LanesEmpty x g) : x.exchangesVehicle = x := by
  unfold State.exchangesVehicle
  rw [State.waiting_empty empty]
  rfl

/-- A change of vehicle state reaches no work where there is none. -/
theorem State.vehicleChanged_idle {x : State} (empty : ∀ g, LanesEmpty x g) (records : NoRecords x) : x.vehicleChanged = x := by
  obtain ⟨transfers, watches⟩ := records
  rw [State.vehicleChanged, State.exchangesVehicle_empty empty, State.transfersVehicle_none transfers, State.watchesVehicle_none watches]

/-! ### The state frame (R164) -/

/-- The frame is the state frame of the set. -/
def IsStateFrame (v : VehSet) (g : Fin 4) (f : CanFrame) : Prop :=
  v.seg = g.val ∧ f.id = v.canId ∧ f.remote = false ∧ v.engineOff + 2 ≤ f.dlc.val ∧ v.roadOff + 2 ≤ f.dlc.val

/-- What an observed frame does to the VSM. -/
structure Observed (x y : State) (g : Fin 4) (f : CanFrame) : Prop where
  other : ¬ IsStateFrame x.ps.active.veh g f → y = x
  vsm : IsStateFrame x.ps.active.veh g f →
    y.vsm = { x.vsm with engine := engineOf x.ps.active.veh f, motion := motionOf x.ps.active.veh f, lastFrame := some x.time.clock }
  same : IsStateFrame x.ps.active.veh g f → x.vsm.engine = engineOf x.ps.active.veh f ∧ x.vsm.motion = motionOf x.ps.active.veh f →
    y.info = x.info ∧ y.regs = x.regs
  changed : IsStateFrame x.ps.active.veh g f → ¬ (x.vsm.engine = engineOf x.ps.active.veh f ∧ x.vsm.motion = motionOf x.ps.active.veh f) →
    y.mem.bytes 0x21 2 = [byte (engineOf x.ps.active.veh f).code, byte (motionOf x.ps.active.veh f).code] ∧
      y.info = { x.info with dirty := true } ∧ y.regs = { x.regs with event := x.regs.event ||| Event.vehicle.bit }
  whole : y = { x with vsm := y.vsm, info := y.info, regs := y.regs, mem := y.mem }
  frame : MemFrame x y (Within 0x21 2)

theorem observed {x : State} {g : Fin 4} {f : CanFrame}
    (idle : IsStateFrame x.ps.active.veh g f → (∀ g, LanesEmpty x g) ∧ NoRecords x) : Observed x (x.observeState g f) g f := by
  have iff : (x.ps.active.veh.seg == g.val && f.id == x.ps.active.veh.canId && accepts x.ps.active.veh f) = true ↔
      IsStateFrame x.ps.active.veh g f := by
    unfold accepts IsStateFrame
    simp [and_assoc]
  unfold State.observeState
  dsimp only
  by_cases state : IsStateFrame x.ps.active.veh g f
  · rw [if_pos (iff.2 state)]
    obtain ⟨y, hy⟩ : ∃ y, y = x.modVsm fun m => { m with lastFrame := some x.time.clock } := ⟨_, rfl⟩
    have yvsm : y.vsm = { x.vsm with lastFrame := some x.time.clock } := by rw [hy]; rfl
    have ywhole : y = { x with vsm := y.vsm } := by rw [hy]; rfl
    rw [← hy]
    clear hy
    have engine : y.vsm.engine = x.vsm.engine := by rw [yvsm]
    have motion : y.vsm.motion = x.vsm.motion := by rw [yvsm]
    unfold State.setVehicle
    rw [engine, motion]
    by_cases same : x.vsm.engine = engineOf x.ps.active.veh f ∧ x.vsm.motion = motionOf x.ps.active.veh f
    · rw [if_pos same]
      refine ⟨fun no => absurd state no, fun _ => ?_, fun _ _ => ⟨by rw [ywhole], by rw [ywhole]⟩, fun _ no => absurd same no, by rw [ywhole],
        fun a _ => by rw [ywhole]⟩
      rw [yvsm, ← same.1, ← same.2]
    · rw [if_neg same, State.putVehicle_eq]
      have shown := vehicleShown y (engineOf x.ps.active.veh f) (motionOf x.ps.active.veh f)
      generalize y.vehicleShown (engineOf x.ps.active.veh f) (motionOf x.ps.active.veh f) = z at shown
      have zwhole : z = { x with vsm := z.vsm, info := z.info, regs := z.regs, mem := z.mem } := by rw [shown.whole, ywhole]
      obtain ⟨empty, records⟩ := idle state
      rw [State.vehicleChanged_idle (x := z) (fun h => by rw [zwhole]; exact empty h) (by rw [zwhole]; exact records)]
      refine ⟨fun no => absurd state no, fun _ => by rw [shown.vsm, yvsm], fun _ yes => absurd yes same, fun _ _ => ⟨shown.bytes, ?_, ?_⟩, zwhole,
        fun a out => by rw [shown.frame a out, ywhole]⟩
      · rw [shown.info, ywhole]
      · rw [shown.regs, ywhole]
  · rw [if_neg fun yes => state (iff.1 yes)]
    exact ⟨fun _ => rfl, fun yes => absurd yes state, fun yes => absurd yes state, fun yes => absurd yes state, rfl, MemFrame.refl x _⟩

/-- A frame that no context awaits. -/
theorem offerTransport_stray {x : State} {g : Fin 4} {f : CanFrame} (none : ∀ k, (x.ctx g k).awaits f.id = false) :
    x.offerTransport g f = if x.isResponseId g f.id = true then x.strayFrame g else x := by
  unfold State.offerTransport
  cases x.isResponseId g f.id with
  | false => rfl
  | true =>
    rw [show (List.finRange 4).find? (fun k => (x.ctx g k).awaits f.id) = Option.none from
      List.find?_eq_none.2 fun k _ => by rw [none k]; decide]
    rfl

/-- A frame of another node has been counted, and no observer has acted on it. -/
structure FrameTaken (s y : State) (g : Fin 4) (us : Fin 1000) (f : CanFrame) : Prop where
  seg : y.seg g = { s.seg g with
    received := (s.seg g).received + 1, ack := decide ((s.seg g).ctl ≠ .joining ∧ (s.seg g).ctl ≠ .off)
    subBits := (s.seg g).subBits + if (s.seg g).winStart.isSome then frameBits f else 0
    winBits := (s.seg g).winBits + if (s.seg g).winStart.isSome then frameBits f else 0
    ctl := (y.seg g).ctl, tecCount := (y.seg g).tecCount, recCount := (y.seg g).recCount, counter := (y.seg g).counter }
  segs : ∀ h, h ≠ g → y.seg h = s.seg h
  follow : CountsFollow s y g (s.seg g).tecCount ((s.seg g).recCount - 1)
  regs : y.regs = { s.regs with event := s.regs.event ||| ctlEvents s y g }
  whole : y = { s with segs := y.segs, time := { s.time with us := max s.time.us us.val }, regs := y.regs, mem := y.mem }
  frame : MemFrame s y (Within (segBase g) 128)

theorem Ctl.acknowledges_eq (k : Ctl) : k.acknowledges = decide (k ≠ .joining ∧ k ≠ .off) := by cases k <;> rfl

theorem frameTaken {g : Fin 4} (us : Fin 1000) (f : CanFrame) (agree : ErrorsAgree s) (empty : LanesEmpty s g) :
    FrameTaken s ((((s.atUs us).modSeg g fun q => { q with received := q.received + 1, ack := q.ctl.acknowledges }).countBits g (frameBits f)).modErrors g
      fun q => { q with recCount := q.recCount - 1 }) g us f := by
  obtain ⟨x, hx⟩ : ∃ x, x = (s.atUs us).modSeg g fun q => { q with received := q.received + 1, ack := q.ctl.acknowledges } := ⟨_, rfl⟩
  have xseg : x.seg g = { s.seg g with received := (s.seg g).received + 1, ack := decide ((s.seg g).ctl ≠ .joining ∧ (s.seg g).ctl ≠ .off) } := by
    rw [hx, State.seg_modSeg, ← Ctl.acknowledges_eq]
    rfl
  have xsegs : ∀ h, h ≠ g → x.seg h = s.seg h := fun h ne => by
    rw [hx, State.seg_modSeg_ne _ _ ne]
    rfl
  have xwhole : x = { s with segs := x.segs, time := { s.time with us := max s.time.us us.val } } := by rw [hx]; rfl
  rw [← hx]
  clear hx
  have taken := bitsTaken x g (frameBits f)
  generalize x.countBits g (frameBits f) = z at taken
  have zseg := taken.seg
  rw [xseg] at zseg
  have zwhole : z = { s with segs := z.segs, time := { s.time with us := max s.time.us us.val } } := by rw [taken.whole, xwhole]
  have zctl : (z.seg g).ctl = (s.seg g).ctl := by rw [zseg]
  have ztec : (z.seg g).tecCount = (s.seg g).tecCount := by rw [zseg]
  have zrec : (z.seg g).recCount = (s.seg g).recCount := by rw [zseg]
  have settles := errorsSettled (x := z) (f := fun q => { q with recCount := q.recCount - 1 }) (g := g) (by rw [LanesEmpty, zseg]; exact empty)
    (fun _ => rfl) (fun sends => by
      dsimp only
      rw [ztec]
      exact sends_below agree (by rw [← zctl]; exact sends))
  generalize (z.modErrors g fun q => { q with recCount := q.recCount - 1 }) = y at settles
  have same : ctlEvents z y g = ctlEvents s y g := by rw [ctlEvents, ctlEvents, zctl]
  refine ⟨?_, fun h ne => by rw [settles.segs h ne, taken.segs h ne, xsegs h ne], ?_, ?_, by rw [settles.whole, zwhole], fun a out => by
    rw [settles.frame a out, zwhole]⟩
  · cases sends : (z.seg g).ctl.sends with
    | true =>
      have eq := settles.sends sends
      rw [zseg] at eq
      rw [eq]
    | false =>
      have eq := settles.silent sends
      rw [zseg] at eq
      rw [eq]
  · have follow := settles.follow
    rw [CountsFollow, zctl, ztec, zrec] at follow
    exact follow
  · rw [settles.regs, same, zwhole]

theorem byteAt_below {f : CanFrame} {i : Nat} (data : f.remote = false) (below : i < f.dlc.val) : byteAt f i = f.data.toList.getD i 0 := by
  unfold byteAt
  rw [data, if_pos]
  simpa using below

theorem State.isResponseId_congr {x y : State} {g : Fin 4} (i : CanId) (ps : y.ps = x.ps) (ctxs : (y.seg g).ctxs = (x.seg g).ctxs) :
    y.isResponseId g i = x.isResponseId g i := by
  unfold State.isResponseId Seg.listens
  rw [ps, ctxs]

/-- What an unawaited frame leaves of the stray count (R83). -/
structure StrayCounted (y w : State) (g : Fin 4) (p : Prop) [Decidable p] : Prop where
  seg : w.seg g = { y.seg g with stray := (y.seg g).stray + if p then 1 else 0 }
  segs : ∀ h, h ≠ g → w.seg h = y.seg h
  whole : w = { y with segs := w.segs }

theorem strayCounted (y : State) (g : Fin 4) (p : Prop) [Decidable p] : StrayCounted y (if p then y.strayFrame g else y) g p := by
  by_cases yes : p
  · rw [if_pos yes]
    refine ⟨?_, fun h ne => State.seg_modSeg_ne _ _ ne, rfl⟩
    rw [State.strayFrame, State.seg_modSeg, if_pos yes]
  · rw [if_neg yes]
    refine ⟨?_, fun _ _ => rfl, rfl⟩
    rw [if_neg yes, show (y.seg g).stray + 0 = (y.seg g).stray from BitVec.add_zero _]

/-- Settles O51. -/
theorem frameObserved : Obligations.FrameObserved := by
  unfold Obligations.FrameObserved
  intro g us f s settled agree empty q v isState field engine motion response stray idle
  have taken := frameTaken us f agree empty
  have runs : exec (.frameCompleted g us f) s = .next ((((((s.atUs us).modSeg g fun q =>
      { q with received := q.received + 1, ack := q.ctl.acknowledges }).countBits g (frameBits f)).modErrors g
        fun q => { q with recCount := q.recCount - 1 }).observeState g f).offerTransport g f).finish := rfl
  generalize ((((s.atUs us).modSeg g fun q => { q with received := q.received + 1, ack := q.ctl.acknowledges }).countBits g (frameBits f)).modErrors g
    fun q => { q with recCount := q.recCount - 1 }) = u at taken runs
  have uveh : u.ps.active.veh = v := by rw [taken.whole]
  have uclock : u.time.clock = s.time.clock := by rw [taken.whole]
  have uvsm : u.vsm = s.vsm := by rw [taken.whole]
  have observed := observed (x := u) (g := g) (f := f) fun state => by
    rw [uveh] at state
    obtain ⟨bus, records⟩ := idle state
    refine ⟨fun h => ?_, by rw [taken.whole]; exact records⟩
    by_cases same : h = g
    · rw [same, LanesEmpty, taken.seg]
      exact empty
    · rw [LanesEmpty, taken.segs h same]
      exact (bus h).1
  obtain ⟨other, vsm, same, changed, whole, frame⟩ := observed
  rw [uveh] at other vsm same changed
  rw [uvsm] at vsm same changed
  rw [uclock] at vsm
  have engines : isState → engineOf v f = engine := fun ⟨_, _, data, low, _⟩ => by
    rw [engineOf, be16At, be16, byteAt_below data (by omega), byteAt_below data (by omega)]
  have motions : isState → motionOf v f = motion := fun ⟨_, _, data, _, low⟩ => by
    rw [motionOf, be16At, be16, byteAt_below data (by omega), byteAt_below data (by omega)]
  generalize u.observeState g f = y at *
  have yseg : ∀ h, y.seg h = u.seg h := fun h => by rw [whole]; rfl
  have useg := taken.seg
  have yctxs : (y.seg g).ctxs = (s.seg g).ctxs := by rw [yseg, useg]
  have yctx : ∀ k, y.ctx g k = s.ctx g k := fun k => congrArg (fun v : Vector Ctx 4 => v[k]) yctxs
  have yps : y.ps = s.ps := by rw [whole, taken.whole]
  rw [offerTransport_stray (fun k => by
    rw [yctx]
    unfold Ctx.awaits
    by_cases named : (s.ctx g k).respId = f.id
    · rcases stray k named with state | state <;> simp [state]
    · simp [named]), State.isResponseId_congr f.id yps yctxs] at runs
  have counted := strayCounted y g (s.isResponseId g f.id = true)
  generalize (if s.isResponseId g f.id = true then y.strayFrame g else y) = w at counted runs
  have closed := closes w
  have dirty := fun clean wrote => State.finish_info_dirty (s := s) clean w wrote
  generalize w.finish = t at closed dirty runs
  have tseg : t.seg g = { u.seg g with stray := q.stray + if response then 1 else 0 } := by
    rw [closed.seg, counted.seg, yseg]
    rw [show (u.seg g).stray = q.stray by rw [useg]]
  have ctl : (t.seg g).ctl = (u.seg g).ctl := by rw [tseg]
  have events : ctlEvents s t g = ctlEvents s u g := by rw [ctlEvents, ctlEvents, ctl]
  have winfo : w.info = y.info := by rw [counted.whole]
  have wregs : w.regs = y.regs := by rw [counted.whole]
  have wmem : w.mem = y.mem := by rw [counted.whole]
  have twhole : t = { s with segs := t.segs, time := { s.time with us := max s.time.us us.val }, vsm := t.vsm, info := t.info, regs := t.regs
                             mem := t.mem } := by
    have segs : t.segs = w.segs := by rw [closed.whole]
    have eq := closed.whole
    have vsm : t.vsm = y.vsm := by rw [closed.whole, counted.whole]
    rw [counted.whole, whole, taken.whole, ← segs, ← vsm] at eq
    exact eq
  have ttime : t.time = { s.time with us := max s.time.us us.val } := by rw [twhole]
  refine ⟨t, runs, by rw [tseg, useg], ⟨by rw [tseg, useg], by rw [tseg, useg]⟩, ?_, by rw [tseg], ?_, fun h ne => ?_, ttime, fun no => ?_, fun state => ?_, ?_⟩
  · have follow := taken.follow
    rw [CountsFollow] at follow ⊢
    rw [tseg]
    exact follow
  · rw [tseg, useg]
  · rw [closed.seg, counted.segs h ne, yseg, taken.segs h ne]
  · have stays := other no
    have yinfo : y.info = s.info := by rw [stays, taken.whole]
    obtain ⟨mem, info⟩ := closed.clean (by rw [winfo, yinfo]; exact settled.1)
    refine ⟨?_, by rw [info, winfo, yinfo], ?_, fun a out => ?_⟩
    · rw [closed.whole, counted.whole, stays, taken.whole]
    · rw [events, ← closed.line, closed.regs, wregs, stays, taken.regs]
    · rw [mem, wmem, stays, taken.frame a out]
  · have tvsm : t.vsm = y.vsm := by rw [closed.whole, counted.whole]
    refine ⟨?_, fun moved => ?_, fun still => ?_, ?_⟩
    · rw [tvsm, vsm state, engines state, motions state]
    · rw [← engines state, ← motions state] at moved
      obtain ⟨bytes, info, regs⟩ := changed state moved
      refine ⟨?_, ?_, dirty settled.1 ?_⟩
      · rw [closed.frame.bytes fun i lt => by unfold InfoShared Within; omega, wmem, bytes, engines state, motions state]
      · rw [closed.event, wregs, regs]
        dsimp only
        rw [BitVec.getLsbD_or, show Event.vehicle.bit.getLsbD 6 = true from rfl, Bool.or_true]
      · rw [winfo, info, taken.whole]
    · rw [← engines state, ← motions state] at still
      obtain ⟨info, regs⟩ := same state still
      obtain ⟨-, tinfo⟩ := closed.clean (by rw [winfo, info, taken.whole]; exact settled.1)
      refine ⟨by rw [tinfo, winfo, info, taken.whole], ?_⟩
      rw [closed.event, wregs, regs, taken.regs, events]
    · refine (taken.frame.both (frame.both (p := Within 0x21 2) (q := InfoShared) ?_)).mono ?_
      · intro a out
        rw [closed.frame a out, wmem]
      · rintro a (area | vehicle | shared)
        · exact .inl area
        · exact .inr (.inl vehicle)
        · exact .inr (.inr shared)
  · rw [← ttime] at twhole
    exact twhole

end Sys2Proof.Machine
end

section
/-! PROOFS. The end of a sub-window (R95 to R102). -/

namespace Sys2Proof.Machine

variable {s t : State}

/-- The immediate check raises the accumulator. -/
abbrev Bursts (r : RegSet) (l : Nat) (q : Seg) : Prop := (r.enabled = true ∧ q.freeze = false) ∧ r.immediate < l ∧ q.holdOff = 0

theorem updatesOn_iff (r : RegSet) (q : Seg) : updatesOn r q = true ↔ r.enabled = true ∧ q.freeze = false := by
  simp [updatesOn]

theorem immediate_eq (r : RegSet) (l : Nat) (q : Seg) :
    immediate r l q = { q with acc := if Bursts r l q then clampTo r (q.acc + r.stepImm) else q.acc
                               holdOff := if Bursts r l q then r.holdOff else q.holdOff - 1 } := by
  have iff : (updatesOn r q && r.immediate < l && q.holdOff == 0) = true ↔ Bursts r l q := by
    simp only [Bool.and_eq_true, updatesOn_iff, decide_eq_true_eq, beq_iff_eq, and_assoc]
  unfold immediate
  by_cases burst : Bursts r l q
  · rw [if_pos (iff.2 burst), if_pos burst, if_pos burst]
    rfl
  · rw [if_neg fun yes => burst (iff.1 yes), if_neg burst, if_neg burst]

/-- The accumulator `a` after a window update with window load `l`. -/
def windowAcc (r : RegSet) (l : Nat) (freeze : Bool) (a : Nat) : Nat :=
  if ¬(r.enabled = true ∧ freeze = false) then a
  else if r.upper < l then clampTo r (a + r.stepUp)
  else if l < r.lower then clampTo r (a - r.stepDown)
  else clampTo r ((a : Int) + r.leak).toNat

theorem windowUpdate_eq (r : RegSet) (l : Nat) (q : Seg) : windowUpdate r l q = { q with acc := windowAcc r l q.freeze q.acc } := by
  unfold windowUpdate windowAcc
  by_cases on : r.enabled = true ∧ q.freeze = false
  · have updates := (updatesOn_iff r q).2 on
    rw [updates, if_neg (by decide), if_neg (not_not.2 on)]
    split
    case isTrue => rfl
    case isFalse =>
      split
      case isTrue => rfl
      case isFalse => rfl
  · have updates : updatesOn r q = false := by
      rw [← Bool.not_eq_true]
      exact fun yes => on ((updatesOn_iff r q).1 yes)
    rw [updates, if_pos (by decide), if_pos on]

/-- A report at the LR as the event leaves it. -/
theorem LevelReported.finished {x u : State} {g : Fin 4} {old : Nat} (report : LevelReported g old x u) (begun : old = levelOf (s.seg g).acc)
    (clean : s.info.dirty = false) (whole : x = { s with segs := x.segs, mem := x.mem }) (pace : (x.seg g).pace = (s.seg g).pace)
    (changes : (x.seg g).levelChanges = (s.seg g).levelChanges) (frame : MemFrame s x (Within (segBase g) 128)) (closed : Closes u t)
    (finish : t.info = u.finish.info) :
    LevelFollows s t g ∧
      t.regs = { s.regs with event := s.regs.event ||| (if levelOf (t.seg g).acc = levelOf (s.seg g).acc then 0 else Event.level.bit)
                             irq := irqOf t.regs } ∧
      t = { s with regs := t.regs, mem := t.mem, segs := t.segs, info := t.info } ∧
      MemFrame s t fun x => Within (segBase g) 128 x ∨ InfoPlaces (0x24 + g.val) 1 x := by
  subst begun
  have xinfo : x.info = s.info := by rw [whole]
  have xregs : x.regs = s.regs := by rw [whole]
  have xps : x.ps = s.ps := by rw [whole]
  have tseg := closed.seg g
  have acc : (u.seg g).acc = (x.seg g).acc := by rw [report.seg]
  have small := g.isLt
  refine ⟨?_, ?_, ?_, ?_⟩
  · simp only [LevelFollows, tseg, acc]
    refine ⟨fun same => ?_, fun other => ?_⟩
    · obtain ⟨upace, uchanges, info, -⟩ := report.same same
      obtain ⟨-, tinfo⟩ := closed.clean (by rw [info, xinfo]; exact clean)
      exact ⟨uchanges.trans changes, upace.trans pace, by rw [tinfo, info, xinfo]⟩
    · obtain ⟨upace, uchanges, info, -, shown⟩ := report.changed other
      refine ⟨by rw [uchanges, changes], ?_, ?_, ?_⟩
      · rw [upace, State.paceAt, xps]
      · rw [closed.frame _ (by unfold InfoShared Within; omega), shown]
      · rw [finish]
        exact State.finish_info_dirty clean u (by rw [info, xinfo])
  · rw [← closed.line, closed.regs, tseg, acc]
    by_cases same : levelOf (x.seg g).acc = levelOf (s.seg g).acc
    · obtain ⟨-, -, -, regs⟩ := report.same same
      rw [if_pos same, regs, xregs]
      simp only [BitVec.ofNat_eq_ofNat, BitVec.or_zero]
    · obtain ⟨-, -, -, regs, -⟩ := report.changed same
      rw [if_neg same, regs, xregs]
  · rw [closed.whole, report.whole, whole]
  · have first : MemFrame s x (LevelPlaces g) := frame.mono fun _ => .inl
    refine ((first.trans report.frame).both closed.frame).mono ?_
    rintro a ((area | level) | shared)
    · exact .inl area
    · exact .inr (.inl level)
    · exact .inr (.inr shared)

/-- Settles O43. -/
theorem subWindowEnd : Obligations.SubWindowEnd := by
  unfold Obligations.SubWindowEnd
  intro g w s settled empty r q capacity load subLoad winLoad on burst a b started due
  have runs : exec (.subWindowEnd g) s = .next (s.subWindowEnd g).finish := by
    refine (show exec (.subWindowEnd g) s = execSubWindowEnd g s from rfl).trans ?_
    unfold execSubWindowEnd
    rw [if_pos]
    · rfl
    · unfold State.subDue
      rw [show (s.seg g).winStart = some w from started]
      exact decide_eq_true due
  obtain ⟨x, hx⟩ : ∃ x, x = s.modSeg g (subEnd s.ps.active g) := ⟨_, rfl⟩
  have xseg : x.seg g = subEnd s.ps.active g q := by rw [hx, State.seg_modSeg]
  have xsegs : ∀ k, k ≠ g → x.seg k = s.seg k := fun k ne => by rw [hx, State.seg_modSeg_ne _ _ ne]
  have xwhole : x = { s with segs := x.segs } := by rw [hx]; rfl
  rw [State.subWindowEnd, ← hx] at runs
  clear hx
  have seg := x.seg_stuWrite g
  have segs := fun k (ne : k ≠ g) => x.stuWrite_seg_ne ne
  have whole : x.stuWrite g = { x with segs := (x.stuWrite g).segs, mem := (x.stuWrite g).mem } := by rw [State.stuWrite_eq]
  have frame := x.stuWrite_frame g
  generalize x.stuWrite g = y at *
  have ends : ∃ n, y.seg g = { subEnd s.ps.active g q with counter := n } := ⟨_, by rw [seg, xseg]⟩
  have below : q.subIndex < 7 → subEnd s.ps.active g q =
      { q with acc := a, holdOff := if burst then r.holdOff else q.holdOff - 1, lastSubBits := q.subBits, lastSubLoad := subLoad, subBits := 0
               subIndex := q.subIndex + 1 } := fun few => by
    unfold subEnd
    simp only [immediate_eq]
    rw [if_pos (by omega)]
    rfl
  have eighth : 7 ≤ q.subIndex → subEnd s.ps.active g q =
      { q with acc := b, holdOff := if burst then r.holdOff else q.holdOff - 1, lastSubBits := q.subBits, lastSubLoad := subLoad
               lastWinBits := q.winBits, lastLoad := winLoad, subBits := 0, winBits := 0, subIndex := 0, winStart := some (w + r.window) } := fun many => by
    unfold subEnd
    simp only [immediate_eq, windowUpdate_eq]
    rw [if_neg (by omega), show q.winStart = some w from started]
    rfl
  have lanes : LanesEmpty y g := by
    obtain ⟨n, yseg⟩ := ends
    rw [LanesEmpty, yseg]
    rcases Nat.lt_or_ge q.subIndex 7 with few | many
    · rw [below few]
      exact empty
    · rw [eighth many]
      exact empty
  have level : (y.seg g).pace = q.pace ∧ (y.seg g).levelChanges = q.levelChanges := by
    obtain ⟨n, yseg⟩ := ends
    rw [yseg]
    rcases Nat.lt_or_ge q.subIndex 7 with few | many
    · rw [below few]
      exact ⟨rfl, rfl⟩
    · rw [eighth many]
      exact ⟨rfl, rfl⟩
  rw [State.levelRun_empty lanes] at runs
  have report := State.levelSettle_reported y g (levelOf q.acc)
  generalize y.levelSettle g (levelOf q.acc) = u at report runs
  have closed := closes u
  have yframe : MemFrame s y (Within (segBase g) 128) := fun b out => by rw [frame b out, xwhole]
  obtain ⟨follows, regs, twhole, tframe⟩ := report.finished (s := s) rfl settled.1 (by rw [whole, xwhole]) level.1 level.2 yframe closed rfl
  generalize u.finish = t at *
  have tseg : t.seg g = { subEnd s.ps.active g q with pace := (t.seg g).pace, levelChanges := (t.seg g).levelChanges, counter := (t.seg g).counter } := by
    obtain ⟨n, yseg⟩ := ends
    have eq := report.seg
    rw [← closed.seg, yseg] at eq
    exact eq
  refine ⟨t, runs, follows, fun few => ?_, fun many => ?_, fun k ne => ?_, regs, twhole, tframe⟩
  · rw [below few] at tseg
    exact tseg
  · rw [eighth many] at tseg
    exact tseg
  · rw [closed.seg, report.others k ne, segs k ne, xsegs k ne]

end Sys2Proof.Machine
end

section
/-! PROOFS. Writes of slot words and the next needed block (R120 to R125). -/

namespace Sys2Proof.Machine

variable {s t : State}

theorem MemFrame.word {x y : State} {p : Nat → Prop} (frame : MemFrame x y p) {a : Nat} (low : ¬ p a) (high : ¬ p (a + 1)) :
    y.mem.word a = x.mem.word a := by
  refine congrArg (fun l => BitVec.ofNat 16 (ofLe l)) (frame.bytes fun k small => ?_)
  obtain rfl | rfl : k = 0 ∨ k = 1 := by omega
  · exact low
  · exact high

/-! ### The state of a slot (R120) -/

theorem State.setSlot_word (x : State) (n : Fin 8) (st : SlotState) : (x.setSlot n st).mem.word (slotBase n) = BitVec.ofNat 16 st.code := by
  have bounds := slotBase_bounds n
  exact Mem.word_write _ _ (by simp only [Config.ramSize]; omega)

/-- The host's write of a slot word leaves the header and the block as they are. -/
structure SlotWritten (s x : State) (n : Fin 8) : Prop where
  whole : x = { s with mem := x.mem }
  frame : MemFrame s x (Within (slotBase n) 2)

theorem slotWritten (s : State) (n : Fin 8) (w : HostWrite) : SlotWritten s (s.hostWord (slotBase n) w) n := ⟨rfl, s.hostWord_frame _ w⟩

section
variable {x : State} {n : Fin 8} (written : SlotWritten s x n)
include written

theorem SlotWritten.header : x.slotHeader n = s.slotHeader n := by
  have read : ∀ o, 2 ≤ o → o < 16 → (x.mem.bytes (slotBase n) 16).getD o 0 = (s.mem.bytes (slotBase n) 16).getD o 0 := by
    intro o low high
    have at_ : ∀ m : Mem, (m.bytes (slotBase n) 16).getD o 0 = m.read (slotBase n + o) := fun m => by
      simp [Mem.bytes, List.getD_eq_getElem?_getD, List.getElem?_range high]
    rw [at_, at_]
    exact written.frame _ (by unfold Within; omega)
  simp only [State.slotHeader, field32, field16, field8, read 2 (by decide) (by decide), read 4 (by decide) (by decide), read (4 + 1) (by decide) (by decide),
    read (4 + 2) (by decide) (by decide), read (4 + 2 + 1) (by decide) (by decide), read 8 (by decide) (by decide), read (8 + 1) (by decide) (by decide),
    read 10 (by decide) (by decide), read (10 + 1) (by decide) (by decide)]

theorem SlotWritten.owner (owner : Nat) : x.ownerOf owner = s.ownerOf owner := by rw [written.whole]; rfl

theorem SlotWritten.check (q : SlotHeader) : x.slotCheck n q = s.slotCheck n q := by
  have bounds := slotBase_bounds n
  have block : ∀ k, x.mem.bytes (blockBase n) k = s.mem.bytes (blockBase n) k := fun k => written.frame.bytes fun i _ => by
    unfold Within blockBase
    omega
  have cell : ∀ c, x.cell c = s.cell c := fun c => by rw [written.whole]; rfl
  have slots : ∀ c k st, x.slotWith c k st = s.slotWith c k st := fun c k st => by rw [written.whole]; rfl
  unfold State.slotCheck
  simp only [written.owner, block, cell, slots]

end

/-- A watched slot word that the host has left with a value that an arm accepts. -/
theorem slotWrite_runs {o : Host.Outcome State Fault Refusal} {n : Fin 8} {w : HostWrite} {v : Word16} {ok : Word16 → Bool} {act : State → Word16 → State}
    (running : Running s) (leaves : Leaves s (slotBase n) w v) (runs : o = watchedWrite s (slotBase n) w ok act) (accepts : ok v = true) :
    ∃ x, SlotWritten s x n ∧ o = .next (act x v).finish := by
  obtain ⟨phase, -⟩ := running
  obtain ⟨enabled, value⟩ := leaves
  refine ⟨_, slotWritten s n w, ?_⟩
  rw [runs, watchedWrite_running phase enabled (by rw [value]; exact accepts), value]

/-- An event that touches neither the registers nor the bookkeeping of the Information Block is closed as it stands. -/
theorem State.finish_still {y : State} (settled : Settled s) (regs : y.regs = s.regs) (info : y.info = s.info) : y.finish = y :=
  (closes y).settled ⟨by rw [info]; exact settled.1, by rw [regs]; exact settled.2⟩

/-! ### FILLED (R121) -/

/-- Slot `n` has captured header `q` and shows the code of its check. -/
structure SlotChecked (s y : State) (n : Fin 8) (q : SlotHeader) (code : Nat) : Prop where
  slot : y.slot n = { st := if code = 0 then .held else .rejected, owner := q.owner, block := q.block, length := q.length }
  slots : ∀ k, k ≠ n → y.slot k = s.slot k
  word : y.mem.word (slotBase n) = if code = 0 then 2 else 4
  code : y.mem.read (slotBase n + 3) = byte code
  whole : y = { s with slots := y.slots, mem := y.mem }
  frame : MemFrame s y fun a => Within (slotBase n) 2 a ∨ a = slotBase n + 3

theorem slotChecked {x : State} {n : Fin 8} (written : SlotWritten s x n) (q : SlotHeader) (code : Nat) : SlotChecked s (x.slotChecked n q code) n q code := by
  have bounds := slotBase_bounds n
  obtain ⟨y, hy⟩ : ∃ y, y = (x.modSlot n fun r => { r with owner := q.owner, block := q.block, length := q.length }).wr (slotBase n + 3) [byte code] := ⟨_, rfl⟩
  have yslot : y.slot n = { x.slot n with owner := q.owner, block := q.block, length := q.length } := by
    rw [hy]
    exact upd_same x.slots n _
  have yslots : ∀ k, k ≠ n → y.slot k = x.slot k := fun k ne => by
    rw [hy]
    exact upd_ne x.slots _ ne
  have ycode : y.mem.read (slotBase n + 3) = byte code := by
    rw [hy]
    have bytes := Mem.bytes_write x.mem (b := slotBase n + 3) (bs := [byte code]) (by simp only [List.length_singleton, Config.ramSize]; omega)
    simpa [Mem.bytes] using bytes
  have yframe : MemFrame x y (Within (slotBase n + 3) 1) := by
    rw [hy]
    exact State.wr_frame _ (slotBase n + 3) [byte code]
  have ywhole : y = { x with slots := y.slots, mem := y.mem } := by rw [hy]; rfl
  have does : x.slotChecked n q code = y.setSlot n (if code = 0 then .held else .rejected) := by rw [hy]; rfl
  rw [does]
  clear hy does
  have slot := y.setSlot_slot n (if code = 0 then .held else .rejected)
  have slots := fun k (ne : k ≠ n) => y.setSlot_slot_ne (if code = 0 then .held else .rejected) ne
  have word := y.setSlot_word n (if code = 0 then .held else .rejected)
  have whole := y.setSlot_whole n (if code = 0 then .held else .rejected)
  have frame := y.setSlot_frame n (if code = 0 then .held else .rejected)
  generalize y.setSlot n (if code = 0 then .held else .rejected) = z at *
  refine ⟨by rw [slot, yslot], fun k ne => ?_, ?_, ?_, by rw [whole, ywhole, written.whole], ?_⟩
  · rw [slots k ne, yslots k ne, written.whole]
    rfl
  · rw [word]
    split <;> rfl
  · rw [frame _ (by unfold Within; omega), ycode]
  · refine (written.frame.both (yframe.both frame)).mono ?_
    rintro a (first | third | first)
    · exact .inl first
    · unfold Within at third
      exact .inr (by omega)
    · exact .inl first

theorem State.fillSlot_eq {x : State} {n : Fin 8} (written : SlotWritten s x n) :
    x.fillSlot n = match s.ownerOf (s.slotHeader n).owner with
      | some (c, _) => if s.slotCheck n (s.slotHeader n) = 0
        then (x.slotChecked n (s.slotHeader n) (s.slotCheck n (s.slotHeader n))).blockHeld c (s.slotHeader n).block
        else x.slotChecked n (s.slotHeader n) (s.slotCheck n (s.slotHeader n))
      | none => x.slotChecked n (s.slotHeader n) (s.slotCheck n (s.slotHeader n)) := by
  unfold State.fillSlot
  dsimp only
  rw [written.header, written.check, written.owner] <;> rfl

theorem State.ownerOf_some {x : State} {owner : Nat} {c : Fin 32} {r : Transfer} (found : x.ownerOf owner = some (c, r)) :
    x.transfer c = some r ∧ owner = c.val := by
  unfold State.ownerOf at found
  split at found
  case isTrue small =>
    obtain ⟨d, here, pair⟩ := Option.map_eq_some_iff.1 found
    obtain ⟨rfl, rfl⟩ := Prod.mk.inj pair
    exact ⟨here, rfl⟩
  case isFalse => exact absurd found (by simp)

/-- A transfer whose feed timer has stopped. -/
def Transfer.unfed (r : Transfer) : Transfer := { r with feed := none }

theorem State.blockHeld_other {y : State} {c : Fin 32} {r : Transfer} {block : Nat} (here : y.transfer c = some r)
    (other : ¬ (r.phase = .streaming ∧ block = r.acked)) : y.blockHeld c block = y := by
  unfold State.blockHeld
  rw [here]
  exact if_neg other

theorem State.blockHeld_next {y : State} {c : Fin 32} {r : Transfer} (here : y.transfer c = some r) (phase : r.phase = .streaming) :
    y.blockHeld c r.acked = if r.out.isNone then (y.modTransfer c Transfer.unfed).needBlock c else y.modTransfer c Transfer.unfed := by
  unfold State.blockHeld
  rw [here]
  exact if_pos ⟨phase, rfl⟩

/-! ### The next needed block (R124) -/

/-- Block slot `n` is SENDING, and the DATA exchange `e` of its block has joined its lane. -/
structure BlockSent (x y : State) (n : Fin 8) (c : Fin 32) (r : Transfer) (g : Fin 4) (e : Entry) : Prop where
  slot : y.slot n = { x.slot n with st := .sending }
  slots : ∀ k, k ≠ n → y.slot k = x.slot k
  word : y.mem.word (slotBase n) = 3
  transfer : y.transfer c = some { r with feed := none, out := some ⟨.data, r.acked, false⟩ }
  transfers : ∀ d, d ≠ c → y.transfer d = x.transfer d
  seg : y.seg g = { x.seg g with lanes := (x.seg g).lanes.mod e.lane (· ++ [e]), counter := (x.seg g).counter + 1 }
  segs : ∀ h, h ≠ g → y.seg h = x.seg h
  whole : y = { x with slots := y.slots, mem := y.mem, transfers := y.transfers, segs := y.segs }
  frame : MemFrame x y fun a => Within (slotBase n) 2 a ∨ Within (segBase g) 128 a

/-- The entry of the next block of a transfer. -/
def State.dataEntry (x : State) (g : Fin 4) (c : Fin 32) (r : Transfer) : Entry :=
  x.newEntry g c r.target .data r.codes.data (x.msIn (queueLimit (x.cell c).captured 30000))

theorem blockSent {x : State} {n : Fin 8} {c : Fin 32} {r : Transfer} {g : Fin 4} (here : x.transfer c = some r) (held : x.slotWith c r.acked .held = some n)
    (opens : ∀ v : State, v.ps = x.ps → v.segs = x.segs → v.openSegment r.target = some g)
    (joins : ∀ v : State, v.ps = x.ps → v.segs = x.segs → Joined v (v.joinRun g (x.dataEntry g c r)) g (x.dataEntry g c r)) :
    BlockSent x (x.needBlock c) n c r g (x.dataEntry g c r) := by
  obtain ⟨y, hy⟩ : ∃ y, y = x.setSlot n .sending := ⟨_, rfl⟩
  have slot := x.setSlot_slot n .sending
  have slots := fun k (ne : k ≠ n) => x.setSlot_slot_ne .sending ne
  have word := x.setSlot_word n .sending
  have whole := x.setSlot_whole n .sending
  have frame := x.setSlot_frame n .sending
  rw [← hy] at slot slots word whole frame
  obtain ⟨z, hz⟩ : ∃ z, z = y.modTransfer c Transfer.unfed := ⟨_, rfl⟩
  have ztransfer : z.transfer c = some r.unfed := by
    rw [hz, State.transfer_modTransfer, whole]
    exact congrArg (Option.map Transfer.unfed) here
  have ztransfers : ∀ d, d ≠ c → z.transfer d = x.transfer d := fun d ne => by
    rw [hz, State.transfer_modTransfer_ne _ _ ne, whole]
    rfl
  have zwhole : z = { y with transfers := z.transfers } := by rw [hz]; rfl
  have does : x.needBlock c = z.handOver c .data r.acked := by
    unfold State.needBlock
    rw [here]
    dsimp only
    rw [held, hz, hy]
    rfl
  clear hz hy
  have zps : z.ps = x.ps := by rw [zwhole, whole]
  have zsegs : z.segs = x.segs := by rw [zwhole, whole]
  have entry : z.newEntry g c r.unfed.target .data (r.unfed.codes.of .data) (z.msIn (queueLimit (z.cell c).captured 30000)) = x.dataEntry g c r := by
    rw [State.newEntry_congr (by rw [zps]), zwhole, whole]
    rfl
  rw [does, State.handOver_open ztransfer (opens z zps zsegs), entry]
  obtain ⟨u, hu⟩ : ∃ u, u = z.modTransfer c (Transfer.handed .data r.acked) := ⟨_, rfl⟩
  have utransfer : u.transfer c = some { r with feed := none, out := some ⟨.data, r.acked, false⟩ } := by
    rw [hu, State.transfer_modTransfer, ztransfer]
    rfl
  have utransfers : ∀ d, d ≠ c → u.transfer d = x.transfer d := fun d ne => by rw [hu, State.transfer_modTransfer_ne _ _ ne, ztransfers d ne]
  have uwhole : u = { z with transfers := u.transfers } := by rw [hu]; rfl
  rw [← hu]
  clear hu
  have join := joins u (by rw [uwhole, zps]) (by rw [uwhole, zsegs])
  generalize u.joinRun g (x.dataEntry g c r) = v at join
  have useg : ∀ h, u.seg h = x.seg h := fun h => by rw [State.seg, uwhole, zsegs, State.seg]
  have vslot : ∀ k, v.slot k = y.slot k := fun k => by rw [join.whole, uwhole, zwhole]; rfl
  have small := segBase_bounds g
  have bounds := slotBase_bounds n
  refine ⟨by rw [vslot, slot], fun k ne => by rw [vslot, slots k ne], ?_, ?_, fun d ne => ?_, by rw [join.seg, useg], fun h ne => by rw [join.segs h ne, useg], ?_, ?_⟩
  · have same : v.mem.word (slotBase n) = u.mem.word (slotBase n) := by
      refine MemFrame.word join.frame ?_ ?_ <;> unfold Within <;> omega
    rw [same, uwhole, zwhole, word]
    rfl
  · rw [join.whole]
    exact utransfer
  · rw [join.whole]
    exact utransfers d ne
  · rw [join.whole, uwhole, zwhole, whole]
  · have second : MemFrame y v (Within (segBase g) 128) := fun a out => by rw [join.frame a out, uwhole, zwhole]
    exact frame.both second

theorem find?_finRange_unique {m : Nat} {p : Fin m → Bool} {n : Fin m} (hit : p n = true) (unique : ∀ k, p k = true → k = n) :
    (List.finRange m).find? p = some n := by
  cases found : (List.finRange m).find? p with
  | none => exact absurd hit (List.find?_eq_none.1 found n (List.mem_finRange n))
  | some k => rw [unique k (List.find?_some found)]

/-- A block that passes the check is held by no other slot (R121). -/
theorem State.slotCheck_single {x : State} {n : Fin 8} {q : SlotHeader} {c : Fin 32} {r : Transfer} (owner : x.ownerOf q.owner = some (c, r))
    (passes : x.slotCheck n q = 0) (k : Fin 8) : ¬ ((x.slot k).st = .held ∧ (x.slot k).owner = c.val ∧ (x.slot k).block = q.block) := by
  have alone : x.slotWith c q.block .held = none := by
    unfold State.slotCheck at passes
    rw [owner] at passes
    dsimp only at passes
    split_ifs at passes with early late length crc twice
    cases held : x.slotWith c q.block .held with
    | none => rfl
    | some m => exact absurd (by rw [held]; rfl) twice
  rintro ⟨st, own, block⟩
  exact List.find?_eq_none.1 alone k (List.mem_finRange k) (by simp [st, own, block])

theorem SlotChecked.slotWith {y : State} {n : Fin 8} {q : SlotHeader} {c : Fin 32} {r : Transfer} (checked : SlotChecked s y n q 0)
    (owner : s.ownerOf q.owner = some (c, r)) (passes : s.slotCheck n q = 0) : y.slotWith c q.block .held = some n := by
  refine find?_finRange_unique ?_ fun k hit => ?_
  · rw [checked.slot, (State.ownerOf_some owner).2]
    simp
  · by_contra ne
    rw [checked.slots k ne] at hit
    refine State.slotCheck_single owner passes k ?_
    simpa [and_assoc] using hit

theorem slotFilled_runs {n : Fin 8} {w : HostWrite} (running : Running s) (leaves : Leaves s (slotBase n) w 1) (free : (s.slot n).st = .free) :
    ∃ x, SlotWritten s x n ∧ exec (.slotFilled n w) s = .next (x.fillSlot n).finish := by
  have arm : exec (.slotFilled n w) s = watchedWrite s (slotBase n) w (fun v => v == 1 && (s.slot n).st == .free) fun t _ => t.fillSlot n :=
    (show exec (.slotFilled n w) s = execSlotFilled n w s from rfl).trans rfl
  exact slotWrite_runs running leaves arm (by rw [free]; rfl)

theorem slotFree_runs {n : Fin 8} {w : HostWrite} (running : Running s) (leaves : Leaves s (slotBase n) w 0) :
    ∃ x, SlotWritten s x n ∧ exec (.slotFree n w) s = .next (x.slotFreed n 0).finish := by
  have arm : exec (.slotFree n w) s = watchedWrite s (slotBase n) w (· == 0) fun t v => t.slotFreed n v :=
    (show exec (.slotFree n w) s = execSlotFree n w s from rfl).trans rfl
  exact slotWrite_runs running leaves arm rfl

/-- Slot `n` has become FREE. -/
structure SlotEmptied (s y : State) (n : Fin 8) : Prop where
  slot : y.slot n = { s.slot n with st := .free }
  slots : ∀ k, k ≠ n → y.slot k = s.slot k
  word : y.mem.word (slotBase n) = 0
  whole : y = { s with slots := y.slots, mem := y.mem }
  frame : MemFrame s y (Within (slotBase n) 2)

theorem slotEmptied {x : State} {n : Fin 8} (written : SlotWritten s x n) : SlotEmptied s (x.setSlot n .free) n := by
  have same : ∀ k, x.slot k = s.slot k := fun k => by rw [written.whole]; rfl
  exact ⟨by rw [State.setSlot_slot, same], fun k ne => by rw [State.setSlot_slot_ne _ _ ne, same], x.setSlot_word n .free,
    by rw [x.setSlot_whole n .free, written.whole], written.frame.trans (x.setSlot_frame n .free)⟩

theorem SlotEmptied.owner {y : State} {n : Fin 8} (emptied : SlotEmptied s y n) (owner : Nat) : y.ownerOf owner = s.ownerOf owner := by
  rw [emptied.whole]
  rfl

/-- Settles O23. -/
theorem slotWrites : Obligations.SlotWrites := by
  unfold Obligations.SlotWrites
  refine ⟨fun n w s running leaves free => ?_, fun n w c r s running leaves free => ?_, fun n w c r s running leaves held => ?_,
    fun n w s running leaves states => ?_⟩
  · intro q code other
    obtain ⟨x, written, runs⟩ := slotFilled_runs running leaves free
    have checked := slotChecked written q code
    have does : x.fillSlot n = x.slotChecked n q code := by
      rw [State.fillSlot_eq written]
      cases owner : s.ownerOf q.owner with
      | none => rfl
      | some pair =>
        obtain ⟨c, r⟩ := pair
        dsimp only
        by_cases passes : code = 0
        · rw [if_pos passes]
          refine State.blockHeld_other ?_ (other c r owner passes)
          show (x.slotChecked n q code).transfer c = some r
          rw [checked.whole]
          exact (State.ownerOf_some owner).1
        · exact if_neg passes
    rw [does] at runs
    clear does
    generalize x.slotChecked n q code = y at checked runs
    rw [State.finish_still running.2 (by rw [checked.whole]) (by rw [checked.whole])] at runs
    exact ⟨y, runs, checked.slot, checked.word, checked.code, checked.slots, checked.whole, checked.frame⟩
  · intro q owner passes phase next
    obtain ⟨x, written, runs⟩ := slotFilled_runs running leaves free
    have checked := slotChecked written q 0
    have here := (State.ownerOf_some owner).1
    have does : x.fillSlot n = (x.slotChecked n q 0).blockHeld c r.acked := by
      rw [State.fillSlot_eq written, show s.ownerOf (s.slotHeader n).owner = some (c, r) from owner]
      dsimp only
      rw [show s.slotCheck n (s.slotHeader n) = 0 from passes, if_pos rfl, ← next]
    have holds := checked.slotWith owner passes
    rw [does] at runs
    clear does
    generalize x.slotChecked n q 0 = y at checked runs holds
    rw [State.blockHeld_next (by rw [checked.whole]; exact here) phase] at runs
    obtain ⟨z, hz⟩ : ∃ z, z = y.modTransfer c Transfer.unfed := ⟨_, rfl⟩
    have ztransfer : z.transfer c = some r.unfed := by
      rw [hz, State.transfer_modTransfer, checked.whole]
      exact congrArg (Option.map Transfer.unfed) here
    have ztransfers : ∀ d, d ≠ c → z.transfer d = s.transfer d := fun d ne => by
      rw [hz, State.transfer_modTransfer_ne _ _ ne, checked.whole]
      rfl
    have zwhole : z = { s with slots := z.slots, mem := z.mem, transfers := z.transfers } := by rw [hz, checked.whole]; rfl
    have zslot : ∀ k, z.slot k = y.slot k := fun k => by rw [hz]; rfl
    have zmem : z.mem = y.mem := by rw [hz]; rfl
    have zholds : z.slotWith c r.acked .held = some n := by
      rw [← next, hz]
      exact holds
    rw [← hz] at runs
    clear hz
    have code : y.mem.read (slotBase n + 3) = 0 := checked.code
    refine ⟨fun out => ?_, fun g out route on waits => ?_⟩
    · rw [if_neg (by rw [Option.isNone_iff_eq_none]; exact out), State.finish_still running.2 (by rw [zwhole]) (by rw [zwhole])] at runs
      refine ⟨z, runs, by rw [zslot, checked.slot, if_pos rfl], by rw [zmem, checked.word, if_pos rfl], by rw [zmem, code], ztransfer, ztransfers,
        fun k ne => by rw [zslot, checked.slots k ne], zwhole, fun a outside => by rw [zmem, checked.frame a outside]⟩
    · rw [if_pos (by rw [out]; rfl)] at runs
      have zsegs : z.segs = s.segs := by rw [zwhole]
      have zps : z.ps = s.ps := by rw [zwhole]
      have sent := blockSent (g := g) ztransfer zholds
        (fun v ps segs => State.openSegment_of route on (by rw [ps, zps]) fun h => by rw [State.seg, segs, zsegs, State.seg])
        (fun v ps segs => joined _ (by rw [Waits, State.seg, segs, zsegs]; exact waits))
      have entry : z.dataEntry g c r.unfed = s.dataEntry g c r := by
        unfold State.dataEntry
        rw [State.newEntry_congr (by rw [zps])]
        rw [zwhole]
        rfl
      rw [entry] at sent
      generalize z.needBlock c = u at sent runs
      rw [State.finish_still running.2 (by rw [sent.whole, zwhole]) (by rw [sent.whole, zwhole])] at runs
      have zseg : ∀ h, z.seg h = s.seg h := fun h => by rw [State.seg, zsegs, State.seg]
      have useg := sent.seg
      rw [zseg] at useg
      have bounds := slotBase_bounds n
      have small := segBase_bounds g
      refine ⟨u, s.dataEntry g c r, runs, ?_, sent.word, ?_, sent.transfer, by rw [useg], rfl, rfl, rfl, rfl, rfl, ?_, fun h ne => by rw [sent.segs h ne, zseg],
        fun d ne => by rw [sent.transfers d ne, ztransfers d ne], fun k ne => by rw [sent.slots k ne, zslot, checked.slots k ne], ?_, ?_⟩
      · rw [sent.slot, zslot, checked.slot]
      · rw [sent.frame _ (by unfold Within; omega), zmem, code]
      · rw [useg]
      · rw [sent.whole, zwhole]
      · have first : MemFrame s z fun a => Within (slotBase n) 2 a ∨ a = slotBase n + 3 := fun a outside => by rw [zmem, checked.frame a outside]
        refine (first.both sent.frame).mono ?_
        rintro a ((low | third) | low | area)
        · exact .inl low
        · exact .inr (.inl third)
        · exact .inl low
        · exact .inr (.inr area)
  · intro owner phase out next
    obtain ⟨x, written, runs⟩ := slotFree_runs running leaves
    have slot : x.slot n = s.slot n := by rw [written.whole]; rfl
    have emptied := slotEmptied written
    have here := (State.ownerOf_some owner).1
    have does : x.slotFreed n 0 = (x.setSlot n .free).modTransfer c fun t =>
        { t with feed := some ((x.setSlot n .free).time.clock + feedTimeout ((x.setSlot n .free).cell c).captured) } := by
      unfold State.slotFreed
      rw [slot, held]
      dsimp only
      unfold State.withdrawBlock
      dsimp only
      rw [slot, emptied.owner, owner]
      exact if_pos ⟨phase, out, next⟩
    rw [does] at runs
    clear does
    generalize x.setSlot n .free = y at emptied runs
    have clock : y.time.clock = s.time.clock := by rw [emptied.whole]
    have cell : y.cell c = s.cell c := by rw [emptied.whole]; rfl
    rw [clock, cell] at runs
    obtain ⟨z, hz⟩ : ∃ z, z = y.modTransfer c fun t => { t with feed := some (s.time.clock + feedTimeout (s.cell c).captured) } := ⟨_, rfl⟩
    have ztransfer : z.transfer c = some { r with feed := some (s.time.clock + feedTimeout (s.cell c).captured) } := by
      rw [hz, State.transfer_modTransfer, emptied.whole]
      exact congrArg (Option.map fun t : Transfer => { t with feed := some (s.time.clock + feedTimeout (s.cell c).captured) }) here
    have ztransfers : ∀ d, d ≠ c → z.transfer d = s.transfer d := fun d ne => by
      rw [hz, State.transfer_modTransfer_ne _ _ ne, emptied.whole]
      rfl
    have zwhole : z = { s with slots := z.slots, mem := z.mem, transfers := z.transfers } := by rw [hz, emptied.whole]; rfl
    have zslot : ∀ k, z.slot k = y.slot k := fun k => by rw [hz]; rfl
    have zmem : z.mem = y.mem := by rw [hz]; rfl
    rw [← hz, State.finish_still running.2 (by rw [zwhole]) (by rw [zwhole])] at runs
    exact ⟨z, runs, by rw [zslot, emptied.slot], by rw [zmem, emptied.word], ztransfer, ztransfers, fun k ne => by rw [zslot, emptied.slots k ne], zwhole,
      fun a outside => by rw [zmem, emptied.frame a outside]⟩
  · obtain ⟨x, written, runs⟩ := slotFree_runs running leaves
    have slot : x.slot n = s.slot n := by rw [written.whole]; rfl
    have emptied := slotEmptied written
    have does : x.slotFreed n 0 = x.setSlot n .free := by
      unfold State.slotFreed
      rw [slot]
      rcases states with rejected | ⟨held, other⟩
      · rw [rejected]
      · rw [held]
        dsimp only
        unfold State.withdrawBlock
        dsimp only
        rw [slot, emptied.owner]
        cases owner : s.ownerOf (s.slot n).owner with
        | none => rfl
        | some pair => exact if_neg (other pair.1 pair.2 owner)
    rw [does] at runs
    clear does
    generalize x.setSlot n .free = y at emptied runs
    rw [State.finish_still running.2 (by rw [emptied.whole]) (by rw [emptied.whole])] at runs
    exact ⟨y, runs, emptied.slot, emptied.word, emptied.slots, emptied.whole, emptied.frame⟩

end Sys2Proof.Machine
end

section
/-! PROOFS. Frames for a context that awaits one: reception, storing, and the end of an EXCHANGE (R73, R78 to R86). -/

namespace Sys2Proof.Machine

variable {s t : State}

/-! ### The bytes of a frame -/

theorem frameBytes_eq {f : CanFrame} {i n : Nat} (data : f.remote = false) (fits : i + n ≤ f.dlc.val) :
    frameBytes f i n = (f.data.toList.drop i).take n := by
  have dlc : f.dlc.val ≤ 8 := by omega
  have length : f.data.toList.length = 8 := by simp
  unfold frameBytes
  refine List.ext_getElem ?_ fun j first second => ?_
  · simp
    omega
  · have below : j < n := by simpa using first
    rw [List.getElem_map, List.getElem_range, byteAt_below data (by omega), List.getElem_take, List.getElem_drop, List.getD_eq_getElem?_getD,
      List.getElem?_eq_getElem (by rw [length]; omega), Option.getD_some]

/-! ### A frame that a context takes (R70, R83) -/

/-- A lone context that awaits a frame takes the frame on its response identifier. -/
theorem frameRuns {g x : Fin 4} {us : Fin 1000} {f : CanFrame} (agree : ErrorsAgree s) (empty : LanesEmpty s g)
    (id : f.id = (s.ctx g x).respId) (other : f.id ≠ s.ps.active.veh.canId) (others : ∀ y, y ≠ x → (s.ctx g y).st = .free)
    (awaits : (s.ctx g x).st = .awaitCredit ∨ (s.ctx g x).st = .awaitResponse ∨ (s.ctx g x).st = .receiving) :
    ∃ u, FrameTaken s u g us f ∧ exec (.frameCompleted g us f) s = .next (u.takeFrame g x f).finish := by
  have taken := frameTaken us f agree empty
  have runs : exec (.frameCompleted g us f) s = .next ((((((s.atUs us).modSeg g fun q =>
      { q with received := q.received + 1, ack := q.ctl.acknowledges }).countBits g (frameBits f)).modErrors g
        fun q => { q with recCount := q.recCount - 1 }).observeState g f).offerTransport g f).finish := rfl
  generalize ((((s.atUs us).modSeg g fun q => { q with received := q.received + 1, ack := q.ctl.acknowledges }).countBits g (frameBits f)).modErrors g
    fun q => { q with recCount := q.recCount - 1 }) = u at taken runs
  rw [State.observeState_other (by rw [taken.whole]; exact other)] at runs
  have ctxs : (u.seg g).ctxs = (s.seg g).ctxs := by rw [taken.seg]
  have ctx : ∀ k, u.ctx g k = s.ctx g k := fun k => congrArg (fun v : Vector Ctx 4 => v[k]) ctxs
  have waits : (s.ctx g x).awaits f.id = true := by
    unfold Ctx.awaits
    rcases awaits with st | st | st <;> simp [st, id]
  have busy : (s.ctx g x).busy = true := by
    rw [Ctx.busy_iff]
    rcases awaits with st | st | st <;> simp [st]
  have named : u.isResponseId g f.id = true := by
    rw [State.isResponseId_congr f.id (x := s) (by rw [taken.whole]) ctxs]
    have listens : (s.seg g).listens f.id = true := by
      unfold Seg.listens
      refine List.any_eq_true.2 ⟨s.ctx g x, ?_, by rw [busy, id]; simp⟩
      exact Vector.mem_toList_iff.2 (Vector.getElem_mem x.isLt)
    unfold State.isResponseId
    rw [listens, Bool.or_true]
  have finds : (List.finRange 4).find? (fun k => (u.ctx g k).awaits f.id) = some x := by
    refine find?_finRange_unique (by rw [ctx]; exact waits) fun k hit => ?_
    by_contra ne
    rw [ctx] at hit
    unfold Ctx.awaits at hit
    rw [others k ne] at hit
    simp at hit
  have offers : u.offerTransport g f = u.takeFrame g x f := by
    unfold State.offerTransport
    rw [named, finds]
    rfl
  rw [offers] at runs
  exact ⟨u, taken, runs⟩

theorem FrameTaken.ctx {u : State} {g : Fin 4} {us : Fin 1000} {f : CanFrame} (taken : FrameTaken s u g us f) (k : Fin 4) : u.ctx g k = s.ctx g k := by
  have ctxs : (u.seg g).ctxs = (s.seg g).ctxs := by rw [taken.seg]
  exact congrArg (fun v : Vector Ctx 4 => v[k]) ctxs

theorem FrameTaken.cell {u : State} {g : Fin 4} {us : Fin 1000} {f : CanFrame} (taken : FrameTaken s u g us f) (c : Fin 32) : u.cell c = s.cell c := by
  rw [taken.whole]
  rfl

theorem FrameTaken.nothing {u : State} {g : Fin 4} {us : Fin 1000} {f : CanFrame} (taken : FrameTaken s u g us f) (empty : LanesEmpty s g) :
    StartsNothing u g := .inl (by rw [LanesEmpty, taken.seg]; exact empty)

/-! ### Bytes stored in the response buffer (R85) -/

/-- Context `k` of segment `g` has become `v`, and `bs` stands at address `a`. -/
structure CtxStored (x y : State) (g k : Fin 4) (v : Ctx) (a : Nat) (bs : List Byte) : Prop where
  ctx : y.ctx g k = v
  ctxs : ∀ j, j ≠ k → y.ctx g j = x.ctx g j
  seg : y.seg g = { x.seg g with ctxs := (y.seg g).ctxs, counter := (y.seg g).counter }
  segs : ∀ h, h ≠ g → y.seg h = x.seg h
  bytes : y.mem.bytes a bs.length = bs
  whole : y = { x with segs := y.segs, mem := y.mem }
  frame : MemFrame x y fun b => Within (segBase g) 128 b ∨ Within a bs.length b

theorem CtxMoved.stored {x y z : State} {g k : Fin 4} {v w : Ctx} {a : Nat} {bs : List Byte} (first : CtxMoved x y g k v)
    (second : CtxStored y z g k w a bs) : CtxStored x z g k w a bs := by
  refine ⟨second.ctx, fun j ne => by rw [second.ctxs j ne, first.ctxs j ne], ?_, fun h ne => by rw [second.segs h ne, first.segs h ne], second.bytes,
    by rw [second.whole, first.whole], (first.frame.mono fun _ => .inl).trans second.frame⟩
  have seg := second.seg
  rw [first.seg] at seg
  exact seg

theorem CtxStored.moved {x y z : State} {g k : Fin 4} {v w : Ctx} {a : Nat} {bs : List Byte} (first : CtxStored x y g k v a bs)
    (second : CtxMoved y z g k w) (high : 0x1480 ≤ a) : CtxStored x z g k w a bs := by
  have bounds := segBase_bounds g
  refine ⟨second.ctx, fun j ne => by rw [second.ctxs j ne, first.ctxs j ne], ?_, fun h ne => by rw [second.segs h ne, first.segs h ne], ?_,
    by rw [second.whole, first.whole], first.frame.trans (second.frame.mono fun _ => .inl)⟩
  · have seg := second.seg
    rw [first.seg] at seg
    exact seg
  · rw [second.frame.bytes fun i _ => by unfold Within; omega, first.bytes]

/-- The response of an EXCHANGE or of a cycle goes to its buffer. -/
theorem responseStored {x : State} {g k : Fin 4} {pos : Nat} {bs : List Byte} (role : (x.ctx g k).role = .exchange ∨ (x.ctx g k).role = .cycle)
    (high : (responseRef (x.cell (x.ctx g k).cell).captured).addr + (responseRef (x.cell (x.ctx g k).cell).captured).len ≤ 0x10000) :
    CtxStored x (x.storeResponse g k pos bs) g k
      { x.ctx g k with truncated := (x.ctx g k).truncated || decide ((responseRef (x.cell (x.ctx g k).cell).captured).len < pos + bs.length) }
      ((responseRef (x.cell (x.ctx g k).cell).captured).addr + pos) (bs.take ((responseRef (x.cell (x.ctx g k).cell).captured).len - pos)) := by
  generalize hr : responseRef (x.cell (x.ctx g k).cell).captured = r at high
  have does : x.storeResponse g k pos bs = (x.wr (r.addr + pos) (bs.take (r.len - pos))).modCtx g k fun k =>
      { k with truncated := k.truncated || r.len < pos + bs.length } := by
    unfold State.storeResponse
    dsimp only
    rw [hr]
    rcases role with role | role <;> rw [role]
  rw [does]
  have bytes : (x.wr (r.addr + pos) (bs.take (r.len - pos))).mem.bytes (r.addr + pos) (bs.take (r.len - pos)).length = bs.take (r.len - pos) := by
    by_cases inside : pos ≤ r.len
    · refine Mem.bytes_write x.mem ?_
      rw [List.length_take]
      simp only [Config.ramSize]
      omega
    · rw [show r.len - pos = 0 by omega]
      rfl
  have frame := x.wr_frame (r.addr + pos) (bs.take (r.len - pos))
  have same : ∀ j, (x.wr (r.addr + pos) (bs.take (r.len - pos))).ctx g j = x.ctx g j := fun _ => rfl
  have seg : ∀ h, (x.wr (r.addr + pos) (bs.take (r.len - pos))).seg h = x.seg h := fun _ => rfl
  have whole : x.wr (r.addr + pos) (bs.take (r.len - pos)) = { x with mem := (x.wr (r.addr + pos) (bs.take (r.len - pos))).mem } := rfl
  generalize x.wr (r.addr + pos) (bs.take (r.len - pos)) = y at *
  have moved := ctxModified y g k fun k => { k with truncated := k.truncated || r.len < pos + bs.length }
  have mem : (y.modCtx g k fun k => { k with truncated := k.truncated || r.len < pos + bs.length }).mem = y.mem := rfl
  generalize (y.modCtx g k fun k => { k with truncated := k.truncated || r.len < pos + bs.length }) = z at *
  refine ⟨by rw [moved.ctx, same], fun j ne => by rw [moved.ctxs j ne, same], ?_, fun h ne => by rw [moved.segs h ne, seg], by rw [mem, bytes],
    by rw [moved.whole, whole], fun b out => ?_⟩
  · have eq := moved.seg
    rw [seg] at eq
    exact eq
  · rw [mem, frame b fun inside => out (.inr inside)]

/-! ### The response of an EXCHANGE cell (R84 to R86) -/

/-- The end of an EXCHANGE cell with a response. -/
def State.responded (x : State) (g k : Fin 4) (form : Form) : CellEnd :=
  { CellEnd.done [] with
    truncated := (x.ctx g k).truncated, abortTooLate := (x.cell (x.ctx g k).cell).abortPending, refused := form == .refusal
    respLen := (x.ctx g k).expected }

/-- The EXCHANGE cell `c` has its response, and its context is FREE. -/
structure ExchangeResponded (x y : State) (g k : Fin 4) (c : Fin 32) (e : CellEnd) : Prop where
  ctx : y.ctx g k = Ctx.free
  ctxs : ∀ j, j ≠ k → y.ctx g j = x.ctx g j
  seg : y.seg g = { x.seg g with ctxs := (y.seg g).ctxs, busy := (x.seg g).busy.filter (· != (x.ctx g k).target),
                                 offered := (y.seg g).offered, counter := (y.seg g).counter }
  segs : ∀ h, h ≠ g → y.seg h = x.seg h
  done : EndsDone y c
  flags : y.mem.read (cellBase c + 65) = byte e.flags
  length : y.mem.bytes (cellBase c + 66) 2 = le16 e.respLen
  cells : OnlyCellState x y c
  accrued : ∀ ch, channelNamed (x.cell c).captured = some ch → ∀ f ∈ e.conditions, ∀ i, f.bit.getLsbD i = true → (y.chan ch).accrued.getLsbD i = true
  chans : ∀ ch, channelNamed (x.cell c).captured ≠ some ch → y.chan ch = x.chan ch
  whole : y = { x with board := y.board, regs := y.regs, mem := y.mem, chans := y.chans, segs := y.segs }
  frame : MemFrame x y fun a => EndPlaces c a ∨ Within (segBase g) 128 a ∨
    ∃ ch, channelNamed (x.cell c).captured = some ch ∧ Within (chanBase ch) 32 a

theorem exchangeResponded {x : State} {g k : Fin 4} {c : Fin 32} (nothing : StartsNothing x g) (role : (x.ctx g k).role = .exchange)
    (cell : (x.ctx g k).cell = c) (form : Form) (d : Nat × Nat) :
    ExchangeResponded x (x.endExchange g k (.response form) d.1 d.2) g k c (x.responded g k form) := by
  have eq : x.endExchange g k (.response form) d.1 d.2 = (x.endCell c (x.responded g k form)).freeCtx g k := by
    unfold State.endExchange
    dsimp only
    rw [role, ← cell]
    rfl
  have none : (x.responded g k form).fault = none := rfl
  generalize x.responded g k form = e at *
  have ended := cellOver x c e
  generalize x.endCell c e = z at eq ended
  have zseg : ∀ h, z.seg h = x.seg h := fun h => by rw [ended.whole]; rfl
  have zctx : ∀ j, z.ctx g j = x.ctx g j := fun j => by rw [ended.whole]; rfl
  have free := freed (x := z) k (g := g) (by unfold StartsNothing LanesEmpty; rw [zseg]; exact nothing)
  rw [← eq] at free
  generalize x.endExchange g k (.response form) d.1 d.2 = y at free
  have seg := free.seg
  rw [zseg, zctx] at seg
  have bounds := cellBase_bounds c
  refine ⟨free.ctx, fun j ne => by rw [free.ctxs j ne, zctx], ?_, fun h ne => by rw [free.segs h ne, zseg], free.endsDone (ended.done none), ?_, ?_, ?_,
    fun ch named f mem i bit => ?_, fun ch other => by rw [free.chan, ended.chans ch other], by rw [free.whole, ended.whole], ?_⟩
  · have ctxs : (y.seg g).ctxs = (x.seg g).ctxs.set k Ctx.free := by rw [seg]
    rw [ctxs]
    exact seg
  · rw [free.read (by omega), ended.flags]
  · rw [free.bytes (by omega), ended.length]
  · obtain ⟨posts, only, others⟩ := ended.cells
    exact ⟨by rw [← posts, free.whole], by rw [free.cell]; exact only, fun d ne => by rw [free.cell, others d ne]⟩
  · rw [free.chan, ended.chan ch named]
    exact foldl_or_of_mem mem bit _
  · refine (ended.frame.both free.frame).mono ?_
    rintro a ((place | chan) | area)
    · exact .inl place
    · exact .inr (.inr chan)
    · exact .inr (.inl area)

end Sys2Proof.Machine
end

section
/-! PROOFS. CREDIT, OPEN and PART frames for a lone context of an EXCHANGE (R78, R79, R81, R82, R84 to R86). -/

namespace Sys2Proof.Machine

variable {s t : State}

/-! ### What a reception leaves -/

/-- What a frame for the context `x` of an EXCHANGE leaves of everything but it, its cell and its channel. -/
def ExchangeFrame (s t : State) (g x : Fin 4) : Prop :=
  (∀ y, y ≠ x → t.ctx g y = s.ctx g y) ∧ (∀ h, h ≠ g → t.seg h = s.seg h) ∧
    (t.seg g).lanes = (s.seg g).lanes ∧ (∀ d, d ≠ (s.ctx g x).cell → t.cell d = s.cell d) ∧ t.board.posts = s.board.posts ∧
    (∀ ch, channelNamed (s.cell (s.ctx g x).cell).captured ≠ some ch → t.chan ch = s.chan ch) ∧
    t = { s with board := t.board, regs := t.regs, mem := t.mem, chans := t.chans, segs := t.segs, time := t.time }

/-- A context that goes on. -/
theorem CtxStored.closes {u y : State} {g x : Fin 4} {us : Fin 1000} {f : CanFrame} {v : Ctx} {a : Nat} {bs : List Byte} (taken : FrameTaken s u g us f)
    (stored : CtxStored u y g x v a bs) (settled : Settled s) (closed : Closes y t) :
    ExchangeFrame s t g x ∧ t.ctx g x = v ∧ t.board = s.board ∧ t.chans = s.chans ∧ t.mem.bytes a bs.length = bs ∧
      MemFrame s t fun b => Within (segBase g) 128 b ∨ Within a bs.length b := by
  have ywhole : y = { s with segs := y.segs, time := { s.time with us := max s.time.us us.val }, regs := y.regs, mem := y.mem } := by
    rw [stored.whole, taken.whole]
  obtain ⟨mem, info⟩ := closed.clean (by rw [ywhole]; exact settled.1)
  have board : t.board = s.board := by rw [closed.board, ywhole]
  have chans : t.chans = s.chans := by rw [closed.whole, ywhole]
  refine ⟨⟨fun k ne => by rw [closed.ctx, stored.ctxs k ne, taken.ctx], fun h ne => by rw [closed.seg, stored.segs h ne, taken.segs h ne], ?_,
    fun d _ => by rw [State.cell, board, State.cell], by rw [board], fun ch _ => by rw [State.chan, chans, State.chan], ?_⟩,
    by rw [closed.ctx, stored.ctx], board, chans, by rw [mem, stored.bytes], fun b out => ?_⟩
  · rw [closed.seg, stored.seg, taken.seg]
  · rw [closed.whole, info, ywhole]
  · rw [mem, stored.frame b out, taken.frame b fun inside => out (.inl inside)]

theorem CtxMoved.closes {u y : State} {g x : Fin 4} {us : Fin 1000} {f : CanFrame} {v : Ctx} (taken : FrameTaken s u g us f)
    (moved : CtxMoved u y g x v) (settled : Settled s) (closed : Closes y t) :
    (ExchangeFrame s t g x ∧ t.board = s.board ∧ t.chans = s.chans ∧ MemFrame s t (Within (segBase g) 128)) ∧ t.ctx g x = v := by
  have stored : CtxStored u y g x v 0x8000 [] := ⟨moved.ctx, moved.ctxs, moved.seg, moved.segs, rfl, moved.whole, moved.frame.mono fun _ => .inl⟩
  obtain ⟨frame, ctx, board, chans, -, places⟩ := stored.closes taken settled closed
  refine ⟨⟨frame, board, chans, places.mono ?_⟩, ctx⟩
  rintro b (area | none)
  · exact area
  · unfold Within at none
    simp at none
    omega

/-- A context whose exchange has failed. -/
theorem ExchangeFailed.receives {u v y : State} {g x : Fin 4} {us : Fin 1000} {f : CanFrame} {k : Ctx} {c : Fin 32} {reason : Reason} {d : Nat × Nat}
    (failed : ExchangeFailed v y g x c reason d) (taken : FrameTaken s u g us f) (moved : CtxMoved u v g x k) (cell : (s.ctx g x).cell = c)
    (settled : Settled s) (closed : Closes y t) :
    EndsFailed t c .transport reason ∧ ExchangeFrame s t g x ∧ (t.ctx g x).st = .free ∧ MemFrame s t fun a => EndPlaces c a ∨
      Within (segBase g) 128 a ∨ ∃ ch, channelNamed (s.cell c).captured = some ch ∧ Within (chanBase ch) 32 a := by
  have vwhole : v = { s with segs := v.segs, time := { s.time with us := max s.time.us us.val }, regs := v.regs, mem := v.mem } := by
    rw [moved.whole, taken.whole]
  have ywhole := failed.whole
  rw [vwhole] at ywhole
  obtain ⟨mem, info⟩ := closed.clean (by rw [ywhole]; exact settled.1)
  have vcell : ∀ d, v.cell d = s.cell d := fun d => by rw [vwhole]; rfl
  have chans := failed.chans
  have frame := failed.frame
  rw [vcell] at chans frame
  refine ⟨closed.endsFailed failed.fails.1, ⟨fun k ne => ?_, fun h ne => ?_, ?_, fun e ne => ?_, ?_, fun ch other => ?_, ?_⟩, ?_, ?_⟩
  · rw [closed.ctx, failed.common.ctxs k ne, moved.ctxs k ne, taken.ctx]
  · rw [closed.seg, failed.common.segs h ne, moved.segs h ne, taken.segs h ne]
  · rw [closed.seg, failed.common.seg, moved.seg, taken.seg]
  · rw [closed.cell, failed.common.cells.2.2 e (by rw [← cell]; exact ne), vcell]
  · rw [closed.board, failed.common.cells.1, vwhole]
  · rw [cell] at other
    rw [closed.chan, chans ch other, vwhole]
    rfl
  · rw [closed.whole, info, ywhole]
  · rw [closed.ctx, failed.common.ctx]
    rfl
  · have first : MemFrame s v (Within (segBase g) 128) := taken.frame.trans moved.frame
    have last : MemFrame y t fun _ => False := fun a _ => by rw [mem]
    refine ((first.both frame).both last).mono ?_
    rintro a ((area | place) | no)
    · exact .inr (.inl area)
    · exact place
    · exact no.elim

/-- A context whose EXCHANGE has its response. -/
theorem ExchangeResponded.receives {u v y : State} {g x : Fin 4} {us : Fin 1000} {f : CanFrame} {k : Ctx} {c : Fin 32} {e : CellEnd} {a : Nat} {bs : List Byte}
    (responded : ExchangeResponded v y g x c e) (taken : FrameTaken s u g us f) (stored : CtxStored u v g x k a bs) (high : 0x1480 ≤ a)
    (cell : (s.ctx g x).cell = c) (settled : Settled s) (closed : Closes y t) :
    ExchangeFrame s t g x ∧ (t.ctx g x).st = .free ∧ EndsDone t c ∧ t.mem.bytes a bs.length = bs ∧ t.mem.bytes (cellBase c + 66) 2 = le16 e.respLen ∧
      MemFrame s t fun b => EndPlaces c b ∨ Within (segBase g) 128 b ∨ Within a bs.length b ∨
        ∃ ch, channelNamed (s.cell c).captured = some ch ∧ Within (chanBase ch) 32 b := by
  have vwhole : v = { s with segs := v.segs, time := { s.time with us := max s.time.us us.val }, regs := v.regs, mem := v.mem } := by
    rw [stored.whole, taken.whole]
  have ywhole := responded.whole
  rw [vwhole] at ywhole
  obtain ⟨mem, info⟩ := closed.clean (by rw [ywhole]; exact settled.1)
  have vcell : ∀ d, v.cell d = s.cell d := fun d => by rw [vwhole]; rfl
  have chans := responded.chans
  have frame := responded.frame
  rw [vcell] at chans frame
  have bounds := cellBase_bounds c
  have small := segBase_bounds g
  refine ⟨⟨fun k ne => ?_, fun h ne => ?_, ?_, fun e ne => ?_, ?_, fun ch other => ?_, ?_⟩, ?_, closed.endsDone responded.done, ?_, by rw [mem, responded.length], ?_⟩
  · rw [closed.ctx, responded.ctxs k ne, stored.ctxs k ne, taken.ctx]
  · rw [closed.seg, responded.segs h ne, stored.segs h ne, taken.segs h ne]
  · rw [closed.seg, responded.seg, stored.seg, taken.seg]
  · rw [closed.cell, responded.cells.2.2 e (by rw [← cell]; exact ne), vcell]
  · rw [closed.board, responded.cells.1, vwhole]
  · rw [cell] at other
    rw [closed.chan, chans ch other, vwhole]
    rfl
  · rw [closed.whole, info, ywhole]
  · rw [closed.ctx, responded.ctx]
    rfl
  · rw [mem, frame.bytes, stored.bytes]
    rintro i _ (place | area | ⟨ch, -, chan⟩)
    · unfold EndPlaces Within at place
      omega
    · unfold Within at area
      omega
    · have low := chanBase_bounds ch
      unfold Within at chan
      omega
  · have first : MemFrame s v fun b => Within (segBase g) 128 b ∨ Within a bs.length b := (taken.frame.mono fun _ => .inl).trans stored.frame
    have last : MemFrame y t fun _ => False := fun a _ => by rw [mem]
    refine ((first.both frame).both last).mono ?_
    rintro b (((area | buffer) | place | area | chan) | no)
    · exact .inr (.inl area)
    · exact .inr (.inr (.inl buffer))
    · exact .inl place
    · exact .inr (.inl area)
    · exact .inr (.inr (.inr chan))
    · exact no.elim

/-! ### CREDIT (R78) -/

section
variable {f : CanFrame} (data : f.remote = false)
include data

theorem dataLen_eq : dataLen f = f.dlc.val := by
  unfold dataLen
  rw [data]
  rfl

theorem byteAt_zero (some : 1 ≤ f.dlc.val) : byteAt f 0 = f.data.toList.getD 0 0 := byteAt_below data (by omega)

theorem credit_wellFormed {n : Nat} (full : 3 ≤ f.dlc.val) (small : n < 3) (first : f.data.toList.getD 0 0 = BitVec.ofNat 8 (0x40 + n)) :
    kindCode f = some .credit ∧ low4 f = n ∧ malformed f 0 = false := by
  have zero : (byteAt f 0).toNat = 0x40 + n := by
    rw [byteAt_zero data (by omega), first, BitVec.toNat_ofNat]
    omega
  have kind : kindCode f = some .credit := by
    unfold kindCode
    rw [zero, show (0x40 + n) / 16 = 4 by omega] <;> rfl
  have low : low4 f = n := by
    unfold low4
    omega
  refine ⟨kind, low, ?_⟩
  unfold malformed
  rw [kind]
  dsimp only
  rw [dataLen_eq data, low]
  simp
  omega

end

theorem State.takeFrame_credit {u : State} {g x : Fin 4} {f : CanFrame} {n : Nat} (st : (u.ctx g x).st = .awaitCredit) (data : f.remote = false)
    (full : 3 ≤ f.dlc.val) (small : n < 3) (first : f.data.toList.getD 0 0 = BitVec.ofNat 8 (0x40 + n)) :
    u.takeFrame g x f = u.takeCredit g x f ∧ low4 f = n := by
  obtain ⟨kind, low, good⟩ := credit_wellFormed data full small first
  refine ⟨?_, low⟩
  unfold State.takeFrame
  dsimp only
  rw [st]
  dsimp only
  rw [good, kind, if_neg (by decide), if_pos rfl]

/-- A context that has taken one more WAIT (R78). -/
def Ctx.waited (k : Ctx) : Ctx := { k with waits := k.waits + 1, last := (4, 0) }

section
variable (u : State) (g x : Fin 4) {f : CanFrame}

theorem State.takeCredit_proceed (low : low4 f = 0) :
    u.takeCredit g x f = (u.modCtx g x (proceedCtx u.now f)).enterCtx g x .sending none := by
  unfold State.takeCredit
  rw [low] <;> rfl

theorem State.takeCredit_wait (low : low4 f = 1) :
    u.takeCredit g x f = if (u.ctx g x).waits < 8
      then (u.modCtx g x Ctx.waited).modCtx g x fun k => { k with timer := some (u.time.clock + u.ps.active.segs[g].creditWait) }
      else (u.modCtx g x Ctx.waited).failExchange g x .creditTimeout 4 (u.ctx g x).lastPart := by
  unfold State.takeCredit
  rw [low] <;> rfl

theorem State.takeCredit_refuse (low : low4 f = 2) : u.takeCredit g x f = u.failExchange g x .creditRefused 4 (u.ctx g x).lastPart := by
  unfold State.takeCredit
  rw [low] <;> rfl

end

/-- A CREDIT for a context that awaits one. -/
theorem creditTaken {g x : Fin 4} {us : Fin 1000} {f : CanFrame} (settled : Settled s) (agree : ErrorsAgree s) (empty : LanesEmpty s g)
    (data : f.remote = false) (id : f.id = (s.ctx g x).respId) (other : f.id ≠ s.ps.active.veh.canId) (role : (s.ctx g x).role = .exchange)
    (others : ∀ y, y ≠ x → (s.ctx g y).st = .free) (st : (s.ctx g x).st = .awaitCredit) (full : 3 ≤ f.dlc.val) :
    let k := s.ctx g x
    let b := fun (i : Nat) => f.data.toList.getD i 0
    let quiet := fun (t : State) => ExchangeFrame s t g x ∧ t.board = s.board ∧ t.chans = s.chans ∧ MemFrame s t (Within (segBase g) 128)
    let ended := fun (t : State) => ExchangeFrame s t g x ∧ (t.ctx g x).st = .free ∧ MemFrame s t fun a => EndPlaces k.cell a ∨
      Within (segBase g) 128 a ∨ ∃ ch, channelNamed (s.cell k.cell).captured = some ch ∧ Within (chanBase ch) 32 a
    (b 0 = 0x40 → ∃ t, exec (.frameCompleted g us f) s = .next t ∧ quiet t ∧
      t.ctx g x = { k with st := .sending, timer := none, waits := 0, last := (4, 0)
                           credit := if b 1 = 0 then none else some (b 1).toNat
                           ecuGap := min (b 2).toNat 250, ready := some ⟨.part, s.time.clock * 1000 + max s.time.us us.val, false⟩ }) ∧
    (b 0 = 0x41 → k.waits < 8 → ∃ t, exec (.frameCompleted g us f) s = .next t ∧ quiet t ∧
      t.ctx g x = { k with waits := k.waits + 1, last := (4, 0)
                           timer := some (s.time.clock + s.ps.active.segs[g].creditWait) }) ∧
    (b 0 = 0x41 → 8 ≤ k.waits → ∃ t, exec (.frameCompleted g us f) s = .next t ∧
      EndsFailed t k.cell .transport .creditTimeout ∧ ended t) ∧
    (b 0 = 0x42 → ∃ t, exec (.frameCompleted g us f) s = .next t ∧
      EndsFailed t k.cell .transport .creditRefused ∧ ended t) := by
  intro k b quiet ended
  obtain ⟨u, taken, runs⟩ := frameRuns (us := us) agree empty id other others (.inl st)
  have ctx : u.ctx g x = k := taken.ctx x
  have ust : (u.ctx g x).st = .awaitCredit := by rw [ctx]; exact st
  have now : u.now = s.time.clock * 1000 + max s.time.us us.val := by rw [taken.whole]; rfl
  have clock : u.time.clock = s.time.clock := by rw [taken.whole]
  have active : u.ps.active = s.ps.active := by rw [taken.whole]
  have takes : ∀ n, n < 3 → b 0 = BitVec.ofNat 8 (0x40 + n) → u.takeFrame g x f = u.takeCredit g x f ∧ low4 f = n := fun n small first =>
    State.takeFrame_credit ust data full small first
  have nothing := taken.nothing empty
  refine ⟨fun first => ?_, fun first few => ?_, fun first many => ?_, fun first => ?_⟩
  · obtain ⟨does, low⟩ := takes 0 (by decide) first
    rw [does, u.takeCredit_proceed g x low] at runs
    have modified := ctxModified u g x (proceedCtx u.now f)
    generalize u.modCtx g x (proceedCtx u.now f) = v at *
    have entered := ctxEntered v g x .sending none
    generalize v.enterCtx g x .sending none = y at *
    obtain ⟨quiet, after⟩ := (modified.trans entered).closes taken settled (closes y)
    refine ⟨_, runs, quiet, ?_⟩
    rw [after, modified.ctx, ctx, now, proceedCtx, byteAt_below data (by omega), byteAt_below data (by omega)]
    rfl
  · obtain ⟨does, low⟩ := takes 1 (by decide) first
    rw [does, u.takeCredit_wait g x low, ctx, if_pos few, clock, active] at runs
    have modified := ctxModified u g x Ctx.waited
    generalize u.modCtx g x Ctx.waited = v at *
    have entered := ctxModified v g x fun k => { k with timer := some (s.time.clock + s.ps.active.segs[g].creditWait) }
    generalize (v.modCtx g x fun k => { k with timer := some (s.time.clock + s.ps.active.segs[g].creditWait) }) = y at *
    obtain ⟨quiet, after⟩ := (modified.trans entered).closes taken settled (closes y)
    refine ⟨_, runs, quiet, ?_⟩
    rw [after, modified.ctx, ctx]
    rfl
  · obtain ⟨does, low⟩ := takes 1 (by decide) first
    rw [does, u.takeCredit_wait g x low, ctx, if_neg (by omega)] at runs
    have modified := ctxModified u g x Ctx.waited
    rw [ctx] at modified
    generalize u.modCtx g x Ctx.waited = v at *
    have failed := exchangeFailed (x := v) (by unfold StartsNothing LanesEmpty; rw [modified.seg]; exact nothing)
      ((congrArg Ctx.role modified.ctx).trans role) ((congrArg Ctx.cell modified.ctx).trans rfl) .creditTimeout (4, k.lastPart)
    exact ⟨_, runs, failed.receives taken modified rfl settled (closes _)⟩
  · obtain ⟨does, low⟩ := takes 2 (by decide) first
    rw [does, u.takeCredit_refuse g x low, ctx] at runs
    have same : CtxMoved u u g x k := ⟨ctx, fun _ _ => rfl, rfl, fun _ _ => rfl, rfl, MemFrame.refl u _⟩
    have failed := exchangeFailed (x := u) nothing ((congrArg Ctx.role ctx).trans role) ((congrArg Ctx.cell ctx).trans rfl) .creditRefused (4, k.lastPart)
    exact ⟨_, runs, failed.receives taken same rfl settled (closes _)⟩

end Sys2Proof.Machine
end

section
/-! PROOFS. OPEN and PART frames for a lone context of an EXCHANGE (R73, R79, R81, R82, R84 to R86). -/

namespace Sys2Proof.Machine

variable {s t : State}

/-! ### The kind and the form of a frame (R72, R73) -/

section
variable {f : CanFrame} (data : f.remote = false) (some : 1 ≤ f.dlc.val)
include data some

theorem low4_eq : low4 f = (f.data.toList.getD 0 0).toNat % 16 := by
  unfold low4
  rw [byteAt_zero data some]

theorem kindCode_iff (k : FrameKind) : kindCode f = Option.some k ↔ (f.data.toList.getD 0 0).toNat / 16 = k.code := by
  unfold kindCode
  rw [byteAt_zero data some]
  generalize (f.data.toList.getD 0 0).toNat / 16 = n
  rcases (show n = 0 ∨ n = 1 ∨ n = 2 ∨ n = 3 ∨ n = 4 ∨ 5 ≤ n by omega) with rfl | rfl | rfl | rfl | rfl | many
  · cases k <;> decide
  · cases k <;> decide
  · cases k <;> decide
  · cases k <;> decide
  · cases k <;> decide
  · obtain ⟨m, rfl⟩ := Nat.exists_eq_add_of_le' many
    cases k <;> simp [FrameKind.code]

theorem kindCode_none : kindCode f = none ↔ (f.data.toList.getD 0 0).toNat / 16 = 0 ∨ 5 ≤ (f.data.toList.getD 0 0).toNat / 16 := by
  unfold kindCode
  rw [byteAt_zero data some]
  generalize (f.data.toList.getD 0 0).toNat / 16 = n
  rcases (show n = 0 ∨ n = 1 ∨ n = 2 ∨ n = 3 ∨ n = 4 ∨ 5 ≤ n by omega) with rfl | rfl | rfl | rfl | rfl | many
  · decide
  · decide
  · decide
  · decide
  · decide
  · obtain ⟨m, rfl⟩ := Nat.exists_eq_add_of_le' many
    simp

end

/-- A frame is malformed for a context that waits for `todo` more bytes. -/
theorem malformed_iff {f : CanFrame} (data : f.remote = false) (todo : Nat) :
    let b := fun (i : Nat) => f.data.toList.getD i 0
    let kind := (b 0).toNat / 16
    let low := (b 0).toNat % 16
    malformed f todo = true ↔ f.dlc.val = 0 ∨ kind = 0 ∨ 5 ≤ kind ∨ (kind = 1 ∧ (low = 0 ∨ f.dlc.val < low + 1)) ∨
        (kind = 2 ∧ (f.dlc.val < 8 ∨ low * 256 + (b 1).toNat < 8)) ∨ (kind = 3 ∧ (f.dlc.val < 3 ∨ f.dlc.val < 2 + min 6 todo)) ∨
        (kind = 4 ∧ (f.dlc.val < 3 ∨ 3 ≤ low)) := by
  intro b kind low
  have length := dataLen_eq data
  by_cases none : f.dlc.val = 0
  · have zero : byteAt f 0 = 0 := by
      unfold byteAt
      rw [if_neg]
      simp [none]
    have code : kindCode f = Option.none := by
      unfold kindCode
      rw [zero]
      rfl
    simp [malformed, code, none]
  · have some : 1 ≤ f.dlc.val := by omega
    have lows : low4 f = low := low4_eq data some
    have is : ∀ k : FrameKind, kindCode f = Option.some k ↔ kind = k.code := kindCode_iff data some
    unfold malformed
    rcases (show kind = 0 ∨ kind = 1 ∨ kind = 2 ∨ kind = 3 ∨ kind = 4 ∨ 5 ≤ kind by omega) with h | h | h | h | h | h
    · rw [(kindCode_none data some).2 (.inl h)]
      simp [h]
    · rw [(is .short).2 h]
      simp [h, length, lows, none]
    · rw [(is .opening).2 h]
      by_cases full : f.dlc.val < 8
      · simp [h, length, full]
      · have lengths : openLen f = low * 256 + (b 1).toNat := by
          rw [openLen, lows, byteAt_below data (by omega)]
        simp [h, length, lengths, none]
    · rw [(is .part).2 h]
      simp [h, length, none]
    · rw [(is .credit).2 h]
      simp [h, length, lows, none]
    · rw [(kindCode_none data some).2 (.inr h)]
      simp [h]

/-! ### OPEN (R79, R81, R84, R85) -/

/-- The first bytes of a response that is no hold are stored. -/
theorem firstStored {u : State} {g x : Fin 4} {kind : FrameKind} {len : Nat} {tag : Byte} {bs : List Byte} (role : (u.ctx g x).role = .exchange)
    (goes : classify (u.ctx g x).service len (bs.getD 0 0) (bs.getD 1 0) ≠ .hold)
    (high : (responseRef (u.cell (u.ctx g x).cell).captured).addr + (responseRef (u.cell (u.ctx g x).cell).captured).len ≤ 0x10000) :
    CtxStored u (u.takeFirst g x kind len tag bs) g x
      { firstCtx kind len tag bs (u.ctx g x) with
        truncated := (u.ctx g x).truncated || decide ((responseRef (u.cell (u.ctx g x).cell).captured).len < bs.length) }
      (responseRef (u.cell (u.ctx g x).cell).captured).addr (bs.take (responseRef (u.cell (u.ctx g x).cell).captured).len) := by
  have moved := ctxModified u g x (firstCtx kind len tag bs)
  have cells : ∀ d, (u.modCtx g x (firstCtx kind len tag bs)).cell d = u.cell d := fun _ => rfl
  have does : u.takeFirst g x kind len tag bs = (u.modCtx g x (firstCtx kind len tag bs)).storeResponse g x 0 bs := by
    have open_ : (firstCtx kind len tag bs (u.ctx g x)).form ≠ .hold := goes
    unfold State.takeFirst
    dsimp only
    rw [moved.ctx, if_neg open_, State.responseBegins, moved.ctx, if_neg]
    show (u.ctx g x).role ≠ .cycle
    rw [role]
    decide
  rw [does]
  generalize u.modCtx g x (firstCtx kind len tag bs) = v at *
  have cell : (v.ctx g x).cell = (u.ctx g x).cell := by rw [moved.ctx]; rfl
  have stored := responseStored (x := v) (g := g) (k := x) (pos := 0) (bs := bs) (.inl (by rw [moved.ctx]; exact role)) (by rw [cell, cells]; exact high)
  rw [cell, cells, moved.ctx, Nat.sub_zero, Nat.add_zero, Nat.zero_add] at stored
  exact moved.stored stored

theorem creditCalled (v : State) (g x : Fin 4) : CtxMoved v (v.callCredit g x) g x
    { v.ctx g x with granted := some 0, timer := none, ready := some { kind := .credit, since := v.now, spaced := false } } :=
  ctxModified v g x fun k => { k with granted := some 0, timer := none, ready := some { kind := .credit, since := v.now, spaced := false } }

/-- An OPEN of a response that is no hold. -/
theorem openTaken {g x : Fin 4} {us : Fin 1000} {f : CanFrame} (settled : Settled s) (agree : ErrorsAgree s) (empty : LanesEmpty s g)
    (data : f.remote = false) (id : f.id = (s.ctx g x).respId) (other : f.id ≠ s.ps.active.veh.canId) (role : (s.ctx g x).role = .exchange)
    (others : ∀ y, y ≠ x → (s.ctx g y).st = .free) (st : (s.ctx g x).st = .awaitResponse) (full : f.dlc.val = 8) :
    let k := s.ctx g x
    let b := fun (i : Nat) => f.data.toList.getD i 0
    let len := (b 0).toNat % 16 * 256 + (b 1).toNat
    let buffer := responseRef (s.cell k.cell).captured
    let form := if b 3 = 0xFE ∧ (b 4).toNat = k.service then Form.refusal
      else if (b 3).toNat = k.service + 0x80 then .positive else .other
    (b 0).toNat / 16 = 2 → 8 ≤ len → ¬(b 3 = 0xFD ∧ (b 4).toNat = k.service) → 0x8000 ≤ buffer.addr → buffer.addr + buffer.len ≤ 0x10000 →
    ∃ t, exec (.frameCompleted g us f) s = .next t ∧ ExchangeFrame s t g x ∧ (t.ctx g x).st = .receiving ∧ (t.ctx g x).timer = none ∧
      (t.ctx g x).form = form ∧ (t.ctx g x).expected = len ∧ (t.ctx g x).received = 5 ∧ (t.ctx g x).nextIn = 1 ∧
      (t.ctx g x).ecuTag = b 2 ∧ (t.ctx g x).truncated = (k.truncated || decide (buffer.len < 5)) ∧
      (t.ctx g x).ready = some ⟨.credit, s.time.clock * 1000 + max s.time.us us.val, false⟩ ∧
      t.mem.bytes buffer.addr (min 5 buffer.len) = ([b 3, b 4, b 5, b 6, b 7].take buffer.len) ∧
      t.board = s.board ∧ t.chans = s.chans ∧
      MemFrame s t fun a => Within (segBase g) 128 a ∨ Within buffer.addr (min 5 buffer.len) a := by
  intro k b len buffer form kind long goes low high
  obtain ⟨u, taken, runs⟩ := frameRuns (us := us) agree empty id other others (.inr (.inl st))
  have ctx : u.ctx g x = k := taken.ctx x
  have code : kindCode f = some .opening := (kindCode_iff data (by omega) .opening).2 kind
  have lengths : openLen f = len := by rw [openLen, low4_eq data (by omega), byteAt_below data (by omega)]
  have good : malformed f 0 = false := by
    unfold malformed
    rw [code]
    dsimp only
    rw [dataLen_eq data, lengths, full]
    simp
    omega
  have bytes : frameBytes f 3 5 = [b 3, b 4, b 5, b 6, b 7] := by
    have read : ∀ i, i < 8 → byteAt f i = b i := fun i below => byteAt_below data (by omega)
    simp only [frameBytes, List.range_succ, List.range_zero, List.nil_append, List.map_cons, List.map_nil, List.cons_append,
      read 3 (by decide), read (3 + 1) (by decide), read (3 + 2) (by decide), read (3 + 3) (by decide), read (3 + 4) (by decide)]
  have does : u.takeFrame g x f =
      ((u.takeFirst g x .opening len (b 2) [b 3, b 4, b 5, b 6, b 7]).callCredit g x).enterCtx g x .receiving none := by
    have tag : byteAt f 2 = b 2 := byteAt_below data (by omega)
    unfold State.takeFrame
    dsimp only
    rw [show (u.ctx g x).st = .awaitResponse by rw [ctx]; exact st]
    dsimp only
    rw [good, code, if_neg (by decide), bytes, lengths, tag]
  have is : classify k.service len (b 3) (b 4) = form := by
    unfold classify
    rw [if_neg]
    · refine if_congr ?_ rfl rfl
      constructor
      · exact fun ⟨first, second, _⟩ => ⟨first, second⟩
      · exact fun ⟨first, second⟩ => ⟨first, second, by omega⟩
    · rintro ⟨first, short | second⟩
      · omega
      · exact goes ⟨first, second⟩
  have notHold : form ≠ .hold := by
    show (if _ then _ else if _ then _ else _) ≠ Form.hold
    split_ifs <;> decide
  have cell : u.cell k.cell = s.cell k.cell := taken.cell k.cell
  have stored := firstStored (u := u) (g := g) (x := x) (kind := .opening) (len := len) (tag := b 2) (bs := [b 3, b 4, b 5, b 6, b 7])
    (by rw [ctx]; exact role) (by rw [ctx]; exact fun hold => notHold (is.symm.trans hold)) (by rw [ctx, cell]; exact high)
  rw [ctx, cell] at stored
  rw [does] at runs
  generalize u.takeFirst g x .opening len (b 2) [b 3, b 4, b 5, b 6, b 7] = v at *
  have called := creditCalled v g x
  have now : v.now = s.time.clock * 1000 + max s.time.us us.val := by
    rw [stored.whole, taken.whole]
    rfl
  rw [now, stored.ctx] at called
  generalize v.callCredit g x = w at *
  have entered := ctxEntered w g x .receiving none
  rw [called.ctx] at entered
  generalize w.enterCtx g x .receiving none = y at *
  obtain ⟨frame, after, board, chans, held, places⟩ := ((stored.moved (called.trans entered) (le_trans (by decide) low))).closes taken settled (closes y)
  have length : ([b 3, b 4, b 5, b 6, b 7].take buffer.len).length = min 5 buffer.len := by
    rw [List.length_take, Nat.min_comm]
    rfl
  rw [length] at held places
  refine ⟨_, runs, frame, by rw [after], by rw [after], ?_, by rw [after]; rfl, by rw [after]; rfl, by rw [after]; rfl, by rw [after]; rfl, by rw [after]; rfl,
    by rw [after], held, board, chans, places⟩
  rw [after]
  exact is

end Sys2Proof.Machine
end

section
/-! PROOFS. A frame for a lone context of an EXCHANGE that is receiving its response (R73, R81, R82, R84 to R86). -/

namespace Sys2Proof.Machine

variable {s t : State}

/-- A context that has taken a PART with `n` bytes (R82). -/
def Ctx.partTaken (clock partWait n : Nat) (last : Nat × Nat) (k : Ctx) : Ctx :=
  { k with received := k.received + n, nextIn := k.nextIn + 1, granted := k.granted.map (· - 1), timer := some (clock + partWait), last := last }

/-- A PART that passes the checks, for a response that is no hold: its bytes are stored and the context has counted it. -/
theorem partStored {u : State} {g x : Fin 4} {f : CanFrame} (role : (u.ctx g x).role = .exchange) (goes : (u.ctx g x).form ≠ .hold)
    (high : (responseRef (u.cell (u.ctx g x).cell).captured).addr + (responseRef (u.cell (u.ctx g x).cell).captured).len ≤ 0x10000)
    (low : 0x1480 ≤ (responseRef (u.cell (u.ctx g x).cell).captured).addr) {bs : List Byte}
    (bytes : frameBytes f 2 (min 6 ((u.ctx g x).expected - (u.ctx g x).received)) = bs) :
    ∃ v, CtxStored u v g x
        { (u.ctx g x).partTaken u.time.clock u.ps.active.segs[g].partWait bs.length (frameDetail f) with
          truncated := (u.ctx g x).truncated || decide ((responseRef (u.cell (u.ctx g x).cell).captured).len < (u.ctx g x).received + bs.length) }
        ((responseRef (u.cell (u.ctx g x).cell).captured).addr + (u.ctx g x).received)
        (bs.take ((responseRef (u.cell (u.ctx g x).cell).captured).len - (u.ctx g x).received)) ∧
      u.takePart g x f = if (v.ctx g x).expected ≤ (v.ctx g x).received then v.messageDone g x
        else if (v.ctx g x).granted = some 0 then v.callCredit g x else v := by
  have stored := responseStored (x := u) (g := g) (k := x) (pos := (u.ctx g x).received) (bs := bs) (.inl role) high
  obtain ⟨w, hw⟩ : ∃ w, w = u.storeResponse g x (u.ctx g x).received bs := ⟨_, rfl⟩
  rw [← hw] at stored
  refine ⟨w.modCtx g x (Ctx.partTaken w.time.clock w.ps.active.segs[g].partWait bs.length (frameDetail f)), ?_, ?_⟩
  · have modified := ctxModified w g x (Ctx.partTaken w.time.clock w.ps.active.segs[g].partWait bs.length (frameDetail f))
    have clock : w.time.clock = u.time.clock := by rw [stored.whole]
    have ps : w.ps = u.ps := by rw [stored.whole]
    rw [clock, ps] at modified ⊢
    rw [stored.ctx] at modified
    exact stored.moved modified (by omega)
  · unfold State.takePart
    dsimp only
    rw [if_neg goes, bytes, ← hw]
    rfl

/-- A response whose last byte has come ends its exchange. -/
theorem State.messageDone_response {v : State} {g x : Fin 4} (goes : (v.ctx g x).form ≠ .hold) :
    v.messageDone g x = v.endExchange g x (.response (v.ctx g x).form) (v.ctx g x).last.1 (v.ctx g x).last.2 := if_neg goes

theorem partInOrder_iff {f : CanFrame} (data : f.remote = false) (k : Ctx) (some : 2 ≤ f.dlc.val) :
    partInOrder k f = true ↔ (f.data.toList.getD 0 0).toNat / 16 = 3 ∧ k.granted ≠ Option.some 0 ∧
      (f.data.toList.getD 0 0).toNat % 16 = k.ecuTag.toNat % 16 ∧ f.data.toList.getD 1 0 = k.nextIn := by
  unfold partInOrder
  rw [low4_eq data (by omega), byteAt_below data (by omega)]
  simp only [Bool.and_eq_true, beq_iff_eq, bne_iff_ne, kindCode_iff data (by omega : 1 ≤ f.dlc.val), and_assoc]
  rfl

/-- A frame for a context that is receiving a response that is no hold. -/
theorem receivingTaken {g x : Fin 4} {us : Fin 1000} {f : CanFrame} (settled : Settled s) (agree : ErrorsAgree s) (empty : LanesEmpty s g)
    (data : f.remote = false) (id : f.id = (s.ctx g x).respId) (other : f.id ≠ s.ps.active.veh.canId) (role : (s.ctx g x).role = .exchange)
    (others : ∀ y, y ≠ x → (s.ctx g y).st = .free) (st : (s.ctx g x).st = .receiving) (goes : (s.ctx g x).form ≠ .hold) :
    let k := s.ctx g x
    let b := fun (i : Nat) => f.data.toList.getD i 0
    let ended := fun (t : State) => ExchangeFrame s t g x ∧ (t.ctx g x).st = .free ∧ MemFrame s t fun a => EndPlaces k.cell a ∨
      Within (segBase g) 128 a ∨ ∃ ch, channelNamed (s.cell k.cell).captured = some ch ∧ Within (chanBase ch) 32 a
    let todo := k.expected - k.received
    let n := min 6 todo
    let kind := (b 0).toNat / 16
    let low := (b 0).toNat % 16
    let badForm := f.dlc.val = 0 ∨ kind = 0 ∨ 5 ≤ kind ∨ (kind = 1 ∧ (low = 0 ∨ f.dlc.val < low + 1)) ∨
      (kind = 2 ∧ (f.dlc.val < 8 ∨ low * 256 + (b 1).toNat < 8)) ∨ (kind = 3 ∧ (f.dlc.val < 3 ∨ f.dlc.val < 2 + n)) ∨
      (kind = 4 ∧ (f.dlc.val < 3 ∨ 3 ≤ low))
    let inOrder := kind = 3 ∧ k.granted ≠ some 0 ∧ low = k.ecuTag.toNat % 16 ∧ b 1 = k.nextIn
    let buffer := responseRef (s.cell k.cell).captured
    let held := min n (buffer.len - k.received)
    (badForm → ∃ t, exec (.frameCompleted g us f) s = .next t ∧ EndsFailed t k.cell .transport .frameError ∧ ended t) ∧
    (¬badForm → ¬inOrder →
      ∃ t, exec (.frameCompleted g us f) s = .next t ∧ EndsFailed t k.cell .transport .sequenceError ∧ ended t) ∧
    (¬badForm → inOrder → 0x8000 ≤ buffer.addr → buffer.addr + buffer.len ≤ 0x10000 →
      ∃ t, exec (.frameCompleted g us f) s = .next t ∧ ExchangeFrame s t g x ∧
        t.mem.bytes (buffer.addr + k.received) held = (f.data.toList.drop 2).take held ∧
        (k.received + n < k.expected → (t.ctx g x).st = .receiving ∧ (t.ctx g x).received = k.received + n ∧
          (t.ctx g x).nextIn = k.nextIn + 1 ∧ (t.ctx g x).truncated = (k.truncated || decide (buffer.len < k.received + n)) ∧
          (if k.granted = some 1 then
              (t.ctx g x).ready = some ⟨.credit, s.time.clock * 1000 + max s.time.us us.val, false⟩ ∧ (t.ctx g x).timer = none
            else (t.ctx g x).ready = k.ready ∧ (t.ctx g x).granted = k.granted.map (· - 1) ∧
              (t.ctx g x).timer = some (s.time.clock + s.ps.active.segs[g].partWait)) ∧
          t.board = s.board ∧ t.chans = s.chans ∧
          MemFrame s t fun a => Within (segBase g) 128 a ∨ Within (buffer.addr + k.received) held a) ∧
        (k.expected ≤ k.received + n → (t.ctx g x).st = .free ∧ EndsDone t k.cell ∧
          t.mem.bytes (cellBase k.cell + 66) 2 = le16 k.expected ∧
          MemFrame s t fun a => EndPlaces k.cell a ∨ Within (segBase g) 128 a ∨
            Within (buffer.addr + k.received) held a ∨
            ∃ ch, channelNamed (s.cell k.cell).captured = some ch ∧ Within (chanBase ch) 32 a)) := by
  intro k b ended todo n kind low badForm inOrder buffer held
  obtain ⟨u, taken, runs⟩ := frameRuns (us := us) agree empty id other others (.inr (.inr st))
  have ctx : u.ctx g x = k := taken.ctx x
  have nothing := taken.nothing empty
  have bad : malformed f todo = true ↔ badForm := malformed_iff data todo
  have same : CtxMoved u u g x k := ⟨ctx, fun _ _ => rfl, rfl, fun _ _ => rfl, rfl, MemFrame.refl u _⟩
  have fails : ∀ reason d, ExchangeFailed u (u.failExchange g x reason d.1 d.2) g x k.cell reason d := fun reason d =>
    exchangeFailed (x := u) nothing ((congrArg Ctx.role ctx).trans role) (congrArg Ctx.cell ctx) reason d
  have does : u.takeFrame g x f = if malformed f todo then u.failExchange g x .frameError (frameDetail f).1 (frameDetail f).2
      else if partInOrder k f then u.takePart g x f else u.failExchange g x .sequenceError (frameDetail f).1 (frameDetail f).2 := by
    unfold State.takeFrame
    dsimp only
    rw [show (u.ctx g x).st = .receiving by rw [ctx]; exact st]
    dsimp only
    rw [ctx]
  rw [does] at runs
  refine ⟨fun form => ?_, fun form order => ?_, fun form order address fits => ?_⟩
  · rw [if_pos (bad.2 form)] at runs
    exact ⟨_, runs, (fails _ _).receives taken same rfl settled (closes _)⟩
  · have none : partInOrder k f = false := by
      rw [← Bool.not_eq_true]
      intro yes
      by_cases short : f.dlc.val < 2
      · have code : kindCode f = some .part := by
          unfold partInOrder at yes
          simp only [Bool.and_eq_true, beq_iff_eq] at yes
          exact yes.1.1.1
        refine form (bad.1 ?_)
        unfold malformed
        rw [code]
        dsimp only
        rw [dataLen_eq data]
        simp
        omega
      · exact order ((partInOrder_iff data k (by omega)).1 yes)
    rw [if_neg fun yes => form (bad.1 yes), none, if_neg (by decide)] at runs
    exact ⟨_, runs, (fails _ _).receives taken same rfl settled (closes _)⟩
  · have three : f.dlc.val ≠ 0 ∧ ¬ (f.dlc.val < 3 ∨ f.dlc.val < 2 + n) :=
      ⟨fun zero => form (.inl zero), fun short => form (.inr (.inr (.inr (.inr (.inr (.inl ⟨order.1, short⟩))))))⟩
    have long : 3 ≤ f.dlc.val ∧ 2 + n ≤ f.dlc.val := by omega
    rw [if_neg fun yes => form (bad.1 yes), (partInOrder_iff data k (by omega)).2 order, if_pos rfl] at runs
    have cell : u.cell k.cell = s.cell k.cell := taken.cell k.cell
    have bytes : frameBytes f 2 n = (f.data.toList.drop 2).take n := frameBytes_eq data long.2
    have count : ((f.data.toList.drop 2).take n).length = n := by
      rw [List.length_take, List.length_drop]
      simp only [Vector.length_toList]
      omega
    obtain ⟨v, stored, acts⟩ := partStored (u := u) (g := g) (x := x) (f := f) (bs := (f.data.toList.drop 2).take n) (by rw [ctx]; exact role)
      (by rw [ctx]; exact goes) (by rw [ctx, cell]; exact fits) (by rw [ctx, cell]; exact le_trans (by decide) address) (by rw [ctx]; exact bytes)
    have clock : u.time.clock = s.time.clock := by rw [taken.whole]
    have ps : u.ps = s.ps := by rw [taken.whole]
    have stores : ((f.data.toList.drop 2).take n).take (buffer.len - k.received) = (f.data.toList.drop 2).take held := by
      rw [List.take_take, Nat.min_comm]
    have size : ((f.data.toList.drop 2).take held).length = held := by
      rw [← stores, List.length_take, count, Nat.min_comm]
    rw [ctx, cell, clock, ps, count] at stored
    rw [show responseRef (s.cell k.cell).captured = buffer from rfl, stores] at stored
    rw [acts] at runs
    clear acts
    have expected : (v.ctx g x).expected = k.expected := by rw [stored.ctx]; rfl
    have received : (v.ctx g x).received = k.received + n := by rw [stored.ctx]; rfl
    have granted : (v.ctx g x).granted = k.granted.map (· - 1) := by rw [stored.ctx]; rfl
    have spent : k.granted.map (· - 1) = some 0 ↔ k.granted = some 1 := by
      have left := order.2.1
      cases h : k.granted with
      | none => simp
      | some m =>
        rw [h] at left
        simp only [Option.map_some, Option.some.injEq, ne_eq] at left ⊢
        omega
    have place : 0x1480 ≤ buffer.addr + k.received := le_trans (le_trans (by decide) address) (Nat.le_add_right _ _)
    rw [expected, received, granted] at runs
    by_cases more : k.received + n < k.expected
    · rw [if_neg (by omega)] at runs
      by_cases last : k.granted = some 1
      · rw [if_pos (spent.2 last)] at runs
        have called := creditCalled v g x
        have now : v.now = s.time.clock * 1000 + max s.time.us us.val := by
          rw [stored.whole, taken.whole]
          rfl
        rw [now, stored.ctx] at called
        generalize v.callCredit g x = y at *
        obtain ⟨frame, after, board, chans, shown, places⟩ := (stored.moved called place).closes taken settled (closes y)
        rw [size] at shown places
        refine ⟨_, runs, frame, shown, fun _ => ⟨by rw [after]; exact st, by rw [after]; rfl, by rw [after]; rfl, by rw [after], ?_, board, chans, places⟩,
          fun whole => absurd more (by omega)⟩
        rw [if_pos last, after]
        exact ⟨rfl, rfl⟩
      · rw [if_neg fun yes => last (spent.1 yes)] at runs
        obtain ⟨frame, after, board, chans, shown, places⟩ := stored.closes taken settled (closes v)
        rw [size] at shown places
        refine ⟨_, runs, frame, shown, fun _ => ⟨by rw [after]; exact st, by rw [after]; rfl, by rw [after]; rfl, by rw [after], ?_, board, chans, places⟩,
          fun whole => absurd more (by omega)⟩
        rw [if_neg last, after]
        exact ⟨rfl, rfl, rfl⟩
    · rw [if_pos (by omega), State.messageDone_response (by rw [stored.ctx]; exact goes)] at runs
      have responded := exchangeResponded (x := v) (g := g) (k := x) (c := k.cell) (by unfold StartsNothing LanesEmpty; rw [stored.seg]; exact nothing)
        (by rw [stored.ctx]; exact role) (by rw [stored.ctx]; rfl) (v.ctx g x).form (v.ctx g x).last
      obtain ⟨frame, free, done, shown, length, places⟩ := responded.receives taken stored place rfl settled (closes _)
      rw [size] at shown places
      refine ⟨_, runs, frame, shown, fun less => absurd less more, fun _ => ⟨free, done, ?_, places⟩⟩
      rw [length, State.responded, expected]

/-- Settles O52: a CREDIT, an OPEN or a PART moves its lone context on, or ends its EXCHANGE cell. -/
theorem creditAndOpen : Obligations.CreditAndOpen := by
  unfold Obligations.CreditAndOpen
  intro g x us f s settled agree empty q k at_ b frame quiet ended data id other role others
  refine ⟨fun st full => creditTaken settled agree empty data id other role others st full, fun st full kind => ?_, fun st goes =>
    receivingTaken settled agree empty data id other role others st goes⟩
  intro len buffer form long goes low high
  exact openTaken settled agree empty data id other role others st full kind long goes low high

end Sys2Proof.Machine
end

section
/-! PROOFS. A SHORT response of an EXCHANGE, and hold replies (R79, R80, R84 to R86). -/

namespace Sys2Proof.Machine

variable {s t : State}

/-! ### A SHORT frame (R73, R79) -/

/-- The form of a SHORT message of `n` bytes, as its frame's bytes give it (R84). -/
def shortForm (service n : Nat) (b : Nat → Byte) : Form :=
  if b 1 = 0xFD ∧ (n = 1 ∨ (b 2).toNat = service) then .hold
  else if b 1 = 0xFE ∧ (b 2).toNat = service ∧ 3 ≤ n then .refusal
  else if (b 1).toNat = service + 0x80 then .positive
  else .other

/-- The bytes of a SHORT message. -/
abbrev shortBytes (f : CanFrame) (n : Nat) : List Byte := (f.data.toList.drop 1).take n

theorem shortBytes_getD (f : CanFrame) {n i : Nat} (inside : i < n) : (shortBytes f n).getD i 0 = f.data.toList.getD (i + 1) 0 := by
  rw [List.getD_eq_getElem?_getD, List.getElem?_take_of_lt inside, List.getElem?_drop, Nat.add_comm, ← List.getD_eq_getElem?_getD]

theorem shortBytes_length (f : CanFrame) {n : Nat} (fits : n + 1 ≤ f.dlc.val) : (shortBytes f n).length = n := by
  have dlc : f.dlc.val ≤ 8 := by omega
  rw [List.length_take, List.length_drop, Vector.length_toList]
  omega

theorem classify_short (f : CanFrame) {service n : Nat} (some : 1 ≤ n) :
    classify service n ((shortBytes f n).getD 0 0) ((shortBytes f n).getD 1 0) = shortForm service n fun i => f.data.toList.getD i 0 := by
  unfold classify shortForm
  rw [shortBytes_getD f (by omega : 0 < n)]
  by_cases one : n = 1
  · simp [one]
  · rw [shortBytes_getD f (by omega : 1 < n)]

/-- The response fields that a SHORT frame sets. -/
theorem firstCtx_short (f : CanFrame) {n : Nat} (some : 1 ≤ n) (fits : n + 1 ≤ f.dlc.val) (k : Ctx) :
    firstCtx .short n 0 (shortBytes f n) k = { k with
      form := shortForm k.service n fun i => f.data.toList.getD i 0, expected := n, received := n, nextIn := 1, ecuTag := 0, firstKind := .short
      refusal := if (shortForm k.service n fun i => f.data.toList.getD i 0) = .refusal then ((shortBytes f n).getD 2 0).toNat else 0
      holdExt := holdExtension n ((shortBytes f n).getD 2 0), last := (1, 0) } := by
  unfold firstCtx
  rw [classify_short f some, shortBytes_length f fits]
  rfl

/-- A whole SHORT frame for a lone context that awaits a response. -/
theorem shortRuns {g x : Fin 4} {us : Fin 1000} {f : CanFrame} (agree : ErrorsAgree s) (empty : LanesEmpty s g) (data : f.remote = false)
    (id : f.id = (s.ctx g x).respId) (other : f.id ≠ s.ps.active.veh.canId) (others : ∀ y, y ≠ x → (s.ctx g y).st = .free)
    (st : (s.ctx g x).st = .awaitResponse) {n : Nat} (low : (f.data.toList.getD 0 0).toNat % 16 = n)
    (kind : (f.data.toList.getD 0 0).toNat / 16 = 1) (some : 1 ≤ n) (fits : n + 1 ≤ f.dlc.val) :
    ∃ u, FrameTaken s u g us f ∧
      exec (.frameCompleted g us f) s = .next ((u.takeFirst g x .short n 0 (shortBytes f n)).messageDone g x).finish := by
  obtain ⟨u, taken, runs⟩ := frameRuns (us := us) agree empty id other others (.inr (.inl st))
  have code : kindCode f = Option.some .short := (kindCode_iff data (by omega) .short).2 kind
  have good : malformed f 0 = false := by
    rw [← Bool.not_eq_true]
    intro bad
    have cases := (malformed_iff data 0).1 bad
    dsimp only at cases
    omega
  have lows : low4 f = n := (low4_eq data (by omega)).trans low
  have does : u.takeFrame g x f = (u.takeFirst g x .short n 0 (shortBytes f n)).messageDone g x := by
    unfold State.takeFrame
    dsimp only
    rw [show (u.ctx g x).st = .awaitResponse by rw [taken.ctx]; exact st]
    dsimp only
    rw [good, code, lows, if_neg (by decide), frameBytes_eq data (by omega)]
  rw [does] at runs
  exact ⟨u, taken, runs⟩

/-! ### A response (R84 to R86) -/

/-- What the end of an EXCHANGE with its response leaves, besides what `ExchangeResponded.receives` says. -/
theorem ExchangeResponded.counts {u v y : State} {g x : Fin 4} {us : Fin 1000} {f : CanFrame} {k : Ctx} {c : Fin 32} {e : CellEnd} {a : Nat} {bs : List Byte}
    (responded : ExchangeResponded v y g x c e) (taken : FrameTaken s u g us f) (stored : CtxStored u v g x k a bs) (settled : Settled s)
    (target : k.target = (s.ctx g x).target) (closed : Closes y t) :
    t.ctx g x = Ctx.free ∧ (t.seg g).received = (s.seg g).received + 1 ∧ (t.seg g).busy = (s.seg g).busy.filter (· != (s.ctx g x).target) ∧
      OnlyCellState s t c ∧ t.mem.read (cellBase c + 65) = byte e.flags ∧
      ∀ ch, channelNamed (s.cell c).captured = some ch → ∀ f ∈ e.conditions, ∀ i, f.bit.getLsbD i = true → (t.chan ch).accrued.getLsbD i = true := by
  have vwhole : v = { s with segs := v.segs, time := { s.time with us := max s.time.us us.val }, regs := v.regs, mem := v.mem } := by
    rw [stored.whole, taken.whole]
  have vcell : ∀ d, v.cell d = s.cell d := fun d => by rw [vwhole]; rfl
  obtain ⟨mem, -⟩ := closed.clean (by rw [responded.whole, vwhole]; exact settled.1)
  refine ⟨by rw [closed.ctx, responded.ctx], ?_, ?_, (closed.onlyCell responded.cells).of_board (by rw [vwhole]), by rw [mem, responded.flags],
    fun ch named cond mem i bit => ?_⟩
  · rw [closed.seg, responded.seg, stored.seg, taken.seg]
  · rw [closed.seg, responded.seg, stored.ctx, target, stored.seg, taken.seg]
  · rw [closed.chan]
    exact responded.accrued ch (by rw [vcell]; exact named) cond mem i bit

/-- A SHORT response of an EXCHANGE. -/
theorem shortResponded {g x : Fin 4} {us : Fin 1000} {f : CanFrame} (settled : Settled s) (agree : ErrorsAgree s) (empty : LanesEmpty s g)
    (data : f.remote = false) (id : f.id = (s.ctx g x).respId) (other : f.id ≠ s.ps.active.veh.canId) (role : (s.ctx g x).role = .exchange)
    (st : (s.ctx g x).st = .awaitResponse) (others : ∀ y, y ≠ x → (s.ctx g y).st = .free) :
    let k := s.ctx g x
    let c := k.cell
    let b := fun (i : Nat) => f.data.toList.getD i 0
    let n := (b 0).toNat % 16
    let buffer := responseRef (s.cell c).captured
    let m := min n buffer.len
    let hold := b 1 = 0xFD ∧ (n = 1 ∨ (b 2).toNat = k.service)
    let refusal := b 1 = 0xFE ∧ (b 2).toNat = k.service ∧ 3 ≤ n
    (b 0).toNat / 16 = 1 → 1 ≤ n → n + 1 ≤ f.dlc.val → 0x8000 ≤ buffer.addr → buffer.addr + buffer.len ≤ 0x10000 →
    ¬hold → ∃ t, exec (.frameCompleted g us f) s = .next t ∧ EndsDone t c ∧
      t.mem.bytes buffer.addr m = ((f.data.toList.drop 1).take m) ∧ t.mem.bytes (cellBase c + 66) 2 = le16 n ∧
      t.mem.read (cellBase c + 65) = byte (flagBit (k.truncated || decide (buffer.len < n)) 0 +
        flagBit (s.cell c).abortPending 1 + flagBit (decide refusal) 3) ∧
      (∀ ch, channelNamed (s.cell c).captured = some ch → refusal → (t.chan ch).accrued.getLsbD 3 = true) ∧
      (∀ ch, channelNamed (s.cell c).captured ≠ some ch → t.chan ch = s.chan ch) ∧
      t.ctx g x = Ctx.free ∧ (∀ y, y ≠ x → t.ctx g y = s.ctx g y) ∧ (∀ h, h ≠ g → t.seg h = s.seg h) ∧
      (t.seg g).received = (s.seg g).received + 1 ∧ (t.seg g).busy = (s.seg g).busy.filter (· != k.target) ∧
      OnlyCellState s t c ∧
      t = { s with board := t.board, regs := t.regs, mem := t.mem, chans := t.chans, segs := t.segs, time := t.time } ∧
      MemFrame s t fun a => EndPlaces c a ∨ Within (segBase g) 128 a ∨ Within buffer.addr m a ∨
        ∃ ch, channelNamed (s.cell c).captured = some ch ∧ Within (chanBase ch) 32 a := by
  intro k c b n buffer m hold refusal kind some fits low high goes
  obtain ⟨u, taken, runs⟩ := shortRuns (us := us) (n := n) agree empty data id other others st rfl kind some fits
  have ctx : u.ctx g x = k := taken.ctx x
  have cell : u.cell c = s.cell c := taken.cell c
  have is : classify k.service n ((shortBytes f n).getD 0 0) ((shortBytes f n).getD 1 0) = shortForm k.service n b := classify_short f some
  have notHold : shortForm k.service n b ≠ .hold := by
    unfold shortForm
    rw [if_neg goes]
    split_ifs <;> decide
  have refused : (shortForm k.service n b == .refusal) = decide refusal := by
    unfold shortForm
    rw [if_neg goes]
    by_cases yes : refusal
    · rw [if_pos yes, decide_eq_true yes]
      rfl
    · rw [if_neg yes, decide_eq_false yes]
      split_ifs <;> rfl
  have stored := firstStored (u := u) (g := g) (x := x) (kind := .short) (len := n) (tag := 0) (bs := shortBytes f n) (by rw [ctx]; exact role)
    (by rw [ctx, is]; exact notHold) (by rw [ctx, cell]; exact high)
  rw [ctx, cell, firstCtx_short f some fits, shortBytes_length f fits] at stored
  have bytes : (shortBytes f n).take buffer.len = (f.data.toList.drop 1).take m := by rw [shortBytes, List.take_take, Nat.min_comm]
  have size : ((f.data.toList.drop 1).take m).length = m := by
    rw [← bytes, List.length_take, shortBytes_length f fits, Nat.min_comm]
  rw [show responseRef (s.cell c).captured = buffer from rfl, bytes] at stored
  generalize u.takeFirst g x .short n 0 (shortBytes f n) = v at *
  rw [State.messageDone_response (by rw [stored.ctx]; exact notHold)] at runs
  have responded := exchangeResponded (x := v) (g := g) (k := x) (c := c) (by unfold StartsNothing LanesEmpty; rw [stored.seg]; exact taken.nothing empty)
    (by rw [stored.ctx]; exact role) (by rw [stored.ctx]) (v.ctx g x).form (v.ctx g x).last
  have ends : v.responded g x (v.ctx g x).form = { CellEnd.done [] with
      truncated := k.truncated || decide (buffer.len < n), abortTooLate := (s.cell c).abortPending, refused := decide refusal, respLen := n } := by
    have vcell : v.cell c = s.cell c := by rw [stored.whole]; exact cell
    unfold State.responded
    rw [stored.ctx]
    dsimp only
    rw [refused]
    exact congrArg (fun q : Cell => { CellEnd.done [] with
      truncated := k.truncated || decide (buffer.len < n), abortTooLate := q.abortPending, refused := decide refusal, respLen := n }) vcell
  rw [ends] at responded
  generalize he : ({ CellEnd.done [] with
      truncated := k.truncated || decide (buffer.len < n), abortTooLate := (s.cell c).abortPending, refused := decide refusal, respLen := n } : CellEnd) = e at *
  have flags : e.flags = flagBit (k.truncated || decide (buffer.len < n)) 0 + flagBit (s.cell c).abortPending 1 + flagBit (decide refusal) 3 := by
    rw [← he]
    rfl
  have length : e.respLen = n := by rw [← he]
  have ecu : refusal → Flag.ecuRefused ∈ e.conditions := fun yes => by
    rw [← he, decide_eq_true yes]
    simp [CellEnd.conditions]
  clear he
  generalize v.endExchange g x (.response (v.ctx g x).form) (v.ctx g x).last.1 (v.ctx g x).last.2 = y at *
  have closed := closes y
  generalize y.finish = t at *
  obtain ⟨⟨ctxs, segs, -, -, -, chans, whole⟩, -, done, shown, lengths, places⟩ :=
    responded.receives taken stored (le_trans (by decide) low) rfl settled closed
  obtain ⟨free, received, busy, cells, flagged, accrued⟩ := responded.counts taken stored settled rfl closed
  rw [size] at shown places
  rw [length] at lengths
  rw [flags] at flagged
  exact ⟨t, runs, done, shown, lengths, flagged, fun ch named yes => accrued ch named .ecuRefused (ecu yes) 3 rfl, chans, free, ctxs, segs, received, busy,
    cells, whole, places⟩

end Sys2Proof.Machine
end

section
/-! PROOFS. Hold replies (R80): the wait begins afresh, or the exchange fails with HOLD_LIMIT. -/

namespace Sys2Proof.Machine

variable {s t : State}

/-- A context that has taken one more hold reply, of `n` bytes with third byte `b`. -/
def Ctx.held (n : Nat) (b : Byte) (k : Ctx) : Ctx :=
  { k with
    form := .hold, expected := n, received := n, nextIn := 1, ecuTag := 0, firstKind := .short, refusal := 0, holdExt := holdExtension n b
    last := (1, 0), holds := k.holds + 1 }

/-- A whole hold reply. -/
theorem holdRuns {g x : Fin 4} {us : Fin 1000} {f : CanFrame} (agree : ErrorsAgree s) (empty : LanesEmpty s g) (data : f.remote = false)
    (id : f.id = (s.ctx g x).respId) (other : f.id ≠ s.ps.active.veh.canId) (others : ∀ y, y ≠ x → (s.ctx g y).st = .free)
    (st : (s.ctx g x).st = .awaitResponse) {n : Nat} (low : (f.data.toList.getD 0 0).toNat % 16 = n)
    (kind : (f.data.toList.getD 0 0).toNat / 16 = 1) (some : 1 ≤ n) (fits : n + 1 ≤ f.dlc.val)
    (hold : f.data.toList.getD 1 0 = 0xFD ∧ (n = 1 ∨ (f.data.toList.getD 2 0).toNat = (s.ctx g x).service)) :
    ∃ u z, FrameTaken s u g us f ∧ CtxMoved u z g x ((s.ctx g x).held n ((shortBytes f n).getD 2 0)) ∧
      exec (.frameCompleted g us f) s = .next (if 16 < (s.ctx g x).holds + 1 then z.failExchange g x .holdLimit 1 0
        else z.modCtx g x fun k => { k with timer := z.timerIn (k.holdExt * 100) }).finish := by
  obtain ⟨u, taken, runs⟩ := shortRuns (us := us) agree empty data id other others st low kind some fits
  have ctx : u.ctx g x = s.ctx g x := taken.ctx x
  have form : (shortForm (s.ctx g x).service n fun i => f.data.toList.getD i 0) = .hold := if_pos hold
  have first := ctxModified u g x (firstCtx .short n 0 (shortBytes f n))
  rw [ctx, firstCtx_short f some fits, form, if_neg (by decide)] at first
  have does : u.takeFirst g x .short n 0 (shortBytes f n) = u.modCtx g x (firstCtx .short n 0 (shortBytes f n)) := by
    unfold State.takeFirst
    dsimp only
    rw [if_pos]
    rw [first.ctx]
  rw [does] at runs
  clear does
  generalize u.modCtx g x (firstCtx .short n 0 (shortBytes f n)) = v at *
  have second := ctxModified v g x fun k => { k with holds := k.holds + 1 }
  rw [first.ctx] at second
  have acts : v.messageDone g x = if 16 < (s.ctx g x).holds + 1
      then (v.modCtx g x fun k => { k with holds := k.holds + 1 }).failExchange g x .holdLimit 1 0
      else (v.modCtx g x fun k => { k with holds := k.holds + 1 }).modCtx g x fun k =>
        { k with timer := (v.modCtx g x fun k => { k with holds := k.holds + 1 }).timerIn (k.holdExt * 100) } := by
    unfold State.messageDone State.holdTaken
    dsimp only
    rw [if_pos (by rw [first.ctx]), second.ctx, if_pos (show ((s.ctx g x).st = .awaitResponse) from st)]
    rfl
  rw [acts] at runs
  exact ⟨u, _, taken, first.trans second, runs⟩

/-- The extension that a hold reply asks for. -/
theorem holdExtension_short (f : CanFrame) (n : Nat) : holdExtension n ((shortBytes f n).getD 2 0) =
    if n < 3 ∨ f.data.toList.getD 3 0 = 0 then 1 else min (f.data.toList.getD 3 0).toNat 50 := by
  unfold holdExtension
  by_cases short : n < 3
  · rw [if_pos short, if_pos (.inl short)]
  · rw [if_neg short, shortBytes_getD f (by omega)]
    simp [short]

/-- What a reception that ends the exchange of context `x` leaves of its segment, the others and the board. -/
theorem ContextFailed.receives {u z y : State} {g x : Fin 4} {us : Fin 1000} {f : CanFrame} {k : Ctx} {c : Fin 32} (failed : ContextFailed z y g x c)
    (taken : FrameTaken s u g us f) (moved : CtxMoved u z g x k) (closed : Closes y t) :
    t.ctx g x = Ctx.free ∧ ((∀ j, j ≠ x → t.ctx g j = s.ctx g j) ∧ (∀ h, h ≠ g → t.seg h = s.seg h) ∧
      (t.seg g).received = (s.seg g).received + 1) ∧ OnlyCellState s t c ∧ MemFrame s t (TransferPlaces c) := by
  obtain ⟨ctx, ctxs, seg, segs, cells, -, -, frame⟩ := failed.closes closed
  have first : MemFrame s z (Within (segBase g) 128) := taken.frame.trans moved.frame
  refine ⟨ctx, ⟨fun j ne => by rw [ctxs j ne, moved.ctxs j ne, taken.ctx], fun h ne => by rw [segs h ne, moved.segs h ne, taken.segs h ne], ?_⟩,
    cells.of_board (by rw [moved.whole, taken.whole]), first.of_seg.trans frame⟩
  rw [seg, moved.seg, taken.seg]

section
variable {s z t : State} {g x : Fin 4} {c : Fin 32} {reason : Reason} {d : Nat × Nat} {n : Nat} {b : Byte}
  (whole : z = { s with segs := z.segs, mem := z.mem, regs := z.regs, time := { s.time with us := z.time.us } })
  (ctx : z.ctx g x = (s.ctx g x).held n b)
include whole

theorem ExchangeFails.before (fails : ExchangeFails z t g x c reason d) : ExchangeFails s t g x c reason d := by
  have cell : z.cell c = s.cell c := by rw [whole]; rfl
  obtain ⟨ends, detail, only, chan⟩ := fails
  rw [cell] at only chan
  exact ⟨ends, detail, only, chan⟩

include ctx

theorem TransferExchangeFails.before {r : Transfer} (fails : TransferExchangeFails z t g x c r reason d) : TransferExchangeFails s t g x c r reason d := by
  have cell : z.cell c = s.cell c := by rw [whole]; rfl
  have chan : ∀ ch, z.chan ch = s.chan ch := fun ch => by rw [whole]; rfl
  have transfer : ∀ e, z.transfer e = s.transfer e := fun e => by rw [whole]; rfl
  have slot : ∀ m, z.slot m = s.slot m := fun m => by rw [whole]; rfl
  have touched : (z.ctx g x).touched = (s.ctx g x).touched := by rw [ctx]; rfl
  obtain ⟨⟨ends, gone, others, slots, latch, latched⟩, detail, only, rest⟩ := fails
  rw [cell] at only rest
  rw [touched] at latch latched
  exact ⟨⟨ends, gone, fun e ne => by rw [others e ne, transfer], fun m => by rw [slots, slot], by rw [latch, chan], latched⟩, detail, only, rest⟩

theorem CycleFails.before {w : Watch} (st : (s.ctx g x).st = .awaitResponse) (fails : CycleFails z t g x c w reason d) :
    CycleFails (s.modCtx g x fun k => { k with form := .hold, refusal := 0 }) t g x c w reason d := by
  have after := s.ctx_modCtx g x fun k => { k with form := .hold, refusal := 0 }
  have cell : z.cell c = s.cell c := by rw [whole]; rfl
  have ms : z.time.ms = s.time.ms := by rw [whole]
  have watches : z.watches = s.watches := by rw [whole]
  have same : (s.modCtx g x fun k => { k with form := .hold, refusal := 0 }).watches = s.watches := rfl
  have cells : (s.modCtx g x fun k => { k with form := .hold, refusal := 0 }).cell c = s.cell c := rfl
  have time : (s.modCtx g x fun k => { k with form := .hold, refusal := 0 }).time = s.time := rfl
  generalize (s.modCtx g x fun k => { k with form := .hold, refusal := 0 }) = y at *
  unfold CycleFails at fails ⊢
  rw [ctx, ms, watches, cell] at fails
  rw [after, same, cells, time]
  simp only [Ctx.held, st] at fails ⊢
  exact fails

end

/-- A hold reply beyond the sixteenth, or one that starts the wait afresh. -/
theorem holdTaken {g x : Fin 4} {us : Fin 1000} {f : CanFrame} (settled : Settled s) (agree : ErrorsAgree s) (empty : LanesEmpty s g) :
    let k := s.ctx g x
    let c := k.cell
    let b := fun (i : Nat) => f.data.toList.getD i 0
    let n := (b 0).toNat % 16
    let others := fun (t : State) => (∀ y, y ≠ x → t.ctx g y = s.ctx g y) ∧ (∀ h, h ≠ g → t.seg h = s.seg h) ∧
      (t.seg g).received = (s.seg g).received + 1
    f.remote = false → f.id = k.respId → f.id ≠ s.ps.active.veh.canId → k.st = .awaitResponse →
    (∀ y, y ≠ x → (s.ctx g y).st = .free) →
    (b 0).toNat / 16 = 1 → 1 ≤ n → n + 1 ≤ f.dlc.val → b 1 = 0xFD → n = 1 ∨ (b 2).toNat = k.service →
    (k.holds < 16 → ∃ t, exec (.frameCompleted g us f) s = .next t ∧ (t.ctx g x).st = .awaitResponse ∧
      (t.ctx g x).holds = k.holds + 1 ∧
      (t.ctx g x).timer = some (s.time.clock + (if n < 3 ∨ b 3 = 0 then 1 else min (b 3).toNat 50) * 100) ∧
      (t.seg g).busy = (s.seg g).busy ∧ others t ∧
      t = { s with regs := t.regs, mem := t.mem, segs := t.segs, time := t.time } ∧ MemFrame s t (Within (segBase g) 128)) ∧
    (16 ≤ k.holds →
      let ends := fun (t : State) => exec (.frameCompleted g us f) s = .next t ∧ t.ctx g x = Ctx.free ∧ others t ∧
        OnlyCellState s t c
      (k.role = .exchange → ∃ t, ends t ∧ ExchangeFails s t g x c .holdLimit (1, 0) ∧
        (∀ ch, channelNamed (s.cell c).captured ≠ some ch → t.chan ch = s.chan ch) ∧
        t = { s with board := t.board, regs := t.regs, mem := t.mem, chans := t.chans, segs := t.segs, time := t.time } ∧
        MemFrame s t fun a => EndPlaces c a ∨ Within (segBase g) 128 a ∨
          ∃ ch, channelNamed (s.cell c).captured = some ch ∧ Within (chanBase ch) 32 a) ∧
      (∀ r, k.role.ofTransfer → s.transfer c = some r → ∃ t, ends t ∧ TransferExchangeFails s t g x c r .holdLimit (1, 0) ∧
        t = { s with board := t.board, regs := t.regs, mem := t.mem, info := t.info, chans := t.chans, segs := t.segs
                     transfers := t.transfers, slots := t.slots, cm := t.cm, time := t.time } ∧
        MemFrame s t (TransferPlaces c)) ∧
      (∀ w, k.role = .cycle → s.watch c = some w → s.entryOf c = none → ∃ t, ends t ∧
        CycleFails (s.modCtx g x fun k => { k with form := .hold, refusal := 0 }) t g x c w .holdLimit (1, 0) ∧
        t = { s with board := t.board, regs := t.regs, mem := t.mem, chans := t.chans, segs := t.segs, time := t.time
                     watches := t.watches } ∧
        MemFrame s t fun a => EndPlaces c a ∨ Within (segBase g) 128 a ∨
          ∃ ch, (ch = w.channel ∨ channelNamed (s.cell c).captured = some ch) ∧ Within (chanBase ch) 32 a)) := by
  intro k c b n others data id other st free kind some fits first second
  obtain ⟨u, z, taken, moved, runs⟩ := holdRuns (us := us) agree empty data id other free st rfl kind some fits ⟨first, second⟩
  have zwhole : z = { s with segs := z.segs, time := { s.time with us := max s.time.us us.val }, regs := z.regs, mem := z.mem } := by
    rw [moved.whole, taken.whole]
  have clean : z.info.dirty = false := by rw [zwhole]; exact settled.1
  refine ⟨fun few => ?_, fun many => ?_⟩
  · rw [if_neg (show ¬ 16 < k.holds + 1 by omega)] at runs
    have timed := ctxModified z g x fun k => { k with timer := z.timerIn (k.holdExt * 100) }
    rw [moved.ctx] at timed
    generalize (z.modCtx g x fun k => { k with timer := z.timerIn (k.holdExt * 100) }) = y at *
    have closed := closes y
    generalize y.finish = t at *
    obtain ⟨⟨⟨ctxs, segs, -, -, -, -, whole⟩, board, chans, frame⟩, after⟩ := (moved.trans timed).closes taken settled closed
    refine ⟨t, runs, by rw [after]; exact st, by rw [after]; rfl, ?_, ?_, ⟨ctxs, segs, ?_⟩, ?_, frame⟩
    · rw [after]
      have timer : z.timerIn (holdExtension n ((shortBytes f n).getD 2 0) * 100) =
          Option.some (s.time.clock + (if n < 3 ∨ b 3 = 0 then 1 else min (b 3).toNat 50) * 100) := by
        rw [holdExtension_short, State.timerIn, zwhole]
      exact timer
    · rw [closed.seg, timed.seg, moved.seg, taken.seg]
    · rw [closed.seg, timed.seg, moved.seg, taken.seg]
    · rw [board, chans] at whole
      exact whole
  · intro ends
    rw [if_pos (show 16 < k.holds + 1 by omega)] at runs
    have nothing : StartsNothing z g := by
      unfold StartsNothing LanesEmpty
      rw [moved.seg]
      exact taken.nothing empty
    have closed := closes (z.failExchange g x .holdLimit 1 0)
    have cell : ∀ d, z.cell d = s.cell d := fun d => by rw [zwhole]; rfl
    have same : z = { s with segs := z.segs, mem := z.mem, regs := z.regs, time := { s.time with us := z.time.us } } := by
      have us : z.time.us = max s.time.us us.val := by rw [zwhole]
      rw [us]
      exact zwhole
    refine ⟨fun role => ?_, fun r role here => ?_, fun w role here alone => ?_⟩
    · have failed := exchangeFailed (x := z) (g := g) (k := x) (c := c) nothing (by rw [moved.ctx]; exact role) (by rw [moved.ctx]; rfl) .holdLimit (1, 0)
      generalize hy : z.failExchange g x .holdLimit 1 0 = y at *
      generalize y.finish = t at *
      obtain ⟨gone, left, cells, -⟩ := failed.common.receives taken moved closed
      have settles := failed.closes closed clean
      refine ⟨t, ⟨runs, gone, left, cells⟩, settles.fails.before same, fun ch named => ?_, ?_, ?_⟩
      · rw [settles.chans ch (by rw [cell]; exact named), zwhole]
        rfl
      · rw [settles.whole, zwhole]
      · have frame := settles.frame
        rw [cell] at frame
        refine ((taken.frame.trans moved.frame).both frame).mono ?_
        rintro a (area | place)
        · exact .inr (.inl area)
        · exact place
    · have failed := transferFailedIn (x := z) (g := g) (k := x) (c := c) (r := r) nothing (by rw [moved.ctx]; exact role) (by rw [moved.ctx]; rfl)
        (by rw [zwhole]; exact here) .holdLimit (by decide) (1, 0)
      generalize hy : z.failExchange g x .holdLimit 1 0 = y at *
      generalize y.finish = t at *
      obtain ⟨gone, left, cells, frame⟩ := failed.common.receives taken moved closed
      have settles := failed.closes closed
      refine ⟨t, ⟨runs, gone, left, cells⟩, settles.fails.before same moved.ctx, ?_, frame⟩
      rw [settles.whole, zwhole]
    · have failed := cycleFailedIn (x := z) (g := g) (k := x) (c := c) (w := w) nothing (by rw [moved.ctx]; exact role) (by rw [moved.ctx]; rfl)
        (by rw [zwhole]; exact here) ?_ clean .holdLimit (1, 0)
      · generalize hy : z.failExchange g x .holdLimit 1 0 = y at *
        generalize y.finish = t at *
        obtain ⟨gone, left, cells, -⟩ := failed.common.receives taken moved closed
        have settles := failed.closes closed clean
        refine ⟨t, ⟨runs, gone, left, cells⟩, settles.fails.before same moved.ctx st, ?_, ?_⟩
        · rw [settles.whole, zwhole]
        · have frame := settles.frame
          rw [cell] at frame
          refine ((taken.frame.trans moved.frame).both frame).mono ?_
          rintro a (area | place)
          · exact .inr (.inl area)
          · exact place
      · rw [State.entryOf_lanes (x := s) fun h => ?_]
        · exact alone
        · by_cases at_ : h = g
          · rw [at_, moved.seg, taken.seg]
          · rw [moved.segs h at_, taken.segs h at_]

end Sys2Proof.Machine
end

section
/-! PROOFS. The sample of a watch is published, and the watch goes on or ends (R147, R149, R150). -/

namespace Sys2Proof.Machine

variable {s t : State}

/-! ### An end that accrues nothing -/

/-- The end of a watch that accrues nothing leaves the channels and the Information Block. -/
structure WatchEndsPlain (x y : State) (c : Fin 32) : Prop where
  chans : y.chans = x.chans
  info : y.info = x.info
  frame : MemFrame x y fun a => EndPlaces c a ∨ ∃ g e, x.entryOf c = some (g, e) ∧ Within (segBase g) 128 a

theorem watchEnd_plain {x : State} {c : Fin 32} {w : Watch} (here : x.watch c = some w) {f : Option FaultRec}
    (plain : watchConditions f = []) : WatchEndsPlain x (x.watchEnd c f) c := by
  have drop := dropped x c
  obtain ⟨v, hv⟩ : ∃ v, v = x.dropEntry c := ⟨_, rfl⟩
  rw [← hv] at drop
  have vwatch : v.watch c = some w := by rw [drop.whole]; exact here
  have counted := countsWritten vwatch
  obtain ⟨z, hz⟩ : ∃ z, z = v.wrCounts c := ⟨_, rfl⟩
  rw [← hz] at counted
  have zwatch : z.watch c = some w := by rw [counted.whole]; exact vwatch
  have eq : x.watchEnd c f = (z.endCell c { CellEnd.done w.kindBytes with fault := f, respLen := w.sample.length }).setWatch c none := by
    unfold State.watchEnd
    rw [← hv, ← hz]
    dsimp only
    rw [zwatch]
  rw [eq, State.endCell_of_no_conditions (show ({ CellEnd.done w.kindBytes with fault := f, respLen := w.sample.length } : CellEnd).conditions = [] from plain)]
  clear eq hv hz
  generalize ({ CellEnd.done w.kindBytes with fault := f, respLen := w.sample.length } : CellEnd) = e
  have frame := z.endCellOn_frame c e
  have only := z.endCellOn_boardOnly c e
  generalize z.endCellOn none c e = y at *
  refine ⟨?_, ?_, ?_⟩
  · show y.chans = x.chans
    rw [only, counted.whole, drop.whole]
  · show y.info = x.info
    rw [only, counted.whole, drop.whole]
  · have last : MemFrame y (y.setWatch c none) fun _ => False := fun _ _ => rfl
    refine ((drop.frame.both counted.frame).both (frame.both last)).mono ?_
    rintro a ((seg | area) | place | no)
    · exact .inr seg
    · refine .inl (.inr ?_)
      unfold Within at *
      omega
    · exact .inl place
    · exact no.elim

/-! ### The sample fields (R147) -/

/-- The watch with one more sample published, its sequence word even again (R147). -/
def Watch.published (p : Sample) (w : Watch) : Watch :=
  { w with sample := p, seq := w.seq + 1, done := min (w.done + 1) 0xFFFF, consecutive := 0, out := .none }

/-- The watch with one more cycle done (R147). -/
def Watch.cycleDone (w : Watch) : Watch := { w with done := min (w.done + 1) 0xFFFF, consecutive := 0, out := .none }

/-- The sample and the counts of the watch `u` stand in its cell. -/
structure SampleShown (x y : State) (c : Fin 32) (u : Watch) : Prop where
  watch : y.watch c = some u
  watches : ∀ d, d ≠ c → y.watch d = x.watch d
  kind : y.mem.bytes (cellBase c + 100) 28 = u.kindBytes
  length : y.mem.bytes (cellBase c + 66) 2 = le16 u.sample.length
  whole : y = { x with mem := y.mem, watches := y.watches }
  frame : MemFrame x y (Within (cellBase c + 64) 64)

theorem Mem.bytes_add (m : Mem) (a n k : Nat) : m.bytes a (n + k) = m.bytes a n ++ m.bytes (a + n) k := by
  unfold Mem.bytes
  rw [List.range_add, List.map_append, List.map_map]
  exact congrArg _ (List.map_congr_left fun i _ => by simp [Nat.add_assoc])

theorem Sample.bytes_length (p : Sample) : p.bytes.length = 6 := by simp [Sample.bytes]

/-- The sequence word of the watch `w` has moved on by one (R146). -/
structure SeqBumped (x y : State) (c : Fin 32) (w : Watch) : Prop where
  watch : y.watch c = some { w with seq := w.seq + 1 }
  watches : ∀ d, d ≠ c → y.watch d = x.watch d
  mem : y.mem = x.mem.write (cellBase c + 100) (le16 (w.seq + 1).toNat)
  whole : y = { x with mem := y.mem, watches := y.watches }

theorem seqBumped {x : State} {c : Fin 32} {w : Watch} (here : x.watch c = some w) : SeqBumped x (x.bumpSeq c) c w := by
  have only := watchOnly here fun w => { w with seq := w.seq + 1 }
  have eq : x.bumpSeq c = (x.modWatch c fun w => { w with seq := w.seq + 1 }).wr (cellBase c + 100) (le16 (w.seq + 1).toNat) := by
    unfold State.bumpSeq
    dsimp only
    rw [only.watch]
  rw [eq]
  have mem : (x.modWatch c fun w => { w with seq := w.seq + 1 }).mem = x.mem := rfl
  generalize (x.modWatch c fun w => { w with seq := w.seq + 1 }) = y at *
  refine ⟨only.watch, only.watches, congrArg (fun m : Mem => m.write (cellBase c + 100) (le16 (w.seq + 1).toNat)) mem, ?_⟩
  rw [State.wr, only.whole]

/-- The sample and its sequence word as a response writes them. -/
theorem samplePublished {x : State} {c : Fin 32} {w : Watch} (here : x.watch c = some w) (p : Sample) :
    ∃ y, SampleShown x y c (w.published p) ∧ (((x.wrSample c p).bumpSeq c).modWatch c Watch.cycleDone).wrCounts c = y := by
  have bounds := cellBase_bounds c
  obtain ⟨a, ha⟩ : ∃ a, a = x.modWatch c fun w => { w with sample := p } := ⟨_, rfl⟩
  have first := watchOnly here fun w => { w with sample := p }
  rw [← ha] at first
  obtain ⟨b, hb⟩ : ∃ b, b = x.wrSample c p := ⟨_, rfl⟩
  have bmem : b.mem = (x.mem.write (cellBase c + 66) (le16 p.length)).write (cellBase c + 102) p.bytes := by rw [hb]; rfl
  have bwhole : b = { x with mem := b.mem, watches := a.watches } := by rw [hb, ha]; rfl
  have bwatch : ∀ d, b.watch d = a.watch d := fun d => by rw [bwhole]; rfl
  rw [← hb]
  clear hb ha
  have second := seqBumped ((bwatch c).trans first.watch)
  have emem := second.mem
  generalize b.bumpSeq c = e at *
  have third := watchOnly second.watch Watch.cycleDone
  generalize e.modWatch c Watch.cycleDone = h at *
  have written := countsWritten third.watch
  generalize h.wrCounts c = y at *
  have ywatch : ∀ k, y.watch k = h.watch k := fun k => by rw [written.whole]; rfl
  have hmem : h.mem = e.mem := by rw [third.whole]
  have below : ∀ {a n : Nat}, a + n ≤ cellBase c + 108 → y.mem.bytes a n = e.mem.bytes a n := fun {a n} low => by
    rw [written.frame.bytes fun k lt => by unfold Within; omega, hmem]
  have bsample : b.mem.bytes (cellBase c + 102) 6 = p.bytes := by
    have done := Mem.bytes_write (x.mem.write (cellBase c + 66) (le16 p.length)) (b := cellBase c + 102) (bs := p.bytes)
      (by rw [Sample.bytes_length]; simp only [Config.ramSize]; omega)
    rw [Sample.bytes_length] at done
    rw [bmem, done]
  have sample : y.mem.bytes (cellBase c + 102) 6 = p.bytes := by
    rw [below (by omega), emem, Mem.bytes_write_beside _ (by rw [le16_length]; omega), bsample]
  have word : y.mem.bytes (cellBase c + 100) 2 = le16 (w.seq + 1).toNat := by
    have done := Mem.bytes_write b.mem (b := cellBase c + 100) (bs := le16 (w.seq + 1).toNat) (by rw [le16_length]; simp only [Config.ramSize]; omega)
    rw [le16_length] at done
    rw [below (by omega), emem, done]
  have length : y.mem.bytes (cellBase c + 66) 2 = le16 p.length := by
    have done := Mem.bytes_write x.mem (b := cellBase c + 66) (bs := le16 p.length) (by rw [le16_length]; simp only [Config.ramSize]; omega)
    rw [le16_length] at done
    rw [below (by omega), emem, Mem.bytes_write_beside _ (by rw [le16_length]; omega), bmem,
      Mem.bytes_write_beside _ (by rw [Sample.bytes_length]; omega), done]
  refine ⟨y, ⟨by rw [ywatch, third.watch]; rfl, fun k ne => ?_, ?_, length, ?_, fun place out => ?_⟩, rfl⟩
  · rw [ywatch, third.watches k ne, second.watches k ne, bwatch, first.watches k ne]
  · rw [show 28 = 2 + 6 + 20 from rfl, Mem.bytes_add, Mem.bytes_add, word, sample, written.bytes]
    rfl
  · rw [written.whole, third.whole, second.whole, bwhole]
  · rw [written.frame place fun inside => out (by unfold Within at *; omega), hmem, emem,
      Mem.read_write_outside _ (by rw [le16_length]; unfold Within at *; omega), bmem,
      Mem.read_write_outside _ (by rw [Sample.bytes_length]; unfold Within at *; omega),
      Mem.read_write_outside _ (by rw [le16_length]; unfold Within at *; omega)]

/-! ### What follows a sample (R147, R149, R150) -/

/-- The watch `u` has done the last cycle of its limit. -/
abbrev Watch.atLimit (u : Watch) : Prop := u.limit ≠ 0 ∧ u.done = u.limit

/-- What follows the count of a sample. -/
def State.publishSettles (s : State) (c : Fin 32) (u : Watch) (flags : List Flag) : State :=
  let s := s.accrue u.channel flags
  let s := if u.notify then s.setDone c else s
  if u.atLimit then s.watchEnd c none else s.watchBoundary c

/-- What the settling of the sample of the watch `u` leaves of its cell, its channel and its record: the watch goes on, or it ends. -/
structure PublishLeaves (x y : State) (c : Fin 32) (u : Watch) (flags : List Flag) : Prop where
  kind : y.mem.bytes (cellBase c + 100) 28 = u.kindBytes
  length : y.mem.bytes (cellBase c + 66) 2 = le16 u.sample.length
  accrued : (y.chan u.channel).accrued = flags.foldl (fun a f => a ||| f.bit) (x.chan u.channel).accrued
  chans : ∀ ch, ch ≠ u.channel → y.chan ch = x.chan ch
  notified : u.notify = true → y.regs.done.getLsbD c.val = true
  goesOn : ¬ u.atLimit → u.pending = none → y.watches = x.watches.set c (some u) ∧ y.board = x.board ∧ (u.notify = false → y.regs.done = x.regs.done)
  limit : u.atLimit → y.watches = x.watches.set c none ∧ EndsDone y c
  caused : ∀ reason, ¬ u.atLimit → u.pending = some reason → y.watches = x.watches.set c none ∧ (reason = .aborted → EndsDone y c) ∧
    (reason ≠ .aborted → EndsFailed y c .policy reason)
  cells : OnlyCellState x y c

/-- The same holds from an earlier state to a later one that differ elsewhere. -/
theorem PublishLeaves.carry {x y : State} {c : Fin 32} {u : Watch} {flags : List Flag} {g : Fin 4} (leaves : PublishLeaves x y c u flags)
    (before : x.chans = s.chans ∧ x.board = s.board ∧ x.regs.done = s.regs.done) (watches : ∀ d, d ≠ c → x.watch d = s.watch d)
    (after : t.chans = y.chans ∧ t.board = y.board ∧ t.regs.done = y.regs.done ∧ t.watches = y.watches) (frame : MemFrame y t (Within (segBase g) 128)) :
    PublishLeaves s t c u flags := by
  obtain ⟨kind, length, accrued, chans, notified, goesOn, limit, caused, cells⟩ := leaves
  obtain ⟨xchans, xboard, xdone⟩ := before
  obtain ⟨tchans, tboard, tdone, twatches⟩ := after
  have bounds := cellBase_bounds c
  have low := segBase_bounds g
  have xchan : ∀ ch, x.chan ch = s.chan ch := fun ch => by rw [State.chan, xchans, State.chan]
  have tchan : ∀ ch, t.chan ch = y.chan ch := fun ch => by rw [State.chan, tchans, State.chan]
  have tcell : ∀ d, t.cell d = y.cell d := fun d => by rw [State.cell, tboard, State.cell]
  have places : ∀ a, EndPlaces c a → ¬ Within (segBase g) 128 a := fun a place area => by
    unfold EndPlaces at place
    unfold Within at *
    omega
  have done : EndsDone y c → EndsDone t c := fun ends => ends.later (by rw [tcell]) frame places (by rw [tdone])
  have failed : ∀ {stage reason}, EndsFailed y c stage reason → EndsFailed t c stage reason := fun ends =>
    ends.later (by rw [tcell]) frame places (by rw [tdone])
  have gone : ∀ {v}, y.watches = x.watches.set c v → t.watches = s.watches.set c v := fun {v} eq => by
    refine watches_eq_set ?_ fun d ne => ?_
    · rw [State.watch, twatches, eq]
      exact Vector.getElem_set_self _
    · rw [State.watch, twatches, eq, ← watches d ne]
      exact set_ne _ _ ne
  refine ⟨?_, ?_, by rw [tchan, accrued, xchan], fun ch ne => by rw [tchan, chans ch ne, xchan], fun yes => by rw [tdone]; exact notified yes, fun below none => ?_,
    fun at_ => ⟨gone (limit at_).1, done (limit at_).2⟩, fun reason below pending => ?_, ?_⟩
  · rw [frame.bytes fun k _ => by unfold Within; omega, kind]
  · rw [frame.bytes fun k _ => by unfold Within; omega, length]
  · obtain ⟨on, board, regs⟩ := goesOn below none
    exact ⟨gone on, by rw [tboard, board, xboard], fun no => by rw [tdone, regs no, xdone]⟩
  · obtain ⟨end_, abort, other⟩ := caused reason below pending
    exact ⟨gone end_, fun is => done (abort is), fun is => failed (other is)⟩
  · obtain ⟨posts, only, others⟩ := cells.of_board (s := s) xboard
    exact ⟨by rw [tboard, posts], by rw [tcell]; exact only, fun d ne => by rw [tcell, others d ne]⟩

/-- The sample of the watch `u` has been settled. -/
structure PublishSettled (x y : State) (c : Fin 32) (u : Watch) (flags : List Flag) : Prop where
  leaves : PublishLeaves x y c u flags
  whole : y = { x with board := y.board, regs := y.regs, mem := y.mem, chans := y.chans, watches := y.watches }
  frame : MemFrame x y fun a => EndPlaces c a ∨ Within (chanBase u.channel) 32 a

theorem getLsbD_done (r : BitVec 32) (c : Fin 32) : (r ||| (1#32 <<< c.val)).getLsbD c.val = true := by
  simp

/-- A watch ends after its sample, with nothing more accrued. -/
theorem publishEnds {x z : State} {c : Fin 32} {u : Watch} {flags : List Flag} {f : Option FaultRec} (here : x.watch c = some u) (alone : x.entryOf c = none)
    (whole : z = { x with regs := z.regs, mem := z.mem, chans := z.chans }) (frame : MemFrame x z (Within (chanBase u.channel) 32))
    (chan : (z.chan u.channel).accrued = flags.foldl (fun a f => a ||| f.bit) (x.chan u.channel).accrued)
    (chans : ∀ ch, ch ≠ u.channel → z.chan ch = x.chan ch) (plain : watchConditions f = [])
    (limit : u.atLimit → f = none) (cause : ∀ reason, u.pending = some reason → ¬ u.atLimit →
      f = if reason = .aborted then none else some (watchFault z u .policy reason none)) (ended : u.atLimit ∨ u.pending ≠ none) :
    PublishSettled x (z.watchEnd c f) c u flags := by
  have zwatch : z.watch c = some u := by rw [whole]; exact here
  have ends := watchEnds zwatch f
  have still := watchEnd_plain zwatch plain
  have zalone : z.entryOf c = none := by rw [whole]; exact alone
  generalize z.watchEnd c f = y at *
  have ychan : ∀ ch, y.chan ch = z.chan ch := fun ch => by rw [State.chan, still.chans, State.chan]
  have watches : y.watches = x.watches.set c none := by rw [ends.watches, whole]
  have segs : y.segs = x.segs := by rw [ends.entry.1 zalone, whole]
  refine ⟨⟨ends.kind, ends.length, by rw [ychan, chan], fun ch ne => by rw [ychan, chans ch ne], fun _ => ?_, fun below none => ?_,
    fun at_ => ⟨watches, ends.done (limit at_)⟩, fun reason below pending => ⟨watches, fun abort => ?_, fun other => ?_⟩,
    ends.cells.of_board (by rw [whole])⟩, ?_, ?_⟩
  · rw [ends.regs]
    exact getLsbD_done _ c
  · rcases ended with at_ | some
    · exact absurd at_ below
    · exact absurd none some
  · exact ends.done ((cause reason pending below).trans (if_pos abort))
  · exact ends.failed _ ((cause reason pending below).trans (if_neg other))
  · have info : y.info = x.info := by rw [still.info, whole]
    have eq := ends.whole
    rw [info, segs, whole] at eq
    exact eq
  · refine (frame.both still.frame).mono ?_
    rintro a (area | place | ⟨g, e, found, _⟩)
    · exact .inr area
    · exact .inl place
    · exact absurd (found.symm.trans zalone) (by simp)

theorem watchConditions_policy {z : State} {u : Watch} {reason : Reason} (named : reason ≠ .ecuRefused) :
    watchConditions (some (watchFault z u .policy reason none)) = [] := by
  simp [watchConditions, CellEnd.conditions, CellEnd.done, watchFault, denialFault, FaultRec.core, named]

theorem publishSettled {x : State} {c : Fin 32} {u : Watch} {flags : List Flag} (here : x.watch c = some u) (alone : x.entryOf c = none)
    (named : u.EndNamed) (kind : x.mem.bytes (cellBase c + 100) 28 = u.kindBytes)
    (length : x.mem.bytes (cellBase c + 66) 2 = le16 u.sample.length) : PublishSettled x (x.publishSettles c u flags) c u flags := by
  have accrues := x.accrue_whole u.channel flags
  have frame := x.accrue_frame u.channel flags
  have chan : ((x.accrue u.channel flags).chan u.channel).accrued = flags.foldl (fun a f => a ||| f.bit) (x.chan u.channel).accrued := by
    rw [x.accrue_chan]
  have chans := fun ch ne => x.accrue_chan_ne (ch := u.channel) (k := ch) flags ne
  obtain ⟨z, hz⟩ : ∃ z, z = if u.notify then (x.accrue u.channel flags).setDone c else x.accrue u.channel flags := ⟨_, rfl⟩
  have eq : x.publishSettles c u flags = if u.atLimit then z.watchEnd c none else z.watchBoundary c := by rw [hz]; rfl
  rw [eq]
  clear eq
  generalize x.accrue u.channel flags = v at *
  have vregs : v.regs = x.regs := by rw [accrues]
  have set : z = { v with regs := z.regs } := by
    rw [hz]
    split <;> rfl
  have notified : u.notify = true → z.regs.done.getLsbD c.val = true := fun yes => by
    rw [hz, if_pos yes]
    exact getLsbD_done _ c
  have quiet : u.notify = false → z.regs = x.regs := fun no => by
    rw [hz, no, if_neg (by decide), vregs]
  clear hz
  have zchan : ∀ ch, z.chan ch = v.chan ch := fun ch => by rw [set]; rfl
  have whole : z = { x with regs := z.regs, mem := z.mem, chans := z.chans } := by
    have mem : z.mem = v.mem := by rw [set]
    have chans : z.chans = v.chans := by rw [set]
    have eq := set
    rw [accrues] at eq
    rw [mem, chans]
    exact eq
  have zframe : MemFrame x z (Within (chanBase u.channel) 32) := fun a out => by rw [set]; exact frame a out
  have zwatch : z.watch c = some u := by rw [whole]; exact here
  have low := chanBase_bounds u.channel
  have bounds := cellBase_bounds c
  have acc : (z.chan u.channel).accrued = flags.foldl (fun a f => a ||| f.bit) (x.chan u.channel).accrued := by rw [zchan, chan]
  have others : ∀ ch, ch ≠ u.channel → z.chan ch = x.chan ch := fun ch ne => by rw [zchan, chans ch ne]
  by_cases limit : u.atLimit
  · rw [if_pos limit]
    exact publishEnds here alone whole zframe acc others rfl (fun _ => rfl) (fun _ _ below => absurd limit below) (.inl limit)
  · rw [if_neg limit]
    cases pending : u.pending with
    | none =>
      have stays : z.watchBoundary c = z := by
        unfold State.watchBoundary
        rw [zwatch]
        dsimp only
        rw [pending]
      rw [stays]
      refine ⟨⟨?_, ?_, acc, others, notified, fun _ _ => ⟨?_, by rw [whole], fun no => by rw [quiet no]⟩, fun at_ => absurd at_ limit,
        fun reason _ cause => ?_, ⟨by rw [whole], by rw [whole]; rfl, fun d _ => by rw [whole]; rfl⟩⟩, by rw [whole], zframe.mono fun _ => .inr⟩
      · rw [zframe.bytes fun k _ => by unfold Within; omega, kind]
      · rw [zframe.bytes fun k _ => by unfold Within; omega, length]
      · exact watches_eq_set zwatch fun d _ => by rw [whole]; rfl
      · exact absurd (pending.symm.trans cause) (by simp)
    | some reason =>
      have acts : z.watchBoundary c = z.watchEnd c (if reason = .aborted then none else some (watchFault z u .policy reason none)) := by
        unfold State.watchBoundary State.watchEndBy
        rw [zwatch]
        dsimp only
        rw [pending]
        dsimp only
        split <;> rfl
      have plain : watchConditions (if reason = .aborted then none else some (watchFault z u .policy reason none)) = [] := by
        split
        · rfl
        · refine watchConditions_policy ?_
          rintro rfl
          rw [Watch.EndNamed, pending] at named
          simp at named
      rw [acts]
      refine publishEnds here alone whole zframe acc others plain (fun at_ => absurd at_ limit) (fun other cause _ => ?_)
        (.inr (by rw [pending]; simp))
      obtain rfl := Option.some.inj (pending.symm.trans cause)
      rfl

/-- The conditions that a published response accrues. -/
def publishFlags (form : Form) (truncated : Bool) : List Flag :=
  (if form = .refusal then [Flag.ecuRefused] else []) ++ if truncated then [Flag.truncated] else []

/-- The sample that a response gives (R147). -/
def Report.published (r : Report) (form : Form) (time : Word32) : Sample :=
  { length := r.respLen, time := time, form := form.code, refusal := r.refusal, truncated := r.truncated, valid := true }

/-- A response is published. -/
theorem published {x : State} {c : Fin 32} {w : Watch} (here : x.watch c = some w) (alone : x.entryOf c = none)
    (named : w.EndNamed) (form : Form) (r : Report) :
    ∃ z, SampleShown x z c (w.published (r.published form x.time.ms)) ∧
      PublishSettled z (x.publish c form r) c (w.published (r.published form x.time.ms)) (publishFlags form r.truncated) := by
  obtain ⟨z, shown, eq⟩ := samplePublished here (r.published form x.time.ms)
  have does : x.publish c form r = z.publishSettles c (w.published (r.published form x.time.ms)) (publishFlags form r.truncated) := by
    unfold State.publish
    dsimp only
    rw [show (((x.wrSample c { length := r.respLen, time := x.time.ms, form := form.code, refusal := r.refusal, truncated := r.truncated, valid := true }).bumpSeq
      c).modWatch c fun w => { w with done := min (w.done + 1) 0xFFFF, consecutive := 0, out := .none }).wrCounts c = z from eq, shown.watch]
    rfl
  rw [does]
  exact ⟨z, shown, publishSettled shown.watch (by rw [shown.whole]; exact alone) named shown.kind shown.length⟩

end Sys2Proof.Machine
end

section
/-! PROOFS. The SHORT response of a watch's cycle (R85, R146, R147), and what a SHORT response does whatever it is for. -/

namespace Sys2Proof.Machine

variable {s t : State}

/-! ### The bytes of a cycle's response (R85, R146) -/

/-- The first bytes of a cycle's response are stored, the sequence word of its watch `w` odd. -/
structure CycleStored (x y : State) (g k : Fin 4) (v : Ctx) (a : Nat) (bs : List Byte) (c : Fin 32) (w : Watch) : Prop where
  ctx : y.ctx g k = v
  ctxs : ∀ j, j ≠ k → y.ctx g j = x.ctx g j
  seg : y.seg g = { x.seg g with ctxs := (y.seg g).ctxs, counter := (y.seg g).counter }
  segs : ∀ h, h ≠ g → y.seg h = x.seg h
  watch : y.watch c = some { w with seq := w.seq + 1 }
  watches : ∀ d, d ≠ c → y.watch d = x.watch d
  bytes : y.mem.bytes a bs.length = bs
  whole : y = { x with segs := y.segs, mem := y.mem, watches := y.watches }
  frame : MemFrame x y fun b => Within (segBase g) 128 b ∨ Within (cellBase c + 100) 2 b ∨ Within a bs.length b

theorem cycleStored {u : State} {g x : Fin 4} {c : Fin 32} {w : Watch} {kind : FrameKind} {len : Nat} {tag : Byte} {bs : List Byte}
    (role : (u.ctx g x).role = .cycle) (cell : (u.ctx g x).cell = c) (here : u.watch c = some w)
    (goes : classify (u.ctx g x).service len (bs.getD 0 0) (bs.getD 1 0) ≠ .hold)
    (high : (responseRef (u.cell c).captured).addr + (responseRef (u.cell c).captured).len ≤ 0x10000) :
    CycleStored u (u.takeFirst g x kind len tag bs) g x
      { firstCtx kind len tag bs (u.ctx g x) with
        truncated := (u.ctx g x).truncated || decide ((responseRef (u.cell c).captured).len < bs.length) }
      (responseRef (u.cell c).captured).addr (bs.take (responseRef (u.cell c).captured).len) c w := by
  subst cell
  have moved := ctxModified u g x (firstCtx kind len tag bs)
  have vwatch : ∀ d, (u.modCtx g x (firstCtx kind len tag bs)).watch d = u.watch d := fun _ => rfl
  have vcell : ∀ d, (u.modCtx g x (firstCtx kind len tag bs)).cell d = u.cell d := fun _ => rfl
  have does : u.takeFirst g x kind len tag bs =
      ((u.modCtx g x (firstCtx kind len tag bs)).bumpSeq (u.ctx g x).cell).storeResponse g x 0 bs := by
    have open_ : (firstCtx kind len tag bs (u.ctx g x)).form ≠ .hold := goes
    unfold State.takeFirst
    dsimp only
    rw [moved.ctx, if_neg open_, State.responseBegins, moved.ctx, if_pos (show (firstCtx kind len tag bs (u.ctx g x)).role = .cycle from role)]
    rfl
  rw [does]
  clear does
  generalize u.modCtx g x (firstCtx kind len tag bs) = v at *
  have bumped := seqBumped ((vwatch _).trans here)
  generalize v.bumpSeq (u.ctx g x).cell = z at *
  have zctx : ∀ j, z.ctx g j = v.ctx g j := fun j => by rw [bumped.whole]; rfl
  have zseg : ∀ h, z.seg h = v.seg h := fun h => by rw [bumped.whole]; rfl
  have zcell : ∀ d, z.cell d = u.cell d := fun d => by rw [← vcell, bumped.whole]; rfl
  have own : (z.ctx g x).cell = (u.ctx g x).cell := by rw [zctx, moved.ctx]; rfl
  have stored := responseStored (x := z) (g := g) (k := x) (pos := 0) (bs := bs) (.inr (by rw [zctx, moved.ctx]; exact role))
    (by rw [own, zcell]; exact high)
  rw [own, zcell, zctx, moved.ctx, Nat.sub_zero, Nat.add_zero, Nat.zero_add] at stored
  generalize z.storeResponse g x 0 bs = y at *
  have ywatch : ∀ d, y.watch d = z.watch d := fun d => by rw [stored.whole]; rfl
  refine ⟨stored.ctx, fun j ne => by rw [stored.ctxs j ne, zctx, moved.ctxs j ne], ?_, fun h ne => by rw [stored.segs h ne, zseg, moved.segs h ne],
    by rw [ywatch, bumped.watch], fun d ne => by rw [ywatch, bumped.watches d ne, vwatch], stored.bytes, ?_, ?_⟩
  · rw [stored.seg, zseg, moved.seg]
  · rw [stored.whole, bumped.whole, moved.whole]
  · have word : MemFrame v z (Within (cellBase (u.ctx g x).cell + 100) 2) := fun a out => by
      rw [bumped.mem]
      exact Mem.read_write_outside _ (by rw [le16_length]; exact out)
    refine ((moved.frame.both word).both stored.frame).mono ?_
    rintro a ((area | seq) | area | buffer)
    · exact .inl area
    · exact .inr (.inl seq)
    · exact .inl area
    · exact .inr (.inr buffer)

/-! ### The end of a cycle with its response (R147) -/

/-- The sample that the response in context `k` gives (R147). -/
def State.respSample (x : State) (g k : Fin 4) (form : Form) : Sample :=
  { length := (x.ctx g k).expected, time := x.time.ms, form := form.code, refusal := (x.ctx g k).refusal
    truncated := (x.ctx g k).truncated, valid := true }

/-- The watch after the response in context `k`, with its sample. -/
def Watch.responded (x : State) (g k : Fin 4) (form : Form) (w : Watch) : Watch :=
  (w.touchedBy (x.ctx g k).touched).published (x.respSample g k form)

/-- A cycle of the watch `w` has its response, and its context is FREE. -/
structure CycleResponded (x y : State) (g k : Fin 4) (c : Fin 32) (u : Watch) (flags : List Flag) : Prop where
  ctx : y.ctx g k = Ctx.free
  ctxs : ∀ j, j ≠ k → y.ctx g j = x.ctx g j
  segs : ∀ h, h ≠ g → y.seg h = x.seg h
  leaves : PublishLeaves x y c u flags
  whole : y = { x with board := y.board, regs := y.regs, mem := y.mem, chans := y.chans, segs := y.segs, watches := y.watches }
  frame : MemFrame x y fun a => EndPlaces c a ∨ Within (segBase g) 128 a ∨ Within (chanBase u.channel) 32 a

theorem cycleResponded {x : State} {g k : Fin 4} {c : Fin 32} {w : Watch} (nothing : StartsNothing x g) (role : (x.ctx g k).role = .cycle)
    (cell : (x.ctx g k).cell = c) (here : x.watch c = some w) (alone : x.entryOf c = none) (named : w.EndNamed)
    (form : Form) (d : Nat × Nat) :
    CycleResponded x (x.endExchange g k (.response form) d.1 d.2) g k c (w.responded x g k form) (publishFlags form (x.ctx g k).truncated) := by
  subst cell
  have touched := watchOnly here (Watch.touchedBy (x.ctx g k).touched)
  have eq : ∃ r : Report, r.respLen = (x.ctx g k).expected ∧ r.truncated = (x.ctx g k).truncated ∧ r.refusal = (x.ctx g k).refusal ∧
      x.endExchange g k (.response form) d.1 d.2 =
        ((x.modWatch (x.ctx g k).cell (Watch.touchedBy (x.ctx g k).touched)).publish (x.ctx g k).cell form r).freeCtx g k := by
    refine ⟨{ outcome := .response form, respLen := (x.ctx g k).expected, truncated := (x.ctx g k).truncated, refusal := (x.ctx g k).refusal
              touched := (x.ctx g k).touched, detail := { seg := g, ctx := k, kind := d.1, index := d.2 } }, rfl, rfl, rfl, ?_⟩
    unfold State.endExchange
    dsimp only
    rw [role]
    rfl
  obtain ⟨r, length, truncated, refusal, eq⟩ := eq
  rw [eq]
  clear eq
  have time : (x.modWatch (x.ctx g k).cell (Watch.touchedBy (x.ctx g k).touched)).time.ms = x.time.ms := rfl
  generalize hc : (x.ctx g k).cell = c at *
  generalize x.modWatch c (Watch.touchedBy (x.ctx g k).touched) = v at *
  obtain ⟨z, shown, settled⟩ := published touched.watch (by rw [touched.whole]; exact alone) named form r
  have sample : r.published form v.time.ms = x.respSample g k form := by
    rw [Report.published, length, truncated, refusal, time]
    rfl
  rw [sample, truncated] at settled
  rw [sample] at shown
  clear sample
  change SampleShown v z c (w.responded x g k form) at shown
  change PublishSettled z _ c (w.responded x g k form) _ at settled
  generalize w.responded x g k form = u at *
  generalize v.publish c form r = y at *
  have zwhole : z = { x with mem := z.mem, watches := z.watches } := by rw [shown.whole, touched.whole]
  have ywhole : y = { x with board := y.board, regs := y.regs, mem := y.mem, chans := y.chans, watches := y.watches } := by
    have eq := settled.whole
    rw [zwhole] at eq
    exact eq
  have yseg : ∀ h, y.seg h = x.seg h := fun h => by rw [ywhole]; rfl
  have yctx : ∀ j, y.ctx g j = x.ctx g j := fun j => by rw [ywhole]; rfl
  have free := freed (x := y) k (g := g) (by unfold StartsNothing LanesEmpty; rw [yseg]; exact nothing)
  generalize y.freeCtx g k = t at *
  refine ⟨free.ctx, fun j ne => by rw [free.ctxs j ne, yctx], fun h ne => by rw [free.segs h ne, yseg],
    settled.leaves.carry ⟨by rw [zwhole], by rw [zwhole], by rw [zwhole]⟩ (fun e ne => by rw [shown.watches e ne, touched.watches e ne])
      ⟨by rw [free.whole], by rw [free.whole], by rw [free.whole], by rw [free.whole]⟩ free.frame, by rw [free.whole, ywhole], ?_⟩
  have first : MemFrame x z (Within (cellBase c + 64) 64) := fun a out => by rw [shown.frame a out, touched.whole]
  refine ((first.both settled.frame).both free.frame).mono ?_
  rintro a ((area | place | chan) | seg)
  · exact .inl (.inr area)
  · exact .inl place
  · exact .inr (.inr chan)
  · exact .inr (.inl seg)

end Sys2Proof.Machine
end

section
/-! PROOFS. ShortResponse: the response to a watch's cycle in one event, and the settling of O53. -/

namespace Sys2Proof.Machine

variable {s t : State}

theorem shortForm_refusal {service n : Nat} {b : Nat → Byte} (goes : ¬(b 1 = 0xFD ∧ (n = 1 ∨ (b 2).toNat = service))) :
    shortForm service n b = .refusal ↔ b 1 = 0xFE ∧ (b 2).toNat = service ∧ 3 ≤ n := by
  unfold shortForm
  rw [if_neg goes]
  split_ifs with refusal positive
  · exact iff_of_true rfl refusal
  · exact iff_of_false (by decide) refusal
  · exact iff_of_false (by decide) refusal

theorem shortForm_code {service n : Nat} {b : Nat → Byte} (goes : ¬(b 1 = 0xFD ∧ (n = 1 ∨ (b 2).toNat = service))) :
    (shortForm service n b).code = if b 1 = 0xFE ∧ (b 2).toNat = service ∧ 3 ≤ n then 2 else if (b 1).toNat = service + 0x80 then 1 else 3 := by
  unfold shortForm
  rw [if_neg goes]
  split_ifs <;> rfl

theorem shortForm_goes {service n : Nat} {b : Nat → Byte} (goes : ¬(b 1 = 0xFD ∧ (n = 1 ∨ (b 2).toNat = service))) : shortForm service n b ≠ .hold := by
  unfold shortForm
  rw [if_neg goes]
  split_ifs <;> decide

theorem foldl_publishFlags (form : Form) (refusal : Prop) [Decidable refusal] (is : form = .refusal ↔ refusal) (cut : Bool) (a : BitVec 8) :
    (publishFlags form cut).foldl (fun a f => a ||| f.bit) a =
      a ||| (if refusal then Flag.ecuRefused.bit else 0) ||| (if cut then Flag.truncated.bit else 0) := by
  unfold publishFlags
  by_cases yes : refusal
  · cases cut <;> simp [is.2 yes, yes]
  · cases cut <;> simp [mt is.1 yes, yes]

/-- A reception whose response ends a cycle. -/
theorem CycleResponded.receives {u v y : State} {g x : Fin 4} {us : Fin 1000} {f : CanFrame} {k : Ctx} {c : Fin 32} {w n : Watch} {a : Nat} {bs : List Byte}
    {flags : List Flag} (responded : CycleResponded v y g x c n flags) (taken : FrameTaken s u g us f) (stored : CycleStored u v g x k a bs c w)
    (high : 0x1480 ≤ a) (settled : Settled s) (closed : Closes y t) :
    t.ctx g x = Ctx.free ∧ (∀ j, j ≠ x → t.ctx g j = s.ctx g j) ∧ (∀ h, h ≠ g → t.seg h = s.seg h) ∧ PublishLeaves s t c n flags ∧
      t.mem.bytes a bs.length = bs ∧
      t = { s with board := t.board, regs := t.regs, mem := t.mem, chans := t.chans, segs := t.segs, time := t.time, watches := t.watches } ∧
      MemFrame s t fun b => EndPlaces c b ∨ Within (segBase g) 128 b ∨ Within a bs.length b ∨ Within (chanBase n.channel) 32 b := by
  have vwhole : v = { s with segs := v.segs, time := { s.time with us := max s.time.us us.val }, regs := u.regs, mem := v.mem, watches := v.watches } := by
    rw [stored.whole, taken.whole]
  have ywhole := responded.whole
  rw [vwhole] at ywhole
  obtain ⟨mem, info⟩ := closed.clean (by rw [ywhole]; exact settled.1)
  have done : u.regs.done = s.regs.done := by rw [taken.regs]
  have still : MemFrame y t (Within (segBase g) 128) := fun _ _ => by rw [mem]
  have watch : ∀ d, d ≠ c → v.watch d = s.watch d := fun d ne => by
    rw [stored.watches d ne, taken.whole]
    rfl
  have bounds := cellBase_bounds c
  have small := segBase_bounds g
  have low := chanBase_bounds n.channel
  refine ⟨by rw [closed.ctx, responded.ctx], fun j ne => by rw [closed.ctx, responded.ctxs j ne, stored.ctxs j ne, taken.ctx],
    fun h ne => by rw [closed.seg, responded.segs h ne, stored.segs h ne, taken.segs h ne],
    responded.leaves.carry ⟨by rw [vwhole], by rw [vwhole], by rw [vwhole]; exact done⟩ watch
      ⟨by rw [closed.whole], closed.board, by rw [closed.regs], by rw [closed.whole]⟩ still, ?_, ?_, ?_⟩
  · rw [mem, responded.frame.bytes, stored.bytes]
    rintro i _ (place | area | chan)
    · unfold EndPlaces Within at place
      omega
    · unfold Within at area
      omega
    · unfold Within at chan
      omega
  · rw [closed.whole, info, ywhole]
  · have first : MemFrame s v fun b => Within (segBase g) 128 b ∨ Within (cellBase c + 100) 2 b ∨ Within a bs.length b :=
      (taken.frame.mono fun _ => .inl).trans stored.frame
    have last : MemFrame y t fun _ => False := fun _ _ => by rw [mem]
    refine ((first.both responded.frame).both last).mono ?_
    rintro b (((area | seq | buffer) | place | area | chan) | no)
    · exact .inr (.inl area)
    · refine .inl (.inr ?_)
      unfold Within at *
      omega
    · exact .inr (.inr (.inl buffer))
    · exact .inl place
    · exact .inr (.inl area)
    · exact .inr (.inr (.inr chan))
    · exact no.elim

/-- The SHORT response to a watch's cycle. -/
theorem cycleTaken (g x : Fin 4) (us : Fin 1000) (f : CanFrame) (w : Watch) (settled : Settled s) (agree : ErrorsAgree s) (empty : LanesEmpty s g) :
    let k := s.ctx g x
    let c := k.cell
    let b := fun (i : Nat) => f.data.toList.getD i 0
    let n := (b 0).toNat % 16
    let buffer := responseRef (s.cell c).captured
    let m := min n buffer.len
    let refusal := b 1 = 0xFE ∧ (b 2).toNat = k.service ∧ 3 ≤ n
    let form := if refusal then 2 else if (b 1).toNat = k.service + 0x80 then 1 else 3
    let cut := k.truncated || decide (buffer.len < n)
    let u := { w with
      touched := w.touched || k.touched, seq := w.seq + 2, done := min (w.done + 1) 0xFFFF, consecutive := 0, out := .none
      sample := { length := n, time := s.time.ms, form := form, refusal := if refusal then (b 3).toNat else 0
                  truncated := cut, valid := true } }
    f.remote = false → f.id = k.respId → f.id ≠ s.ps.active.veh.canId → k.role = .cycle → k.st = .awaitResponse →
    s.watch c = some w → w.EndNamed → s.entryOf c = none → (∀ y, y ≠ x → (s.ctx g y).st = .free) →
    (b 0).toNat / 16 = 1 → 1 ≤ n → n + 1 ≤ f.dlc.val → ¬(b 1 = 0xFD ∧ (n = 1 ∨ (b 2).toNat = k.service)) →
    0x8000 ≤ buffer.addr → buffer.addr + buffer.len ≤ 0x10000 →
    ∃ t flags, exec (.frameCompleted g us f) s = .next t ∧ flags = publishFlags (shortForm k.service n b) cut ∧
      t.ctx g x = Ctx.free ∧ (∀ j, j ≠ x → t.ctx g j = s.ctx g j) ∧ (∀ h, h ≠ g → t.seg h = s.seg h) ∧ PublishLeaves s t c u flags ∧
      t.mem.bytes buffer.addr m = ((f.data.toList.drop 1).take m) ∧
      t = { s with board := t.board, regs := t.regs, mem := t.mem, chans := t.chans, segs := t.segs, time := t.time, watches := t.watches } ∧
      MemFrame s t fun a => EndPlaces c a ∨ Within (segBase g) 128 a ∨ Within buffer.addr m a ∨ Within (chanBase w.channel) 32 a := by
  intro k c b n buffer m refusal form cut u data id other role st here named alone others kind some fits goes low high
  obtain ⟨a, taken, runs⟩ := shortRuns (us := us) (n := n) agree empty data id other others st rfl kind some fits
  have ctx : a.ctx g x = k := taken.ctx x
  have cell : a.cell c = s.cell c := taken.cell c
  have is : classify k.service n ((shortBytes f n).getD 0 0) ((shortBytes f n).getD 1 0) = shortForm k.service n b := classify_short f some
  have notHold : shortForm k.service n b ≠ .hold := shortForm_goes goes
  have stored := cycleStored (u := a) (g := g) (x := x) (c := c) (w := w) (kind := .short) (len := n) (tag := 0) (bs := shortBytes f n)
    (by rw [ctx]; exact role) (by rw [ctx]) (by rw [taken.whole]; exact here) (by rw [ctx, is]; exact notHold) (by rw [cell]; exact high)
  rw [ctx, cell, firstCtx_short f some fits, shortBytes_length f fits] at stored
  have bytes : (shortBytes f n).take buffer.len = (f.data.toList.drop 1).take m := by rw [shortBytes, List.take_take, Nat.min_comm]
  have size : ((f.data.toList.drop 1).take m).length = m := by
    rw [← bytes, List.length_take, shortBytes_length f fits, Nat.min_comm]
  rw [show responseRef (s.cell c).captured = buffer from rfl, bytes] at stored
  generalize a.takeFirst g x .short n 0 (shortBytes f n) = v at *
  rw [State.messageDone_response (by rw [stored.ctx]; exact notHold)] at runs
  have lanes : v.entryOf c = none := by
    rw [State.entryOf_lanes (x := s) fun h => ?_]
    · exact alone
    · by_cases at_ : h = g
      · rw [at_, stored.seg, taken.seg]
      · rw [stored.segs h at_, taken.segs h at_]
  have responded := cycleResponded (x := v) (g := g) (k := x) (c := c) (by unfold StartsNothing LanesEmpty; rw [stored.seg]; exact taken.nothing empty)
    (by rw [stored.ctx]; exact role) (by rw [stored.ctx]) stored.watch lanes named
    (v.ctx g x).form (v.ctx g x).last
  have ms : v.time.ms = s.time.ms := by rw [stored.whole, taken.whole]
  have refused : (if shortForm k.service n b = .refusal then ((shortBytes f n).getD 2 0).toNat else 0) = if refusal then (b 3).toNat else 0 := by
    by_cases yes : refusal
    · rw [if_pos yes, if_pos ((shortForm_refusal goes).2 yes), shortBytes_getD f (by have := yes.2.2; omega)]
    · rw [if_neg yes, if_neg fun is => yes ((shortForm_refusal goes).1 is)]
  have next : Watch.responded v g x (v.ctx g x).form { w with seq := w.seq + 1 } = u := by
    unfold Watch.responded State.respSample
    rw [stored.ctx, ms]
    dsimp only
    rw [refused, shortForm_code goes]
    have twice : w.seq + 1 + 1 = w.seq + 2 := by rw [BitVec.add_assoc]; rfl
    unfold Watch.published Watch.touchedBy
    dsimp only
    rw [twice]
  have flags : publishFlags (v.ctx g x).form (v.ctx g x).truncated = publishFlags (shortForm k.service n b) cut := by rw [stored.ctx]
  rw [next, flags] at responded
  clear next flags
  generalize v.endExchange g x (.response (v.ctx g x).form) (v.ctx g x).last.1 (v.ctx g x).last.2 = y at *
  have closed := closes y
  generalize y.finish = t at *
  obtain ⟨free, ctxs, segs, leaves, shown, whole, frame⟩ := responded.receives taken stored (le_trans (by decide) low) settled closed
  rw [size] at shown frame
  exact ⟨t, _, runs, rfl, free, ctxs, segs, leaves, shown, whole, frame⟩

/-- Settles O53: a SHORT response ends its exchange, publishes the sample of its watch, or is a hold reply. -/
theorem shortResponse : Obligations.ShortResponse := by
  unfold Obligations.ShortResponse
  refine ⟨fun g x us f w s settled agree empty => ?_, fun g x us f s settled agree empty => ?_, fun g x us f s settled agree empty =>
    holdTaken settled agree empty⟩
  · intro k c b n buffer m refusal form cut u limit data id other role st here named alone others kind some fits goes low high
    obtain ⟨t, flags, runs, is, free, ctxs, segs, leaves, shown, whole, frame⟩ := cycleTaken g x us f w settled agree empty data id other role st here named alone
      others kind some fits goes low high
    obtain ⟨area, length, accrued, chans, notified, goesOn, done, caused, cells⟩ := leaves
    rw [is, foldl_publishFlags _ refusal (shortForm_refusal goes)] at accrued
    refine ⟨t, runs, shown, length, area, free, ctxs, segs, accrued, chans, notified, goesOn, fun at_ => ⟨(done at_).1, (done at_).2, cells⟩,
      fun reason below pending => ?_, whole, frame⟩
    obtain ⟨watches, ends⟩ := caused reason below pending
    exact ⟨watches, cells, ends⟩
  · intro k c b n buffer m hold refusal data id other role st others kind some fits low high goes
    exact shortResponded settled agree empty data id other role st others kind some fits low high goes

end Sys2Proof.Machine
end

section
/-! PROOFS. A paused lane, and the end of a transfer that is DONE (R44, R49, R106, R131). -/

namespace Sys2Proof.Machine

variable {s t : State}

/-! ### A lone entry in a paused lane (R51, R53, R106) -/

theorem Lanes.mem_only {e d : Entry} {l : Lane} (inside : d ∈ (Lanes.only e).get l) : d = e := by
  have all : d ∈ (Lanes.only e).all := by
    unfold Lanes.all
    cases l <;> simp_all [Lanes.get]
  rw [Lanes.only_all] at all
  exact List.mem_singleton.1 all

theorem State.arbitrate_paused {x : State} {g : Fin 4} {e : Entry} (lanes : (x.seg g).lanes = Lanes.only e) (pauses : (x.seg g).pace.pauses e.lane = true) :
    x.arbitrate g = x := by
  have choice : chooseEntry x.ps.active g (x.seg g) = none := by
    rw [chooseEntry, List.findSome?_eq_none_iff]
    intro k _
    have found : ((x.seg g).lanes.get (x.ps.active.phaseLane g ((x.seg g).pointer + k))).find? (eligible x.ps.active (x.seg g)) = none := by
      refine List.find?_eq_none.2 fun d inside => ?_
      rw [lanes] at inside
      obtain rfl := Lanes.mem_only inside
      unfold eligible
      simp [pauses]
    dsimp only
    rw [found]
    rfl
  have still : x.startOne g = none := by
    unfold State.startOne
    dsimp only
    rw [choice]
    split <;> rfl
  simp [State.arbitrate, State.arbitrateFuel, still]

/-- An entry that joins a paused lane of a segment with nothing queued waits there. -/
theorem joined_paused {x : State} {g : Fin 4} (e : Entry) (empty : LanesEmpty x g) (pauses : (x.seg g).pace.pauses e.lane = true) :
    Joined x (x.joinRun g e) g e := by
  have seg := x.seg_join g e
  have waits : x.joinRun g e = x.join g e := by
    refine State.arbitrate_paused (e := e) ?_ ?_
    · rw [seg, empty]
    · rw [seg]
      exact pauses
  rw [waits]
  exact ⟨seg, fun j ne => x.join_seg_ne e ne, x.join_whole g e, x.join_frame g e⟩

/-! ### The latch (R44) -/

/-- A latch of channel `ch` that names the ECU is cleared. -/
structure Unlatched (x y : State) (ch : Fin 8) (ecu : Nat) : Prop where
  latch : (y.chan ch).latch = if (x.chan ch).latch = some ecu then none else (x.chan ch).latch
  chans : ∀ k, k ≠ ch → y.chan k = x.chan k
  event : (x.chan ch).latch = some ecu → y.regs.event.getLsbD 7 = true
  whole : y = { x with chans := y.chans, mem := y.mem, regs := y.regs }
  frame : MemFrame x y (Within (chanBase ch) 32)

theorem unlatched (x : State) (ch : Fin 8) (ecu : Nat) : Unlatched x (x.latchClear ch ecu) ch ecu := by
  unfold State.latchClear
  by_cases set : (x.chan ch).latch = some ecu
  · rw [if_pos set]
    have chan := x.updChan_chan ch fun r => { r with latch := none }
    have others := fun k (ne : k ≠ ch) => x.updChan_chan_ne (fun r => { r with latch := none }) ne
    have whole := x.updChan_whole ch fun r => { r with latch := none }
    have frame := x.updChan_frame ch fun r => { r with latch := none }
    generalize (x.updChan ch fun r => { r with latch := none }) = z at *
    have same : ∀ k, (z.event .channel).chan k = z.chan k := fun _ => rfl
    refine ⟨by rw [same, chan, if_pos set], fun k ne => by rw [same, others k ne], fun _ => ?_, ?_, frame⟩
    · rw [State.event_regs]
      simp [Event.bit]
    · rw [State.event, State.modRegs, whole]
  · rw [if_neg set]
    exact ⟨by rw [if_neg set], fun _ _ => rfl, fun is => absurd is set, rfl, MemFrame.refl x _⟩

/-! ### DONE (R131) -/

/-- The record of a transfer that has ended DONE. -/
def Transfer.asDone (r : Transfer) : Transfer := { r with phase := .done, feed := none, ka := none, out := none, pending := none }

/-- The transfer `r` of cell `c` has ended DONE, its last progress in the result. -/
structure TransferOver (x y : State) (c : Fin 32) (r : Transfer) : Prop where
  ends : TransferEndsDone x y c r
  kind : y.mem.bytes (cellBase c + 100) 28 = r.asDone.progressed.progressBytes (x.cell c).captured
  whole : y = { x with board := y.board, regs := y.regs, mem := y.mem, info := y.info, chans := y.chans, transfers := y.transfers, cm := y.cm }

theorem State.transferDone_eq {x : State} {c : Fin 32} {r : Transfer} (here : x.transfer c = some r) :
    let u := (x.modTransfer c Transfer.asDone).wrProgress c
    let v := u.latchClear r.channel r.target
    u.transfer c = some r.asDone.progressed → x.transferDone c =
      (v.endCellOn none c { CellEnd.done (r.asDone.progressed.progressBytes (v.cell c).captured) with
        abortTooLate := r.pending == some .aborted }).releaseTransfer c := by
  intro u v there
  rw [← State.endCell_of_no_conditions (show ({ CellEnd.done (r.asDone.progressed.progressBytes (v.cell c).captured) with
    abortTooLate := r.pending == some .aborted } : CellEnd).conditions = [] from rfl)]
  unfold State.transferDone
  dsimp only
  rw [show (x.modTransfer c fun t => { t with phase := .done, feed := none, ka := none, out := none, pending := none }).wrProgress c = u from rfl,
    there, here]
  rfl

theorem transferOver {x : State} {c : Fin 32} {r : Transfer} (here : x.transfer c = some r) : TransferOver x (x.transferDone c) c r := by
  have eq := State.transferDone_eq here
  dsimp only at eq
  obtain ⟨x1, hx1⟩ : ∃ x1, x1 = x.modTransfer c Transfer.asDone := ⟨_, rfl⟩
  have t1 : x1.transfer c = some r.asDone := by rw [hx1, State.transfer_modTransfer, here]; rfl
  have o1 : ∀ d, d ≠ c → x1.transfer d = x.transfer d := fun d ne => by rw [hx1, State.transfer_modTransfer_ne _ _ ne]
  have w1 : x1 = { x with transfers := x1.transfers } := by rw [hx1]; rfl
  rw [← hx1] at eq
  clear hx1
  have progress := progressWritten t1
  generalize x1.wrProgress c = x2 at eq progress
  replace eq := eq progress.transfer
  have latch := unlatched x2 r.channel r.target
  generalize x2.latchClear r.channel r.target = x3 at eq latch
  have w3 : x3 = { x with transfers := x3.transfers, mem := x3.mem, chans := x3.chans, regs := x3.regs } := by
    have lw := latch.whole
    rw [progress.whole, w1] at lw
    have transfers : x2.transfers = x3.transfers := by rw [latch.whole]
    dsimp only at lw
    rw [transfers] at lw
    exact lw
  have c3 : ∀ d, x3.cell d = x.cell d := fun d => by rw [w3]; rfl
  have ch2 : ∀ k, x2.chan k = x.chan k := fun k => by rw [progress.whole, w1]; rfl
  have t3 : ∀ d, x3.transfer d = x2.transfer d := fun d => by rw [latch.whole]; rfl
  rw [c3] at eq
  generalize hend : ({ CellEnd.done (r.asDone.progressed.progressBytes (x.cell c).captured) with
        abortTooLate := r.pending == some .aborted } : CellEnd) = e at eq
  have fault : e.fault = none := by rw [← hend]; rfl
  have ekind : e.kind = r.asDone.progressed.progressBytes (x.cell c).captured := by rw [← hend]; rfl
  have eflags : e.flags = flagBit (decide (r.pending = some .aborted)) 1 := by
    rw [← hend]
    show flagBit false 0 + flagBit (r.pending == some .aborted) 1 + flagBit false 2 + flagBit false 3 = _
    have same : (r.pending == some .aborted) = decide (r.pending = some .aborted) := by
      rw [Bool.eq_iff_iff]
      simp
    rw [same]
    simp [flagBit]
  have done := x3.endCellOn_endsDone c fault
  have flags := x3.endCellOn_read c e (o := 1) (by decide) (b := byte e.flags) rfl
  have kind := x3.endCellOn_kind c e rfl (by rw [ekind, Transfer.progressBytes_length])
  have cells := x3.endCellOn_onlyCell c e
  have regs := x3.endCellOn_regs c e
  have only := x3.endCellOn_boardOnly c e
  rw [ekind, Transfer.progressBytes_length] at kind
  generalize x3.endCellOn none c e = x4 at *
  obtain ⟨x5, hx5⟩ : ∃ x5, x5 = x4.setTransfer c none := ⟨_, rfl⟩
  have t5 : x5.transfer c = none := by rw [hx5, State.transfer_setTransfer]
  have o5 : ∀ d, d ≠ c → x5.transfer d = x4.transfer d := fun d ne => by rw [hx5, State.transfer_setTransfer_ne _ _ ne]
  have w5 : x5 = { x4 with transfers := x5.transfers } := by rw [hx5]; rfl
  rw [State.releaseTransfer, ← hx5] at eq
  clear hx5
  have lampWhole := x5.lampRefresh_whole
  have lampFrame := x5.lampRefresh_frame
  rw [eq]
  generalize x5.lampRefresh = y at *
  have w4 : x4 = { x with board := x4.board, transfers := x4.transfers, mem := x4.mem, chans := x4.chans, regs := x4.regs } := by
    have ow : x4 = { x3 with board := x4.board, regs := x4.regs, mem := x4.mem } := only
    have transfers : x3.transfers = x4.transfers := by rw [ow]
    have chans : x3.chans = x4.chans := by rw [ow]
    rw [w3, transfers, chans] at ow
    exact ow
  have ycell : ∀ d, y.cell d = x4.cell d := fun d => by rw [lampWhole, w5]; rfl
  have ychan : ∀ k, y.chan k = x3.chan k := fun k => by
    rw [lampWhole, w5, show x4 = { x3 with board := x4.board, regs := x4.regs, mem := x4.mem } from only]
    rfl
  have yregs : y.regs = x4.regs := by rw [lampWhole, w5]
  have ytransfer : ∀ d, y.transfer d = x5.transfer d := fun d => by rw [lampWhole]; rfl
  have x4transfer : ∀ d, x4.transfer d = x3.transfer d := fun d => by
    rw [show x4 = { x3 with board := x4.board, regs := x4.regs, mem := x4.mem } from only]
    rfl
  have low : MemFrame x4 y (Within 0x19 2) := by
    rw [w5] at lampFrame
    exact lampFrame
  have bounds := cellBase_bounds c
  have apart : ∀ a, EndPlaces c a → ¬ Within 0x19 2 a := fun a place lamp => by
    unfold EndPlaces at place
    unfold Within at *
    omega
  refine ⟨⟨done.later (by rw [ycell]) low apart (by rw [yregs]), by rw [ytransfer, t5], fun d ne => ?_, ?_, ?_, by rw [ychan, latch.latch, ch2],
    fun set => ?_, fun k ne => by rw [ychan, latch.chans k ne, ch2]⟩, ?_, by rw [lampWhole, w5, w4]⟩
  · rw [ytransfer, o5 d ne, x4transfer, t3, progress.transfers d ne, o1 d ne]
  · obtain ⟨posts, cell, others⟩ := cells.of_board (s := x) (by rw [w3])
    exact ⟨by rw [← posts, lampWhole, w5], by rw [ycell]; exact cell, fun d ne => by rw [ycell, others d ne]⟩
  · rw [low _ (by unfold Within; omega), ← eflags]
    exact flags
  · rw [yregs, regs]
    exact latch.event (by rw [ch2]; exact set)
  · rw [low.bytes fun i _ => by unfold Within; omega, kind]

end Sys2Proof.Machine
end

section
/-! PROOFS. A positive SHORT response to an exchange of a transfer, up to what it does to the transfer (R119, R125, R129). -/

namespace Sys2Proof.Machine

variable {s t : State}

/-! ### The response (R84, R119) -/

theorem shortForm_positive {service n : Nat} {b : Nat → Byte} (positive : (b 1).toNat = service + 0x80) (hold : b 1 ≠ 0xFD) (refusal : b 1 ≠ 0xFE) :
    shortForm service n b = .positive := by
  unfold shortForm
  rw [if_neg fun is => hold is.1, if_neg fun is => refusal is.1, if_pos positive]

/-- The two bytes of a response at `offset`, as its context takes them (R119, R130). -/
def Ctx.picked (offset : Nat) (bs : List Byte) (k : Ctx) : Ctx :=
  { k with verifyHi := if offset < bs.length then bs[offset]? else k.verifyHi
           verifyLo := if offset + 1 < bs.length then bs[offset + 1]? else k.verifyLo }

/-- What a response to DATA or to VERIFY stores in its context (R119). -/
def Ctx.storedBy (offset : Nat) (bs : List Byte) (k : Ctx) : Ctx := if k.role = .verify then k.picked offset bs else k

theorem State.storeResponse_verify {v : State} {g x : Fin 4} {bs : List Byte} (role : (v.ctx g x).role = .verify) :
    v.storeResponse g x 0 bs = v.modCtx g x (Ctx.picked (crcOffset (v.cell (v.ctx g x).cell).captured) bs) := by
  unfold State.storeResponse
  dsimp only
  rw [role]
  dsimp only
  congr 1
  funext k
  unfold Ctx.picked
  simp

/-- The first bytes of a response to DATA or to VERIFY. -/
theorem transferStored {u : State} {g x : Fin 4} {kind : FrameKind} {len : Nat} {tag : Byte} {bs : List Byte}
    (role : (u.ctx g x).role = .data ∨ (u.ctx g x).role = .verify)
    (goes : classify (u.ctx g x).service len (bs.getD 0 0) (bs.getD 1 0) ≠ .hold) :
    CtxMoved u (u.takeFirst g x kind len tag bs) g x
      ((firstCtx kind len tag bs (u.ctx g x)).storedBy (crcOffset (u.cell (u.ctx g x).cell).captured) bs) := by
  have moved := ctxModified u g x (firstCtx kind len tag bs)
  have cells : ∀ d, (u.modCtx g x (firstCtx kind len tag bs)).cell d = u.cell d := fun _ => rfl
  have own : (firstCtx kind len tag bs (u.ctx g x)).cell = (u.ctx g x).cell := rfl
  have same : (firstCtx kind len tag bs (u.ctx g x)).role = (u.ctx g x).role := rfl
  have does : u.takeFirst g x kind len tag bs = (u.modCtx g x (firstCtx kind len tag bs)).storeResponse g x 0 bs := by
    have open_ : (firstCtx kind len tag bs (u.ctx g x)).form ≠ .hold := goes
    have cycle : (firstCtx kind len tag bs (u.ctx g x)).role ≠ .cycle := by
      rw [same]
      rcases role with role | role <;> rw [role] <;> decide
    unfold State.takeFirst
    dsimp only
    rw [moved.ctx, if_neg open_, State.responseBegins, moved.ctx, if_neg cycle]
  rw [does]
  clear does
  generalize u.modCtx g x (firstCtx kind len tag bs) = v at *
  unfold Ctx.storedBy
  rw [same]
  rcases role with role | role
  · have stays : v.storeResponse g x 0 bs = v := by
      unfold State.storeResponse
      dsimp only
      rw [moved.ctx, same, role]
    rw [stays, role, if_neg (by decide)]
    exact moved
  · have second := ctxModified v g x (Ctx.picked (crcOffset (u.cell (u.ctx g x).cell).captured) bs)
    rw [moved.ctx] at second
    rw [State.storeResponse_verify (by rw [moved.ctx, same, role]), moved.ctx, own, cells, role, if_pos rfl]
    exact moved.trans second

/-! ### The report (R119, R132) -/

/-- A positive response to an exchange of the transfer `r`, which waits for it. -/
theorem State.endExchange_positive {x : State} {g k : Fin 4} {c : Fin 32} {r : Transfer} (role : (x.ctx g k).role.ofTransfer) (cell : (x.ctx g k).cell = c)
    (here : x.transfer c = some r) (d : Nat × Nat) :
    x.endExchange g k (.response .positive) d.1 d.2 =
      (((x.modTransfer c (Transfer.touchedBy (x.ctx g k).touched)).transferPositive c r.standing.1 r.standing.2 (x.ctx g k)).freeCtx g k).transferResume c := by
  subst cell
  have there : (x.modTransfer (x.ctx g k).cell (Transfer.touchedBy (x.ctx g k).touched)).transfer (x.ctx g k).cell =
      some (r.touchedBy (x.ctx g k).touched) := by rw [State.transfer_modTransfer, here]; rfl
  have eq : ∃ rep : Report, rep.outcome = .response .positive ∧ rep.touched = (x.ctx g k).touched ∧ x.endExchange g k (.response .positive) d.1 d.2 =
      ((x.transferReport (x.ctx g k).cell rep (x.ctx g k)).freeCtx g k).transferResume (x.ctx g k).cell := by
    refine ⟨{ outcome := .response .positive, respLen := (x.ctx g k).expected, truncated := (x.ctx g k).truncated, refusal := (x.ctx g k).refusal
              touched := (x.ctx g k).touched, detail := { seg := g, ctx := k, kind := d.1, index := d.2 } }, rfl, rfl, ?_⟩
    obtain ⟨exchange, cycle⟩ := role
    unfold State.endExchange
    dsimp only
    cases h : (x.ctx g k).role with
    | exchange => exact absurd h exchange
    | cycle => exact absurd h cycle
    | start => rfl
    | data => rfl
    | ending => rfl
    | verify => rfl
    | keepalive => rfl
  obtain ⟨rep, outcome, touched, eq⟩ := eq
  rw [eq]
  have report : x.transferReport (x.ctx g k).cell rep (x.ctx g k) =
      (x.modTransfer (x.ctx g k).cell (Transfer.touchedBy (x.ctx g k).touched)).transferPositive (x.ctx g k).cell r.standing.1 r.standing.2 (x.ctx g k) := by
    unfold State.transferReport
    dsimp only
    rw [touched]
    rw [show (x.modTransfer (x.ctx g k).cell fun t => { t with touched := t.touched || (x.ctx g k).touched }) =
      x.modTransfer (x.ctx g k).cell (Transfer.touchedBy (x.ctx g k).touched) from rfl, there, outcome]
    rfl
  rw [report]

/-- A positive SHORT response to DATA or to VERIFY, for a lone context. -/
theorem positiveRuns {g x : Fin 4} {us : Fin 1000} {f : CanFrame} {r : Transfer} (agree : ErrorsAgree s) (empty : LanesEmpty s g) (data : f.remote = false)
    (id : f.id = (s.ctx g x).respId) (other : f.id ≠ s.ps.active.veh.canId) (others : ∀ y, y ≠ x → (s.ctx g y).st = .free)
    (st : (s.ctx g x).st = .awaitResponse) (role : (s.ctx g x).role = .data ∨ (s.ctx g x).role = .verify) {n : Nat}
    (low : (f.data.toList.getD 0 0).toNat % 16 = n) (kind : (f.data.toList.getD 0 0).toNat / 16 = 1) (some : 1 ≤ n) (fits : n + 1 ≤ f.dlc.val)
    (positive : (f.data.toList.getD 1 0).toNat = (s.ctx g x).service + 0x80) (hold : f.data.toList.getD 1 0 ≠ 0xFD) (refusal : f.data.toList.getD 1 0 ≠ 0xFE)
    (here : s.transfer (s.ctx g x).cell = Option.some r) :
    ∃ u v, FrameTaken s u g us f ∧
      CtxMoved u v g x ((firstCtx .short n 0 (shortBytes f n) (s.ctx g x)).storedBy (crcOffset (s.cell (s.ctx g x).cell).captured) (shortBytes f n)) ∧
      exec (.frameCompleted g us f) s = .next ((((v.modTransfer (s.ctx g x).cell (Transfer.touchedBy (s.ctx g x).touched)).transferPositive (s.ctx g x).cell
        r.standing.1 r.standing.2 (v.ctx g x)).freeCtx g x).transferResume (s.ctx g x).cell).finish := by
  obtain ⟨u, taken, runs⟩ := shortRuns (us := us) agree empty data id other others st low kind some fits
  have ctx : u.ctx g x = s.ctx g x := taken.ctx x
  have is : classify (s.ctx g x).service n ((shortBytes f n).getD 0 0) ((shortBytes f n).getD 1 0) = .positive :=
    (classify_short f some).trans (shortForm_positive positive hold refusal)
  have moved := transferStored (u := u) (g := g) (x := x) (kind := .short) (len := n) (tag := 0) (bs := shortBytes f n) (by rw [ctx]; exact role)
    (by rw [ctx, is]; decide)
  rw [ctx, taken.cell] at moved
  generalize u.takeFirst g x .short n 0 (shortBytes f n) = v at *
  have stored : ∀ (o : Nat) (bs : List Byte) (k : Ctx), (k.storedBy o bs).form = k.form ∧ (k.storedBy o bs).cell = k.cell ∧
      (k.storedBy o bs).role = k.role ∧ (k.storedBy o bs).touched = k.touched := fun o bs k => by
    unfold Ctx.storedBy
    split <;> exact ⟨rfl, rfl, rfl, rfl⟩
  obtain ⟨form, cell, same, touched⟩ := stored (crcOffset (s.cell (s.ctx g x).cell).captured) (shortBytes f n)
    (firstCtx .short n 0 (shortBytes f n) (s.ctx g x))
  rw [← moved.ctx] at form cell same touched
  have pos : (v.ctx g x).form = .positive := form.trans is
  have vrole : (v.ctx g x).role = .data ∨ (v.ctx g x).role = .verify := by rw [same]; exact role
  rw [State.messageDone_response (by rw [pos]; decide), pos, State.endExchange_positive (r := r) ?_ cell (by rw [moved.whole, taken.whole]; exact here),
    touched] at runs
  · exact ⟨u, v, taken, moved, runs⟩
  · rcases vrole with vrole | vrole <;> rw [Role.ofTransfer, vrole] <;> decide

end Sys2Proof.Machine
end

section
/-! PROOFS. The acknowledgement of a block, and what comes next (R124, R125, R129, R131, R139). -/

namespace Sys2Proof.Machine

variable {s t : State}

/-! ### The block is folded, counted and its slot freed (R125, R129) -/

theorem State.slotWith_state {x : State} {c : Fin 32} {b : Nat} {st : SlotState} {n : Fin 8} (found : x.slotWith c b st = some n) : (x.slot n).st = st := by
  have hit := List.find?_some found
  simp only [Bool.and_eq_true, beq_iff_eq] at hit
  exact hit.1.1

/-- A SENDING slot that goes FREE was no HELD one. -/
theorem State.slotWith_freed {x y : State} {n : Fin 8} (slot : y.slot n = { x.slot n with st := .free }) (slots : ∀ k, k ≠ n → y.slot k = x.slot k)
    (sending : (x.slot n).st = .sending) (c : Fin 32) (b : Nat) : y.slotWith c b .held = x.slotWith c b .held := by
  unfold State.slotWith
  congr 1
  funext k
  by_cases same : k = n
  · rw [same, slot, sending]
    rfl
  · rw [slots k same]

/-- The record of a transfer whose block is acknowledged. -/
def Transfer.acknowledged (cap : List Byte) (touched : Bool) (bs : List Byte) (ka : Option Nat) (r : Transfer) : Transfer :=
  { r with
    touched := r.touched || touched, out := none, acked := r.acked + 1, bytes := r.bytes + blockLength cap r.acked, crc := crc16 r.crc bs
    progress := r.progress + 1, ka := ka }

/-- The block in slot `n` of the transfer of cell `c` is acknowledged, and its record is `u`. -/
structure BlockTaken (x y : State) (n : Fin 8) (c : Fin 32) (u : Transfer) : Prop where
  slot : y.slot n = { x.slot n with st := .free }
  slots : ∀ k, k ≠ n → y.slot k = x.slot k
  word : y.mem.word (slotBase n) = 0
  transfer : y.transfer c = some u
  transfers : ∀ d, d ≠ c → y.transfer d = x.transfer d
  bytes : y.mem.bytes (cellBase c + 100) 28 = u.progressBytes (x.cell c).captured
  whole : y = { x with slots := y.slots, mem := y.mem, transfers := y.transfers }
  frame : MemFrame x y fun a => Within (cellBase c + 100) 28 a ∨ Within (slotBase n) 2 a

theorem blockTaken {x : State} {n : Fin 8} {c : Fin 32} {r : Transfer} (here : x.transfer c = some r) (sending : x.slotWith c r.acked .sending = some n)
    (touched : Bool) (k : Ctx) :
    ∃ y, BlockTaken x y n c (r.acknowledged (x.cell c).captured touched k.blockBytes (x.kaStart c)) ∧
      (x.modTransfer c (Transfer.touchedBy touched)).transferPositive c .data r.acked k =
        if r.acked + 1 < blockCount (x.cell c).captured then y.boundary c else y.advance c (phaseAfter (x.cell c).captured .streaming) := by
  obtain ⟨f, hf⟩ : ∃ f : Transfer → Transfer, f = fun t => { t with
      touched := t.touched || touched, out := none, ka := x.kaStart c, crc := crc16 t.crc k.blockBytes, acked := t.acked + 1
      bytes := t.bytes + blockLength (x.cell c).captured r.acked } := ⟨_, rfl⟩
  obtain ⟨a, ha⟩ : ∃ a, a = (((x.modTransfer c (Transfer.touchedBy touched)).modTransfer c fun t => { t with out := none, ka := x.kaStart c }).modTransfer c
    fun t => { t with crc := crc16 t.crc k.blockBytes, acked := t.acked + 1, bytes := t.bytes + blockLength (x.cell c).captured r.acked }) := ⟨_, rfl⟩
  have atransfer : a.transfer c = some (f r) := by
    rw [ha, State.transfer_modTransfer, State.transfer_modTransfer, State.transfer_modTransfer, here, hf]
    rfl
  have atransfers : ∀ d, d ≠ c → a.transfer d = x.transfer d := fun d ne => by
    rw [ha, State.transfer_modTransfer_ne _ _ ne, State.transfer_modTransfer_ne _ _ ne, State.transfer_modTransfer_ne _ _ ne]
  have awhole : a = { x with transfers := a.transfers } := by rw [ha]; rfl
  have aslots : a.slotWith c r.acked .sending = some n := by rw [awhole]; exact sending
  have acks : (((x.modTransfer c (Transfer.touchedBy touched)).modTransfer c fun t =>
      { t with out := none, ka := (x.modTransfer c (Transfer.touchedBy touched)).kaStart c }).ackBlock c r.acked k.blockBytes) = a.setSlot n .free := by
    unfold State.ackBlock
    dsimp only
    rw [show (((x.modTransfer c (Transfer.touchedBy touched)).modTransfer c fun t =>
      { t with out := none, ka := (x.modTransfer c (Transfer.touchedBy touched)).kaStart c }).modTransfer c fun t => { t with
        crc := crc16 t.crc k.blockBytes, acked := t.acked + 1, bytes := t.bytes + blockLength (((x.modTransfer c (Transfer.touchedBy touched)).modTransfer c fun t =>
      { t with out := none, ka := (x.modTransfer c (Transfer.touchedBy touched)).kaStart c }).cell c).captured r.acked }) = a from ha.symm, aslots]
  have does : (x.modTransfer c (Transfer.touchedBy touched)).transferPositive c .data r.acked k =
      if r.acked + 1 < blockCount (x.cell c).captured then ((a.setSlot n .free).wrProgress c).boundary c
      else ((a.setSlot n .free).wrProgress c).advance c (phaseAfter (x.cell c).captured .streaming) := by
    unfold State.transferPositive
    dsimp only
    rw [acks]
    rfl
  have slot := a.setSlot_slot n .free
  have slots := fun m (ne : m ≠ n) => a.setSlot_slot_ne .free ne
  have word := a.setSlot_word n .free
  have whole := a.setSlot_whole n .free
  have frame := a.setSlot_frame n .free
  clear ha acks aslots
  generalize a.setSlot n .free = b at *
  have written := progressWritten (x := b) (c := c) (r := f r) (by rw [whole]; exact atransfer)
  generalize b.wrProgress c = y at *
  have yslot : ∀ m, y.slot m = b.slot m := fun m => by rw [written.whole]; rfl
  have aslot : ∀ m, a.slot m = x.slot m := fun m => by rw [awhole]; rfl
  have cell : b.cell c = x.cell c := by rw [whole, awhole]; rfl
  have next : (f r).progressed = r.acknowledged (x.cell c).captured touched k.blockBytes (x.kaStart c) := by rw [hf]; rfl
  have bounds := cellBase_bounds c
  have high := slotBase_bounds n
  have transfer := written.transfer
  have bytes := written.bytes
  rw [next] at transfer bytes
  rw [cell] at bytes
  refine ⟨y, ⟨by rw [yslot, slot, aslot], fun m ne => by rw [yslot, slots m ne, aslot], ?_, transfer, fun d ne => ?_, bytes, ?_, ?_⟩, does⟩
  · rw [written.frame.word (by unfold Within; omega) (by unfold Within; omega), word]
    rfl
  · rw [written.transfers d ne, whole]
    exact atransfers d ne
  · rw [written.whole, whole, awhole]
  · have first : MemFrame x b (Within (slotBase n) 2) := fun p out => by rw [frame p out, awhole]
    exact (first.both written.frame).mono fun p => Or.symm

theorem State.boundary_quiet {x : State} {c : Fin 32} {r : Transfer} (here : x.transfer c = some r) (quiet : r.pending = none) : x.boundary c = x := by
  unfold State.boundary
  rw [here]
  dsimp only
  rw [quiet]

theorem phaseAfter_done {cap : List Byte} (ending : (endRef cap).len = 0) (verify : (verifyRef cap).len = 0) : phaseAfter cap .streaming = .done := by
  unfold phaseAfter
  rw [if_neg (not_not_intro ending), if_neg (not_not_intro verify)]

/-! ### The context goes FREE, and the next block is looked for (R56, R124, R125) -/

/-- The block in slot `n` is acknowledged, and context `k` of segment `g` is FREE. -/
structure BlockFreed (x y : State) (g k : Fin 4) (n : Fin 8) (c : Fin 32) (u : Transfer) : Prop where
  taken : ∃ z, BlockTaken x z n c u ∧ Freed z y g k
  slot : y.slot n = { x.slot n with st := .free }
  slots : ∀ m, m ≠ n → y.slot m = x.slot m
  word : y.mem.word (slotBase n) = 0
  transfer : y.transfer c = some u
  transfers : ∀ d, d ≠ c → y.transfer d = x.transfer d
  bytes : y.mem.bytes (cellBase c + 100) 28 = u.progressBytes (x.cell c).captured
  seg : y.seg g = { x.seg g with ctxs := (x.seg g).ctxs.set k Ctx.free, busy := (x.seg g).busy.filter (· != (x.ctx g k).target),
                                 offered := (y.seg g).offered, counter := (y.seg g).counter }
  segs : ∀ h, h ≠ g → y.seg h = x.seg h
  ctx : y.ctx g k = Ctx.free
  ctxs : ∀ j, j ≠ k → y.ctx g j = x.ctx g j
  whole : y = { x with slots := y.slots, mem := y.mem, transfers := y.transfers, segs := y.segs }
  frame : MemFrame x y fun a => Within (cellBase c + 100) 28 a ∨ Within (slotBase n) 2 a ∨ Within (segBase g) 128 a

theorem BlockTaken.ctxFreed {x z : State} {g : Fin 4} {n : Fin 8} {c : Fin 32} {u : Transfer} (taken : BlockTaken x z n c u) (k : Fin 4) (nothing : StartsNothing x g) :
    BlockFreed x (z.freeCtx g k) g k n c u := by
  have zseg : ∀ h, z.seg h = x.seg h := fun h => by rw [taken.whole]; rfl
  have zctx : ∀ j, z.ctx g j = x.ctx g j := fun j => by rw [taken.whole]; rfl
  have free := freed (x := z) k (g := g) (by unfold StartsNothing LanesEmpty; rw [zseg]; exact nothing)
  generalize z.freeCtx g k = y at *
  have seg := free.seg
  rw [zseg, zctx] at seg
  have yslot : ∀ m, y.slot m = z.slot m := fun m => by rw [free.whole]; rfl
  have ytransfer : ∀ d, y.transfer d = z.transfer d := fun d => by rw [free.whole]; rfl
  have bounds := cellBase_bounds c
  have high := slotBase_bounds n
  have low := segBase_bounds g
  refine ⟨⟨z, taken, free⟩, by rw [yslot, taken.slot], fun m ne => by rw [yslot, taken.slots m ne], ?_, by rw [ytransfer, taken.transfer],
    fun d ne => by rw [ytransfer, taken.transfers d ne], by rw [free.bytes (by omega), taken.bytes], seg, fun h ne => by rw [free.segs h ne, zseg], free.ctx,
    fun j ne => by rw [free.ctxs j ne, zctx], by rw [free.whole, taken.whole], ?_⟩
  · rw [free.frame.word (by unfold Within; omega) (by unfold Within; omega), taken.word]
  · refine (taken.frame.both free.frame).mono ?_
    rintro a ((area | word) | seg)
    · exact .inl area
    · exact .inr (.inl word)
    · exact .inr (.inr seg)

end Sys2Proof.Machine
end

section
/-! PROOFS. BlockAcknowledged: the DATA exchange (R124, R125, R131). -/

namespace Sys2Proof.Machine

variable {s t : State}

/-! ### A streaming transfer goes on (R124, R125) -/

section
variable {x y t : State} {g k : Fin 4} {n : Fin 8} {c : Fin 32} {u : Transfer} (freed : BlockFreed x y g k n c u)
include freed

/-- No block is HELD: the feed timer starts. -/
theorem BlockFreed.waits (quiet : u.out = none) (kept : u.withdrawn = none) (phase : u.phase = .streaming) (sending : (x.slot n).st = .sending)
    (absent : x.slotWith c u.acked .held = none) :
    ∃ z, y.transferResume c = z ∧ z.transfer c = some { u with feed := some (x.time.clock + feedTimeout (x.cell c).captured) } ∧
      (∀ d, d ≠ c → z.transfer d = x.transfer d) ∧ z = { y with transfers := z.transfers } := by
  have found : y.slotWith c u.acked .held = none := by
    rw [State.slotWith_freed freed.slot freed.slots sending]
    exact absent
  have eq := (State.transferResume_streaming freed.transfer quiet kept phase).trans (State.needBlock_none freed.transfer found)
  have clock : y.time.clock = x.time.clock := by rw [freed.whole]
  have cell : y.cell c = x.cell c := by rw [freed.whole]; rfl
  rw [clock, cell] at eq
  refine ⟨_, eq, ?_, fun d ne => ?_, rfl⟩
  · rw [State.transfer_modTransfer, freed.transfer]
    rfl
  · rw [State.transfer_modTransfer_ne _ _ ne, freed.transfers d ne]

/-- The next block is HELD and its lane is paused: its DATA exchange joins the lane. -/
theorem BlockFreed.sends (quiet : u.out = none) (kept : u.withdrawn = none) (phase : u.phase = .streaming) (sending : (x.slot n).st = .sending) {m : Fin 8}
    (held : x.slotWith c u.acked .held = some m) (route : s.segmentOf u.target = some g) (on : s.enabled g = true) (ps : x.ps.active = s.ps.active)
    (marks : ∀ h, (x.seg h).hostDisable = (s.seg h).hostDisable) (empty : LanesEmpty x g)
    (pauses : (x.seg g).pace.pauses (Lane.ofCode (s.ps.active.lanes[g])[s.classIndex u.codes.data]) = true) :
    BlockSent y (y.transferResume c) m c u g (x.dataEntry g c u) := by
  have found : y.slotWith c u.acked .held = some m := by
    rw [State.slotWith_freed freed.slot freed.slots sending]
    exact held
  have yps : y.ps = x.ps := by rw [freed.whole]
  have entry : y.dataEntry g c u = x.dataEntry g c u := by
    unfold State.dataEntry
    rw [State.newEntry_congr (by rw [yps])]
    rw [freed.whole]
    rfl
  have disable : ∀ h, (y.seg h).hostDisable = (x.seg h).hostDisable := fun h => by
    by_cases same : h = g
    · rw [same, freed.seg]
    · rw [freed.segs h same]
  have lane : (y.dataEntry g c u).lane = Lane.ofCode (s.ps.active.lanes[g])[s.classIndex u.codes.data] := by
    rw [entry]
    unfold State.dataEntry State.newEntry State.laneOf State.classIndex
    rw [ps]
    rfl
  have sent := blockSent (g := g) freed.transfer found
    (fun v vps segs => State.openSegment_of route on (by rw [vps, yps, ps]) fun h => by rw [State.seg, segs]; exact (disable h).trans (marks h))
    (fun v vps segs => joined_paused _ (by rw [LanesEmpty, State.seg, segs]; exact (congrArg Seg.lanes freed.seg).trans empty)
      (by rw [lane, State.seg, segs]; exact (congrArg (fun q : Seg => q.pace.pauses _) freed.seg).trans pauses))
  rw [entry] at sent
  rw [State.transferResume_streaming freed.transfer quiet kept phase]
  exact sent

end

/-! ### The event (R70, R125) -/

/-- A frame for context `x` of segment `g` has been received, and only that context has taken it. -/
structure Received (s v : State) (g x : Fin 4) : Prop where
  ctxs : ∀ j, j ≠ x → v.ctx g j = s.ctx g j
  lanes : (v.seg g).lanes = (s.seg g).lanes
  pace : (v.seg g).pace = (s.seg g).pace
  marks : ∀ h, (v.seg h).hostDisable = (s.seg h).hostDisable
  segs : ∀ h, h ≠ g → v.seg h = s.seg h
  whole : v = { s with segs := v.segs, time := { s.time with us := v.time.us }, regs := v.regs, mem := v.mem }
  frame : MemFrame s v (Within (segBase g) 128)

theorem FrameTaken.received {u v : State} {g x : Fin 4} {us : Fin 1000} {f : CanFrame} {k : Ctx} (taken : FrameTaken s u g us f) (moved : CtxMoved u v g x k) :
    Received s v g x := by
  refine ⟨fun j ne => by rw [moved.ctxs j ne, taken.ctx], by rw [moved.seg, taken.seg], by rw [moved.seg, taken.seg], fun h => ?_,
    fun h ne => by rw [moved.segs h ne, taken.segs h ne], ?_, taken.frame.trans moved.frame⟩
  · by_cases same : h = g
    · rw [same, moved.seg, taken.seg]
    · rw [moved.segs h same, taken.segs h same]
  · have eq := moved.whole
    have us : v.time.us = max s.time.us us.val := by rw [moved.whole, taken.whole]
    have regs : v.regs = u.regs := by rw [moved.whole]
    rw [taken.whole] at eq
    rw [us, regs]
    exact eq

section
variable {v : State} {g x : Fin 4} (received : Received s v g x)
include received

theorem Received.cell (c : Fin 32) : v.cell c = s.cell c := by rw [received.whole]; rfl
theorem Received.transfer (c : Fin 32) : v.transfer c = s.transfer c := by rw [received.whole]; rfl
theorem Received.slot (n : Fin 8) : v.slot n = s.slot n := by rw [received.whole]; rfl
theorem Received.chan (ch : Fin 8) : v.chan ch = s.chan ch := by rw [received.whole]; rfl
theorem Received.slotWith (c : Fin 32) (b : Nat) (st : SlotState) : v.slotWith c b st = s.slotWith c b st := by rw [received.whole]; rfl
theorem Received.clean (settled : Settled s) : v.info.dirty = false := by rw [received.whole]; exact settled.1

theorem Received.kaStart (c : Fin 32) : v.kaStart c = s.kaStart c := by
  unfold State.kaStart
  rw [received.cell, received.whole]

theorem Received.nothing (empty : LanesEmpty s g) : StartsNothing v g := .inl (received.lanes.trans empty)

end

/-- What a reception for a transfer leaves of the others. -/
def OthersLeft (s t : State) (g x : Fin 4) (c : Fin 32) : Prop :=
  (∀ d, d ≠ c → t.transfer d = s.transfer d) ∧ (∀ y, y ≠ x → t.ctx g y = s.ctx g y) ∧ (∀ h, h ≠ g → t.seg h = s.seg h) ∧ t.ctx g x = Ctx.free

/-- A streaming transfer whose block was acknowledged waits for the next one. -/
theorem BlockFreed.waited {v y : State} {g x : Fin 4} {n : Fin 8} {c : Fin 32} {u : Transfer} (freed : BlockFreed v y g x n c u)
    (received : Received s v g x) (settled : Settled s) (quiet : u.out = none) (kept : u.withdrawn = none) (phase : u.phase = .streaming)
    (sending : (s.slot n).st = .sending) (absent : s.slotWith c u.acked .held = none) :
    ∃ t w, (y.transferResume c).finish = t ∧ t.transfer c = some w ∧ w = { u with feed := some (s.time.clock + feedTimeout (s.cell c).captured) } ∧
      t.slot n = { s.slot n with st := .free } ∧ t.mem.word (slotBase n) = 0 ∧
      t.mem.bytes (cellBase c + 100) 28 = w.progressBytes (s.cell c).captured ∧ (∀ m, m ≠ n → t.slot m = s.slot m) ∧ OthersLeft s t g x c ∧
      t = { s with mem := t.mem, regs := t.regs, segs := t.segs, time := t.time, slots := t.slots, transfers := t.transfers } ∧
      MemFrame s t fun a => Within (cellBase c + 100) 28 a ∨ Within (slotBase n) 2 a ∨ Within (segBase g) 128 a := by
  obtain ⟨z, does, transfer, transfers, whole⟩ := freed.waits quiet kept phase (by rw [received.slot]; exact sending) (by rw [received.slotWith]; exact absent)
  have clock : v.time.clock = s.time.clock := by rw [received.whole]
  rw [clock, received.cell] at transfer
  have closed := closes z
  rw [does]
  generalize z.finish = t at *
  obtain ⟨mem, info⟩ := closed.clean (by rw [whole, freed.whole]; exact received.clean settled)
  have zslot : ∀ m, z.slot m = y.slot m := fun m => by rw [whole]; rfl
  have zmem : z.mem = y.mem := by rw [whole]
  have zseg : ∀ h, z.seg h = y.seg h := fun h => by rw [whole]; rfl
  have zctx : ∀ j, z.ctx g j = y.ctx g j := fun j => by rw [whole]; rfl
  refine ⟨t, _, rfl, (closed.transfer c).trans transfer, rfl, by rw [closed.slot, zslot, freed.slot, received.slot], by rw [mem, zmem, freed.word], ?_,
    fun m ne => by rw [closed.slot, zslot, freed.slots m ne, received.slot], ⟨fun d ne => by rw [closed.transfer, transfers d ne, received.transfer],
    fun j ne => by rw [closed.ctx, zctx, freed.ctxs j ne, received.ctxs j ne], fun h ne => by rw [closed.seg, zseg, freed.segs h ne, received.segs h ne],
    by rw [closed.ctx, zctx, freed.ctx]⟩, ?_, fun a out => ?_⟩
  · rw [mem, zmem, freed.bytes, received.cell]
    rfl
  · rw [closed.whole, info, whole, freed.whole, received.whole]
  · rw [mem, zmem, freed.frame a out, received.frame a fun area => out (.inr (.inr area))]

/-- A streaming transfer whose block was acknowledged sends the next one, which is HELD. -/
theorem BlockFreed.sent {v y : State} {g x : Fin 4} {n m : Fin 8} {c : Fin 32} {u : Transfer} (freed : BlockFreed v y g x n c u)
    (received : Received s v g x) (settled : Settled s) (empty : LanesEmpty s g) (quiet : u.out = none) (kept : u.withdrawn = none) (phase : u.phase = .streaming)
    (sending : (s.slot n).st = .sending) (held : s.slotWith c u.acked .held = some m) (route : s.segmentOf u.target = some g) (on : s.enabled g = true)
    (pauses : (s.seg g).pace.pauses (Lane.ofCode (s.ps.active.lanes[g])[s.classIndex u.codes.data]) = true) :
    ∃ t w e, (y.transferResume c).finish = t ∧ t.transfer c = some w ∧ w = { u with feed := none, out := some ⟨.data, u.acked, false⟩ } ∧
      t.slot n = { s.slot n with st := .free } ∧ t.slot m = { s.slot m with st := .sending } ∧
      t.mem.word (slotBase n) = 0 ∧ t.mem.word (slotBase m) = 3 ∧
      t.mem.bytes (cellBase c + 100) 28 = w.progressBytes (s.cell c).captured ∧
      (∀ j, j ≠ n → j ≠ m → t.slot j = s.slot j) ∧ (t.seg g).lanes = Lanes.only e ∧ e.cell = c ∧ e.role = .data ∧
      e.target = u.target ∧ e.lane = Lane.ofCode (s.ps.active.lanes[g])[s.classIndex u.codes.data] ∧
      e.deadline = s.time.ms + BitVec.ofNat 32 (queueLimit (s.cell c).captured 30000) ∧ OthersLeft s t g x c ∧
      t = { s with mem := t.mem, regs := t.regs, segs := t.segs, time := t.time, slots := t.slots, transfers := t.transfers } ∧
      MemFrame s t fun a => Within (cellBase c + 100) 28 a ∨ Within (slotBase n) 2 a ∨ Within (slotBase m) 2 a ∨ Within (segBase g) 128 a := by
  have ps : v.ps = s.ps := by rw [received.whole]
  have sends := freed.sends quiet kept phase (by rw [received.slot]; exact sending) (m := m) (by rw [received.slotWith]; exact held) route on (by rw [ps])
    received.marks (received.lanes.trans empty) (by rw [received.pace]; exact pauses)
  have entry : v.dataEntry g c u = s.dataEntry g c u := by
    unfold State.dataEntry
    rw [State.newEntry_congr (by rw [ps]), received.cell, received.whole]
    rfl
  rw [entry] at sends
  have other : m ≠ n := by
    rintro rfl
    exact absurd (sending.symm.trans (State.slotWith_state held)) (by decide)
  have closed := closes (y.transferResume c)
  generalize y.transferResume c = z at *
  generalize z.finish = t at *
  obtain ⟨mem, info⟩ := closed.clean (by rw [sends.whole, freed.whole]; exact received.clean settled)
  have bounds := cellBase_bounds c
  have low := segBase_bounds g
  have place := slotBase_bounds n
  have place' := slotBase_bounds m
  have apart : slotBase n + 2 ≤ slotBase m ∨ slotBase m + 2 ≤ slotBase n := by
    have : m.val ≠ n.val := fun eq => other (Fin.ext eq)
    unfold slotBase
    omega
  have zctx : ∀ j, z.ctx g j = y.ctx g j := fun j => by
    show (z.seg g).ctxs[j] = (y.seg g).ctxs[j]
    rw [sends.seg]
  refine ⟨t, _, s.dataEntry g c u, rfl, (closed.transfer c).trans sends.transfer, rfl, ?_, ?_, ?_, by rw [mem, sends.word], ?_, fun j ne ne' => ?_, ?_, rfl, rfl, rfl, rfl, rfl,
    ⟨fun d ne => by rw [closed.transfer, sends.transfers d ne, freed.transfers d ne, received.transfer],
      fun j ne => by rw [closed.ctx, zctx, freed.ctxs j ne, received.ctxs j ne],
      fun h ne => by rw [closed.seg, sends.segs h ne, freed.segs h ne, received.segs h ne], by rw [closed.ctx, zctx, freed.ctx]⟩, ?_, ?_⟩
  · rw [closed.slot, sends.slots n (Ne.symm other), freed.slot, received.slot]
  · rw [closed.slot, sends.slot, freed.slots m other, received.slot]
  · rw [mem, sends.frame.word (by unfold Within; omega) (by unfold Within; omega), freed.word]
  · rw [mem, sends.frame.bytes fun i _ => by unfold Within; omega, freed.bytes, received.cell]
    rfl
  · rw [closed.slot, sends.slots j ne', freed.slots j ne, received.slot]
  · rw [closed.seg, sends.seg, freed.seg, received.lanes, empty]
  · rw [closed.whole, info, sends.whole, freed.whole, received.whole]
  · have last : MemFrame z t fun _ => False := fun a _ => by rw [mem]
    refine (received.frame.both ((freed.frame.both sends.frame).both last)).mono ?_
    rintro a (area | ((progress | word | area) | word | area) | no)
    · exact .inr (.inr (.inr area))
    · exact .inl progress
    · exact .inr (.inl word)
    · exact .inr (.inr (.inr area))
    · exact .inr (.inr (.inl word))
    · exact .inr (.inr (.inr area))
    · exact no.elim

end Sys2Proof.Machine
end

section
/-! PROOFS. BlockAcknowledged: the last block and VERIFY end the transfer (R130, R131), and the settling of O54. -/

namespace Sys2Proof.Machine

variable {s t : State}

/-! ### Ends, from the reception to the end of the event -/

section
variable {x y z : State} {g k : Fin 4} {c : Fin 32} {u r : Transfer} (before : x.chans = s.chans ∧ x.board = s.board)
  (transfers : ∀ d, d ≠ c → x.transfer d = s.transfer d) (free : Freed y z g k) (closed : Closes z t)
include before transfers free closed

theorem TransferEndsDone.carry (ends : TransferEndsDone x y c u) (pending : u.pending = r.pending) (channel : u.channel = r.channel)
    (target : u.target = r.target) : TransferEndsDone s t c r := by
  obtain ⟨done, gone, others, cells, flags, latch, event, chans⟩ := ends
  obtain ⟨xchans, xboard⟩ := before
  have xchan : ∀ ch, x.chan ch = s.chan ch := fun ch => by rw [State.chan, xchans, State.chan]
  have ztransfer : ∀ d, z.transfer d = y.transfer d := fun d => by rw [free.whole]; rfl
  have bounds := cellBase_bounds c
  rw [channel, target, xchan] at latch event
  rw [channel] at chans
  refine ⟨closed.endsDone (free.endsDone done), by rw [closed.transfer, ztransfer, gone], fun d ne => by rw [closed.transfer, ztransfer, others d ne, transfers d ne],
    ?_, ?_, by rw [closed.chan, free.chan, latch], fun set => ?_, fun ch ne => by rw [closed.chan, free.chan, chans ch ne, xchan]⟩
  · obtain ⟨posts, only, rest⟩ := cells.of_board (s := s) xboard
    exact ⟨by rw [closed.board, free.whole, posts], by rw [closed.cell, free.cell]; exact only, fun d ne => by rw [closed.cell, free.cell, rest d ne]⟩
  · rw [closed.read (by omega), free.read (by omega), flags, pending]
  · rw [closed.event, free.regs]
    exact event set

theorem TransferFailed.carry {reason : Reason} (failed : TransferFailed x y c u reason) (slots : ∀ n, x.slot n = s.slot n) (touched : u.touched = r.touched)
    (channel : u.channel = r.channel) (target : u.target = r.target) : TransferFailed s t c r reason := by
  obtain ⟨⟨ends, gone, others, slot, latch, latched⟩, cells⟩ := failed
  obtain ⟨xchans, xboard⟩ := before
  have xchan : ∀ ch, x.chan ch = s.chan ch := fun ch => by rw [State.chan, xchans, State.chan]
  have ztransfer : ∀ d, z.transfer d = y.transfer d := fun d => by rw [free.whole]; rfl
  have zslot : ∀ n, z.slot n = y.slot n := fun n => by rw [free.whole]; rfl
  rw [channel, touched, target, xchan] at latch
  rw [channel, touched] at latched
  refine ⟨⟨closed.endsFailed (free.endsFailed ends), by rw [closed.transfer, ztransfer, gone],
    fun d ne => by rw [closed.transfer, ztransfer, others d ne, transfers d ne], fun n => by rw [closed.slot, zslot, slot, slots],
    by rw [closed.chan, free.chan, latch], fun set => ?_⟩, ?_⟩
  · rw [closed.event, free.regs, closed.chan, free.chan]
    exact latched set
  · obtain ⟨posts, only, rest⟩ := cells.of_board (s := s) xboard
    exact ⟨by rw [closed.board, free.whole, posts], by rw [closed.cell, free.cell]; exact only, fun d ne => by rw [closed.cell, free.cell, rest d ne]⟩

end

/-- A transfer that has ended in a reception: its context goes FREE, and nothing follows. -/
theorem endedReceives {v y : State} {g x : Fin 4} {c : Fin 32} (received : Received s v g x) (empty : LanesEmpty s g) (segs : y.segs = v.segs)
    (gone : y.transfer c = none) (others : ∀ d, d ≠ c → y.transfer d = s.transfer d) :
    ∃ z t, ((y.freeCtx g x).transferResume c).finish = t ∧ Freed y z g x ∧ Closes z t ∧ OthersLeft s t g x c := by
  have yseg : ∀ h, y.seg h = v.seg h := fun h => by rw [State.seg, segs, State.seg]
  have yctx : ∀ j, y.ctx g j = v.ctx g j := fun j => by rw [State.ctx, segs, State.ctx]
  have free := freed (x := y) x (g := g) (by unfold StartsNothing LanesEmpty; rw [yseg]; exact received.nothing empty)
  generalize y.freeCtx g x = z at *
  have ztransfer : ∀ d, z.transfer d = y.transfer d := fun d => by rw [free.whole]; rfl
  have stays : z.transferResume c = z := by
    unfold State.transferResume
    rw [ztransfer, gone]
  have closed := closes z
  refine ⟨z, _, rfl, free, by rw [stays]; exact closed, ?_⟩
  rw [stays]
  exact ⟨fun d ne => by rw [closed.transfer, ztransfer, others d ne], fun j ne => by rw [closed.ctx, free.ctxs j ne, yctx, received.ctxs j ne],
    fun h ne => by rw [closed.seg, free.segs h ne, yseg, received.segs h ne], by rw [closed.ctx, free.ctx]⟩

/-! ### VERIFY (R130, R131) -/

/-- The record of a transfer whose VERIFY exchange has its response. -/
def Transfer.verified (touched : Bool) (ka : Option Nat) (value : Option Word16) (r : Transfer) : Transfer :=
  { r with touched := r.touched || touched, out := none, ka := ka, verify := value }

theorem State.transferPositive_verify {x : State} {c : Fin 32} {r : Transfer} (here : x.transfer c = some r) (touched : Bool) (block : Nat) (k : Ctx) :
    ∃ y : State, y.transfer c = some (r.verified touched (x.kaStart c) (verifyValue k)) ∧ (∀ d, d ≠ c → y.transfer d = x.transfer d) ∧
      y = { x with transfers := y.transfers } ∧ (x.modTransfer c (Transfer.touchedBy touched)).transferPositive c .verify block k =
        if verifyValue k = some r.crc then y.transferDone c
        else y.transferFail c { TFail.plain .verifyMismatch .ecu (.verify, 0) with secondary := r.pending } := by
  obtain ⟨y, hy⟩ : ∃ y, y = ((x.modTransfer c (Transfer.touchedBy touched)).modTransfer c fun t =>
    { t with out := none, ka := x.kaStart c }).modTransfer c fun t => { t with verify := verifyValue k } := ⟨_, rfl⟩
  have there : y.transfer c = some (r.verified touched (x.kaStart c) (verifyValue k)) := by
    rw [hy, State.transfer_modTransfer, State.transfer_modTransfer, State.transfer_modTransfer, here]
    rfl
  refine ⟨y, there, fun d ne => ?_, by rw [hy]; rfl, ?_⟩
  · rw [hy, State.transfer_modTransfer_ne _ _ ne, State.transfer_modTransfer_ne _ _ ne, State.transfer_modTransfer_ne _ _ ne]
  · unfold State.transferPositive
    dsimp only
    rw [show (((x.modTransfer c (Transfer.touchedBy touched)).modTransfer c fun t =>
      { t with out := none, ka := (x.modTransfer c (Transfer.touchedBy touched)).kaStart c }).modTransfer c fun t => { t with verify := verifyValue k }) = y
      from hy.symm, there]
    rfl

/-- The two bytes of a SHORT response to VERIFY. -/
theorem verifyValue_short {f : CanFrame} {n o : Nat} (fits : n + 1 ≤ f.dlc.val) {k : Ctx} (role : k.role = .verify) (hi : k.verifyHi = none) (lo : k.verifyLo = none) :
    verifyValue (k.storedBy o (shortBytes f n)) =
      if o + 2 ≤ n then some (BitVec.ofNat 16 ((f.data.toList.getD (o + 1) 0).toNat * 256 + (f.data.toList.getD (o + 2) 0).toNat)) else none := by
  have size := shortBytes_length f fits
  have at_ : ∀ i, i < n → (shortBytes f n)[i]? = some (f.data.toList.getD (i + 1) 0) := fun i lt => by
    rw [← shortBytes_getD f lt, List.getD_eq_getElem?_getD, List.getElem?_eq_getElem (by rw [size]; exact lt)]
    rfl
  unfold Ctx.storedBy verifyValue
  rw [if_pos role]
  unfold Ctx.picked
  rw [size, hi, lo]
  dsimp only
  by_cases both : o + 2 ≤ n
  · rw [if_pos both, if_pos (by omega), if_pos (by omega), at_ o (by omega), at_ (o + 1) (by omega)] <;> rfl
  · rw [if_neg both, if_neg (by omega : ¬ o + 1 < n)]
    split <;> simp_all

/-! ### O54 -/

/-- Settles O54: a positive response to DATA acknowledges the block, and one to VERIFY ends the transfer. -/
theorem blockAcknowledged : Obligations.BlockAcknowledged := by
  unfold Obligations.BlockAcknowledged
  intro g x us f r s settled agree empty k c cap b len others data id other st free kind some fits positive hold refusal here kept
  refine ⟨fun n role phase out found => ?_, fun role phase out hi lo => ?_⟩
  · obtain ⟨a, v, taken, moved, runs⟩ := positiveRuns (us := us) agree empty data id other free st (.inl role) rfl kind some fits positive hold refusal here
    have received := taken.received moved
    have standing : r.standing = (.data, r.acked) := by rw [Transfer.standing, out]
    have ctx : v.ctx g x = firstCtx .short len 0 (shortBytes f len) k := by
      rw [moved.ctx, Ctx.storedBy, if_neg]
      show k.role ≠ .verify
      rw [role]
      decide
    have blocks : (v.ctx g x).blockBytes = k.blockBytes := by rw [ctx]; rfl
    obtain ⟨y, block, acts⟩ := blockTaken (x := v) (n := n) (c := c) (r := r) (by rw [received.transfer]; exact here) (by rw [received.slotWith]; exact found)
      k.touched (v.ctx g x)
    rw [standing, acts] at runs
    rw [received.cell, received.kaStart, blocks] at block
    rw [received.cell] at runs
    clear acts
    have sending := State.slotWith_state found
    intro u
    change BlockTaken v y n c u at block
    refine ⟨fun quiet more absent => ?_, fun m quiet more held route on => ?_, fun last ending verify => ?_⟩
    · rw [if_pos more, State.boundary_quiet block.transfer quiet] at runs
      obtain ⟨t, w, fin, rest⟩ := (block.ctxFreed x (received.nothing empty)).waited received settled rfl kept phase sending absent
      exact ⟨t, w, runs.trans (congrArg Host.Outcome.next fin), rest⟩
    · intro lane pauses
      rw [if_pos more, State.boundary_quiet block.transfer quiet] at runs
      obtain ⟨t, w, e, fin, rest⟩ := (block.ctxFreed x (received.nothing empty)).sent received settled empty rfl kept phase sending held route on pauses
      exact ⟨t, w, e, runs.trans (congrArg Host.Outcome.next fin), rest⟩
    · rw [if_neg (by rw [show blockCount (s.cell c).captured = blockCount cap from rfl, ← last]; exact Nat.lt_irrefl _), State.advance,
        if_pos (phaseAfter_done ending verify)] at runs
      have done := transferOver block.transfer
      generalize y.transferDone c = w at *
      have chans : y.chans = s.chans := by rw [block.whole, received.whole]
      have board : y.board = s.board := by rw [block.whole, received.whole]
      have transfers : ∀ d, d ≠ c → y.transfer d = s.transfer d := fun d ne => by rw [block.transfers d ne, received.transfer]
      obtain ⟨z, t, fin, freed, closed, left⟩ := endedReceives (y := w) received empty (by rw [done.whole, block.whole]) done.ends.2.1
        fun d ne => by rw [done.ends.2.2.1 d ne, transfers d ne]
      rw [show (s.ctx g x).cell = c from rfl, fin] at runs
      have slot : ∀ m, t.slot m = y.slot m := fun m => by
        rw [closed.slot, show z.slot m = w.slot m by rw [freed.whole]; rfl, show w.slot m = y.slot m by rw [done.whole]; rfl]
      have bounds := cellBase_bounds c
      refine ⟨t, runs, done.ends.carry ⟨chans, board⟩ transfers freed closed rfl rfl rfl, by rw [slot, block.slot, received.slot],
        fun m ne => by rw [slot, block.slots m ne, received.slot], left, ?_⟩
      have cell : y.cell c = s.cell c := by rw [State.cell, board, State.cell]
      have progress : r.progress + 2 = r.progress + 1 + 1 := by rw [BitVec.add_assoc]; rfl
      rw [closed.above (by omega), freed.bytes (by omega), done.kind, cell, progress]
      rfl
  · obtain ⟨a, v, taken, moved, runs⟩ := positiveRuns (us := us) agree empty data id other free st (.inr role) rfl kind some fits positive hold refusal here
    intro o value
    have received := taken.received moved
    have standing : r.standing = (.verify, 0) := by rw [Transfer.standing, out]
    have got : verifyValue (v.ctx g x) = value := by
      rw [moved.ctx]
      exact verifyValue_short fits (k := firstCtx .short len 0 (shortBytes f len) k) role hi lo
    obtain ⟨y, there, transfers, whole, acts⟩ := State.transferPositive_verify (x := v) (c := c) (r := r) (by rw [received.transfer]; exact here) k.touched 0
      (v.ctx g x)
    rw [standing, acts, got] at runs
    rw [got, received.kaStart] at there
    clear acts got
    have chans : y.chans = s.chans := by rw [whole, received.whole]
    have board : y.board = s.board := by rw [whole, received.whole]
    have segs : y.segs = v.segs := by rw [whole]
    have slots : ∀ n, y.slot n = s.slot n := fun n => by rw [whole]; exact received.slot n
    have cell : y.cell c = s.cell c := by rw [State.cell, board, State.cell]
    have rest : ∀ d, d ≠ c → y.transfer d = s.transfer d := fun d ne => by rw [transfers d ne, received.transfer]
    have bounds := cellBase_bounds c
    by_cases equal : value = Option.some r.crc
    · rw [if_pos equal] at runs
      have done := transferOver there
      generalize y.transferDone c = w at *
      obtain ⟨z, t, fin, freed, closed, left⟩ := endedReceives (y := w) received empty (by rw [done.whole, segs]) done.ends.2.1
        fun d ne => by rw [done.ends.2.2.1 d ne, rest d ne]
      rw [show (s.ctx g x).cell = c from rfl, fin] at runs
      refine ⟨t, runs, left, fun _ => ⟨done.ends.carry ⟨chans, board⟩ rest freed closed rfl rfl rfl, ?_, ?_⟩, fun ne => absurd equal ne⟩
      · rw [closed.whole, freed.whole, done.whole, whole, received.whole]
      · rw [closed.above (by omega), freed.bytes (by omega), done.kind, cell]
        rfl
    · rw [if_neg equal] at runs
      have fails := transferFails there { TFail.plain .verifyMismatch .ecu (.verify, 0) with secondary := r.pending }
      generalize y.transferFail c { TFail.plain .verifyMismatch .ecu (.verify, 0) with secondary := r.pending } = w at *
      obtain ⟨z, t, fin, freed, closed, left⟩ := endedReceives (y := w) received empty (by rw [fails.whole, segs]) fails.transfer
        fun d ne => by rw [fails.transfers d ne, rest d ne]
      rw [show (s.ctx g x).cell = c from rfl, fin] at runs
      refine ⟨t, runs, left, fun is => absurd is equal, fun _ => ⟨fails.transferFailed.carry ⟨chans, board⟩ rest freed closed slots rfl rfl rfl, ?_⟩⟩
      rw [closed.above (by omega), freed.bytes (by omega), fails.kind, cell]
      rfl

end Sys2Proof.Machine
end

section
/-! PROOFS. A lost EXCHANGE entry, and causes at transfers and watches, each as one rule (R22, R40, R132, R149). -/

namespace Sys2Proof.Machine

variable {s t : State}

/-! ### A cause at a transfer (R132) -/

/-- What a cause at the transfer `r` of cell `c` leaves. -/
structure TransferCaused (x y : State) (c : Fin 32) (r : Transfer) (reason : Reason) : Prop where
  cause : CauseTaken x y c r reason
  event : ∀ i, x.regs.event.getLsbD i = true → y.regs.event.getLsbD i = true
  cm : y.cm = { x.cm with lampInd := y.cm.lampInd, lit := y.cm.lit, blink := y.cm.blink }
  lamp : LampShows x y
  whole : y = { x with board := y.board, regs := y.regs, mem := y.mem, info := y.info, chans := y.chans, segs := y.segs, transfers := y.transfers
                       slots := y.slots, cm := y.cm }
  counts : ∀ k, (y.chan k).run = (x.chan k).run ∧ (y.chan k).admitted = (x.chan k).admitted
  chans : ∀ k, k ≠ r.channel → channelNamed (x.cell c).captured ≠ some k → y.chan k = x.chan k
  info : x.info.dirty = true → y.info = x.info
  frame : MemFrame x y (TransferPlaces c)

theorem transfers_eq_set {x y : State} {c : Fin 32} {v : Option Transfer} (here : y.transfer c = v) (others : ∀ d, d ≠ c → y.transfer d = x.transfer d) :
    y.transfers = x.transfers.set c v := by
  refine Vector.ext fun i hi => ?_
  by_cases same : i = c.val
  · subst same
    rw [Vector.getElem_set_self]
    exact here
  · rw [Vector.getElem_set_ne _ _ (Ne.symm same)]
    exact others ⟨i, hi⟩ fun eq => same (congrArg Fin.val eq)

/-- The transfer with a cause that waits for the end of its exchange (R132). -/
def Transfer.kept (reason : Reason) (r : Transfer) : Transfer := { r with pending := some reason }

theorem transferCaused {x : State} {c : Fin 32} {r : Transfer} (here : x.transfer c = some r) (reason : Reason) :
    TransferCaused x (x.transferCause c reason) c r reason := by
  cases pending : r.pending with
  | some other =>
    have stays : x.transferCause c reason = x := by
      unfold State.transferCause
      rw [here]
      dsimp only
      rw [pending]
      rfl
    rw [stays]
    exact ⟨⟨fun _ => ⟨rfl, rfl, rfl, rfl, rfl⟩, fun none => absurd (pending.symm.trans none) (by simp), fun none => absurd (pending.symm.trans none) (by simp)⟩,
      fun _ => id, rfl, fun changed => absurd rfl changed, rfl, fun _ => ⟨rfl, rfl⟩, fun _ _ _ => rfl, fun _ => rfl, MemFrame.refl x _⟩
  | none =>
    by_cases inside : r.out.any Outst.inCtx = true
    · have keeps : x.transferCause c reason = x.modTransfer c (Transfer.kept reason) := by
        unfold State.transferCause
        rw [here]
        dsimp only
        rw [pending, inside]
        rfl
      rw [keeps]
      refine ⟨⟨fun some => absurd pending some, fun _ _ => ⟨transfers_eq_set ?_ fun d ne => State.transfer_modTransfer_ne _ _ ne, rfl, rfl, rfl, rfl⟩,
        fun _ apart => absurd inside (by rw [apart]; decide)⟩, fun _ => id, rfl, fun changed => absurd rfl changed, rfl, fun _ => ⟨rfl, rfl⟩, fun _ _ _ => rfl,
        fun _ => rfl, MemFrame.refl x _⟩
      rw [State.transfer_modTransfer, here]
      rfl
    · have apart : r.out.any Outst.inCtx = false := by simpa using inside
      have acts := State.transferCause_acts here pending apart reason
      have drop := dropped x c
      rw [acts]
      clear acts
      generalize x.dropEntry c = z at *
      have dirties := (transferFails_open (x := z) (c := c) (r := r) (by rw [drop.whole]; exact here) (.plain reason .transfer r.standing)).2
      have fails := transferFails (x := z) (c := c) (r := r) (by rw [drop.whole]; exact here) (.plain reason .transfer r.standing)
      generalize z.transferFail c (.plain reason .transfer r.standing) = y at *
      have zcm : z.cm = x.cm := by rw [drop.whole]
      have zchan : ∀ k, z.chan k = x.chan k := fun k => by rw [drop.whole]; rfl
      have zcell : z.cell c = x.cell c := by rw [drop.whole]; rfl
      have cm := fails.cm
      have lamp := fails.lamp
      rw [LampShows, zcm] at lamp
      rw [zcm] at cm
      refine ⟨⟨fun some => absurd pending some, fun _ yes => absurd yes inside, fun _ _ => ⟨fails.transferFailed.seen (by rw [drop.whole]) (by rw [drop.whole])
        (by rw [drop.whole]) (fun d _ => by rw [drop.whole]; rfl) rfl rfl rfl, drop.entryDropped (by rw [fails.whole])⟩⟩, fun i set => ?_, cm, lamp,
        by rw [fails.whole, drop.whole], fun k => by rw [← zchan]; exact fails.counts k,
        fun k other unnamed => by rw [fails.chans k other (by rw [zcell]; exact unnamed), zchan], fun dirty => ?_, ?_⟩
      · rw [fails.regs, drop.whole]
        dsimp only
        rw [BitVec.getLsbD_or, set, Bool.true_or]
      · have same : z.info = x.info := by rw [drop.whole]
        rw [dirties (by rw [same]; exact dirty), same]
      · refine (drop.frame.both fails.frame).mono ?_
        rintro a (⟨g, e, -, area⟩ | place | ⟨n, -, word⟩ | ⟨ch, -, area⟩ | info)
        · exact .inr (.inr (.inr (.inl ⟨g, area⟩)))
        · exact .inl place
        · exact .inr (.inl ⟨n, word⟩)
        · exact .inr (.inr (.inl ⟨ch, area⟩))
        · exact .inr (.inr (.inr (.inr info)))

/-! ### A cause at a watch (R149) -/

/-- What a cause at the watch `w` of cell `c` leaves. -/
structure WatchCaused (x y : State) (c : Fin 32) (w : Watch) (reason : Reason) : Prop where
  cause : WatchCauseTaken x y c w reason
  event : y.regs.event = x.regs.event
  ends : w.pending = none → w.out ≠ .context → y.regs = { x.regs with done := x.regs.done ||| (1#32 <<< c.val), irq := y.regs.irq }
  whole : y = { x with board := y.board, regs := y.regs, mem := y.mem, segs := y.segs, watches := y.watches }
  frame : MemFrame x y fun a => EndPlaces c a ∨ ∃ g e, x.entryOf c = some (g, e) ∧ Within (segBase g) 128 a

/-- The watch with a cause that waits for the end of its cycle (R149). -/
def Watch.kept (reason : Reason) (w : Watch) : Watch := { w with pending := some reason }

theorem watchCaused {x : State} {c : Fin 32} {w : Watch} (here : x.watch c = some w) {reason : Reason} (named : reason ≠ .ecuRefused) :
    WatchCaused x (x.watchCause c reason) c w reason := by
  cases pending : w.pending with
  | some other =>
    have stays : x.watchCause c reason = x := by
      unfold State.watchCause
      rw [here]
      dsimp only
      rw [pending]
      rfl
    rw [stays]
    exact ⟨⟨fun _ => ⟨rfl, rfl, rfl⟩, fun none => absurd (pending.symm.trans none) (by simp), fun none => absurd (pending.symm.trans none) (by simp)⟩,
      rfl, fun none => absurd (pending.symm.trans none) (by simp), rfl, MemFrame.refl x _⟩
  | none =>
    by_cases inside : w.out = .context
    · have keeps : x.watchCause c reason = x.modWatch c (Watch.kept reason) := by
        unfold State.watchCause
        rw [here]
        dsimp only
        rw [pending, inside]
        rfl
      have only := watchOnly here (Watch.kept reason)
      rw [keeps]
      exact ⟨⟨fun some => absurd pending some, fun _ _ => ⟨watches_eq_set only.watch only.watches, rfl, rfl⟩, fun _ other => absurd inside other⟩, rfl,
        fun _ other => absurd inside other, rfl, MemFrame.refl x _⟩
    · have acts : x.watchCause c reason = x.watchEnd c (if reason = .aborted then none else some (watchFault x w .policy reason none)) := by
        have ends : x.watchEndBy c reason = x.watchEnd c (if reason = .aborted then none else some (watchFault x w .policy reason none)) := by
          unfold State.watchEndBy
          rw [here]
          dsimp only
          split <;> rfl
        unfold State.watchCause
        rw [here]
        dsimp only
        rw [pending]
        cases out : w.out with
        | context => exact absurd out inside
        | lane => exact ends
        | none => exact ends
      have plain : watchConditions (if reason = .aborted then none else some (watchFault x w .policy reason none)) = [] := by
        split
        · rfl
        · exact watchConditions_policy named
      rw [acts]
      clear acts
      have ended := watchEnds here (if reason = .aborted then none else some (watchFault x w .policy reason none))
      have still := watchEnd_plain here plain
      generalize x.watchEnd c (if reason = .aborted then none else some (watchFault x w .policy reason none)) = y at *
      refine ⟨⟨fun some => absurd pending some, fun _ yes => absurd yes inside, fun _ _ => ⟨ended.watches, ended.cells, ended.entry,
        fun abort => ended.done (if_pos abort), fun other => ended.failed _ (if_neg other)⟩⟩, by rw [ended.regs],
        fun _ _ => ended.regs, ?_, still.frame⟩
      have eq := ended.whole
      rw [still.chans, still.info] at eq
      exact eq

/-! ### A lost EXCHANGE entry (R22, R40, R59) -/

/-- The EXCHANGE cell `c` is lost in its lane. -/
structure ExchangeLost (x y : State) (c : Fin 32) (reason : Reason) : Prop where
  lost : EntryLost x y c reason
  kept : ∀ k, (y.chan k).run = (x.chan k).run ∧ (y.chan k).admitted = (x.chan k).admitted
  regs : y.regs = { x.regs with done := x.regs.done ||| (1#32 <<< c.val), irq := y.regs.irq }
  whole : y = { x with board := y.board, regs := y.regs, mem := y.mem, chans := y.chans, segs := y.segs }
  frame : MemFrame x y fun a => EndPlaces c a ∨ (∃ ch, channelNamed (x.cell c).captured = some ch ∧ Within (chanBase ch) 32 a) ∨
    ∃ g e, x.entryOf c = some (g, e) ∧ Within (segBase g) 128 a

theorem exchangeIsLost (x : State) (c : Fin 32) {reason : Reason} (named : reason ≠ .ecuRefused) (detail : Option Detail) :
    ExchangeLost x (x.exchangeLost c reason detail) c reason := by
  have drop := dropped x c
  rw [State.exchangeLost]
  generalize x.dropEntry c = z at *
  have conditions : (CellEnd.failed (denialFault z (targetOf (z.cell c).captured) .queue reason detail)).conditions = [.queueLost] := by
    simp [CellEnd.conditions, CellEnd.failed, CellEnd.done, denialFault, FaultRec.core, named]
  have ended := cellOver z c (.failed (denialFault z (targetOf (z.cell c).captured) .queue reason detail))
  have fails := ended.failed _ rfl
  generalize z.endCell c (.failed (denialFault z (targetOf (z.cell c).captured) .queue reason detail)) = y at *
  have zcell : ∀ d, z.cell d = x.cell d := fun d => by rw [drop.whole]; rfl
  have zchan : ∀ ch, z.chan ch = x.chan ch := fun ch => by rw [drop.whole]; rfl
  have chan := ended.chan
  have chans := ended.chans
  have frame := ended.frame
  rw [conditions] at chan
  rw [zcell] at chan chans frame
  refine ⟨⟨fails, ended.cells.of_board (by rw [drop.whole]), drop.entryDropped (by rw [ended.whole]), fun ch is => ?_, fun ch other => by rw [chans ch other, zchan]⟩,
    fun k => ?_, by rw [ended.regs, drop.whole], ?_, ?_⟩
  · rw [chan ch is, zchan]
    rfl
  · by_cases mine : channelNamed (x.cell c).captured = some k
    · rw [chan k mine, zchan]
      exact ⟨rfl, rfl⟩
    · rw [chans k mine, zchan]
      exact ⟨rfl, rfl⟩
  · rw [ended.whole, drop.whole]
  · refine (drop.frame.both frame).mono ?_
    rintro a (seg | place | chan)
    · exact .inr (.inr seg)
    · exact .inl place
    · exact .inr (.inl chan)

end Sys2Proof.Machine
end

section
/-! PROOFS. What an abort comes to in the units that hold a cell, and how its outcome stands at the end of the event (R15, R162, R183). -/

namespace Sys2Proof.Machine

variable {s t : State}

/-! ### Causes and losses, from before and after what they do not read -/

section
variable {x y : State} {c : Fin 32}

theorem CauseTaken.carry {r : Transfer} {reason : Reason} (taken : CauseTaken x y c r reason) (board : x.board = s.board) (segs : x.segs = s.segs)
    (slots : x.slots = s.slots) (chans : x.chans = s.chans) (transfers : x.transfers = s.transfers) : CauseTaken s y c r reason := by
  simp only [CauseTaken, TransferFailed, TransferReleased, OnlyCellState, EntryDropped, State.entryOf, State.cell, State.seg, State.slot, State.chan,
    State.transfer, board, segs, slots, chans, transfers] at taken ⊢
  exact taken

theorem WatchCauseTaken.carry {w : Watch} {reason : Reason} (taken : WatchCauseTaken x y c w reason) (board : x.board = s.board) (segs : x.segs = s.segs)
    (watches : x.watches = s.watches) : WatchCauseTaken s y c w reason := by
  simp only [WatchCauseTaken, OnlyCellState, EntryDropped, State.entryOf, State.cell, State.seg, board, segs, watches] at taken ⊢
  exact taken

theorem EntryLost.carry {reason : Reason} (lost : EntryLost x y c reason) (board : x.board = s.board) (segs : x.segs = s.segs) (chans : x.chans = s.chans) :
    EntryLost s y c reason := by
  simp only [EntryLost, OnlyCellState, EntryDropped, State.entryOf, State.cell, State.seg, State.chan, board, segs, chans] at lost ⊢
  exact lost

end

/-- From `y` to `t` the work of the part stands as it is: its cells, records, lanes, slots and channels, and what RAM shows of the cells; no
event bit is lost. -/
structure Keeps (y t : State) : Prop where
  board : t.board = y.board
  segs : t.segs = y.segs
  slots : t.slots = y.slots
  chans : t.chans = y.chans
  transfers : t.transfers = y.transfers
  watches : t.watches = y.watches
  done : t.regs.done = y.regs.done
  event : ∀ i, y.regs.event.getLsbD i = true → t.regs.event.getLsbD i = true
  cells : MemFrame y t fun a => ¬ Within 0x100 0x1000 a

theorem Closes.keeps {y : State} (closed : Closes y t) : Keeps y t := by
  refine ⟨closed.board, by rw [closed.whole], by rw [closed.whole], by rw [closed.whole], by rw [closed.whole], by rw [closed.whole], closed.done,
    fun i set => by rw [closed.event]; exact set, closed.frame.mono fun a shared => ?_⟩
  unfold InfoShared at shared
  unfold Within at *
  omega

theorem Keeps.trans {y z : State} (first : Keeps y z) (second : Keeps z t) : Keeps y t :=
  ⟨second.board.trans first.board, second.segs.trans first.segs, second.slots.trans first.slots, second.chans.trans first.chans,
    second.transfers.trans first.transfers, second.watches.trans first.watches, second.done.trans first.done,
    fun i set => second.event i (first.event i set), MemFrame.trans first.cells second.cells⟩

theorem endPlaces_inside {c : Fin 32} {a : Nat} (place : EndPlaces c a) : ¬ ¬ Within 0x100 0x1000 a := by
  have bounds := cellBase_bounds c
  unfold EndPlaces at place
  unfold Within at *
  omega

section
variable {x y : State} {c : Fin 32} (keeps : Keeps y t)
include keeps

theorem Keeps.cell (d : Fin 32) : t.cell d = y.cell d := by rw [State.cell, keeps.board, State.cell]
theorem Keeps.chan (ch : Fin 8) : t.chan ch = y.chan ch := by rw [State.chan, keeps.chans, State.chan]
theorem Keeps.seg (g : Fin 4) : t.seg g = y.seg g := by rw [State.seg, keeps.segs, State.seg]
theorem Keeps.transfer (d : Fin 32) : t.transfer d = y.transfer d := by rw [State.transfer, keeps.transfers, State.transfer]
theorem Keeps.slot (n : Fin 8) : t.slot n = y.slot n := by rw [State.slot, keeps.slots, State.slot]

theorem Keeps.endsDone (ends : EndsDone y c) : EndsDone t c :=
  ends.later (by rw [keeps.cell]) keeps.cells (fun _ => endPlaces_inside) (by rw [keeps.done])

theorem Keeps.endsFailed {stage : Stage} {reason : Reason} (ends : EndsFailed y c stage reason) : EndsFailed t c stage reason :=
  ends.later (by rw [keeps.cell]) keeps.cells (fun _ => endPlaces_inside) (by rw [keeps.done])

theorem Keeps.onlyCell (only : OnlyCellState x y c) : OnlyCellState x t c := by
  obtain ⟨posts, cell, others⟩ := only
  exact ⟨by rw [keeps.board, posts], by rw [keeps.cell]; exact cell, fun d ne => by rw [keeps.cell, others d ne]⟩

theorem Keeps.entryDropped (dropped : EntryDropped x y c) : EntryDropped x t c := by
  obtain ⟨absent, present⟩ := dropped
  refine ⟨fun gone => keeps.segs.trans (absent gone), fun g e entry => ?_⟩
  obtain ⟨here, others⟩ := present g e entry
  exact ⟨(keeps.seg g).trans here, fun h ne => (keeps.seg h).trans (others h ne)⟩

theorem Keeps.transferFailed {r : Transfer} {reason : Reason} (failed : TransferFailed x y c r reason) : TransferFailed x t c r reason := by
  obtain ⟨⟨ends, gone, others, slots, latch, touched⟩, cells⟩ := failed
  refine ⟨⟨keeps.endsFailed ends, (keeps.transfer c).trans gone, fun d ne => (keeps.transfer d).trans (others d ne), fun n => (keeps.slot n).trans (slots n),
    by rw [keeps.chan]; exact latch, fun yes => ?_⟩, keeps.onlyCell cells⟩
  obtain ⟨event, accrued⟩ := touched yes
  rw [keeps.chan]
  exact ⟨keeps.event 7 event, accrued⟩

theorem Keeps.causeTaken {r : Transfer} {reason : Reason} (taken : CauseTaken x y c r reason) : CauseTaken x t c r reason := by
  obtain ⟨passed, kept, fails⟩ := taken
  refine ⟨fun pending => ?_, fun free inside => ?_, fun free outside => ?_⟩
  · rw [keeps.board, keeps.segs, keeps.slots, keeps.chans, keeps.transfers]
    exact passed pending
  · rw [keeps.board, keeps.segs, keeps.slots, keeps.chans, keeps.transfers]
    exact kept free inside
  · obtain ⟨failed, dropped⟩ := fails free outside
    exact ⟨keeps.transferFailed failed, keeps.entryDropped dropped⟩

theorem Keeps.watchCauseTaken {w : Watch} {reason : Reason} (taken : WatchCauseTaken x y c w reason) : WatchCauseTaken x t c w reason := by
  obtain ⟨passed, kept, ends⟩ := taken
  refine ⟨fun pending => ?_, fun free inside => ?_, fun free outside => ?_⟩
  · rw [keeps.board, keeps.segs, keeps.watches]
    exact passed pending
  · rw [keeps.board, keeps.segs, keeps.watches]
    exact kept free inside
  · obtain ⟨gone, cells, dropped, done, failed⟩ := ends free outside
    exact ⟨keeps.watches.trans gone, keeps.onlyCell cells, keeps.entryDropped dropped, fun abort => keeps.endsDone (done abort),
      fun other => keeps.endsFailed (failed other)⟩

theorem Keeps.entryLost {reason : Reason} (lost : EntryLost x y c reason) : EntryLost x t c reason := by
  obtain ⟨failed, cells, dropped, chan, chans⟩ := lost
  exact ⟨keeps.endsFailed failed, keeps.onlyCell cells, keeps.entryDropped dropped, fun ch named => by rw [keeps.chan]; exact chan ch named,
    fun ch other => (keeps.chan ch).trans (chans ch other)⟩

end

theorem Closes.endRegs_done {x y : State} {c : Fin 32} (closed : Closes y t)
    (regs : y.regs = { x.regs with done := x.regs.done ||| (1#32 <<< c.val), irq := y.regs.irq }) : EndRegs x t c 0 := by
  unfold EndRegs
  have eq := closed.regs
  rw [eq]
  rw [regs]
  simp [irqOf]

/-! ### The armed commit (R15) -/

/-- The armed commit of cell `c` has been disarmed. -/
structure Disarmed (x y : State) (c : Fin 32) : Prop where
  failed : EndsFailed y c .policy .aborted
  ps : y.ps = { x.ps with armed := none }
  cells : OnlyCellState x y c
  regs : y.regs = { x.regs with done := x.regs.done ||| (1#32 <<< c.val) }
  whole : y = { x with board := y.board, regs := y.regs, mem := y.mem, ps := y.ps }
  frame : MemFrame x y (EndPlaces c)

theorem disarmed {x : State} {c : Fin 32} (armed : x.ps.armed = some c) : Disarmed x (x.disarm c) c := by
  have eq : x.disarm c = (x.modPs fun p => { p with armed := none }).endCellOn none c (.failed (FaultRec.core .policy .aborted none)) := by
    unfold State.disarm
    rw [if_pos armed]
    exact State.endCell_of_no_conditions (CellEnd.conditions_failed (by simp [FaultRec.core]) rfl (by simp [FaultRec.core]) rfl)
  rw [eq]
  clear eq
  obtain ⟨z, hz⟩ : ∃ z, z = x.modPs fun p => { p with armed := none } := ⟨_, rfl⟩
  rw [← hz]
  have board : z.board = x.board := by rw [hz]; rfl
  have mem : z.mem = x.mem := by rw [hz]; rfl
  have regs : z.regs = x.regs := by rw [hz]; rfl
  have ps : z.ps = { x.ps with armed := none } := by rw [hz]; rfl
  have whole : z = { x with ps := z.ps } := by rw [hz]; rfl
  clear hz
  have only := z.endCellOn_boardOnly c (.failed (FaultRec.core .policy .aborted none))
  have failed := z.endCellOn_endsFailed c (e := .failed (FaultRec.core .policy .aborted none)) rfl
  have cells := z.endCellOn_onlyCell c (.failed (FaultRec.core .policy .aborted none))
  have yregs := z.endCellOn_regs c (.failed (FaultRec.core .policy .aborted none))
  have frame := z.endCellOn_frame c (.failed (FaultRec.core .policy .aborted none))
  generalize z.endCellOn none c (.failed (FaultRec.core .policy .aborted none)) = y at *
  have yps : y.ps = z.ps := by rw [only]
  refine ⟨failed, by rw [yps, ps], cells.of_board board, by rw [yregs, regs], ?_, fun a out => (frame a out).trans (by rw [mem])⟩
  have eq := only
  unfold BoardOnly at eq
  rw [whole, ← yps] at eq
  exact eq

/-! ### The CONNECTOR cell that awaits a start (R162) -/

/-- The CONNECTOR cell `c` has been aborted, and the switch is open. -/
structure ConnectorAborted (x y : State) (c : Fin 32) : Prop where
  failed : EndsFailed y c .connector .aborted
  cm : y.cm = { x.cm with supply := .off, startTimer := none, cell := none }
  shows : y.mem.read 0x1D = 0
  cells : OnlyCellState x y c
  regs : y.regs = { x.regs with done := x.regs.done ||| (1#32 <<< c.val) }
  whole : y = { x with board := y.board, regs := y.regs, mem := y.mem, info := y.info, cm := y.cm }
  frame : MemFrame x y fun a => EndPlaces c a ∨ Within 0x1D 1 a

theorem connectorAborted {x : State} {c : Fin 32} (waits : x.cm.cell = some c) : ConnectorAborted x x.connectorAbort c := by
  have bounds := cellBase_bounds c
  rw [State.connectorAbort, State.connectorEnds_some (s := x.setSupply .off none) waits (by decide)]
  obtain ⟨e, he⟩ : ∃ e, e = connectorEnd { (x.setSupply .off none).cm with cell := none } (some .aborted) := ⟨_, rfl⟩
  have fault : e.fault = some (FaultRec.core .connector .aborted none) := by rw [he]; rfl
  rw [← he]
  clear he
  obtain ⟨z, hz⟩ : ∃ z, z = (x.setSupply .off none).modCm fun m => { m with cell := none } := ⟨_, rfl⟩
  rw [← hz]
  have board : z.board = x.board := by rw [hz]; rfl
  have regs : z.regs = x.regs := by rw [hz]; rfl
  have cm : z.cm = { x.cm with supply := .off, startTimer := none, cell := none } := by rw [hz]; rfl
  have shows : z.mem.bytes 0x1D 1 = [0] := by
    rw [hz]
    exact Mem.bytes_write x.mem (b := 0x1D) (bs := [byte Supply.off.code]) (by simp [Config.ramSize])
  have first : MemFrame x z (Within 0x1D 1) := by
    rw [hz]
    exact fun a out => Mem.read_write_outside _ out
  have whole : z = { x with mem := z.mem, info := z.info, cm := z.cm } := by rw [hz]; rfl
  clear hz
  have only := z.endCellOn_boardOnly c e
  have failed := z.endCellOn_endsFailed c fault
  have cells := z.endCellOn_onlyCell c e
  have yregs := z.endCellOn_regs c e
  have frame := z.endCellOn_frame c e
  generalize z.endCellOn none c e = y at *
  have ycm : y.cm = z.cm := by rw [only]
  have yinfo : y.info = z.info := by rw [only]
  refine ⟨failed, by rw [ycm, cm], ?_, cells.of_board board, by rw [yregs, regs], ?_, (first.both frame).mono fun a place => place.symm⟩
  · rw [frame _ (by unfold EndPlaces Within; omega)]
    exact Mem.read_of_bytes_one shows
  · have eq := only
    unfold BoardOnly at eq
    rw [whole, ← ycm, ← yinfo] at eq
    exact eq

end Sys2Proof.Machine
end

section
/-! PROOFS. CELL_ABORT by the true state and the kind of the cell (R15, R59, R87, R133, R149, R162, R180, R182, R183). -/

namespace Sys2Proof.Machine

variable {s t : State}

/-! ### The write, the mirror and the unit -/

theorem exec_cellAbort {c : Fin 32} {w : HostWrite} (running : Running s) (leaves : Leaves s (cellBase c) w 7) :
    exec (.cellAbort c w) s = .next ((s.hostWord (cellBase c) w).abortCell c 7).finish := by
  obtain ⟨enabled, value⟩ := leaves
  refine (exec_eq (execCellAbort c w s) rfl).trans ((watchedWrite_running running.1 enabled (by rw [value]; rfl)).trans ?_)
  rw [value]

/-- The part once a host write to the word of cell `c` has been stored and the mirror restored. -/
structure Restored (s x : State) (c : Fin 32) : Prop where
  whole : x = { s with mem := x.mem }
  shows : CellShows x c (s.cell c).st
  frame : MemFrame s x (Within (cellBase c) 2)

theorem restored (s : State) (c : Fin 32) (w : HostWrite) : Restored s ((s.hostWord (cellBase c) w).wrCellWord c) c := by
  have bounds := cellBase_bounds c
  refine ⟨rfl, ⟨rfl, Mem.word_write _ _ (by simp only [Config.ramSize]; omega)⟩, fun a out => ?_⟩
  exact (Mem.read_write_outside _ out).trans (s.hostWord_frame (cellBase c) w a out)

section
variable {x : State} {c : Fin 32} (back : Restored s x c)
include back

theorem Restored.cell (d : Fin 32) : x.cell d = s.cell d := by rw [back.whole]; rfl
theorem Restored.board : x.board = s.board := by rw [back.whole]
theorem Restored.regs : x.regs = s.regs := by rw [back.whole]
theorem Restored.segs : x.segs = s.segs := by rw [back.whole]
theorem Restored.chans : x.chans = s.chans := by rw [back.whole]
theorem Restored.cm : x.cm = s.cm := by rw [back.whole]
theorem Restored.ps : x.ps = s.ps := by rw [back.whole]
theorem Restored.info : x.info = s.info := by rw [back.whole]
theorem Restored.transfer (d : Fin 32) : x.transfer d = s.transfer d := by rw [back.whole]; rfl
theorem Restored.watch (d : Fin 32) : x.watch d = s.watch d := by rw [back.whole]; rfl

end

section
variable (c : Fin 32) (v : Word16)

theorem State.abortCell_ended (ended : (s.cell c).st = .done ∨ (s.cell c).st = .failed) : s.abortCell c v = s.wrCellWord c := by
  unfold State.abortCell
  rcases ended with st | st <;> rw [st]

theorem State.abortCell_taken (st : (s.cell c).st = .taken) : s.abortCell c v = (s.wrCellWord c).modCell c fun r => { r with abortHeld := true } := by
  unfold State.abortCell
  rw [st]

theorem State.abortCell_queued (st : (s.cell c).st = .queued) : s.abortCell c v = (s.wrCellWord c).exchangeLost c .aborted none := by
  unfold State.abortCell
  rw [st]

theorem State.abortCell_active (st : (s.cell c).st = .active) : s.abortCell c v = (s.wrCellWord c).abortActive c := by
  unfold State.abortCell
  rw [st]

theorem State.abortCell_posted (st : (s.cell c).st = .posted) : s.abortCell c v = s.abortPosted c := by
  unfold State.abortCell
  rw [st]

theorem State.abortActive_exchange (kind : kindOf (s.cell c).captured = some .exchange) :
    s.abortActive c = s.modCell c fun r => { r with abortPending := true } := by
  unfold State.abortActive
  rw [kind]

theorem State.abortActive_transfer (kind : kindOf (s.cell c).captured = some .transfer) : s.abortActive c = s.transferCause c .aborted := by
  unfold State.abortActive
  rw [kind]

theorem State.abortActive_watch (kind : kindOf (s.cell c).captured = some .watch) : s.abortActive c = s.watchCause c .aborted := by
  unfold State.abortActive
  rw [kind]

theorem State.abortActive_commit (kind : kindOf (s.cell c).captured = some .commit) : s.abortActive c = s.disarm c := by
  unfold State.abortActive
  rw [kind]

theorem State.abortActive_connector (kind : kindOf (s.cell c).captured = some .connector) (waits : s.cm.cell = some c) :
    s.abortActive c = s.connectorAbort := by
  unfold State.abortActive
  rw [kind]
  exact if_pos waits

end

/-! ### A mark on the cell -/

/-- Marking the record of cell `c` leaves its state and everything else as it is. -/
theorem Restored.marked {x : State} {c : Fin 32} (back : Restored s x c) (settled : Settled s) (f : Cell → Cell) (st : ∀ r, (f r).st = r.st) {y : State}
    (is : x.modCell c f = y) :
    y.finish = y ∧ CellShows y c (s.cell c).st ∧ y.cell c = f (s.cell c) ∧ (∀ d, d ≠ c → y.cell d = s.cell d) ∧ y.board.posts = s.board.posts ∧
      y = { s with board := y.board, mem := y.mem } ∧ MemFrame s y (Within (cellBase c) 2) := by
  have cell : y.cell c = f (s.cell c) := by rw [← is, State.cell_modCell, back.cell]
  have mem : y.mem = x.mem := by rw [← is]; rfl
  have whole : y = { s with board := y.board, mem := y.mem } := by rw [← is, back.whole]; rfl
  obtain ⟨-, word⟩ := back.shows
  refine ⟨?_, ⟨by rw [cell, st], by rw [mem]; exact word⟩, cell, fun d ne => ?_, ?_, whole, fun a out => by rw [mem]; exact back.frame a out⟩
  · have still : Settled y := by rw [whole]; exact settled
    exact still.finish
  · rw [← is, x.cell_modCell_ne f ne, back.cell]
  · rw [← is, State.modCell_board, back.board]

/-! ### The end of a POSTED cell (R182) -/

/-- The accrual of the conditions of an end on the channel that it names. -/
theorem endCellOn_accrues (x : State) (ch : Option (Fin 8)) (c : Fin 32) (e : CellEnd) :
    ∃ z, Accrued x z ch e.conditions ∧ x.endCellOn ch c e = z.endCellOn none c e := by
  cases ch with
  | none => exact ⟨x, ⟨nofun, fun _ _ => rfl, rfl, MemFrame.refl x _⟩, rfl⟩
  | some ch =>
    refine ⟨x.accrue ch e.conditions, ⟨fun k eq => ?_, fun k ne => ?_, x.accrue_whole ch _, ?_⟩, x.endCellOn_some ch c e⟩
    · obtain rfl := Option.some.inj eq
      exact x.accrue_chan ch _
    · exact x.accrue_chan_ne _ fun eq => ne (congrArg some eq.symm)
    · exact (x.accrue_frame ch _).mono fun a inside => ⟨ch, rfl, inside⟩

/-- The stage at which a POSTED cell of this header is aborted. -/
def postedStage (cap : List Byte) : Stage := if kindOf cap = some .commit then .policy else .queue

/-- The POSTED cell `c` has been aborted, its fields in RAM being `cap`. -/
structure PostAborted (x y : State) (c : Fin 32) (cap : List Byte) : Prop where
  failed : EndsFailed y c (postedStage cap) .aborted
  lost : kindOf cap ≠ some .commit → ∀ ch, channelNamed cap = some ch → (y.chan ch).accrued = (x.chan ch).accrued ||| Flag.queueLost.bit
  posts : y.board.posts = x.board.posts.filter (· != c)
  cells : ∀ d, d ≠ c → y.cell d = x.cell d
  regs : y.regs = { x.regs with done := x.regs.done ||| (1#32 <<< c.val) }
  chans : ∀ ch, channelNamed cap ≠ some ch → y.chan ch = x.chan ch
  whole : y = { x with board := y.board, regs := y.regs, mem := y.mem, chans := y.chans }
  frame : MemFrame x y fun a => EndPlaces c a ∨ ∃ ch, channelNamed cap = some ch ∧ Within (chanBase ch) 32 a

theorem postAborted (x : State) (c : Fin 32) : PostAborted x (x.abortPosted c) c (x.mem.bytes (cellBase c) 64) := by
  unfold State.abortPosted
  dsimp only
  rw [State.setPosts_mem]
  generalize x.mem.bytes (cellBase c) 64 = cap
  obtain ⟨u, hu⟩ : ∃ u, u = x.setPosts (x.board.posts.filter (· != c)) := ⟨_, rfl⟩
  have uboard : u.board = { x.board with posts := x.board.posts.filter (· != c) } := by rw [hu]; rfl
  have uchan : ∀ ch, u.chan ch = x.chan ch := fun ch => by rw [hu]; rfl
  have umem : u.mem = x.mem := by rw [hu]; rfl
  have uwhole : u = { x with board := u.board } := by rw [hu]; rfl
  rw [← hu]
  clear hu
  change PostAborted x (u.endCellOn (channelNamed cap) c (.failed (FaultRec.core (postedStage cap) .aborted (u.segConcerned cap)))) c cap
  have conditions : kindOf cap ≠ some .commit →
      (CellEnd.failed (FaultRec.core (postedStage cap) .aborted (u.segConcerned cap))).conditions = [.queueLost] := fun other => by
    simp [CellEnd.conditions, CellEnd.failed, CellEnd.done, FaultRec.core, postedStage, if_neg other]
  have fault : (CellEnd.failed (FaultRec.core (postedStage cap) .aborted (u.segConcerned cap))).fault =
      some (FaultRec.core (postedStage cap) .aborted (u.segConcerned cap)) := rfl
  generalize CellEnd.failed (FaultRec.core (postedStage cap) .aborted (u.segConcerned cap)) = e at *
  obtain ⟨z, accrued, ends⟩ := endCellOn_accrues u (channelNamed cap) c e
  rw [ends]
  clear ends
  have only := z.endCellOn_boardOnly c e
  have failed := z.endCellOn_endsFailed c fault
  have posts := z.endCellOn_posts c e
  have cells := fun d ne => z.endCellOn_cell_ne c e (d := d) ne
  have regs := z.endCellOn_regs c e
  have frame := z.endCellOn_frame c e
  generalize z.endCellOn none c e = y at *
  have zboard : z.board = u.board := by rw [accrued.whole]
  have ychan : ∀ ch, y.chan ch = z.chan ch := fun ch => by rw [only]; rfl
  have ychans : y.chans = z.chans := by rw [only]
  refine ⟨failed, fun other ch named => ?_, ?_, fun d ne => ?_, ?_, fun ch other => ?_, ?_, fun a out => ?_⟩
  · rw [ychan, accrued.chan ch named, conditions other, uchan]
    rfl
  · rw [posts, zboard, uboard]
  · rw [cells d ne, State.cell, zboard, uboard]
    rfl
  · rw [regs, accrued.whole, uwhole]
  · rw [ychan, accrued.chans ch other, uchan]
  · have eq := only
    unfold BoardOnly at eq
    rw [accrued.whole, uwhole, ← ychans] at eq
    exact eq
  · obtain ⟨place, chan⟩ := not_or.1 out
    exact (frame a place).trans ((accrued.frame a chan).trans (by rw [umem]))

/-! ### Each case of CELL_ABORT -/

section
variable {x y : State} {c : Fin 32} (back : Restored s x c)
include back

/-- What follows the restored mirror stands over the mirror's word. -/
theorem Restored.over {p : Nat → Prop} (frame : MemFrame x y p) (word : ∀ a, Within (cellBase c) 2 a → p a) : MemFrame s y p :=
  (back.frame.both frame).mono fun a place => place.elim (word a) id

theorem Restored.transferAborted {r : Transfer} (here : s.transfer c = some r) (is : x.transferCause c .aborted = y) (closed : Closes y t) :
    CauseTaken s t c r .aborted ∧ t.cm = { s.cm with lampInd := t.cm.lampInd, lit := t.cm.lit, blink := t.cm.blink } ∧
      t = { s with board := t.board, regs := t.regs, mem := t.mem, info := t.info, chans := t.chans, segs := t.segs
                   transfers := t.transfers, slots := t.slots, cm := t.cm } ∧ MemFrame s t (TransferPlaces c) := by
  have caused := transferCaused ((back.transfer c).trans here) .aborted
  rw [is] at caused
  refine ⟨closed.keeps.causeTaken (caused.cause.carry back.board back.segs (by rw [back.whole]) back.chans (by rw [back.whole])), ?_, ?_, ?_⟩
  · have cm := caused.cm
    rw [back.cm, ← closed.cm] at cm
    exact cm
  · rw [closed.whole, caused.whole, back.whole]
  · refine ((back.over caused.frame fun a word => .inl (.inl word)).both closed.frame).mono ?_
    rintro a (place | shared)
    · exact place
    · exact .inr (.inr (.inr (.inr (.inr shared))))

theorem Restored.watchAborted {v : Watch} (clean : s.info.dirty = false) (here : s.watch c = some v) (is : x.watchCause c .aborted = y) (closed : Closes y t) :
    WatchCauseTaken s t c v .aborted ∧
      t = { s with board := t.board, regs := t.regs, mem := t.mem, segs := t.segs, watches := t.watches } ∧
      MemFrame s t fun a => EndPlaces c a ∨ ∃ g : Fin 4, Within (segBase g) 128 a := by
  have caused := watchCaused ((back.watch c).trans here) (reason := .aborted) (by decide)
  rw [is] at caused
  have info : y.info = s.info := by rw [caused.whole, back.whole]
  obtain ⟨mem, tinfo⟩ := closed.clean (by rw [info, clean])
  refine ⟨closed.keeps.watchCauseTaken (caused.cause.carry back.board back.segs (by rw [back.whole])), ?_, fun a out => ?_⟩
  · have eq := closed.whole
    rw [tinfo, info] at eq
    rw [eq, caused.whole, back.whole]
  · rw [mem]
    refine back.over caused.frame (fun a word => .inl (.inl word)) a fun place => out ?_
    exact place.imp_right fun ⟨g, e, _, area⟩ => ⟨g, area⟩

theorem Restored.commitAborted (clean : s.info.dirty = false) (armed : s.ps.armed = some c) (is : x.disarm c = y) (closed : Closes y t) :
    EndsFailed t c .policy .aborted ∧ t.ps = { s.ps with armed := none } ∧ OnlyCellState s t c ∧ EndRegs s t c 0 ∧
      t = { s with board := t.board, regs := t.regs, mem := t.mem, ps := t.ps } ∧ MemFrame s t (EndPlaces c) := by
  have off := disarmed (x := x) (c := c) (by rw [back.ps]; exact armed)
  rw [is] at off
  have info : y.info = s.info := by rw [off.whole, back.whole]
  obtain ⟨mem, tinfo⟩ := closed.clean (by rw [info, clean])
  refine ⟨closed.endsFailed off.failed, by rw [closed.ps, off.ps, back.ps], closed.onlyCell (off.cells.of_board back.board), closed.endRegs ?_, ?_, fun a out => ?_⟩
  · rw [off.regs, back.regs]
    simp
  · have eq := closed.whole
    rw [tinfo, info] at eq
    rw [eq, off.whole, back.whole]
  · rw [mem]
    exact back.over off.frame (fun a word => .inl word) a out

theorem Restored.connectorAborted (waits : s.cm.cell = some c) (is : x.connectorAbort = y) (closed : Closes y t) :
    EndsFailed t c .connector .aborted ∧ t.cm = { s.cm with supply := .off, startTimer := none, cell := none } ∧
      t.mem.read 0x1D = 0 ∧ OnlyCellState s t c ∧ EndRegs s t c 0 ∧
      t = { s with board := t.board, regs := t.regs, mem := t.mem, info := t.info, cm := t.cm } ∧
      MemFrame s t fun a => EndPlaces c a ∨ InfoPlaces 0x1D 1 a := by
  have off := Machine.connectorAborted (x := x) (c := c) (by rw [back.cm]; exact waits)
  rw [is] at off
  refine ⟨closed.endsFailed off.failed, by rw [closed.cm, off.cm, back.cm], ?_, closed.onlyCell (off.cells.of_board back.board), closed.endRegs ?_, ?_, ?_⟩
  · rw [closed.frame _ (by unfold InfoShared Within; omega)]
    exact off.shows
  · rw [off.regs, back.regs]
    simp
  · rw [closed.whole, off.whole, back.whole]
  · refine ((back.over off.frame fun a word => .inl (.inl word)).both closed.frame).mono ?_
    rintro a ((place | field) | shared)
    · exact .inl place
    · exact .inr (.inl field)
    · exact .inr (.inr shared)

theorem Restored.queuedAborted (clean : s.info.dirty = false) {g : Fin 4} {e : Entry} {ch : Fin 8} (entry : s.entryOf c = some (g, e))
    (named : channelNamed (s.cell c).captured = some ch) (is : x.exchangeLost c .aborted none = y) (closed : Closes y t) :
    EndsFailed t c .queue .aborted ∧ (t.seg g).lanes = (s.seg g).lanes.without c ∧
      (t.chan ch).accrued = (s.chan ch).accrued ||| Flag.queueLost.bit ∧
      OnlyCellState s t c ∧ EndRegs s t c 0 ∧ (∀ k, k ≠ g → t.seg k = s.seg k) ∧ (∀ k, k ≠ ch → t.chan k = s.chan k) ∧
      t.seg g = { s.seg g with lanes := (t.seg g).lanes, counter := (s.seg g).counter + 1 } ∧
      t = { s with board := t.board, regs := t.regs, mem := t.mem, chans := t.chans, segs := t.segs } ∧
      MemFrame s t fun a => EndPlaces c a ∨ Within (chanBase ch) 32 a ∨ Within (segBase g) 128 a := by
  have gone := exchangeIsLost x c (reason := .aborted) (by decide) none
  rw [is] at gone
  have info : y.info = s.info := by rw [gone.whole, back.whole]
  obtain ⟨mem, tinfo⟩ := closed.clean (by rw [info, clean])
  obtain ⟨failed, cells, ⟨-, dropped⟩, chan, chans⟩ := closed.keeps.entryLost (gone.lost.carry back.board back.segs back.chans)
  obtain ⟨seg, segs⟩ := dropped g e entry
  refine ⟨failed, by rw [seg], chan ch named, cells, closed.endRegs_done ?_, segs, fun k ne => chans k ?_, by rw [seg], ?_, fun a out => ?_⟩
  · have regs := gone.regs
    rw [back.regs] at regs
    exact regs
  · rw [named]
    exact fun eq => ne (Option.some.inj eq).symm
  · have eq := closed.whole
    rw [tinfo, info] at eq
    rw [eq, gone.whole, back.whole]
  · have frame : MemFrame s y fun a => EndPlaces c a ∨ Within (chanBase ch) 32 a ∨ Within (segBase g) 128 a := by
      refine (back.over gone.frame fun a word => .inl (.inl word)).mono ?_
      rintro b (place | ⟨k, eq, area⟩ | ⟨h, f, eq, area⟩)
      · exact .inl place
      · rw [back.cell, named] at eq
        obtain rfl := Option.some.inj eq
        exact .inr (.inl area)
      · have same : x.entryOf c = s.entryOf c := by simp only [State.entryOf, State.seg, back.segs]
        rw [same, entry] at eq
        obtain ⟨rfl, -⟩ := Prod.mk.inj (Option.some.inj eq)
        exact .inr (.inr area)
    rw [mem]
    exact frame a out

end

/-- A POSTED cell, its fields read from RAM with the host's write in it. -/
theorem posted_aborted {c : Fin 32} {w : HostWrite} {y : State} (clean : s.info.dirty = false) (is : (s.hostWord (cellBase c) w).abortPosted c = y)
    (closed : Closes y t) {cap : List Byte} (fields : (s.hostWord (cellBase c) w).mem.bytes (cellBase c) 64 = cap) :
    EndsFailed t c (if kindOf cap = some .commit then .policy else .queue) .aborted ∧
      (kindOf cap ≠ some .commit → ∀ ch, channelNamed cap = some ch →
        (t.chan ch).accrued = (s.chan ch).accrued ||| Flag.queueLost.bit) ∧
      t.board.posts = s.board.posts.filter (· != c) ∧ (∀ d, d ≠ c → t.cell d = s.cell d) ∧ EndRegs s t c 0 ∧
      (∀ ch, channelNamed cap ≠ some ch → t.chan ch = s.chan ch) ∧
      t = { s with board := t.board, regs := t.regs, mem := t.mem, chans := t.chans } ∧
      MemFrame s t fun a => EndPlaces c a ∨ ∃ ch, channelNamed cap = some ch ∧ Within (chanBase ch) 32 a := by
  have gone := postAborted (s.hostWord (cellBase c) w) c
  have stored := s.hostWord_frame (cellBase c) w
  have whole : s.hostWord (cellBase c) w = { s with mem := (s.hostWord (cellBase c) w).mem } := rfl
  rw [is, fields] at gone
  clear fields
  generalize s.hostWord (cellBase c) w = x at *
  have chan : ∀ ch, x.chan ch = s.chan ch := fun ch => by rw [whole]; rfl
  have info : y.info = s.info := by rw [gone.whole, whole]
  obtain ⟨mem, tinfo⟩ := closed.clean (by rw [info, clean])
  refine ⟨closed.endsFailed gone.failed, fun other ch named => ?_, ?_, fun d ne => ?_, closed.endRegs ?_, fun ch other => ?_, ?_, fun a out => ?_⟩
  · rw [closed.chan, gone.lost other ch named, chan]
  · rw [closed.board, gone.posts, whole]
  · rw [closed.cell, gone.cells d ne, whole]
    rfl
  · rw [gone.regs, whole]
    simp
  · rw [closed.chan, gone.chans ch other, chan]
  · have eq := closed.whole
    rw [tinfo, info] at eq
    rw [eq, gone.whole, whole]
  · rw [mem]
    exact (gone.frame a out).trans (stored a fun word => out (.inl (.inl word)))

end Sys2Proof.Machine
end

section
/-! PROOFS. Aborts held at a receipt (R183): the WBC acts on them after the owner has received the cell (log 25). -/

namespace Sys2Proof.Machine

variable {s t : State}

/-! ### The mark and the act -/

/-- Cell `c` no longer holds its abort. -/
structure Unheld (y z : State) (c : Fin 32) : Prop where
  cell : z.cell c = { y.cell c with abortHeld := false }
  cells : ∀ d, d ≠ c → z.cell d = y.cell d
  posts : z.board.posts = y.board.posts
  whole : z = { y with board := z.board }

/-- Cell `c` of the part with its abort no longer held. -/
def State.unheld (y : State) (c : Fin 32) : State := y.modCell c fun r => { r with abortHeld := false }

theorem unheld (y : State) (c : Fin 32) : Unheld y (y.unheld c) c :=
  ⟨y.cell_modCell c _, fun _ ne => y.cell_modCell_ne _ ne, rfl, rfl⟩

section
variable {y : State} {c : Fin 32} (held : (y.cell c).abortHeld = true)
include held

theorem State.actHeld_queued (st : (y.cell c).st = .queued) : y.actHeld c = (y.unheld c).exchangeLost c .aborted none := by
  have same : ((y.unheld c).cell c).st = .queued := by rw [(Machine.unheld y c).cell]; exact st
  unfold State.actHeld
  rw [held]
  change (match ((y.unheld c).cell c).st with
    | .queued => (y.unheld c).exchangeLost c .aborted none
    | .active => (y.unheld c).abortActive c
    | .empty | .posted | .taken | .done | .failed => y.unheld c) = _
  rw [same]

theorem State.actHeld_active (st : (y.cell c).st = .active) : y.actHeld c = (y.unheld c).abortActive c := by
  have same : ((y.unheld c).cell c).st = .active := by rw [(Machine.unheld y c).cell]; exact st
  unfold State.actHeld
  rw [held]
  change (match ((y.unheld c).cell c).st with
    | .queued => (y.unheld c).exchangeLost c .aborted none
    | .active => (y.unheld c).abortActive c
    | .empty | .posted | .taken | .done | .failed => y.unheld c) = _
  rw [same]

theorem State.actHeld_ended (st : (y.cell c).st = .done ∨ (y.cell c).st = .failed) : y.actHeld c = y.unheld c := by
  have same : ((y.unheld c).cell c).st = .done ∨ ((y.unheld c).cell c).st = .failed := by rw [(Machine.unheld y c).cell]; exact st
  unfold State.actHeld
  rw [held]
  change (match ((y.unheld c).cell c).st with
    | .queued => (y.unheld c).exchangeLost c .aborted none
    | .active => (y.unheld c).abortActive c
    | .empty | .posted | .taken | .done | .failed => y.unheld c) = _
  rcases same with same | same <;> rw [same]

end

/-! ### The entry that has just joined -/

theorem Lanes.mod_without (l : Lanes) (k : Lane) (e : Entry) (apart : ∀ f ∈ l.all, f.cell ≠ e.cell) : (l.mod k (· ++ [e])).without e.cell = l := by
  obtain ⟨urgent, normal, bulk⟩ := l
  have keeps : ∀ q : List Entry, (∀ f ∈ q, f ∈ urgent ++ normal ++ bulk) → q.filter (fun f => f.cell != e.cell) = q := fun q sub =>
    List.filter_eq_self.2 fun f inside => bne_iff_ne.2 (apart f (sub f inside))
  have first := keeps urgent fun f inside => by simp [inside]
  have second := keeps normal fun f inside => by simp [inside]
  have third := keeps bulk fun f inside => by simp [inside]
  cases k <;> simp [Lanes.mod, Lanes.without, List.filter_append, first, second, third]

theorem Lanes.mod_mem {l : Lanes} {k : Lane} {e f : Entry} : f ∈ (l.mod k (· ++ [e])).all ↔ f ∈ l.all ∨ f = e := by
  cases k <;> simp [Lanes.mod, Lanes.all] <;> tauto

theorem State.entryOf_eq_none {c : Fin 32} : s.entryOf c = none ↔ ∀ g, ∀ e ∈ (s.seg g).lanes.all, e.cell ≠ c := by
  simp [State.entryOf]

/-- The entry of cell `c` has joined segment `g`, where it leaves again. -/
theorem joined_entry {c : Fin 32} {g : Fin 4} {e : Entry} {x y : State} (absent : s.entryOf c = none) (mine : e.cell = c) (segs : x.segs = s.segs)
    (join : Joined x y g e) : ∃ f, y.entryOf c = some (g, f) := by
  have xseg : ∀ j, x.seg j = s.seg j := fun j => by rw [State.seg, segs, State.seg]
  have none_ := State.entryOf_eq_none.1 absent
  cases found : y.entryOf c with
  | none =>
    have here := State.entryOf_eq_none.1 found g e (by rw [join.seg]; exact Lanes.mod_mem.2 (.inr rfl))
    exact absurd mine here
  | some pair =>
    obtain ⟨h, f⟩ := pair
    obtain ⟨inside, cell⟩ := State.entryOf_mem found
    by_cases same : h = g
    · exact ⟨f, by rw [same]⟩
    · rw [join.segs h same, xseg] at inside
      exact absurd cell (none_ h f inside)

theorem joined_left {c : Fin 32} {g : Fin 4} {e : Entry} {x y z u : State} (absent : s.entryOf c = none) (mine : e.cell = c) (segs : x.segs = s.segs)
    (join : Joined x y g e) (still : z.segs = y.segs) (left : EntryDropped z u c) :
    u.seg g = { s.seg g with counter := (s.seg g).counter + 2 } ∧ ∀ h, h ≠ g → u.seg h = s.seg h := by
  obtain ⟨f, entry⟩ := joined_entry absent mine segs join
  have xseg : ∀ j, x.seg j = s.seg j := fun j => by rw [State.seg, segs, State.seg]
  have zseg : ∀ j, z.seg j = y.seg j := fun j => by rw [State.seg, still, State.seg]
  have zentry : z.entryOf c = some (g, f) := by
    rw [← entry]
    simp only [State.entryOf, zseg]
  obtain ⟨here, others⟩ := left.2 g f zentry
  refine ⟨?_, fun h ne => by rw [others h ne, zseg, join.segs h ne, xseg]⟩
  have lanes : ((x.seg g).lanes.mod e.lane (· ++ [e])).without c = (s.seg g).lanes := by
    rw [xseg, ← mine]
    exact Lanes.mod_without _ _ _ fun k inside => mine ▸ State.entryOf_eq_none.1 absent g k inside
  rw [here, zseg, join.seg]
  dsimp only
  rw [lanes, xseg, BitVec.add_assoc]
  rfl

end Sys2Proof.Machine
end

section
/-! PROOFS. An abort held on an EXCHANGE or a WATCH, which leaves its lane again after its receipt (R183). -/

namespace Sys2Proof.Machine

variable {s t : State}

/-- Of the board only cell `c` has changed, and it holds no abort. -/
def HeldOnly (s t : State) (c : Fin 32) : Prop :=
  (t.cell c).abortHeld = false ∧ (∀ d, d ≠ c → t.cell d = s.cell d) ∧ t.board.posts = s.board.posts

/-- Channel `ch` has counted an admission, and of the policies only usage records may have changed. -/
def HeldAdmitted (s t : State) (ch : Fin 8) : Prop :=
  (t.chan ch).admitted = (s.chan ch).admitted + 1 ∧ (t.chan ch).run = 0 ∧ (∀ j, j ≠ ch → t.chan j = s.chan j) ∧
    t.ps = { s.ps with usage := t.ps.usage }

/-- An entry has joined segment `g` and left it again. -/
def HeldLeft (s t : State) (g : Fin 4) : Prop :=
  t.seg g = { s.seg g with counter := (s.seg g).counter + 2 } ∧ ∀ h, h ≠ g → t.seg h = s.seg h

theorem HeldOnly.closes {y : State} {c : Fin 32} (only : HeldOnly s y c) (closed : Closes y t) : HeldOnly s t c := by
  obtain ⟨held, cells, posts⟩ := only
  exact ⟨by rw [closed.cell]; exact held, fun d ne => (closed.cell d).trans (cells d ne), by rw [closed.board]; exact posts⟩

/-- The end of cell `c` after its abort was taken off. -/
theorem Unheld.heldOnly {y z u : State} {c : Fin 32} (off : Unheld y z c) (cells : OnlyCellState z u c) (others : ∀ d, d ≠ c → y.cell d = s.cell d)
    (posts : y.board.posts = s.board.posts) : HeldOnly s u c := by
  obtain ⟨uposts, cell, rest⟩ := cells
  refine ⟨?_, fun d ne => by rw [rest d ne, off.cells d ne, others d ne], by rw [uposts, off.posts, posts]⟩
  rw [cell, off.cell]

/-! ### An EXCHANGE (R37, R59) -/

/-- The receipt of an admitted EXCHANGE, up to the join of its entry. -/
theorem exchangeJoined {c : Fin 32} {ch : Fin 8} {grant : Nat} {g : Fin 4} (named : channelNamed (s.cell c).captured = some ch)
    (allow : s.admission false (plainRequest ch (s.firstByte (requestRef (s.cell c).captured)) (targetOf (s.cell c).captured)) = .allow grant g)
    (waits : Waits s g) :
    ∃ x e, ExchangeTaken s x c ch grant (s.firstByte (requestRef (s.cell c).captured)) ∧ e.cell = c ∧ Joined x (s.exchangeReceive c) g e := by
  have done := exchangeTaken s c ch grant (s.firstByte (requestRef (s.cell c).captured)) g
  have does : s.exchangeReceive c =
      let x := ((((s.countVerdict ch (.allow grant g)).recordService c (s.firstByte (requestRef (s.cell c).captured))).setGrant c grant).setCell c .queued)
      x.joinRun g (x.newEntry g c (targetOf (s.cell c).captured) .exchange (s.firstByte (requestRef (s.cell c).captured)) (exchangeDeadline (x.cell c))) := by
    unfold State.exchangeReceive
    dsimp only
    rw [named]
    dsimp only
    rw [allow]
  dsimp only at does
  generalize ((((s.countVerdict ch (.allow grant g)).recordService c (s.firstByte (requestRef (s.cell c).captured))).setGrant c grant).setCell c .queued) = x
    at done does
  refine ⟨x, x.newEntry g c (targetOf (s.cell c).captured) .exchange (s.firstByte (requestRef (s.cell c).captured)) (exchangeDeadline (x.cell c)),
    done, rfl, ?_⟩
  rw [does]
  exact joined _ (by rw [Waits, State.seg, done.whole]; exact waits)

theorem exchangeHeld {c : Fin 32} {ch : Fin 8} {grant : Nat} {g : Fin 4} (settled : Settled s) (held : (s.cell c).abortHeld = true)
    (absent : s.entryOf c = none) (taken : s.taken c .exchange = true) (named : channelNamed (s.cell c).captured = some ch)
    (allow : s.admission false (plainRequest ch (s.firstByte (requestRef (s.cell c).captured)) (targetOf (s.cell c).captured)) = .allow grant g)
    (waits : Waits s g) :
    ∃ t, exec (.exchangeAdmission c) s = .next t ∧ EndsFailed t c .queue .aborted ∧ HeldOnly s t c ∧ HeldAdmitted s t ch ∧ HeldLeft s t g ∧
      (t.chan ch).accrued = (s.chan ch).accrued ||| Flag.queueLost.bit ∧ EndRegs s t c 0 ∧
      t = { s with board := t.board, regs := t.regs, mem := t.mem, ps := t.ps, chans := t.chans, segs := t.segs } ∧
      MemFrame s t fun a => EndPlaces c a ∨ Within (chanBase ch) 32 a ∨ Within (segBase g) 128 a := by
  obtain ⟨clean, line⟩ := settled
  obtain ⟨x, e, done, mine, join⟩ := exchangeJoined named allow waits
  have runs : exec (.exchangeAdmission c) s = .next ((s.exchangeReceive c).actHeld c).finish :=
    (show exec (.exchangeAdmission c) s = execExchangeAdmission c s from rfl).trans (receive_eq (act := fun s => s.exchangeReceive c) taken)
  generalize s.exchangeReceive c = y at join runs
  have ycell : ∀ d, y.cell d = x.cell d := fun d => by rw [join.whole]; rfl
  have off := unheld y c
  rw [State.actHeld_queued (by rw [ycell, done.cell]; exact held) (by rw [ycell, done.cell])] at runs
  generalize y.unheld c = z at off runs
  have gone := exchangeIsLost z c (reason := .aborted) (by decide) none
  generalize z.exchangeLost c .aborted none = u at gone runs
  have closed := closes u
  generalize u.finish = t at closed runs
  have wholes : u = { s with board := u.board, regs := u.regs, mem := u.mem, ps := u.ps, chans := u.chans, segs := u.segs } := by
    rw [gone.whole, off.whole, join.whole, done.whole]
  have info : u.info = s.info := by rw [wholes]
  have zsegs : z.segs = y.segs := by rw [off.whole]
  have zchan : ∀ k, z.chan k = x.chan k := fun k => by rw [off.whole, join.whole]; rfl
  have zregs : z.regs = s.regs := by rw [off.whole, join.whole, done.whole]
  have zcell : z.cell c = { x.cell c with abortHeld := false } := by rw [off.cell, ycell]
  have captured : (z.cell c).captured = (s.cell c).captured := by rw [zcell, done.cell]
  have ups : u.ps = x.ps := by rw [gone.whole, off.whole, join.whole]
  have frame := gone.frame
  obtain ⟨failed, cells, dropped, chan, chans⟩ := gone.lost
  obtain ⟨mem, tinfo⟩ := closed.clean (by rw [info, clean])
  have uchan := chan ch (by rw [captured]; exact named)
  have same := gone.kept ch
  have other : ∀ k, k ≠ ch → channelNamed (z.cell c).captured ≠ some k := fun k ne => by
    rw [captured, named]
    exact fun eq => ne (Option.some.inj eq).symm
  refine ⟨t, runs, closed.endsFailed failed, ?_, ⟨?_, ?_, fun k ne => ?_, ?_⟩, ?_, ?_, closed.endRegs_done ?_, ?_, fun a out => ?_⟩
  · refine (off.heldOnly cells (fun d ne => ?_) ?_).closes closed
    · rw [ycell, done.cells d ne]
    · rw [join.whole, done.posts]
  · rw [closed.chan, same.2, zchan, done.chan]
  · rw [closed.chan, same.1, zchan, done.chan]
  · rw [closed.chan, chans k (other k ne), zchan, done.chans k ne]
  · rw [closed.ps, ups]
    exact done.ps
  · have left := joined_left absent mine (by rw [done.whole]) join zsegs dropped
    exact ⟨(closed.seg g).trans left.1, fun h ne => (closed.seg h).trans (left.2 h ne)⟩
  · rw [closed.chan, uchan, zchan, done.chan]
  · have regs := gone.regs
    rw [zregs] at regs
    exact regs
  · have eq := closed.whole
    rw [tinfo, info] at eq
    rw [eq, wholes]
  · obtain ⟨place, rest⟩ := not_or.1 out
    obtain ⟨area, seg⟩ := not_or.1 rest
    have zmem : z.mem = y.mem := by rw [off.whole]
    obtain ⟨f, entry⟩ := joined_entry absent mine (by rw [done.whole]) join
    have zentry : z.entryOf c = y.entryOf c := by simp only [State.entryOf, State.seg, zsegs]
    rw [mem]
    refine (frame a ?_).trans ((by rw [zmem] : z.mem.read a = y.mem.read a).trans ((join.frame a seg).trans (done.frame a ?_)))
    · rintro (inside | ⟨k, eq, inside⟩ | ⟨h, f', eq, inside⟩)
      · exact place inside
      · rw [captured, named] at eq
        obtain rfl := Option.some.inj eq
        exact area inside
      · rw [zentry, entry] at eq
        obtain ⟨rfl, -⟩ := Prod.mk.inj (Option.some.inj eq)
        exact seg inside
    · rintro (word | one | inside)
      · exact place (.inl word)
      · exact place (.inr (by unfold Within; omega))
      · exact area inside

/-! ### A WATCH (R142, R149) -/

theorem watchHeld {c : Fin 32} {ch : Fin 8} {grant : Nat} {g : Fin 4} (settled : Settled s) (held : (s.cell c).abortHeld = true)
    (absent : s.entryOf c = none) (taken : s.taken c .watch = true) (named : channelNamed (s.cell c).captured = some ch)
    (allow : s.admission false (plainRequest ch (s.firstByte (requestRef (s.cell c).captured)) (targetOf (s.cell c).captured)) = .allow grant g)
    (waits : Waits s g) :
    ∃ t, exec (.watchReceipt c) s = .next t ∧ EndsDone t c ∧ HeldOnly s t c ∧ HeldAdmitted s t ch ∧ HeldLeft s t g ∧ t.watch c = none ∧
      (∀ d, d ≠ c → t.watch d = s.watch d) ∧ EndRegs s t c 0 ∧
      t = { s with board := t.board, regs := t.regs, mem := t.mem, ps := t.ps, chans := t.chans, segs := t.segs, watches := t.watches } ∧
      MemFrame s t fun a => EndPlaces c a ∨ Within (chanBase ch) 32 a ∨ Within (segBase g) 128 a := by
  obtain ⟨clean, line⟩ := settled
  have act : exec (.watchReceipt c) s = receive s c .watch fun s => match channelNamed (s.cell c).captured with
    | some ch => s.watchReceive c ch
    | none => s := rfl
  have does : (match channelNamed (s.cell c).captured with
    | some ch => s.watchReceive c ch
    | none => s) = s.watchReceive c ch := by rw [named]
  obtain ⟨x, done, join⟩ := State.watchReceive_allow allow waits
  have kind : kindOf (s.cell c).captured = some .watch := State.kindOf_of_taken taken
  have runs : exec (.watchReceipt c) s = .next ((s.watchReceive c ch).actHeld c).finish := by rw [act, receive_eq taken, does]
  obtain ⟨w, hw⟩ : ∃ w, w = ((newWatch s c ch grant).dueNext (s.seg g).pace.stretch).inLane := ⟨_, rfl⟩
  have free : w.pending = none := by rw [hw]; rfl
  have outside : w.out ≠ .context := by rw [hw]; exact nofun
  rw [← hw] at done
  clear hw
  obtain ⟨e, he⟩ : ∃ e, e = s.newEntry g c (targetOf (s.cell c).captured) .cycle (s.firstByte (requestRef (s.cell c).captured))
    (s.time.ms + BitVec.ofNat 32 (queueLimit (s.cell c).captured 2000)) := ⟨_, rfl⟩
  have mine : e.cell = c := by rw [he]; rfl
  rw [← he] at join
  clear he
  generalize s.watchReceive c ch = y at join runs
  have ycell : ∀ d, y.cell d = x.cell d := fun d => by rw [join.whole]; rfl
  have off := unheld y c
  have zcaptured : ((y.unheld c).cell c).captured = (s.cell c).captured := by rw [off.cell, ycell]; exact done.captured
  rw [State.actHeld_active (by rw [ycell, done.held]; exact held) (by rw [ycell]; exact done.shows.1),
    State.abortActive_watch c (by rw [zcaptured]; exact kind)] at runs
  generalize y.unheld c = z at off runs zcaptured
  have zwatch : ∀ d, z.watch d = x.watch d := fun d => by rw [off.whole, join.whole]; rfl
  have caused := watchCaused ((zwatch c).trans done.watch) (reason := .aborted) (by decide)
  generalize z.watchCause c .aborted = u at caused runs
  have closed := closes u
  generalize u.finish = t at closed runs
  have wholes : u = { s with board := u.board, regs := u.regs, mem := u.mem, ps := u.ps, chans := u.chans, segs := u.segs, watches := u.watches } := by
    rw [caused.whole, off.whole, join.whole, done.whole]
  have info : u.info = s.info := by rw [wholes]
  have zsegs : z.segs = y.segs := by rw [off.whole]
  have uchan : ∀ k, u.chan k = x.chan k := fun k => by rw [caused.whole, off.whole, join.whole]; rfl
  have zregs : z.regs = s.regs := by rw [off.whole, join.whole, done.whole]
  have ups : u.ps = x.ps := by rw [caused.whole, off.whole, join.whole]
  have frame := caused.frame
  obtain ⟨gone, cells, dropped, aborts, -⟩ := caused.cause.2.2 free outside
  obtain ⟨mem, tinfo⟩ := closed.clean (by rw [info, clean])
  have xsegs : x.segs = s.segs := by rw [done.whole]
  have uwatch : u.watch c = none ∧ ∀ d, d ≠ c → u.watch d = z.watch d := by
    simp only [State.watch, gone]
    exact ⟨Vector.getElem_set_self _, fun d ne => Vector.getElem_set_ne _ _ fun eq => ne (Fin.ext eq.symm)⟩
  refine ⟨t, runs, closed.endsDone (aborts rfl), ?_, ⟨?_, ?_, fun k ne => ?_, ?_⟩, ?_, ?_, fun d ne => ?_, closed.endRegs_done ?_, ?_, fun a out => ?_⟩
  · refine (off.heldOnly cells (fun d ne => ?_) ?_).closes closed
    · rw [ycell, done.cells d ne]
    · rw [join.whole, done.posts]
  · rw [closed.chan, uchan, done.chan]
  · rw [closed.chan, uchan, done.chan]
  · rw [closed.chan, uchan, done.chans k ne]
  · rw [closed.ps, ups]
    exact done.ps
  · have left := joined_left absent mine xsegs join zsegs dropped
    exact ⟨(closed.seg g).trans left.1, fun h ne => (closed.seg h).trans (left.2 h ne)⟩
  · rw [closed.watch, uwatch.1]
  · rw [closed.watch, uwatch.2 d ne, zwatch, done.watches d ne]
  · have regs := caused.ends free outside
    rw [zregs] at regs
    exact regs
  · have eq := closed.whole
    rw [tinfo, info] at eq
    rw [eq, wholes]
  · obtain ⟨place, rest⟩ := not_or.1 out
    obtain ⟨area, seg⟩ := not_or.1 rest
    have zmem : z.mem = y.mem := by rw [off.whole]
    obtain ⟨f, entry⟩ := joined_entry absent mine xsegs join
    have zentry : z.entryOf c = y.entryOf c := by simp only [State.entryOf, State.seg, zsegs]
    rw [mem]
    refine (frame a ?_).trans ((by rw [zmem] : z.mem.read a = y.mem.read a).trans ((join.frame a seg).trans (done.frame a ?_)))
    · rintro (inside | ⟨h, f', eq, inside⟩)
      · exact place inside
      · rw [zentry, entry] at eq
        obtain ⟨rfl, -⟩ := Prod.mk.inj (Option.some.inj eq)
        exact seg inside
    · rintro (inside | inside)
      · exact place inside
      · exact area inside

end Sys2Proof.Machine
end

section
/-! PROOFS. An abort held on a TRANSFER, a commit, a CONNECTOR or a CHECK cell (R183). -/

namespace Sys2Proof.Machine

variable {s t : State}

/-! ### A TRANSFER (R116, R132) -/

theorem transferHeld {c : Fin 32} {ch : Fin 8} {grant : Nat} {g : Fin 4} (held : (s.cell c).abortHeld = true)
    (absent : s.entryOf c = none) (taken : s.taken c .transfer = true) (named : channelNamed (s.cell c).captured = some ch)
    (allow : s.admission false (transferRequest ch (s.transferCodes (s.cell c).captured) (s.cell c).captured) = .allow grant g)
    (noStart : (startRef (s.cell c).captured).len = 0) (noBlock : s.slotWith c 0 .held = none) :
    ∃ t, exec (.transferReceipt c) s = .next t ∧ EndsFailed t c .transfer .aborted ∧ HeldOnly s t c ∧ HeldAdmitted s t ch ∧
      t.transfer c = none ∧ (∀ d, d ≠ c → t.transfer d = s.transfer d) ∧ (t.chan ch).latch = (s.chan ch).latch ∧
      (∀ n : Fin 8, t.slot n = if ((s.slot n).st = .held ∨ (s.slot n).st = .sending) ∧ (s.slot n).owner = c.val
        then { s.slot n with st := .free } else s.slot n) ∧
      t.cm = { s.cm with lampInd := t.cm.lampInd, lit := t.cm.lit, blink := t.cm.blink } ∧
      t = { s with board := t.board, regs := t.regs, mem := t.mem, info := t.info, ps := t.ps, chans := t.chans
                   slots := t.slots, transfers := t.transfers, cm := t.cm } ∧ MemFrame s t (TransferPlaces c) := by
  have act : exec (.transferReceipt c) s = receive s c .transfer fun s => match channelNamed (s.cell c).captured with
    | some ch => s.transferReceive c ch
    | none => s := rfl
  have does : (match channelNamed (s.cell c).captured with
    | some ch => s.transferReceive c ch
    | none => s) = s.transferReceive c ch := by rw [named]
  have kind : kindOf (s.cell c).captured = some .transfer := State.kindOf_of_taken taken
  have runs : exec (.transferReceipt c) s = .next ((s.transferReceive c ch).actHeld c).finish := by rw [act, receive_eq taken, does]
  obtain ⟨x, done, resumes⟩ := State.transferReceive_allow (s := s) (c := c) (ch := ch) allow
  have slots : x.slotWith c 0 .held = s.slotWith c 0 .held := by rw [done.whole]; rfl
  have phase : (newTransfer s c ch grant).progressed.phase = .streaming := if_pos noStart
  rw [State.transferResume_streaming done.transfer rfl rfl phase, State.needBlock_none done.transfer (by rw [← noBlock, ← slots]; rfl)] at resumes
  have fed := done.modTransfer (Transfer.fed (x.time.clock + feedTimeout (x.cell c).captured))
  have record : ((newTransfer s c ch grant).progressed.fed (x.time.clock + feedTimeout (x.cell c).captured)).pending = none ∧
      ((newTransfer s c ch grant).progressed.fed (x.time.clock + feedTimeout (x.cell c).captured)).out = none ∧
      ((newTransfer s c ch grant).progressed.fed (x.time.clock + feedTimeout (x.cell c).captured)).channel = ch ∧
      ((newTransfer s c ch grant).progressed.fed (x.time.clock + feedTimeout (x.cell c).captured)).touched = false := ⟨rfl, rfl, rfl, rfl⟩
  generalize x.modTransfer c (Transfer.fed (x.time.clock + feedTimeout (x.cell c).captured)) = y at resumes fed
  generalize (newTransfer s c ch grant).progressed.fed (x.time.clock + feedTimeout (x.cell c).captured) = r at record fed
  obtain ⟨free, quiet, mine, untouched⟩ := record
  rw [resumes] at runs
  have off := unheld y c
  have zcaptured : ((y.unheld c).cell c).captured = (s.cell c).captured := by rw [off.cell]; exact fed.captured
  rw [State.actHeld_active (by rw [fed.held]; exact held) fed.shows.1, State.abortActive_transfer c (by rw [zcaptured]; exact kind)] at runs
  generalize y.unheld c = z at off runs zcaptured
  have ztransfer : ∀ d, z.transfer d = y.transfer d := fun d => by rw [off.whole]; rfl
  have caused := transferCaused ((ztransfer c).trans fed.transfer) .aborted
  generalize z.transferCause c .aborted = u at caused runs
  have closed := closes u
  generalize u.finish = t at closed runs
  have zchan : ∀ k, z.chan k = y.chan k := fun k => by rw [off.whole]; rfl
  have zslot : ∀ n, z.slot n = s.slot n := fun n => by rw [off.whole, fed.whole]; rfl
  have zsegs : z.segs = s.segs := by rw [off.whole, fed.whole]
  have zcm : z.cm = y.cm := by rw [off.whole]
  have zmem : z.mem = y.mem := by rw [off.whole]
  have zentry : z.entryOf c = none := by
    rw [← absent]
    simp only [State.entryOf, State.seg, zsegs]
  obtain ⟨⟨⟨failed, gone, others, slot, latch, -⟩, cells⟩, dropped, -⟩ := caused.cause.2.2 free (by rw [quiet]; rfl)
  have usegs : u.segs = s.segs := (dropped zentry).trans zsegs
  have counts := caused.counts
  have ups : u.ps = y.ps := by rw [caused.whole, off.whole]
  rw [mine, untouched] at latch
  refine ⟨t, runs, closed.endsFailed failed, ?_, ⟨?_, ?_, fun k ne => ?_, ?_⟩, ?_, fun d ne => ?_, ?_, fun n => ?_, ?_, ?_, ?_⟩
  · exact (off.heldOnly cells (fun d ne => fed.cells d ne) fed.posts).closes closed
  · rw [closed.chan, (counts ch).2, zchan, fed.chan]
  · rw [closed.chan, (counts ch).1, zchan, fed.chan]
  · rw [closed.chan, caused.chans k (by rw [mine]; exact ne) ?_, zchan, fed.chans k ne]
    rw [zcaptured, named]
    exact fun eq => ne (Option.some.inj eq).symm
  · rw [closed.ps, ups]
    exact fed.ps
  · rw [closed.transfer, gone]
  · rw [closed.transfer, others d ne, ztransfer, fed.transfers d ne]
  · rw [closed.chan, latch, zchan, fed.chan]
    rfl
  · rw [closed.slot, slot, zslot]
  · have cm := caused.cm
    rw [zcm, fed.cm, ← closed.cm] at cm
    exact cm
  · rw [closed.whole, caused.whole, usegs, off.whole, fed.whole]
  · have after : MemFrame y t fun a => TransferPlaces c a ∨ InfoShared a := fun a out => ((caused.frame.both closed.frame) a out).trans (by rw [zmem])
    refine (fed.frame.both after).mono ?_
    rintro a ((place | chan | lamp) | place | shared)
    · exact .inl place
    · exact .inr (.inr (.inl ⟨ch, chan⟩))
    · exact .inr (.inr (.inr (.inr (.inl lamp))))
    · exact place
    · exact .inr (.inr (.inr (.inr (.inr shared))))

/-! ### A commit to be armed (R15) -/

theorem commitHeld {c : Fin 32} (settled : Settled s) (held : (s.cell c).abortHeld = true) (taken : s.taken c .commit = true)
    (op : field8 (s.cell c).captured 16 = 2) (unarmed : s.ps.armed = none) :
    ∃ t, exec (.commitAtIgnition c) s = .next t ∧ EndsFailed t c .policy .aborted ∧ HeldOnly s t c ∧ EndRegs s t c 0 ∧
      BoardOnly s t ∧ MemFrame s t (EndPlaces c) := by
  obtain ⟨clean, line⟩ := settled
  have kind : kindOf (s.cell c).captured = some .commit := State.kindOf_of_taken taken
  have runs : exec (.commitAtIgnition c) s = .next ((s.arm c).actHeld c).finish :=
    (show exec (.commitAtIgnition c) s = execCommitAtIgnition c s from rfl).trans ((receiveOp_eq op).trans (receive_eq (act := fun s => s.arm c) taken))
  have arms : s.arm c = (s.modPs fun p => { p with armed := some c }).setCell c .active := by
    unfold State.arm
    rw [unarmed]
  have after := armed_setCell s c
  rw [← arms] at after
  generalize s.arm c = y at runs after
  obtain ⟨shows, ps, ⟨posts, cell, cells⟩, whole, frame⟩ := after
  have off := unheld y c
  have ycell : y.cell c = { s.cell c with st := .active } := by rw [cell, shows.1]
  have zcaptured : ((y.unheld c).cell c).captured = (s.cell c).captured := by rw [off.cell, ycell]
  rw [State.actHeld_active (by rw [ycell]; exact held) shows.1, State.abortActive_commit c (by rw [zcaptured]; exact kind)] at runs
  generalize y.unheld c = z at off runs
  have zps : z.ps = { s.ps with armed := some c } := by rw [off.whole, ps]
  have zmem : z.mem = y.mem := by rw [off.whole]
  have gone := disarmed (x := z) (c := c) (by rw [zps])
  generalize z.disarm c = u at gone runs
  have closed := closes u
  generalize u.finish = t at closed runs
  have ups : u.ps = s.ps := by
    rw [gone.ps, zps, ← unarmed]
  have wholes : u = { s with board := u.board, regs := u.regs, mem := u.mem, ps := u.ps } := by
    rw [gone.whole, off.whole, whole]
  have info : u.info = s.info := by rw [wholes]
  obtain ⟨mem, tinfo⟩ := closed.clean (by rw [info, clean])
  refine ⟨t, runs, closed.endsFailed gone.failed, (off.heldOnly gone.cells cells posts).closes closed, closed.endRegs ?_, ?_, fun a out => ?_⟩
  · rw [gone.regs, off.whole, whole]
    simp
  · have eq := closed.whole
    rw [tinfo, info] at eq
    unfold BoardOnly
    rw [eq, wholes, ups]
  · rw [mem, gone.frame a out, zmem]
    exact frame a fun word => out (.inl word)

/-! ### A CONNECTOR cell that starts the supply (R160, R162) -/

theorem connectorHeld {c : Fin 32} (held : (s.cell c).abortHeld = true) (taken : s.taken c .connector = true)
    (alone : s.cm.cell = none) (noLamp : field8 (s.cell c).captured 16 = 0) (field : field8 (s.cell c).captured 17 = 1) (isOff : s.cm.supply = .off)
    (good : s.cm.good = false) (calm : s.cm.overcurrent = false) :
    ∃ t, exec (.connector c) s = .next t ∧ EndsFailed t c .connector .aborted ∧ HeldOnly s t c ∧ EndRegs s t c 0 ∧
      t.cm = { s.cm with startTimer := none, reqSupply := true } ∧ t.mem.bytes 0x1C 2 = [1, 0] ∧
      t = { s with board := t.board, regs := t.regs, mem := t.mem, info := t.info, cm := t.cm } ∧
      MemFrame s t fun a => EndPlaces c a ∨ InfoPlaces 0x1C 2 a := by
  have bounds := cellBase_bounds c
  have kind : kindOf (s.cell c).captured = some .connector := State.kindOf_of_taken taken
  have runs : exec (.connector c) s = .next ((s.connectorReceive c).actHeld c).finish :=
    (show exec (.connector c) s = execConnector c s from rfl).trans (receive_eq (act := fun s => s.connectorReceive c) taken)
  have eq := State.connectorReceive_supply (c := c) (on := true) alone noLamp (by rw [field]; rfl)
  rw [State.connectorSupply_start s c isOff good calm] at eq
  have bytes := s.supplySet_bytes c true .starting (some (s.time.clock + 100))
  have frame := s.supplySet_frame c true .starting (some (s.time.clock + 100))
  have settle : (s.supplySet c true .starting (some (s.time.clock + 100))).connectorSettle c (some true) =
      (s.supplySet c true .starting (some (s.time.clock + 100))).setCell c .active := by
    unfold State.connectorSettle
    rw [if_neg (by simp [State.supplySet]), if_pos ⟨rfl, rfl⟩]
  rw [settle] at eq
  have board : (s.supplySet c true .starting (some (s.time.clock + 100))).board = s.board := rfl
  have cm : (s.supplySet c true .starting (some (s.time.clock + 100))).cm =
    { s.cm with supply := .starting, startTimer := some (s.time.clock + 100), reqSupply := true, cell := some c } := rfl
  have outer : s.supplySet c true .starting (some (s.time.clock + 100)) =
    { s with cm := (s.supplySet c true .starting (some (s.time.clock + 100))).cm
             mem := (s.supplySet c true .starting (some (s.time.clock + 100))).mem
             info := (s.supplySet c true .starting (some (s.time.clock + 100))).info } := rfl
  generalize s.supplySet c true .starting (some (s.time.clock + 100)) = x at eq bytes frame board cm outer
  have shows := CellShows.of_setCell x c .active
  have ycell := x.setCell_cell c .active
  have yothers := fun d (ne : d ≠ c) => x.setCell_cell_ne .active ne
  have yposts := x.setCell_posts c .active
  have yframe := x.setCell_frame c .active
  have ywhole := x.setCell_whole c .active
  rw [eq] at runs
  generalize x.setCell c .active = y at *
  have xcell : ∀ d, x.cell d = s.cell d := fun d => by rw [State.cell, board, State.cell]
  have off := unheld y c
  have zcaptured : ((y.unheld c).cell c).captured = (s.cell c).captured := by rw [off.cell, ycell, xcell]
  have zcm : (y.unheld c).cm = x.cm := by rw [off.whole, ywhole]
  rw [State.actHeld_active (by rw [ycell, xcell]; exact held) shows.1,
    State.abortActive_connector c (by rw [zcaptured]; exact kind) (by rw [zcm, cm])] at runs
  generalize y.unheld c = z at off runs zcm
  have gone := connectorAborted (x := z) (c := c) (by rw [zcm, cm])
  generalize z.connectorAbort = u at gone runs
  have closed := closes u
  generalize u.finish = t at closed runs
  have zmem : z.mem = y.mem := by rw [off.whole]
  have stored : MemFrame x u fun a => EndPlaces c a ∨ Within 0x1D 1 a := fun a out => by
    rw [gone.frame a out, zmem, yframe a fun word => out (.inl (.inl word))]
  refine ⟨t, runs, closed.endsFailed gone.failed, ?_, closed.endRegs ?_, ?_, ?_, ?_, ?_⟩
  · refine (off.heldOnly gone.cells (fun d ne => by rw [yothers d ne, xcell]) ?_).closes closed
    rw [yposts, board]
  · rw [gone.regs, off.whole, ywhole, outer]
    simp
  · rw [closed.cm, gone.cm, zcm, cm, ← isOff, ← alone]
  · have both : t.mem.bytes 0x1C 2 = [t.mem.read 0x1C, t.mem.read 0x1D] := by simp [Mem.bytes, List.range_succ]
    have asked : [x.mem.read 0x1C, x.mem.read 0x1D] = [1, byte Supply.starting.code] := by
      refine Eq.trans ?_ bytes
      simp [Mem.bytes, List.range_succ]
    rw [both, closed.frame 0x1C (by unfold InfoShared Within; omega), closed.frame 0x1D (by unfold InfoShared Within; omega), gone.shows,
      stored 0x1C (by unfold EndPlaces Within; omega), (List.cons.inj asked).1]
  · rw [closed.whole, gone.whole, off.whole, ywhole, outer]
  · refine ((frame.both stored).both closed.frame).mono ?_
    rintro a ((field | place | field) | shared)
    · exact .inr (.inl field)
    · exact .inl place
    · refine .inr (.inl ?_)
      unfold Within at *
      omega
    · exact .inr (.inr shared)

/-! ### A CHECK, for which an abort comes too late (R38) -/

theorem checkHeld {c : Fin 32} {ch : Fin 8} (settled : Settled s) (held : (s.cell c).abortHeld = true) (taken : s.taken c .check = true)
    (named : channelNamed (s.cell c).captured = some ch) :
    ∃ t, exec (.check c) s = .next t ∧ EndsDone t c ∧ HeldOnly s t c ∧ EndRegs s t c 0 ∧ BoardOnly s t ∧ MemFrame s t (EndPlaces c) := by
  obtain ⟨clean, line⟩ := settled
  obtain ⟨v, hv⟩ : ∃ v, v = checkResult (s.admission false (checkRequest ch (s.cell c).captured)) := ⟨_, rfl⟩
  obtain ⟨x, hx⟩ : ∃ x, x = s.modCell c fun k => { k with grant := v.2 } := ⟨_, rfl⟩
  have act : exec (.check c) s = receive s c .check fun s => match channelNamed (s.cell c).captured with
    | some ch =>
      let r := checkResult (s.admission false (checkRequest ch (s.cell c).captured))
      (s.modCell c fun k => { k with grant := r.2 }).endCell c (.done r.1)
    | none => s := rfl
  have runs : exec (.check c) s = .next ((x.endCellOn none c (.done v.1)).actHeld c).finish := by
    rw [act, receive_eq taken]
    dsimp only
    rw [named]
    dsimp only
    rw [← hv, ← hx, State.endCell_of_no_conditions (CellEnd.conditions_done _)]
  have xcell : x.cell c = { s.cell c with grant := v.2 } := by rw [hx, State.cell_modCell]
  have xothers : ∀ d, d ≠ c → x.cell d = s.cell d := fun d ne => by rw [hx, State.cell_modCell_ne _ _ ne]
  have whole : x = { s with board := x.board } := by rw [hx]; rfl
  have posts : x.board.posts = s.board.posts := by rw [hx]; rfl
  clear hx act
  have ends := x.endCellOn_endsDone c (e := .done v.1) rfl
  have ycell := x.endCellOn_cell c (.done v.1)
  have yothers := fun d ne => x.endCellOn_cell_ne c (.done v.1) (d := d) ne
  have yposts := x.endCellOn_posts c (.done v.1)
  have yregs := x.endCellOn_regs c (.done v.1)
  have frame := x.endCellOn_frame c (.done v.1)
  have only := x.endCellOn_boardOnly c (.done v.1)
  generalize x.endCellOn none c (.done v.1) = y at *
  have off := unheld y c
  rw [State.actHeld_ended (by rw [ycell, xcell]; exact held) (.inl ends.1.1)] at runs
  generalize y.unheld c = z at off runs
  have closed := closes z
  generalize z.finish = t at closed runs
  unfold BoardOnly at only ⊢
  have wholes : z = { s with board := z.board, regs := z.regs, mem := z.mem } := by
    rw [off.whole, only, whole]
  have info : z.info = s.info := by rw [wholes]
  have zmem : z.mem = y.mem := by rw [off.whole]
  obtain ⟨mem, tinfo⟩ := closed.clean (by rw [info, clean])
  refine ⟨t, runs, closed.endsDone (ends.later (by rw [off.cell]) (p := fun _ => False) (fun a _ => by rw [zmem]) (fun _ _ => id) (by rw [off.whole])),
    HeldOnly.closes ⟨by rw [off.cell], fun d ne => by rw [off.cells d ne, yothers d ne, xothers d ne], by rw [off.posts, yposts, posts]⟩ closed,
    closed.endRegs ?_, ?_, fun a out => ?_⟩
  · rw [off.whole, yregs, whole]
    simp
  · have eq := closed.whole
    rw [tinfo, info] at eq
    rw [eq, wholes]
  · rw [mem, zmem, frame a out, whole]

end Sys2Proof.Machine
end

section
/-! PROOFS. ABORT of a cell (R15, R59, R87, R133, R149, R162, R180, R182, R183). -/

namespace Sys2Proof.Machine

variable {s t : State}

/-- Settles O20, by the true state and the kind of the cell, and by its owner for an abort that was held. -/
theorem cellAbort : Obligations.CellAbort := by
  unfold Obligations.CellAbort
  refine ⟨fun c s settled held absent => ?_, fun c w s running leaves => ?_⟩
  · intro cap code only admitted left
    refine ⟨fun ch grant g taken named allow waits => ?_, fun ch grant g taken named allow waits => ?_, fun ch grant g taken named allow noStart noBlock => ?_,
      fun taken op unarmed => ?_, fun taken alone noLamp field off good calm => ?_, fun taken some => ?_⟩
    · exact exchangeHeld settled held absent taken named allow waits
    · exact watchHeld settled held absent taken named allow waits
    · exact transferHeld held absent taken named allow noStart noBlock
    · exact commitHeld settled held taken op unarmed
    · exact connectorHeld held taken alone noLamp field off good calm
    · obtain ⟨ch, named⟩ := Option.isSome_iff_exists.1 some
      exact checkHeld settled held taken named
  have runs := exec_cellAbort running leaves
  have back := restored s c w
  obtain ⟨-, clean, line⟩ := running
  intro cap
  obtain ⟨y, hy⟩ : ∃ y, y = (s.hostWord (cellBase c) w).abortCell c 7 := ⟨_, rfl⟩
  have host : ∀ d, (s.hostWord (cellBase c) w).cell d = s.cell d := fun d => rfl
  rw [← hy] at runs
  have closed := closes y
  refine ⟨_, runs, fun ended => ?_, fun st => ?_, fun st kind => ?_, fun st kind r here => ?_, fun st kind v here => ?_, fun st kind armed => ?_,
    fun st kind waits => ?_, fun st => ?_, fun st g e ch entry named => ?_⟩
  · rw [State.abortCell_ended c 7 (s := s.hostWord (cellBase c) w) (by rw [host]; exact ended)] at hy
    rw [← hy] at back
    have still : Settled y := by rw [back.whole]; exact ⟨clean, line⟩
    rw [still.finish]
    exact ⟨back.whole, back.shows, back.frame⟩
  · rw [State.abortCell_taken c 7 (s := s.hostWord (cellBase c) w) (by rw [host]; exact st)] at hy
    obtain ⟨still, shows, cell, others, posts, whole, frame⟩ := back.marked ⟨clean, line⟩ (fun r => { r with abortHeld := true }) (fun _ => rfl) hy.symm
    rw [st] at shows
    rw [still]
    exact ⟨shows, cell, others, posts, whole, frame⟩
  · rw [State.abortCell_active c 7 (s := s.hostWord (cellBase c) w) (by rw [host]; exact st), State.abortActive_exchange c (by rw [back.cell]; exact kind)] at hy
    obtain ⟨still, shows, cell, others, posts, whole, frame⟩ := back.marked ⟨clean, line⟩ (fun r => { r with abortPending := true }) (fun _ => rfl) hy.symm
    rw [st] at shows
    rw [still]
    exact ⟨shows, cell, others, posts, whole, frame⟩
  · rw [State.abortCell_active c 7 (s := s.hostWord (cellBase c) w) (by rw [host]; exact st), State.abortActive_transfer c (by rw [back.cell]; exact kind)] at hy
    exact back.transferAborted here hy.symm closed
  · rw [State.abortCell_active c 7 (s := s.hostWord (cellBase c) w) (by rw [host]; exact st), State.abortActive_watch c (by rw [back.cell]; exact kind)] at hy
    exact back.watchAborted clean here hy.symm closed
  · rw [State.abortCell_active c 7 (s := s.hostWord (cellBase c) w) (by rw [host]; exact st), State.abortActive_commit c (by rw [back.cell]; exact kind)] at hy
    exact back.commitAborted clean armed hy.symm closed
  · rw [State.abortCell_active c 7 (s := s.hostWord (cellBase c) w) (by rw [host]; exact st), State.abortActive_connector c (by rw [back.cell]; exact kind)
      (by rw [back.cm]; exact waits)] at hy
    exact back.connectorAborted waits hy.symm closed
  · rw [State.abortCell_posted c 7 (s := s.hostWord (cellBase c) w) (by rw [host]; exact st)] at hy
    exact posted_aborted clean hy.symm closed rfl
  · rw [State.abortCell_queued c 7 (s := s.hostWord (cellBase c) w) (by rw [host]; exact st)] at hy
    exact back.queuedAborted clean entry named hy.symm closed

end Sys2Proof.Machine
end

section
/-! PROOFS. Grants that end: the lamp, the one record that is reached, and the re-check of its work (R18, R21, R158). -/

namespace Sys2Proof.Machine

variable {s t : State}

/-! ### The lamp indication, derived afresh (R158) -/

structure LampRefreshed (y v : State) : Prop where
  cm : v.cm = { y.cm with lampInd := v.cm.lampInd, lit := v.cm.lit, blink := v.cm.blink }
  shows : LampShows y v
  same : v.cm.lampInd = y.cm.lampInd → v = y
  whole : v = { y with cm := v.cm, mem := v.mem, info := v.info }
  frame : MemFrame y v (Within 0x19 2)

theorem lampRefreshed (y : State) : LampRefreshed y y.lampRefresh := by
  refine ⟨?_, y.lampRefresh_shows, fun kept => ?_, y.lampRefresh_whole, y.lampRefresh_frame⟩
  · have cm := y.lampRefresh_cm
    have ind : y.lampRefresh.cm.lampInd = y.indication := by rw [cm]
    rw [← ind] at cm
    exact cm
  · have ind : y.lampRefresh.cm.lampInd = y.indication := by rw [y.lampRefresh_cm]
    exact y.lampRefresh_same (ind.symm.trans kept)

theorem LampRefreshed.keeps {y v : State} (lamp : LampRefreshed y v) : Keeps y v := by
  refine ⟨by rw [lamp.whole], by rw [lamp.whole], by rw [lamp.whole], by rw [lamp.whole], by rw [lamp.whole], by rw [lamp.whole], by rw [lamp.whole],
    fun i set => by rw [lamp.whole]; exact set, lamp.frame.mono fun a two => ?_⟩
  unfold Within at *
  omega

/-- Two updates in a row show the lamp where the indication has changed. -/
theorem LampRefreshed.from {y v : State} (lamp : LampRefreshed y v) (before : LampShows s y) : LampShows s v := by
  by_cases kept : v.cm.lampInd = y.cm.lampInd
  · rw [lamp.same kept]
    exact before
  · exact fun _ => lamp.shows kept

/-- The lamp and the end of the event: what an event whose work is done at `y` comes to. -/
structure LampCloses (y t : State) : Prop where
  cm : t.cm = { y.cm with lampInd := t.cm.lampInd, lit := t.cm.lit, blink := t.cm.blink }
  shows : ∀ s, LampShows s y → LampShows s t
  regs : t.regs = { y.regs with irq := irqOf y.regs }
  keeps : Keeps y t
  whole : t = { y with cm := t.cm, mem := t.mem, info := t.info, regs := t.regs }
  frame : MemFrame y t (InfoPlaces 0x19 2)

theorem lampCloses (y : State) : LampCloses y y.lampRefresh.finish := by
  have lamp := lampRefreshed y
  generalize y.lampRefresh = v at *
  have closed := closes v
  generalize v.finish = t at *
  have tcm := closed.cm
  refine ⟨by rw [tcm]; exact lamp.cm, fun s before => ?_, ?_, lamp.keeps.trans closed.keeps, ?_, lamp.frame.both closed.frame⟩
  · exact (lamp.from before).later (by rw [tcm]) (by rw [tcm]) closed.frame fun a => infoShared_not_lamp
  · rw [closed.regs, lamp.whole]
  · rw [closed.whole, lamp.whole]

theorem LampShows.refl (s : State) : LampShows s s := fun changed => absurd rfl changed

/-! ### A walk over the cells that acts at one -/

theorem foldl_once {n : Nat} {f : State → Fin n → State} {x y : State} (c : Fin n) (before : ∀ d, d ≠ c → f x d = x) (acts : f x c = y)
    (after : ∀ d, d ≠ c → f y d = y) : (List.finRange n).foldl f x = y := by
  obtain ⟨first, last, split⟩ := List.append_of_mem (List.mem_finRange c)
  have nodup : (first ++ c :: last).Nodup := split ▸ List.nodup_finRange n
  obtain ⟨-, rest, apart⟩ := List.nodup_append.1 nodup
  rw [split, List.foldl_append, List.foldl_cons, foldl_still first fun d mem => before d fun eq => apart d mem c (List.mem_cons_self ..) eq, acts,
    foldl_still last fun d mem => after d fun eq => (List.nodup_cons.1 rest).1 (eq ▸ mem)]

/-! ### A re-check that passes (R18, R21, R139) -/

/-- The transfer with the grant under which it passed. -/
def Transfer.granted (grant id : Nat) (r : Transfer) : Transfer := { r with grant := grant, grantId := id }

structure TransferGranted (x y : State) (c : Fin 32) (r : Transfer) (grant : Nat) : Prop where
  transfers : y.transfers = x.transfers.set c (some (r.granted grant (x.grantId grant)))
  cell : y.cell c = { x.cell c with grant := grant }
  shows : y.mem.read (cellBase c + 68) = byte grant
  whole : y = { x with transfers := y.transfers, board := y.board, mem := y.mem }
  frame : MemFrame x y fun a => a = cellBase c + 68

theorem transferGranted {x : State} {c : Fin 32} {r : Transfer} (here : x.transfer c = some r) (grant : Nat) :
    TransferGranted x (x.transferGrant c grant) c r grant := by
  have bounds := cellBase_bounds c
  have eq : x.transferGrant c grant = (x.modTransfer c (Transfer.granted grant (x.grantId grant))).setGrant c grant := rfl
  obtain ⟨z, hz⟩ : ∃ z, z = x.modTransfer c (Transfer.granted grant (x.grantId grant)) := ⟨_, rfl⟩
  rw [eq, ← hz]
  have ztransfer : z.transfer c = some (r.granted grant (x.grantId grant)) := by rw [hz, State.transfer_modTransfer, here]; rfl
  have zothers : ∀ d, d ≠ c → z.transfer d = x.transfer d := fun d ne => by rw [hz, State.transfer_modTransfer_ne _ _ ne]
  have zwhole : z = { x with transfers := z.transfers } := by rw [hz]; rfl
  clear hz eq
  have zcell : z.cell c = x.cell c := by rw [zwhole]; rfl
  have zmem : z.mem = x.mem := by rw [zwhole]
  refine ⟨transfers_eq_set ztransfer zothers, ?_, ?_, ?_, fun a out => ?_⟩
  · rw [State.setGrant, State.cell, State.wr_board, ← State.cell, State.cell_modCell, zcell]
  · refine Mem.read_of_bytes_one ?_
    exact Mem.bytes_write z.mem (b := cellBase c + 68) (bs := [byte grant]) (by simp only [List.length_singleton, Config.ramSize]; omega)
  · rw [State.setGrant, State.modCell, State.wr, zwhole]
  · rw [← zmem]
    exact Mem.read_write_outside z.mem (by unfold Within; rw [List.length_singleton]; omega)

structure WatchGranted (x y : State) (c : Fin 32) (w : Watch) (grant : Nat) : Prop where
  watches : y.watches = x.watches.set c (some (w.granted grant (x.grantId grant)))
  cell : y.cell c = { x.cell c with grant := grant }
  whole : y = { x with watches := y.watches, board := y.board }

theorem watchGranted {x : State} {c : Fin 32} {w : Watch} (here : x.watch c = some w) (grant : Nat) :
    WatchGranted x (x.watchGrant c grant) c w grant := by
  have eq : x.watchGrant c grant = (x.modWatch c (Watch.granted grant (x.grantId grant))).modCell c fun r => { r with grant := grant } := rfl
  have only := watchOnly here (Watch.granted grant (x.grantId grant))
  rw [eq]
  clear eq
  obtain ⟨z, hz⟩ : ∃ z, z = x.modWatch c (Watch.granted grant (x.grantId grant)) := ⟨_, rfl⟩
  rw [← hz] at only ⊢
  have zwhole : z = { x with watches := z.watches } := by rw [hz]; rfl
  clear hz
  have zcell : z.cell c = x.cell c := by rw [zwhole]; rfl
  refine ⟨watches_eq_set only.watch only.watches, by rw [State.cell_modCell, zcell], ?_⟩
  rw [State.modCell, zwhole]

end Sys2Proof.Machine
end

section
/-! PROOFS. GRANT_EXPIRY (R6, R21). -/

namespace Sys2Proof.Machine

variable {s t : State}

/-- The grant at index `i` is marked expired. -/
def State.expired (s : State) (i : Fin 16) : State :=
  { s with ps := { s.ps with usage := s.ps.usage.set i { s.ps.usage[i] with expired := true } } }

theorem exec_grantExpiry {i : Fin 16} {e : Word32} (used : s.ps.active.grants[i].used = true) (fresh : s.ps.usage[i].expired = false)
    (expiry : s.ps.usage[i].expiry = some e) (reached : e.toNat ≤ s.time.sec.toNat) :
    exec (.grantExpiry i) s =
      .next ((s.expired i).recheckGrant s.ps.active.grants[i].channel s.ps.active.grants[i].id).lampRefresh.finish := by
  have due : s.expiryDue i = true := by
    unfold State.expiryDue
    rw [used, fresh, expiry]
    simpa using reached
  refine (show exec (.grantExpiry i) s = execGrantExpiry i s from rfl).trans ?_
  unfold execGrantExpiry
  rw [if_pos due]
  rfl

/-! ### Which work is re-checked (R21) -/

theorem State.recheckGrant_none {x : State} (records : NoRecords x) (ch id : Nat) : x.recheckGrant ch id = x := by
  obtain ⟨transfers, watches⟩ := records
  unfold State.recheckGrant
  refine foldl_still _ fun c _ => ?_
  rw [transfers c]
  dsimp only
  rw [watches c]

theorem State.recheckGrant_transfer {x y : State} {c : Fin 32} {r : Transfer} {ch id : Nat} (here : x.transfer c = some r)
    (others : ∀ d, d ≠ c → x.transfer d = none) (watches : ∀ d, x.watch d = none) (channel : r.channel.val = ch) (grant : r.grantId = id)
    (is : x.recheckTransfer c .grantExpired = y) (still : ∀ d, d ≠ c → y.transfer d = x.transfer d) (quiet : ∀ d, y.watch d = x.watch d) :
    x.recheckGrant ch id = y := by
  unfold State.recheckGrant
  refine foldl_once c (fun d ne => ?_) ?_ fun d ne => ?_
  · rw [others d ne]
    dsimp only
    rw [watches d]
  · rw [here]
    dsimp only
    rw [if_pos ⟨channel, grant⟩, is, quiet, watches c]
  · rw [still d ne, others d ne]
    dsimp only
    rw [quiet, watches d]

theorem State.recheckGrant_watch {x y : State} {c : Fin 32} {w : Watch} {ch id : Nat} (here : x.watch c = some w)
    (others : ∀ d, d ≠ c → x.watch d = none) (transfers : ∀ d, x.transfer d = none) (channel : w.channel.val = ch) (grant : w.grantId = id)
    (is : x.recheckWatch c w = y) (still : ∀ d, d ≠ c → y.watch d = x.watch d) (quiet : ∀ d, y.transfer d = x.transfer d) :
    x.recheckGrant ch id = y := by
  unfold State.recheckGrant
  refine foldl_once c (fun d ne => ?_) ?_ fun d ne => ?_
  · rw [transfers d]
    dsimp only
    rw [others d ne]
  · rw [transfers c]
    dsimp only
    rw [here]
    dsimp only
    rw [if_pos ⟨channel, grant⟩, is]
  · rw [quiet, transfers d]
    dsimp only
    rw [still d ne, others d ne]

/-! ### What the re-check comes to -/

/-- What holds of the expiry whatever its work is. -/
structure ExpiryMarked (s t : State) (i : Fin 16) : Prop where
  runs : exec (.grantExpiry i) s = .next t
  ps : t.ps = (s.expired i).ps
  cm : t.cm = { s.cm with lampInd := t.cm.lampInd, lit := t.cm.lit, blink := t.cm.blink }
  lamp : LampShows s t

theorem ExpiryMarked.of_lampCloses {i : Fin 16} {y : State} (runs : exec (.grantExpiry i) s = .next t) (closes : LampCloses y t)
    (ps : y.ps = (s.expired i).ps) (cm : y.cm = { s.cm with lampInd := y.cm.lampInd, lit := y.cm.lit, blink := y.cm.blink }) (lamp : LampShows s y) :
    ExpiryMarked s t i := by
  refine ⟨runs, ?_, ?_, closes.shows s lamp⟩
  · rw [closes.whole]
    exact ps
  · have eq := closes.cm
    rw [cm] at eq
    exact eq

section
variable {i : Fin 16} {c : Fin 32} {u y : State} (whole : u = { s with ps := u.ps })
include whole

theorem recheck_transfer_granted {r : Transfer} {grant : Nat} {h : Fin 4} (settled : Settled s) (here : s.transfer c = some r)
    (allow : u.readmission (transferRequest r.channel r.codes (s.cell c).captured) = .allow grant h) (absent : s.entryOf c = none)
    (is : u.recheckTransfer c .grantExpired = y) (closes : LampCloses y t) (active : u.ps.active = s.ps.active) :
    TransferGranted u y c r grant ∧ t.transfers = s.transfers.set c (some { r with grant := grant, grantId := s.grantId grant }) ∧
      t.cell c = { s.cell c with grant := grant } ∧ t.mem.read (cellBase c + 68) = byte grant ∧
      t = { s with ps := t.ps, cm := t.cm, mem := t.mem, info := t.info, transfers := t.transfers, board := t.board } ∧
      MemFrame s t fun a => a = cellBase c + 68 ∨ InfoPlaces 0x19 2 a := by
  have bounds := cellBase_bounds c
  have uhere : u.transfer c = some r := by rw [whole]; exact here
  have ucell : u.cell c = s.cell c := by rw [whole]; rfl
  have granted := transferGranted uhere grant
  have eq : u.recheckTransfer c .grantExpired = u.transferGrant c grant := by
    have entry : (u.transferGrant c grant).entryOf c = none := by
      rw [← absent, granted.whole, whole]
      rfl
    unfold State.recheckTransfer
    rw [uhere]
    dsimp only
    rw [State.transferVerdict, ucell, allow]
    dsimp only
    rw [entry]
  rw [← eq, is] at granted
  have keeps := closes.keeps
  have umem : u.mem = s.mem := by rw [whole]
  have id : u.grantId grant = s.grantId grant := by rw [State.grantId, State.grantId, active]
  refine ⟨granted, ?_, ?_, ?_, ?_, ?_⟩
  · rw [keeps.transfers, granted.transfers, id, whole]
    rfl
  · rw [keeps.cell, granted.cell, ucell]
  · rw [closes.frame _ (by unfold InfoPlaces InfoShared Within; omega)]
    exact granted.shows
  · have regs := closes.regs
    have line : y.regs = s.regs := by rw [granted.whole, whole]
    rw [line, ← settled.2] at regs
    have all := closes.whole
    rw [regs] at all
    rw [all, granted.whole, whole]
  · exact MemFrame.both (t := y) (fun a out => by rw [granted.frame a out, umem]) closes.frame

theorem recheck_transfer_denied {r : Transfer} {reason : Reason} {d : Option Detail} {j : Option Nat} (here : s.transfer c = some r)
    (deny : u.readmission (transferRequest r.channel r.codes (s.cell c).captured) = .deny reason d j)
    (is : u.recheckTransfer c .grantExpired = y) (closes : LampCloses y t) :
    TransferCaused u y c r (recheckCause reason .grantExpired) ∧ CauseTaken s t c r (recheckCause reason .grantExpired) ∧
      t = { s with board := t.board, regs := t.regs, mem := t.mem, info := t.info, chans := t.chans, segs := t.segs
                   transfers := t.transfers, slots := t.slots, cm := t.cm, ps := t.ps } ∧ MemFrame s t (TransferPlaces c) := by
  have uhere : u.transfer c = some r := by rw [whole]; exact here
  have ucell : u.cell c = s.cell c := by rw [whole]; rfl
  have umem : u.mem = s.mem := by rw [whole]
  have eq : u.recheckTransfer c .grantExpired = u.transferCause c (recheckCause reason .grantExpired) := by
    unfold State.recheckTransfer
    rw [uhere]
    dsimp only
    rw [State.transferVerdict, ucell, deny]
  have caused := transferCaused uhere (recheckCause reason .grantExpired)
  rw [← eq, is] at caused
  refine ⟨caused, closes.keeps.causeTaken (caused.cause.carry (by rw [whole]) (by rw [whole]) (by rw [whole]) (by rw [whole]) (by rw [whole])), ?_, ?_⟩
  · rw [closes.whole, caused.whole, whole]
  · refine (MemFrame.both (t := y) (fun a out => by rw [caused.frame a out, umem]) closes.frame).mono ?_
    rintro a (place | info)
    · exact place
    · exact .inr (.inr (.inr (.inr info)))

theorem recheck_watch_granted {w : Watch} {grant : Nat} (here : s.watch c = some w) (is : u.watchGrant c grant = y) (closes : LampCloses y t)
    (active : u.ps.active = s.ps.active) :
    WatchGranted u y c w grant ∧ t.cell c = { s.cell c with grant := grant } ∧ t.segs = s.segs ∧
      t.watches = s.watches.set c (some { w with grant := grant, grantId := s.grantId grant }) := by
  have uhere : u.watch c = some w := by rw [whole]; exact here
  have ucell : u.cell c = s.cell c := by rw [whole]; rfl
  have id : u.grantId grant = s.grantId grant := by rw [State.grantId, State.grantId, active]
  have granted := watchGranted uhere grant
  rw [is] at granted
  refine ⟨granted, ?_, ?_, ?_⟩
  · rw [closes.keeps.cell, granted.cell, ucell]
  · rw [closes.keeps.segs, granted.whole, whole]
  · rw [closes.keeps.watches, granted.watches, id, whole]
    rfl

theorem recheck_watch_denied {w : Watch} (here : s.watch c = some w) (is : u.watchCause c .grantExpired = y) (closes : LampCloses y t) :
    WatchCaused u y c w .grantExpired ∧ WatchCauseTaken s t c w .grantExpired := by
  have uhere : u.watch c = some w := by rw [whole]; exact here
  have caused := watchCaused uhere (reason := .grantExpired) (by decide)
  rw [is] at caused
  exact ⟨caused, closes.keeps.watchCauseTaken (caused.cause.carry (by rw [whole]) (by rw [whole]) (by rw [whole]))⟩

end

end Sys2Proof.Machine
end

section
/-! PROOFS. GRANT_EXPIRY with no work, a lone transfer or a lone watch (R21). -/

namespace Sys2Proof.Machine

variable {s t : State}

/-- The re-admission of an entry that passes changes nothing but lanes and what RAM shows of them. -/
theorem State.settleEntry_whole (x : State) (c : Fin 32) (code : Nat) (g : Fin 4) :
    x.settleEntry c code g = { x with segs := (x.settleEntry c code g).segs, mem := (x.settleEntry c code g).mem } := by
  unfold State.settleEntry
  split
  · rfl
  · split
    · rfl
    · rw [State.join_whole, (dropped x c).whole]

/-- What a re-check of the work of cell `c` leaves whatever it finds. -/
structure Rechecked (u y : State) (c : Fin 32) : Prop where
  transfers : ∀ d, d ≠ c → y.transfer d = u.transfer d
  watches : ∀ d, d ≠ c → y.watch d = u.watch d
  ps : y.ps = u.ps
  cm : y.cm = { u.cm with lampInd := y.cm.lampInd, lit := y.cm.lit, blink := y.cm.blink }
  lamp : LampShows u y

theorem CauseTaken.transfers_ne {x y : State} {c : Fin 32} {r : Transfer} {reason : Reason} (taken : CauseTaken x y c r reason) {d : Fin 32} (ne : d ≠ c) :
    y.transfer d = x.transfer d := by
  obtain ⟨passed, kept, fails⟩ := taken
  cases pending : r.pending with
  | some p => rw [State.transfer, (passed (by rw [pending]; exact nofun)).1, State.transfer]
  | none =>
    cases inside : r.out.any Outst.inCtx with
    | true =>
      rw [State.transfer, (kept pending inside).1]
      exact Vector.getElem_set_ne _ _ fun eq => ne (Fin.ext eq.symm)
    | false => exact (fails pending inside).1.1.2.2.1 d ne

theorem WatchCauseTaken.watches_ne {x y : State} {c : Fin 32} {w : Watch} {reason : Reason} (taken : WatchCauseTaken x y c w reason) {d : Fin 32} (ne : d ≠ c) :
    y.watch d = x.watch d := by
  obtain ⟨passed, kept, ends⟩ := taken
  have apart : ¬ c.val = d.val := fun eq => ne (Fin.ext eq.symm)
  cases pending : w.pending with
  | some p => rw [State.watch, (passed (by rw [pending]; exact nofun)).1, State.watch]
  | none =>
    by_cases inside : w.out = .context
    · rw [State.watch, (kept pending inside).1]
      exact Vector.getElem_set_ne _ _ apart
    · rw [State.watch, (ends pending inside).1]
      exact Vector.getElem_set_ne _ _ apart

theorem TransferCaused.rechecked {u y : State} {c : Fin 32} {r : Transfer} {reason : Reason} (caused : TransferCaused u y c r reason) : Rechecked u y c :=
  ⟨fun _ ne => caused.cause.transfers_ne ne, fun d _ => by rw [caused.whole]; rfl, by rw [caused.whole], caused.cm, caused.lamp⟩

theorem WatchCaused.rechecked {u y : State} {c : Fin 32} {w : Watch} {reason : Reason} (caused : WatchCaused u y c w reason) : Rechecked u y c := by
  have cm : y.cm = u.cm := by rw [caused.whole]
  exact ⟨fun d _ => by rw [caused.whole]; rfl, fun _ ne => caused.cause.watches_ne ne, by rw [caused.whole], by rw [cm],
    fun changed => absurd (by rw [cm]) changed⟩

theorem WatchGranted.rechecked {u y : State} {c : Fin 32} {w : Watch} {grant : Nat} (granted : WatchGranted u y c w grant) : Rechecked u y c := by
  have cm : y.cm = u.cm := by rw [granted.whole]
  refine ⟨fun d _ => by rw [granted.whole]; rfl, fun d ne => ?_, by rw [granted.whole], by rw [cm], fun changed => absurd (by rw [cm]) changed⟩
  rw [State.watch, granted.watches]
  exact Vector.getElem_set_ne _ _ fun eq => ne (Fin.ext eq.symm)

/-- The re-check of a transfer reaches no other record. -/
theorem rechecked_transfer {u : State} {c : Fin 32} {r : Transfer} (here : u.transfer c = some r) (other : Reason) :
    Rechecked u (u.recheckTransfer c other) c ∧ ∀ d, (u.recheckTransfer c other).watch d = u.watch d := by
  unfold State.recheckTransfer
  rw [here]
  dsimp only
  cases u.transferVerdict c r with
  | deny reason d j =>
    dsimp only
    have caused := transferCaused here (recheckCause reason other)
    exact ⟨caused.rechecked, fun d => by rw [caused.whole]; rfl⟩
  | allow grant g =>
    dsimp only
    have granted := transferGranted here grant
    generalize u.transferGrant c grant = y at *
    have settles : Rechecked u y c ∧ ∀ d, y.watch d = u.watch d := by
      have cm : y.cm = u.cm := by rw [granted.whole]
      refine ⟨⟨fun d ne => ?_, fun d _ => by rw [granted.whole]; rfl, by rw [granted.whole], by rw [cm], fun changed => absurd (by rw [cm]) changed⟩,
        fun d => by rw [granted.whole]; rfl⟩
      rw [State.transfer, granted.transfers]
      exact Vector.getElem_set_ne _ _ fun eq => ne (Fin.ext eq.symm)
    cases y.entryOf c with
    | none => exact settles
    | some pair =>
      dsimp only
      have whole := y.settleEntry_whole c (r.codes.of pair.2.role) g
      obtain ⟨⟨transfers, watches, ps, cm, lamp⟩, quiet⟩ := settles
      generalize y.settleEntry c (r.codes.of pair.2.role) g = v at *
      have vcm : v.cm = y.cm := by rw [whole]
      have vwatch : ∀ d, v.watch d = y.watch d := fun d => by rw [whole]; rfl
      have ycm : y.cm = u.cm := by rw [granted.whole]
      refine ⟨⟨fun d ne => ?_, fun d ne => (vwatch d).trans (watches d ne), ?_, by rw [vcm]; exact cm, fun changed => absurd (by rw [vcm, ycm]) changed⟩,
        fun d => (vwatch d).trans (quiet d)⟩
      · rw [whole]
        exact transfers d ne
      · rw [whole]
        exact ps

theorem rechecked_watch {u : State} {c : Fin 32} {w : Watch} (here : u.watch c = some w) :
    Rechecked u (u.recheckWatch c w) c ∧ ∀ d, (u.recheckWatch c w).transfer d = u.transfer d := by
  unfold State.recheckWatch
  have grants : ∀ grant, Rechecked u (u.watchGrant c grant) c ∧ ∀ d, (u.watchGrant c grant).transfer d = u.transfer d := fun grant => by
    have granted := watchGranted here grant
    exact ⟨granted.rechecked, fun d => by rw [granted.whole]; rfl⟩
  cases u.watchVerdict w with
  | allow grant g => exact grants grant
  | deny reason d j =>
    dsimp only
    split
    · exact grants _
    · have caused := watchCaused here (reason := .grantExpired) (by decide)
      exact ⟨caused.rechecked, fun d => by rw [caused.whole]; rfl⟩

/-- The expiry of the grant at index `i`, its work re-checked to `y`. -/
theorem expiryMarked {i : Fin 16} {c : Fin 32} {y : State} (runs : exec (.grantExpiry i) s = .next y.lampRefresh.finish)
    (checked : Rechecked (s.expired i) y c) : ExpiryMarked s y.lampRefresh.finish i := by
  have closes := lampCloses y
  obtain ⟨-, -, ps, cm, lamp⟩ := checked
  exact .of_lampCloses runs closes ps cm lamp

theorem State.expired_whole (s : State) (i : Fin 16) : s.expired i = { s with ps := (s.expired i).ps } := rfl

section
variable {i : Fin 16} {e : Word32} (used : s.ps.active.grants[i].used = true) (fresh : s.ps.usage[i].expired = false)
  (expiry : s.ps.usage[i].expiry = some e) (reached : e.toNat ≤ s.time.sec.toNat)
include used fresh expiry reached

theorem expiry_idle (settled : Settled s) (records : NoRecords s) :
    ∃ t, ExpiryMarked s t i ∧ t.regs = s.regs ∧ t = { s with ps := t.ps, cm := t.cm, mem := t.mem, info := t.info } ∧ MemFrame s t (InfoPlaces 0x19 2) := by
  have runs := exec_grantExpiry used fresh expiry reached
  have whole := s.expired_whole i
  generalize hu : s.expired i = u at runs whole
  rw [State.recheckGrant_none (x := u) (by rw [whole]; exact records)] at runs
  have closes := lampCloses u
  generalize u.lampRefresh.finish = t at *
  have cm : u.cm = s.cm := by rw [whole]
  have regs : t.regs = s.regs := by
    have eq := closes.regs
    have same : u.regs = s.regs := by rw [whole]
    rw [same, ← settled.2] at eq
    exact eq
  refine ⟨t, .of_lampCloses runs closes (by rw [hu]) (by rw [cm]) (fun changed => absurd (by rw [cm]) changed), regs, ?_, fun a out => ?_⟩
  · have all := closes.whole
    rw [regs] at all
    rw [all, whole]
  · rw [closes.frame a out, whole]

theorem expiry_transfer {c : Fin 32} {r : Transfer} (lone : LoneTransfer s c r) (channel : r.channel.val = s.ps.active.grants[i].channel)
    (grant : r.grantId = s.ps.active.grants[i].id) :
    ∃ t, ExpiryMarked s t i ∧ LampCloses ((s.expired i).recheckTransfer c .grantExpired) t := by
  have runs := exec_grantExpiry used fresh expiry reached
  obtain ⟨here, others, watches, -⟩ := lone
  have checked := rechecked_transfer (u := s.expired i) here .grantExpired
  have eq : (s.expired i).recheckGrant s.ps.active.grants[i].channel s.ps.active.grants[i].id = (s.expired i).recheckTransfer c .grantExpired :=
    State.recheckGrant_transfer (x := s.expired i) here others watches channel grant rfl checked.1.transfers checked.2
  rw [eq] at runs
  exact ⟨_, expiryMarked runs checked.1, lampCloses _⟩

theorem expiry_watch {c : Fin 32} {w : Watch} (lone : LoneWatch s c w) (channel : w.channel.val = s.ps.active.grants[i].channel)
    (grant : w.grantId = s.ps.active.grants[i].id) :
    ∃ t, ExpiryMarked s t i ∧ LampCloses ((s.expired i).recheckWatch c w) t := by
  have runs := exec_grantExpiry used fresh expiry reached
  obtain ⟨here, others, transfers, -⟩ := lone
  have checked := rechecked_watch (u := s.expired i) here
  have eq : (s.expired i).recheckGrant s.ps.active.grants[i].channel s.ps.active.grants[i].id = (s.expired i).recheckWatch c w :=
    State.recheckGrant_watch (x := s.expired i) here others transfers channel grant rfl checked.1.watches checked.2
  rw [eq] at runs
  exact ⟨_, expiryMarked runs checked.1, lampCloses _⟩

end

end Sys2Proof.Machine
end

section
/-! PROOFS. The publication of a set, and the departure of the tester (R13, R22, R156). -/

namespace Sys2Proof.Machine

variable {s t : State}

/-! ### Publication (R13) -/

/-- The active set of `y` has been published. -/
structure SetPublished (y v : State) : Prop where
  ps : v.ps = { y.ps with generation := y.ps.generation + 1 }
  regs : v.regs = { y.regs with event := y.regs.event ||| Event.commit.bit }
  mirror : v.mem.bytes 0x2000 0x800 = y.ps.active.bytes
  generation : v.mem.bytes 0x28 4 = le32 (y.ps.generation + 1).toNat
  info : v.info = { y.info with dirty := true }
  whole : v = { y with ps := v.ps, mem := v.mem, regs := v.regs, info := v.info }
  frame : MemFrame y v fun a => Within 0x2000 0x800 a ∨ Within 0x28 4 a

theorem setPublished (y : State) : SetPublished y y.publishSet := by
  have mem : y.publishSet.mem = (y.mem.write mirrorBase y.ps.active.bytes).write 0x28 (le32 (y.ps.generation + 1).toNat) := rfl
  refine ⟨rfl, rfl, ?_, ?_, rfl, rfl, fun a out => ?_⟩
  · have stored := Mem.bytes_write y.mem (b := mirrorBase) (bs := y.ps.active.bytes) (by rw [PolicySet.bytes_length]; decide)
    rw [PolicySet.bytes_length] at stored
    rw [mem]
    exact (Mem.bytes_write_beside _ (by rw [le32_length]; decide)).trans stored
  · rw [mem]
    exact Mem.bytes_write _ (b := 0x28) (bs := le32 (y.ps.generation + 1).toNat) (by rw [le32_length]; decide)
  · obtain ⟨mirror, field⟩ := not_or.1 out
    rw [mem]
    refine (Mem.read_write_outside _ (by rw [le32_length]; exact field)).trans (Mem.read_write_outside _ ?_)
    rw [PolicySet.bytes_length]
    exact mirror

theorem SetPublished.keeps {y v : State} (published : SetPublished y v) : Keeps y v := by
  refine ⟨by rw [published.whole], by rw [published.whole], by rw [published.whole], by rw [published.whole], by rw [published.whole],
    by rw [published.whole], by rw [published.regs], fun i set => ?_, published.frame.mono fun a area => ?_⟩
  · rw [published.regs]
    dsimp only
    rw [BitVec.getLsbD_or, set, Bool.true_or]
  · unfold Within at *
    omega

/-- The lamp, the publication and the end of the event. -/
structure PublishCloses (y t : State) : Prop where
  ps : t.ps = { y.ps with generation := y.ps.generation + 1 }
  regs : t.regs = { y.regs with event := y.regs.event ||| Event.commit.bit, irq := irqOf t.regs }
  mirror : t.mem.bytes 0x2000 0x800 = y.ps.active.bytes
  generation : t.mem.bytes 0x28 4 = le32 (y.ps.generation + 1).toNat
  cm : t.cm = { y.cm with lampInd := t.cm.lampInd, lit := t.cm.lit, blink := t.cm.blink }
  shows : LampShows s y → LampShows s t
  keeps : Keeps y t
  whole : t = { y with ps := t.ps, mem := t.mem, regs := t.regs, info := t.info, cm := t.cm }
  frame : MemFrame y t fun a => (0x2000 ≤ a ∧ a < 0x2800) ∨ Within 0x28 4 a ∨ InfoPlaces 0x19 2 a

theorem publishCloses (y : State) : PublishCloses (s := s) y y.lampRefresh.publishSet.finish := by
  have lamp := lampRefreshed y
  generalize y.lampRefresh = u at *
  have published := setPublished u
  generalize u.publishSet = v at *
  have closed := closes v
  generalize v.finish = t at *
  have ups : u.ps = y.ps := by rw [lamp.whole]
  have uregs : u.regs = y.regs := by rw [lamp.whole]
  have vcm : v.cm = u.cm := by rw [published.whole]
  have tcm : t.cm = u.cm := closed.cm.trans vcm
  have low : ∀ a, Within 0x19 2 a → ¬ (Within 0x2000 0x800 a ∨ Within 0x28 4 a) := fun a lamp => by
    unfold Within at *
    omega
  refine ⟨?_, ?_, ?_, ?_, ?_, fun before => ?_, (lamp.keeps.trans published.keeps).trans closed.keeps, ?_, ?_⟩
  · rw [closed.ps, published.ps, ups]
  · have eq := closed.regs
    rw [published.regs, uregs] at eq
    rw [eq]
    rfl
  · rw [closed.above (by decide), published.mirror, ups]
  · rw [closed.frame.bytes fun k lt => by unfold InfoShared Within; omega, published.generation, ups]
  · rw [tcm]
    exact lamp.cm
  · exact ((lamp.from before).later (by rw [vcm]) (by rw [vcm]) published.frame low).later (by rw [tcm, vcm]) (by rw [tcm, vcm]) closed.frame
      fun a => infoShared_not_lamp
  · rw [closed.whole, published.whole, lamp.whole]
  · refine ((lamp.frame.both published.frame).both closed.frame).mono ?_
    rintro a ((two | area | field) | shared)
    · exact .inr (.inr (.inl two))
    · refine .inl ?_
      unfold Within at area
      omega
    · exact .inr (.inl field)
    · exact .inr (.inr (.inr shared))

/-! ### The work of the channels that held grants (R22) -/

theorem State.waiting_lone {x : State} {g : Fin 4} {e : Entry} (lone : LoneEntry x g e) : x.waiting = [e] := by
  have all : ∀ h, (x.seg h).lanes.all = if h = g then [e] else [] := fun h => by
    rw [lone h]
    split
    · exact Lanes.only_all e
    · rfl
  unfold State.waiting
  rw [show (fun g => (x.seg g).lanes.all) = fun h => if h = g then [e] else [] from funext all]
  fin_cases g <;> rfl

/-- The departure reaches an EXCHANGE entry of a channel that held a grant. -/
def State.entryGone (held : Fin 8 → Bool) (s : State) (e : Entry) : State :=
  match e.role, channelNamed (s.cell e.cell).captured with
  | .exchange, some ch => if held ch then s.exchangeLost e.cell .testerGone none else s
  | _, _ => s

/-- The departure reaches the transfer of a cell. -/
def State.transferGone (held : Fin 8 → Bool) (s : State) (c : Fin 32) : State :=
  match s.transfer c with
  | some r => if held r.channel then s.transferCause c .testerGone else s
  | none => s

/-- The departure reaches the watch of a cell. -/
def State.watchGone (held : Fin 8 → Bool) (s : State) (c : Fin 32) : State :=
  match s.watch c with
  | some w => if held w.channel then s.watchCause c .testerGone else s
  | none => s

theorem State.testerGone_eq (u : State) (held : Fin 8 → Bool) :
    u.testerGone held = (List.finRange 32).foldl (fun s c => (s.transferGone held c).watchGone held c) (u.waiting.foldl (State.entryGone held) u) := rfl

section
variable {u : State} (held : Fin 8 → Bool)

theorem State.transferGone_none {c : Fin 32} (absent : u.transfer c = none) : u.transferGone held c = u := by
  unfold State.transferGone
  rw [absent]

theorem State.watchGone_none {c : Fin 32} (absent : u.watch c = none) : u.watchGone held c = u := by
  unfold State.watchGone
  rw [absent]

theorem State.recordGone_none {c : Fin 32} (transfer : u.transfer c = none) (watch : u.watch c = none) :
    (u.transferGone held c).watchGone held c = u := by
  rw [State.transferGone_none held transfer, State.watchGone_none held watch]

theorem State.entriesGone_quiet (quiet : NoExchangeWaits u) : u.waiting.foldl (State.entryGone held) u = u := by
  refine foldl_still u.waiting fun e mem => ?_
  have other := quiet e mem
  unfold State.entryGone
  split
  · case _ eq _ => exact absurd eq other
  · rfl

theorem State.testerGone_idle (waiting : u.waiting = []) (records : NoRecords u) : u.testerGone held = u := by
  obtain ⟨transfers, watches⟩ := records
  rw [State.testerGone_eq, waiting, List.foldl_nil]
  exact foldl_still _ fun c _ => State.recordGone_none held (transfers c) (watches c)

theorem State.testerGone_entry {e : Entry} {ch : Fin 8} (waiting : u.waiting = [e]) (records : NoRecords u) (role : e.role = .exchange)
    (named : channelNamed (u.cell e.cell).captured = some ch) :
    u.testerGone held = if held ch then u.exchangeLost e.cell .testerGone none else u := by
  obtain ⟨transfers, watches⟩ := records
  have first : u.entryGone held e = if held ch then u.exchangeLost e.cell .testerGone none else u := by
    unfold State.entryGone
    rw [role, named]
  obtain ⟨y, hy⟩ : ∃ y, y = u.entryGone held e := ⟨_, rfl⟩
  have still : ∀ d, y.transfer d = none ∧ y.watch d = none := fun d => by
    rw [hy, first]
    split
    · have lost := exchangeIsLost u e.cell (reason := .testerGone) (by decide) none
      generalize u.exchangeLost e.cell .testerGone none = v at lost
      rw [lost.whole]
      exact ⟨transfers d, watches d⟩
    · exact ⟨transfers d, watches d⟩
  rw [State.testerGone_eq, waiting, List.foldl_cons, List.foldl_nil, ← first, ← hy]
  exact foldl_still _ fun c _ => State.recordGone_none held (still c).1 (still c).2

theorem State.testerGone_transfer {c : Fin 32} {r : Transfer} (lone : LoneTransfer u c r) :
    u.testerGone held = if held r.channel then u.transferCause c .testerGone else u := by
  obtain ⟨here, others, watches, quiet⟩ := lone
  have caused := transferCaused here .testerGone
  have acts : u.transferGone held c = if held r.channel then u.transferCause c .testerGone else u := by
    unfold State.transferGone
    rw [here]
  obtain ⟨y, hy⟩ : ∃ y, y = u.transferGone held c := ⟨_, rfl⟩
  have still : (∀ d, d ≠ c → y.transfer d = none) ∧ ∀ d, y.watch d = none := by
    rw [hy, acts]
    split
    · refine ⟨fun d ne => by rw [caused.cause.transfers_ne ne, others d ne], fun d => ?_⟩
      rw [caused.whole]
      exact watches d
    · exact ⟨others, watches⟩
  rw [State.testerGone_eq, State.entriesGone_quiet held quiet, ← acts, ← hy]
  refine foldl_once c (fun d ne => State.recordGone_none held (others d ne) (watches d)) ?_ fun d ne => State.recordGone_none held (still.1 d ne) (still.2 d)
  rw [← hy, State.watchGone_none held (still.2 c)]

theorem State.testerGone_watch {c : Fin 32} {w : Watch} (lone : LoneWatch u c w) :
    u.testerGone held = if held w.channel then u.watchCause c .testerGone else u := by
  obtain ⟨here, others, transfers, quiet⟩ := lone
  have caused := watchCaused here (reason := .testerGone) (by decide)
  have acts : u.watchGone held c = if held w.channel then u.watchCause c .testerGone else u := by
    unfold State.watchGone
    rw [here]
  obtain ⟨y, hy⟩ : ∃ y, y = u.watchGone held c := ⟨_, rfl⟩
  have still : (∀ d, d ≠ c → y.watch d = none) ∧ ∀ d, y.transfer d = none := by
    rw [hy, acts]
    split
    · refine ⟨fun d ne => by rw [caused.cause.watches_ne ne, others d ne], fun d => ?_⟩
      rw [caused.whole]
      exact transfers d
    · exact ⟨others, transfers⟩
  rw [State.testerGone_eq, State.entriesGone_quiet held quiet, ← acts, ← hy]
  refine foldl_once c (fun d ne => State.recordGone_none held (transfers d) (others d ne)) ?_ fun d ne => State.recordGone_none held (still.2 d) (still.1 d ne)
  rw [State.transferGone_none held (transfers c), ← hy]

end

end Sys2Proof.Machine
end

section
/-! PROOFS. Grants that expire and grants that a departure removes (R21, R22, R156). -/

namespace Sys2Proof.Machine

variable {s t : State}

/-- The part with the grants of its set removed and the grace timer stopped, before its work is told. -/
def State.ungranted (s : State) : State :=
  { s with
    cm := { s.cm with grace := none }
    ps := { s.ps with active := { s.ps.active with grants := Vector.replicate 16 Grant.unused }, usage := Vector.replicate 16 Usage.none } }

theorem State.ungranted_whole (s : State) : s.ungranted = { s with cm := s.ungranted.cm, ps := s.ungranted.ps } := rfl

section
variable (settled : Settled s) (due : s.due s.cm.grace = true)
include due

theorem exec_departure (some : s.ps.active.hasGrant = true) :
    exec .departure s = .next (s.ungranted.testerGone s.ps.active.channelHasGrant).lampRefresh.publishSet.finish := by
  refine (show exec .departure s = execDeparture s from rfl).trans ?_
  unfold execDeparture
  rw [if_pos due]
  have grants : (s.modCm fun m => { m with grace := none }).ps.active.hasGrant = true := some
  unfold State.withdrawGrants
  rw [grants, if_neg (by decide)]
  rfl

include settled in
theorem exec_departure_none (none_ : s.ps.active.hasGrant = false) :
    exec .departure s = .next { s with cm := { s.cm with grace := none } } := by
  refine (show exec .departure s = execDeparture s from rfl).trans ?_
  unfold execDeparture
  rw [if_pos due]
  have grants : (s.modCm fun m => { m with grace := none }).ps.active.hasGrant = false := none_
  unfold State.withdrawGrants
  rw [grants]
  exact congrArg Host.Outcome.next (Settled.finish (s := s.modCm fun m => { m with grace := none }) settled)

end

/-- What holds of the departure whatever its work is. -/
def DepartureShown (s t : State) : Prop :=
  exec .departure s = .next t ∧ t.ps.active = { s.ps.active with grants := Vector.replicate 16 Grant.unused } ∧ t.ps.active.hasGrant = false ∧
    (∀ i : Fin 16, t.ps.usage[i] = Usage.none) ∧ t.ps.generation = s.ps.generation + 1 ∧ t.ps.armed = s.ps.armed ∧
    t.mem.bytes 0x2000 0x800 = t.ps.active.bytes ∧ t.mem.bytes 0x28 4 = le32 (s.ps.generation + 1).toNat ∧
    t.regs.event.getLsbD 3 = true ∧ t.cm = { s.cm with grace := none, lampInd := t.cm.lampInd, lit := t.cm.lit, blink := t.cm.blink } ∧ LampShows s t

theorem PolicySet.hasGrant_unused (p : PolicySet) : ({ p with grants := Vector.replicate 16 Grant.unused } : PolicySet).hasGrant = false := by
  show (Vector.replicate 16 Grant.unused).toList.any Grant.used = false
  decide

/-- The departure, its work done at `y`. -/
theorem departureShown {y : State} (due : s.due s.cm.grace = true) (some : s.ps.active.hasGrant = true)
    (is : s.ungranted.testerGone s.ps.active.channelHasGrant = y) (ps : y.ps = s.ungranted.ps)
    (cm : y.cm = { s.ungranted.cm with lampInd := y.cm.lampInd, lit := y.cm.lit, blink := y.cm.blink }) (lamp : LampShows s y) :
    ∃ t, DepartureShown s t ∧ PublishCloses (s := s) y t := by
  have runs := exec_departure due some
  rw [is] at runs
  have closes := publishCloses (s := s) y
  generalize y.lampRefresh.publishSet.finish = t at *
  have tps := closes.ps
  rw [ps] at tps
  have active : t.ps.active = { s.ps.active with grants := Vector.replicate 16 Grant.unused } := by rw [tps]; rfl
  refine ⟨t, ⟨runs, active, ?_, fun i => ?_, ?_, ?_, ?_, ?_, ?_, ?_, closes.shows lamp⟩, closes⟩
  · rw [active]
    exact PolicySet.hasGrant_unused _
  · rw [tps]
    exact Vector.getElem_replicate _
  · rw [tps]
    rfl
  · rw [tps]
    rfl
  · rw [closes.mirror, tps, ps]
  · rw [closes.generation, ps]
    rfl
  · rw [closes.regs]
    simp [Event.bit]
  · have eq := closes.cm
    rw [cm] at eq
    exact eq

/-- The departure that reaches no work. -/
theorem departure_still (due : s.due s.cm.grace = true) (some : s.ps.active.hasGrant = true)
    (is : s.ungranted.testerGone s.ps.active.channelHasGrant = s.ungranted) :
    ∃ t, DepartureShown s t ∧ PublishCloses (s := s) s.ungranted t ∧ t = { s with ps := t.ps, mem := t.mem, regs := t.regs, info := t.info, cm := t.cm } := by
  obtain ⟨t, shown, closes⟩ := departureShown due some is rfl rfl fun changed => absurd rfl changed
  refine ⟨t, shown, closes, ?_⟩
  have whole := s.ungranted_whole
  have all := closes.whole
  generalize s.ungranted = u at *
  rw [all, whole]

section
variable (due : s.due s.cm.grace = true) (some : s.ps.active.hasGrant = true)
include due some

theorem departure_idle (idle : Idle s) :
    ∃ t, DepartureShown s t ∧ t.regs = { s.regs with event := s.regs.event ||| Event.commit.bit, irq := irqOf t.regs } ∧
      t = { s with ps := t.ps, mem := t.mem, regs := t.regs, info := t.info, cm := t.cm } ∧
      MemFrame s t fun a => (0x2000 ≤ a ∧ a < 0x2800) ∨ Within 0x28 4 a ∨ InfoPlaces 0x19 2 a := by
  obtain ⟨bus, records⟩ := idle
  have waiting : s.ungranted.waiting = [] := State.waiting_empty (x := s.ungranted) fun g => (bus g).1
  obtain ⟨t, shown, closes, whole⟩ := departure_still due some (State.testerGone_idle _ waiting records)
  exact ⟨t, shown, closes.regs, whole, closes.frame⟩

theorem departure_entry {g : Fin 4} {e : Entry} {ch : Fin 8} (lone : LoneEntry s g e) (records : NoRecords s) (role : e.role = .exchange)
    (named : channelNamed (s.cell e.cell).captured = Option.some ch) :
    ∃ t, DepartureShown s t ∧ (s.ps.active.channelHasGrant ch = true → EntryLost s t e.cell .testerGone) ∧
      (s.ps.active.channelHasGrant ch = false → t = { s with ps := t.ps, mem := t.mem, regs := t.regs, info := t.info, cm := t.cm }) := by
  have waiting : s.ungranted.waiting = [e] := State.waiting_lone (x := s.ungranted) lone
  have goes := State.testerGone_entry (u := s.ungranted) s.ps.active.channelHasGrant waiting records role named
  cases held : s.ps.active.channelHasGrant ch with
  | false =>
    rw [held] at goes
    obtain ⟨t, shown, -, whole⟩ := departure_still due some goes
    exact ⟨t, shown, nofun, fun _ => whole⟩
  | true =>
    rw [held, if_pos rfl] at goes
    have whole := s.ungranted_whole
    have lost := exchangeIsLost s.ungranted e.cell (reason := .testerGone) (by decide) none
    generalize s.ungranted.exchangeLost e.cell .testerGone none = y at goes lost
    obtain ⟨t, shown, closes⟩ := departureShown due some goes (by rw [lost.whole]) (by rw [lost.whole]) fun changed => absurd (by rw [lost.whole]; rfl) changed
    exact ⟨t, shown, fun _ => closes.keeps.entryLost (lost.lost.carry rfl rfl rfl), nofun⟩

theorem departure_transfer {c : Fin 32} {r : Transfer} (lone : LoneTransfer s c r) :
    ∃ t, DepartureShown s t ∧ (s.ps.active.channelHasGrant r.channel = true → CauseTaken s t c r .testerGone) ∧
      (s.ps.active.channelHasGrant r.channel = false → t = { s with ps := t.ps, mem := t.mem, regs := t.regs, info := t.info, cm := t.cm }) := by
  have goes := State.testerGone_transfer (u := s.ungranted) s.ps.active.channelHasGrant lone
  cases held : s.ps.active.channelHasGrant r.channel with
  | false =>
    rw [held] at goes
    obtain ⟨t, shown, -, whole⟩ := departure_still due some goes
    exact ⟨t, shown, nofun, fun _ => whole⟩
  | true =>
    rw [held, if_pos rfl] at goes
    have caused := transferCaused (x := s.ungranted) lone.1 .testerGone
    generalize s.ungranted.transferCause c .testerGone = y at goes caused
    obtain ⟨t, shown, closes⟩ := departureShown due some goes (by rw [caused.whole]) caused.cm caused.lamp
    exact ⟨t, shown, fun _ => closes.keeps.causeTaken (caused.cause.carry rfl rfl rfl rfl rfl), nofun⟩

theorem departure_watch {c : Fin 32} {w : Watch} (lone : LoneWatch s c w) :
    ∃ t, DepartureShown s t ∧ (s.ps.active.channelHasGrant w.channel = true → WatchCauseTaken s t c w .testerGone) ∧
      (s.ps.active.channelHasGrant w.channel = false → t = { s with ps := t.ps, mem := t.mem, regs := t.regs, info := t.info, cm := t.cm }) := by
  have goes := State.testerGone_watch (u := s.ungranted) s.ps.active.channelHasGrant lone
  cases held : s.ps.active.channelHasGrant w.channel with
  | false =>
    rw [held] at goes
    obtain ⟨t, shown, -, whole⟩ := departure_still due some goes
    exact ⟨t, shown, nofun, fun _ => whole⟩
  | true =>
    rw [held, if_pos rfl] at goes
    have caused := watchCaused (x := s.ungranted) lone.1 (reason := .testerGone) (by decide)
    generalize s.ungranted.watchCause c .testerGone = y at goes caused
    obtain ⟨t, shown, closes⟩ := departureShown due some goes (by rw [caused.whole]) (by rw [caused.whole]) fun changed => absurd (by rw [caused.whole]; rfl) changed
    exact ⟨t, shown, fun _ => closes.keeps.watchCauseTaken (caused.cause.carry rfl rfl rfl), nofun⟩

end

/-- Settles O36, by the one piece of work that each event can reach. -/
theorem grantsEnd : Obligations.GrantsEnd := by
  unfold Obligations.GrantsEnd
  refine ⟨fun i e s settled used fresh expiry reached => ?_, fun s settled due => ?_⟩
  · intro q u marked
    have whole := s.expired_whole i
    refine ⟨fun records => ?_, fun c r lone channel grant => ?_, fun c w lone channel grant => ?_⟩
    · obtain ⟨t, ⟨runs, ps, cm, lamp⟩, rest⟩ := expiry_idle used fresh expiry reached settled records
      exact ⟨t, ⟨runs, ps, cm, lamp⟩, rest⟩
    · obtain ⟨t, ⟨runs, ps, cm, lamp⟩, closes⟩ := expiry_transfer used fresh expiry reached lone channel grant
      refine ⟨t, ⟨runs, ps, cm, lamp⟩, ?_⟩
      intro verdict
      refine ⟨fun grant h allow absent => ?_, fun reason d j deny => ?_⟩
      · exact (recheck_transfer_granted whole settled lone.1 allow absent rfl closes rfl).2
      · exact (recheck_transfer_denied whole lone.1 deny rfl closes).2
    · obtain ⟨t, ⟨runs, ps, cm, lamp⟩, closes⟩ := expiry_watch used fresh expiry reached lone channel grant
      refine ⟨t, ⟨runs, ps, cm, lamp⟩, ?_⟩
      intro verdict goesOn
      refine ⟨fun grant h allow => ?_, fun reason d j deny vehicle => ?_, fun reason d j deny other => ?_⟩
      · have goes : u.recheckWatch c w = u.watchGrant c grant := by
          unfold State.recheckWatch
          rw [show u.watchVerdict w = .allow grant h from allow]
        exact (recheck_watch_granted whole lone.1 goes.symm closes rfl).2
      · have goes : u.recheckWatch c w = u.watchGrant c (j.getD 0xFF) := by
          unfold State.recheckWatch
          rw [show u.watchVerdict w = .deny reason d j from deny]
          exact if_pos vehicle
        exact (recheck_watch_granted whole lone.1 goes.symm closes rfl).2
      · have goes : u.recheckWatch c w = u.watchCause c .grantExpired := by
          unfold State.recheckWatch
          rw [show u.watchVerdict w = .deny reason d j from deny]
          exact if_neg (by rw [other]; decide)
        exact (recheck_watch_denied whole lone.1 goes.symm closes).2
  · intro p departed
    refine ⟨fun some => ⟨departure_idle due some, fun g e ch lone records role named => departure_entry due some lone records role named,
      fun c r lone => departure_transfer due some lone, fun c w lone => departure_watch due some lone⟩, fun none => exec_departure_none settled due none⟩

end Sys2Proof.Machine
end

section
/-! PROOFS. One segment takes up its settings of a new set (R19, R102, R110). -/

namespace Sys2Proof.Machine

variable {s t : State}

/-- The restart of a segment whose bit rate or enabling differs. -/
def State.restartedFor (x : State) (old new : PolicySet) (g : Fin 4) : State :=
  if restarts old.segs[g] new.segs[g] then x.restartInto g (x.startState g) else x

/-- The regulator of a segment with the settings of the new set, before a report. -/
def State.regulatorTaken (x : State) (old new : PolicySet) (g : Fin 4) : State := x.modSeg g (regulatorTakeup old new g x.time.clock)

/-- The report of a regulator that the take-up has moved. -/
def State.takeupReported (y : State) (g : Fin 4) (was : Seg) : State :=
  if (y.seg g).acc = was.acc ∧ (y.seg g).freeze = was.freeze then y else y.levelSettle g (levelOf was.acc)

/-- The take-up of a segment but for its restart. -/
def State.regulated (x : State) (old new : PolicySet) (g : Fin 4) : State :=
  ((x.regulatorTaken old new g).takeupReported g (x.seg g)).paceTakeup g

theorem State.segmentTakeup_eq (x : State) (old : PolicySet) (g : Fin 4) :
    x.segmentTakeup old g = (x.restartedFor old x.ps.active g).regulated old x.ps.active g := rfl

theorem regulatorTakeup_eq (old new : PolicySet) (g : Fin 4) (now : Nat) (q : Seg) :
    regulatorTakeup old new g now q =
      { q with
        acc := new.regs[g].clamp q.acc
        subBits := if rewindows old new g then 0 else q.subBits
        winBits := if rewindows old new g then 0 else q.winBits
        subIndex := if rewindows old new g then 0 else q.subIndex
        winStart := if rewindows old new g then q.winStart.map fun _ => now else q.winStart
        freeze := if old.regs[g].enabled = new.regs[g].enabled then q.freeze else false } := by
  unfold regulatorTakeup
  dsimp only
  cases rewindows old new g <;> by_cases same : old.regs[g].enabled = new.regs[g].enabled
  · simp only [if_pos same]
    rfl
  · simp only [if_neg same]
    rfl
  · simp only [if_pos same]
    rfl
  · simp only [if_neg same]
    rfl

/-- The pace entry of the present level is in use. -/
structure PaceTaken (x y : State) (g : Fin 4) : Prop where
  seg : y.seg g = { x.seg g with pace := x.paceAt g, counter := (y.seg g).counter }
  segs : ∀ h, h ≠ g → y.seg h = x.seg h
  whole : y = { x with segs := y.segs, mem := y.mem }
  frame : MemFrame x y (Within (segBase g) 128)

theorem paceTaken (x : State) (g : Fin 4) : PaceTaken x (x.paceTakeup g) g := by
  unfold State.paceTakeup
  split
  case isTrue same => exact ⟨by rw [← same], fun _ _ => rfl, rfl, MemFrame.refl x _⟩
  case isFalse =>
    refine ⟨?_, fun h ne => ?_, ?_, ?_⟩
    · rw [State.seg_lrWrite, State.seg_lsWrite, State.takePace, State.seg_modSeg]
    · rw [State.lrWrite_seg_ne _ ne, State.lsWrite_seg_ne _ ne, State.takePace, State.seg_modSeg_ne _ _ ne]
    · rw [State.lrWrite_eq, State.lsWrite_eq]
      rfl
    · exact MemFrame.trans (s := x) ((x.takePace g).lsWrite_frame g) (((x.takePace g).lsWrite g).lrWrite_frame g)

/-- Segment `g`, its regulator's settings taken up from the new set at the instant `now`. -/
def Seg.regulated (old new : PolicySet) (g : Fin 4) (now : Nat) (q : Seg) : Seg :=
  { q with
    acc := new.regs[g].clamp q.acc
    subBits := if rewindows old new g then 0 else q.subBits
    winBits := if rewindows old new g then 0 else q.winBits
    subIndex := if rewindows old new g then 0 else q.subIndex
    winStart := if rewindows old new g then q.winStart.map fun _ => now else q.winStart
    freeze := if old.regs[g].enabled = new.regs[g].enabled then q.freeze else false
    pace := (new.paces[g])[Fin.ofNat 8 (levelOf (new.regs[g].clamp q.acc))]
    levelChanges := if levelOf (new.regs[g].clamp q.acc) = levelOf q.acc then q.levelChanges else q.levelChanges + 1 }

/-- Segment `g` of `x` has taken up its regulator's settings of the new set. -/
structure Regulated (x y : State) (old new : PolicySet) (g : Fin 4) : Prop where
  seg : y.seg g = { (x.seg g).regulated old new g x.time.clock with counter := (y.seg g).counter }
  segs : ∀ h, h ≠ g → y.seg h = x.seg h
  shows : levelOf (new.regs[g].clamp (x.seg g).acc) ≠ levelOf (x.seg g).acc → y.mem.read (0x24 + g.val) = byte (levelOf (new.regs[g].clamp (x.seg g).acc))
  regs : y.regs = { x.regs with
    event := x.regs.event ||| if levelOf (new.regs[g].clamp (x.seg g).acc) = levelOf (x.seg g).acc then 0 else Event.level.bit }
  whole : y = { x with regs := y.regs, mem := y.mem, segs := y.segs, info := y.info }
  frame : MemFrame x y (LevelPlaces g)

theorem regulated {x : State} (old : PolicySet) {new : PolicySet} (active : x.ps.active = new) (g : Fin 4) : Regulated x (x.regulated old new g) old new g := by
  have bounds := segBase_bounds g
  unfold State.regulated
  obtain ⟨m, hm⟩ : ∃ m, m = x.regulatorTaken old new g := ⟨_, rfl⟩
  have mseg := x.seg_modSeg g (regulatorTakeup old new g x.time.clock)
  rw [regulatorTakeup_eq, ← State.regulatorTaken, ← hm] at mseg
  have msegs : ∀ h, h ≠ g → m.seg h = x.seg h := fun h ne => by rw [hm, State.regulatorTaken, State.seg_modSeg_ne _ _ ne]
  have mwhole : m = { x with segs := m.segs } := by rw [hm]; rfl
  rw [← hm]
  clear hm
  have mregs : m.regs = x.regs := by rw [mwhole]
  have mmem : m.mem = x.mem := by rw [mwhole]
  obtain ⟨a, ha⟩ : ∃ a, a = new.regs[g].clamp (x.seg g).acc := ⟨_, rfl⟩
  have macc : (m.seg g).acc = a := by rw [mseg, ha]
  rw [← ha] at mseg
  obtain ⟨n, hn⟩ : ∃ n, n = m.takeupReported g (x.seg g) := ⟨_, rfl⟩
  have moved : n.seg g = { m.seg g with
        pace := (n.seg g).pace, counter := (n.seg g).counter
        levelChanges := if levelOf a = levelOf (x.seg g).acc then (m.seg g).levelChanges else (m.seg g).levelChanges + 1 } ∧
      (∀ h, h ≠ g → n.seg h = m.seg h) ∧
      (levelOf a ≠ levelOf (x.seg g).acc → n.mem.read (0x24 + g.val) = byte (levelOf a)) ∧
      n.regs = { m.regs with event := m.regs.event ||| if levelOf a = levelOf (x.seg g).acc then 0 else Event.level.bit } ∧
      n = { m with regs := n.regs, mem := n.mem, segs := n.segs, info := n.info } ∧ MemFrame m n (LevelPlaces g) := by
    rw [hn, State.takeupReported]
    split
    case isTrue same =>
      have level : levelOf a = levelOf (x.seg g).acc := by rw [← macc, same.1]
      refine ⟨by rw [if_pos level], fun _ _ => rfl, fun other => absurd level other, ?_, rfl, MemFrame.refl m _⟩
      rw [if_pos level]
      simp
    case isFalse =>
      have report := m.levelSettle_reported g (levelOf (x.seg g).acc)
      generalize m.levelSettle g (levelOf (x.seg g).acc) = v at report
      have first := report.same
      have second := report.changed
      rw [macc] at first second
      by_cases level : levelOf a = levelOf (x.seg g).acc
      · obtain ⟨-, changes, -, regs⟩ := first level
        refine ⟨?_, report.others, fun other => absurd level other, ?_, report.whole, report.frame⟩
        · rw [if_pos level, ← changes]
          exact report.seg
        · rw [if_pos level, regs]
          simp
      · obtain ⟨-, changes, -, regs, read⟩ := second level
        refine ⟨?_, report.others, fun _ => read, ?_, report.whole, report.frame⟩
        · rw [if_neg level, ← changes]
          exact report.seg
        · rw [if_neg level, regs]
  rw [← hn]
  clear hn
  obtain ⟨nseg, nsegs, nshows, nregs, nwhole, nframe⟩ := moved
  have nacc : (n.seg g).acc = a := by rw [nseg, macc]
  have pace := paceTaken n g
  have at_ : n.paceAt g = (new.paces[g])[Fin.ofNat 8 (levelOf a)] := by
    have ps : n.ps = x.ps := by rw [nwhole, mwhole]
    simp only [State.paceAt, nacc, ps, active]
  generalize n.paceTakeup g = y at pace
  have pregs : y.regs = n.regs := by rw [pace.whole]
  refine ⟨?_, fun h ne => by rw [pace.segs h ne, nsegs h ne, msegs h ne], fun other => ?_, ?_, ?_, ?_⟩
  · have eq := pace.seg
    rw [at_, nseg, mseg] at eq
    subst ha
    exact eq
  · rw [← ha] at other ⊢
    rw [pace.frame _ (by unfold Within; omega)]
    exact nshows other
  · rw [← ha, pregs, nregs, mregs]
  · rw [pace.whole, nwhole, mwhole]
  · intro b out
    rw [pace.frame b fun area => out (.inl area), nframe b out, mmem]

end Sys2Proof.Machine
end

section
/-! PROOFS. The segments take up their settings of a new set (R19, R110). -/

namespace Sys2Proof.Machine

variable {s t : State}

/-- A segment that has restarted into `k`. -/
def Seg.restarted (k : Ctl) (q : Seg) : Seg := { q with ctl := k, tecCount := 0, recCount := 0, recovery := 0, offered := none }

/-- Segment `g` with its settings taken up; `k` is the state into which it restarts. -/
def Seg.takenUp (old new : PolicySet) (g : Fin 4) (k : Ctl) (now : Nat) (q : Seg) : Seg :=
  (if restarts old.segs[g] new.segs[g] then q.restarted k else q).regulated old new g now

/-- Segment `g` of `x`, without a busy context, has taken up its settings. -/
structure SegTaken (x y : State) (old new : PolicySet) (g : Fin 4) : Prop where
  seg : y.seg g = { (x.seg g).takenUp old new g (x.startState g) x.time.clock with counter := (y.seg g).counter }
  segs : ∀ h, h ≠ g → y.seg h = x.seg h
  shows : levelOf (y.seg g).acc ≠ levelOf (x.seg g).acc → y.mem.read (0x24 + g.val) = byte (levelOf (y.seg g).acc)
  regs : y.regs = { x.regs with
    event := (x.regs.event ||| if (y.seg g).ctl = (x.seg g).ctl then 0 else Event.segment.bit) |||
      if levelOf (y.seg g).acc = levelOf (x.seg g).acc then 0 else Event.level.bit }
  whole : y = { x with regs := y.regs, mem := y.mem, segs := y.segs, info := y.info }
  frame : MemFrame x y (LevelPlaces g)

theorem segTaken {x : State} (old : PolicySet) {new : PolicySet} (active : x.ps.active = new) {g : Fin 4} (free : ContextsFree x g) :
    SegTaken x (x.segmentTakeup old g) old new g := by
  have bounds := segBase_bounds g
  rw [State.segmentTakeup_eq, active]
  obtain ⟨z, hz⟩ : ∃ z, z = x.restartedFor old new g := ⟨_, rfl⟩
  have first : z.seg g = { (if restarts old.segs[g] new.segs[g] then (x.seg g).restarted (x.startState g) else x.seg g) with counter := (z.seg g).counter } ∧
      (∀ h, h ≠ g → z.seg h = x.seg h) ∧
      z.regs = { x.regs with event := x.regs.event ||| if (z.seg g).ctl = (x.seg g).ctl then 0 else Event.segment.bit } ∧
      z = { x with segs := z.segs, regs := z.regs, mem := z.mem } ∧ MemFrame x z (Within (segBase g) 128) := by
    rw [hz, State.restartedFor]
    by_cases again : restarts old.segs[g] new.segs[g] = true
    · rw [if_pos again, if_pos again]
      have stops := restartedQuiet free
      generalize x.restartInto g (x.startState g) = v at stops
      have ctl : (v.seg g).ctl = x.startState g := by rw [stops.seg]
      refine ⟨stops.seg, stops.segs, ?_, stops.whole, stops.frame⟩
      rw [ctl]
      exact stops.regs
    · rw [if_neg again, if_neg again]
      refine ⟨rfl, fun _ _ => rfl, ?_, rfl, MemFrame.refl x _⟩
      rw [if_pos rfl]
      simp
  rw [← hz]
  clear hz
  obtain ⟨zseg, zsegs, zregs, zwhole, zframe⟩ := first
  have ps : z.ps = x.ps := by rw [zwhole]
  have time : z.time = x.time := by rw [zwhole]
  have done := regulated (x := z) old (new := new) (by rw [ps]; exact active) g
  generalize z.regulated old new g = y at done
  have zacc : (z.seg g).acc = (x.seg g).acc := by
    rw [zseg]
    split <;> rfl
  have yacc : (y.seg g).acc = new.regs[g].clamp (z.seg g).acc := by
    rw [done.seg]
    rfl
  have yctl : (y.seg g).ctl = (z.seg g).ctl := by
    rw [done.seg]
    rfl
  refine ⟨?_, fun h ne => by rw [done.segs h ne, zsegs h ne], fun other => ?_, ?_, by rw [done.whole, zwhole], fun a out => ?_⟩
  · have eq := done.seg
    rw [zseg, time] at eq
    unfold Seg.takenUp
    exact eq
  · rw [yacc] at other ⊢
    exact done.shows (by rw [zacc] at other ⊢; exact other)
  · rw [yacc, yctl, ← zacc, done.regs, zregs]
  · rw [done.frame a out, zframe a fun area => out (.inl area)]

/-! ### One segment after another -/

structure SegmentsTaken (x y : State) (old new : PolicySet) (l : List (Fin 4)) : Prop where
  seg : ∀ g ∈ l, y.seg g = { (x.seg g).takenUp old new g (x.startState g) x.time.clock with counter := (y.seg g).counter }
  segs : ∀ g, g ∉ l → y.seg g = x.seg g
  shows : ∀ g ∈ l, levelOf (y.seg g).acc ≠ levelOf (x.seg g).acc → y.mem.read (0x24 + g.val) = byte (levelOf (y.seg g).acc)
  regs : y.regs = { x.regs with event := y.regs.event }
  event : ∀ i, y.regs.event.getLsbD i = true ↔ x.regs.event.getLsbD i = true ∨ (i = 4 ∧ ∃ g ∈ l, (y.seg g).ctl ≠ (x.seg g).ctl) ∨
    (i = 5 ∧ ∃ g ∈ l, levelOf (y.seg g).acc ≠ levelOf (x.seg g).acc)
  whole : y = { x with regs := y.regs, mem := y.mem, segs := y.segs, info := y.info }
  frame : MemFrame x y fun a => ∃ g ∈ l, LevelPlaces g a

theorem segmentBit_getLsbD {i : Nat} : Event.segment.bit.getLsbD i = true ↔ i = 4 := by
  rw [show Event.segment.bit = BitVec.twoPow 8 4 from rfl, BitVec.getLsbD_twoPow]
  simp [eq_comm]

theorem levelBit_getLsbD {i : Nat} : Event.level.bit.getLsbD i = true ↔ i = 5 := by
  rw [show Event.level.bit = BitVec.twoPow 8 5 from rfl, BitVec.getLsbD_twoPow]
  simp [eq_comm]

/-- Which event bits one segment's take-up sets. -/
theorem SegTaken.event {x y : State} {old new : PolicySet} {g : Fin 4} (taken : SegTaken x y old new g) (i : Nat) :
    y.regs.event.getLsbD i = true ↔ x.regs.event.getLsbD i = true ∨ (i = 4 ∧ (y.seg g).ctl ≠ (x.seg g).ctl) ∨
      (i = 5 ∧ levelOf (y.seg g).acc ≠ levelOf (x.seg g).acc) := by
  have masked : ∀ (p : Prop) [Decidable p] (b : BitVec 8) (k : Nat), (b.getLsbD i = true ↔ i = k) →
      ((if p then 0 else b).getLsbD i = true ↔ i = k ∧ ¬ p) := fun p _ b k bit => by
    by_cases yes : p
    · simp [yes]
    · simp [yes, bit]
  rw [taken.regs]
  dsimp only
  rw [BitVec.getLsbD_or, BitVec.getLsbD_or, Bool.or_eq_true, Bool.or_eq_true, masked _ _ 4 segmentBit_getLsbD, masked _ _ 5 levelBit_getLsbD, or_assoc]

/-- Two steps in a row, each of which may add to two conditions. -/
theorem or_of_two_steps {p q a b c d e : Prop} : ((e ∨ p ∧ a ∨ q ∧ b) ∨ p ∧ c ∨ q ∧ d) ↔ (e ∨ p ∧ (a ∨ c) ∨ q ∧ (b ∨ d)) := by tauto

theorem segmentsTaken (old : PolicySet) {new : PolicySet} : ∀ (l : List (Fin 4)) {x : State}, x.ps.active = new → l.Nodup → (∀ g ∈ l, ContextsFree x g) →
    SegmentsTaken x (l.foldl (fun s g => s.segmentTakeup old g) x) old new l
  | [], x, _, _, _ => ⟨nofun, fun _ _ => rfl, nofun, rfl, fun i => by simp, rfl, MemFrame.refl x _⟩
  | g :: l, x, active, nodup, free => by
    obtain ⟨new_, rest⟩ := List.nodup_cons.1 nodup
    have first := segTaken old active (free g (List.mem_cons_self ..))
    rw [List.foldl_cons]
    generalize x.segmentTakeup old g = z at first
    have zps : z.ps = x.ps := by rw [first.whole]
    have ztime : z.time = x.time := by rw [first.whole]
    have apart : ∀ h ∈ l, h ≠ g := fun h mem eq => new_ (eq ▸ mem)
    have start : ∀ h ∈ l, z.startState h = x.startState h := fun h mem => by
      rw [State.startState_eq, State.startState_eq, State.enabled, State.enabled, zps, first.segs h (apart h mem)]
    have after := segmentsTaken old (new := new) l (x := z) (by rw [zps]; exact active) rest fun h mem => by
      intro k
      have same := first.segs h (apart h mem)
      show (z.seg h).ctxs[k].st = _
      simp only [same]
      exact free h (List.mem_cons_of_mem g mem) k
    generalize l.foldl (fun s g => s.segmentTakeup old g) z = y at after
    have yg : y.seg g = z.seg g := after.segs g new_
    refine ⟨fun h mem => ?_, fun h out => ?_, fun h mem other => ?_, ?_, fun i => ?_, by rw [after.whole, first.whole], fun a out => ?_⟩
    · rcases List.mem_cons.1 mem with rfl | inside
      · rw [yg]
        exact first.seg
      · have eq := after.seg h inside
        rw [first.segs h (apart h inside), start h inside, ztime] at eq
        exact eq
    · obtain ⟨ne, outside⟩ := not_or.1 (List.mem_cons.not.1 out)
      rw [after.segs h outside, first.segs h ne]
    · rcases List.mem_cons.1 mem with rfl | inside
      · rw [yg] at other ⊢
        rw [after.frame _ ?_]
        · exact first.shows other
        · rintro ⟨k, inside, place | byte⟩
          · have bounds := segBase_bounds k
            have lt := h.isLt
            unfold Within at place
            omega
          · unfold Within at byte
            exact new_ ((Fin.ext (by omega) : k = h) ▸ inside)
      · refine after.shows h inside ?_
        rw [first.segs h (apart h inside)]
        exact other
    · have eq := after.regs
      rw [first.regs] at eq
      exact eq
    · rw [after.event, first.event]
      have same : ∀ h ∈ l, z.seg h = x.seg h := fun h mem => first.segs h (apart h mem)
      have ctl : (∃ h ∈ l, (y.seg h).ctl ≠ (z.seg h).ctl) ↔ ∃ h ∈ l, (y.seg h).ctl ≠ (x.seg h).ctl :=
        exists_congr fun h => and_congr_right fun mem => by rw [same h mem]
      have level : (∃ h ∈ l, levelOf (y.seg h).acc ≠ levelOf (z.seg h).acc) ↔ ∃ h ∈ l, levelOf (y.seg h).acc ≠ levelOf (x.seg h).acc :=
        exists_congr fun h => and_congr_right fun mem => by rw [same h mem]
      rw [ctl, level]
      simp only [List.exists_mem_cons_iff, yg]
      exact or_of_two_steps
    · rw [after.frame a fun ⟨h, mem, place⟩ => out ⟨h, List.mem_cons_of_mem g mem, place⟩,
        first.frame a fun place => out ⟨g, List.mem_cons_self .., place⟩]

end Sys2Proof.Machine
end

section
/-! PROOFS. The vehicle state settings and the threshold of a new set, and its consequences one after another (R13, R19, R20, R165). -/

namespace Sys2Proof.Machine

variable {s t : State}

/-! ### The vehicle state settings (R20, R165) -/

/-- A change of vehicle state reaches no work in `x`. -/
abbrev VehicleQuiet (x : State) : Prop := (∀ g, LanesEmpty x g) ∧ NoRecords x

/-- The VSM of `x` takes up settings that differ from `a` so that it forgets what it saw. -/
def VehicleForgets (x : State) (a b : VehSet) : Prop := frameChanged a b = true ∨ a.stale ≠ b.stale ∧ x.stale = true

/-- The VSM without a state frame. -/
def VSM.lost (v : VSM) : VSM := { v with engine := .unknown, motion := .unknown, lastFrame := none }

structure VehicleTaken (x y : State) (a b : VehSet) : Prop where
  lost : VehicleForgets x a b → y.vsm = x.vsm.lost
  same : ¬ VehicleForgets x a b → y.vsm = x.vsm
  shows : y.vsm.engine ≠ x.vsm.engine ∨ y.vsm.motion ≠ x.vsm.motion → y.mem.bytes 0x21 2 = [0, 0] ∧ y.regs.event.getLsbD 6 = true
  regs : y.regs = { x.regs with event := y.regs.event }
  event : ∀ i, y.regs.event.getLsbD i = true → x.regs.event.getLsbD i = true ∨ i = 6
  kept : ∀ i, x.regs.event.getLsbD i = true → y.regs.event.getLsbD i = true
  whole : y = { x with vsm := y.vsm, mem := y.mem, regs := y.regs, info := y.info }
  frame : MemFrame x y (Within 0x21 2)

theorem vehicleBit_getLsbD {i : Nat} : Event.vehicle.bit.getLsbD i = true ↔ i = 6 := by
  rw [show Event.vehicle.bit = BitVec.twoPow 8 6 from rfl, BitVec.getLsbD_twoPow]
  simp [eq_comm]

/-- Both states go UNKNOWN on a part without work to reach. -/
theorem vehicleLost {x y : State} (quiet : VehicleQuiet x) (is : y = (x.modVsm fun m => { m with lastFrame := none }).putVehicle .unknown .unknown) :
    y.vsm = x.vsm.lost ∧ y.mem.bytes 0x21 2 = [0, 0] ∧ y.regs = { x.regs with event := x.regs.event ||| Event.vehicle.bit } ∧
      y = { x with vsm := y.vsm, mem := y.mem, regs := y.regs, info := y.info } ∧ MemFrame x y (Within 0x21 2) := by
  have shown := vehicleShown (x.modVsm fun m => { m with lastFrame := none }) .unknown .unknown
  rw [State.putVehicle_eq] at is
  generalize (x.modVsm fun m => { m with lastFrame := none }).vehicleShown .unknown .unknown = z at *
  obtain ⟨empty, records⟩ := quiet
  have idle : z.vehicleChanged = z := by
    refine State.vehicleChanged_idle (fun g => ?_) ?_
    · rw [shown.whole]
      exact empty g
    · rw [shown.whole]
      exact records
  rw [idle] at is
  subst is
  exact ⟨shown.vsm, shown.bytes, shown.regs, shown.whole, shown.frame⟩

theorem vehicleTaken {x : State} (a : VehSet) {b : VehSet} (active : x.ps.active.veh = b) (quiet : a = b ∨ VehicleQuiet x) :
    VehicleTaken x (x.vehicleTakeup a) a b := by
  have eq : x.vehicleTakeup a = if frameChanged a b then (x.modVsm fun m => { m with lastFrame := none }).setVehicle .unknown .unknown
      else if a.stale ≠ b.stale ∧ x.stale then x.goStale else x := by
    rw [State.vehicleTakeup, active]
  have still : frameChanged a a = false := by simp [frameChanged]
  rw [eq]
  clear eq
  have forgets : ∀ {y : State}, VehicleForgets x a b → VehicleQuiet x → y = (x.modVsm fun m => { m with lastFrame := none }).putVehicle .unknown .unknown →
      VehicleTaken x y a b := by
    intro y forget quiet is
    obtain ⟨vsm, bytes, regs, whole, frame⟩ := vehicleLost quiet is
    refine ⟨fun _ => vsm, fun no => absurd forget no, fun _ => ⟨bytes, ?_⟩, by rw [regs], fun i set => ?_, fun i set => ?_, whole, frame⟩
    · rw [regs]
      simp [Event.bit]
    · rw [regs] at set
      dsimp only at set
      rw [BitVec.getLsbD_or, Bool.or_eq_true, vehicleBit_getLsbD] at set
      exact set
    · rw [regs]
      dsimp only
      rw [BitVec.getLsbD_or, set, Bool.true_or]
  have nothing : ∀ {y : State}, y = { x with vsm := y.vsm } → (VehicleForgets x a b → y.vsm = x.vsm.lost) → (¬ VehicleForgets x a b → y.vsm = x.vsm) →
      y.vsm.engine = x.vsm.engine ∧ y.vsm.motion = x.vsm.motion → VehicleTaken x y a b := by
    intro y whole lost same states
    have regs : y.regs = x.regs := by rw [whole]
    have mem : y.mem = x.mem := by rw [whole]
    refine ⟨lost, same, fun changed => ?_, by rw [regs], fun i set => .inl (by rw [← regs]; exact set), fun i set => by rw [regs]; exact set, by rw [whole],
      fun a _ => by rw [mem]⟩
    rcases changed with engine | motion
    · exact absurd states.1 engine
    · exact absurd states.2 motion
  by_cases frame : frameChanged a b = true
  · rw [if_pos frame]
    have work : VehicleQuiet x := by
      rcases quiet with rfl | work
      · rw [still] at frame
        cases frame
      · exact work
    unfold State.setVehicle
    show VehicleTaken x (if x.vsm.engine = .unknown ∧ x.vsm.motion = .unknown then _ else _) a b
    by_cases known : x.vsm.engine = .unknown ∧ x.vsm.motion = .unknown
    · rw [if_pos known]
      have lost : (x.modVsm fun m => { m with lastFrame := none }).vsm = x.vsm.lost := by
        unfold VSM.lost
        rw [← known.1, ← known.2]
        rfl
      exact nothing rfl (fun _ => lost) (fun no => absurd (.inl frame) no) ⟨rfl, rfl⟩
    · rw [if_neg known]
      exact forgets (.inl frame) work rfl
  · rw [if_neg frame]
    by_cases late : a.stale ≠ b.stale ∧ x.stale = true
    · rw [if_pos late]
      have work : VehicleQuiet x := by
        rcases quiet with rfl | work
        · exact absurd rfl late.1
        · exact work
      exact forgets (.inr late) work rfl
    · rw [if_neg late]
      exact nothing rfl (fun yes => absurd yes (not_or.2 ⟨frame, late⟩)) (fun _ => rfl) ⟨rfl, rfl⟩

/-! ### The threshold (R20) -/

/-- A channel's run count under the threshold `n`. -/
def Chan.capped (n : Nat) (r : Chan) : Chan := if n ≤ r.run then { r with run := n - 1 } else r

/-- The channels of `l` have taken up the threshold `n`. -/
structure ThresholdTaken (x y : State) (n : Nat) (l : List (Fin 8)) : Prop where
  chan : ∀ ch ∈ l, y.chan ch = { (x.chan ch).capped n with counter := (y.chan ch).counter }
  chans : ∀ ch, ch ∉ l → y.chan ch = x.chan ch
  whole : y = { x with chans := y.chans, mem := y.mem }
  frame : MemFrame x y fun a => ∃ ch ∈ l, Within (chanBase ch) 32 a

theorem thresholdTaken (n : Nat) : ∀ (l : List (Fin 8)) (x : State), l.Nodup →
    ThresholdTaken x (l.foldl (fun s ch => s.updChan ch (Chan.capped n)) x) n l
  | [], x, _ => ⟨nofun, fun _ _ => rfl, rfl, MemFrame.refl x _⟩
  | ch :: l, x, nodup => by
    obtain ⟨new, rest⟩ := List.nodup_cons.1 nodup
    have chan := x.updChan_chan ch (Chan.capped n)
    have others := fun k (ne : k ≠ ch) => x.updChan_chan_ne (ch := ch) (Chan.capped n) ne
    have whole := x.updChan_whole ch (Chan.capped n)
    have frame := x.updChan_frame ch (Chan.capped n)
    rw [List.foldl_cons]
    generalize x.updChan ch (Chan.capped n) = z at *
    have after := thresholdTaken n l z rest
    generalize l.foldl (fun s ch => s.updChan ch (Chan.capped n)) z = y at after
    have apart : ∀ k ∈ l, k ≠ ch := fun k mem eq => new (eq ▸ mem)
    refine ⟨fun k mem => ?_, fun k out => ?_, by rw [after.whole, whole], fun a out => ?_⟩
    · rcases List.mem_cons.1 mem with rfl | inside
      · rw [after.chans k new]
        exact chan
      · have eq := after.chan k inside
        rw [others k (apart k inside)] at eq
        exact eq
    · obtain ⟨ne, outside⟩ := not_or.1 (List.mem_cons.not.1 out)
      rw [after.chans k outside, others k ne]
    · rw [after.frame a fun ⟨k, mem, place⟩ => out ⟨k, List.mem_cons_of_mem ch mem, place⟩, frame a fun place => out ⟨ch, List.mem_cons_self .., place⟩]

theorem State.thresholdTakeup_eq (x : State) :
    x.thresholdTakeup = (List.finRange 8).foldl (fun s ch => s.updChan ch (Chan.capped x.ps.active.threshold)) x := rfl

/-! ### Arbitration (R19) -/

theorem State.arbitrateAll_nothing {x : State} (nothing : ∀ g, StartsNothing x g) : x.arbitrateAll = x :=
  foldl_still _ fun g _ => State.arbitrate_nothing (nothing g)

end Sys2Proof.Machine
end

section
/-! PROOFS. What a commit does after the segments: vehicle settings, threshold, lamp, arbitration and publication (R13, R19, R20). -/

namespace Sys2Proof.Machine

variable {s t : State}

/-- The consequences of a commit for the units after the segments. -/
def State.afterSegments (y : State) (old : PolicySet) : State := (((y.vehicleTakeup old.veh).thresholdTakeup).lampRefresh).arbitrateAll.publishSet

theorem State.applySet_stages (x : State) (p : PolicySet) :
    x.applySet p = ((((x.takeSet p).readmitAll).recheckAll).segmentsTakeup x.ps.active).afterSegments x.ps.active := rfl

structure AfterSegments (y z : State) (old new : PolicySet) : Prop where
  lost : VehicleForgets y old.veh new.veh → z.vsm = y.vsm.lost
  same : ¬ VehicleForgets y old.veh new.veh → z.vsm = y.vsm
  shows : z.vsm.engine ≠ y.vsm.engine ∨ z.vsm.motion ≠ y.vsm.motion → z.mem.bytes 0x21 2 = [0, 0] ∧ z.regs.event.getLsbD 6 = true
  regs : z.regs = { y.regs with event := z.regs.event }
  event : ∀ i, z.regs.event.getLsbD i = true → y.regs.event.getLsbD i = true ∨ i = 6 ∨ i = 3
  kept : ∀ i, y.regs.event.getLsbD i = true → z.regs.event.getLsbD i = true
  commit : z.regs.event.getLsbD 3 = true
  chan : ∀ ch, z.chan ch = { (y.chan ch).capped new.threshold with counter := (z.chan ch).counter }
  cm : z.cm = { y.cm with lampInd := z.cm.lampInd, lit := z.cm.lit, blink := z.cm.blink }
  ps : z.ps = { y.ps with generation := y.ps.generation + 1 }
  mirror : z.mem.bytes 0x2000 0x800 = new.bytes
  generation : z.mem.bytes 0x28 4 = le32 (y.ps.generation + 1).toNat
  whole : z = { y with vsm := z.vsm, mem := z.mem, regs := z.regs, info := z.info, chans := z.chans, cm := z.cm, ps := z.ps }
  frame : MemFrame y z fun a => Within 0x2000 0x800 a ∨ Within 0x28 4 a ∨ Within 0x19 2 a ∨ Within 0x21 2 a ∨ Within 0x1100 0x100 a

theorem commitBit_getLsbD {i : Nat} : Event.commit.bit.getLsbD i = true ↔ i = 3 := by
  rw [show Event.commit.bit = BitVec.twoPow 8 3 from rfl, BitVec.getLsbD_twoPow]
  simp [eq_comm]

theorem afterSegments {y : State} {old new : PolicySet} (active : y.ps.active = new) (quiet : old.veh = new.veh ∨ VehicleQuiet y)
    (nothing : ∀ g, StartsNothing y g) : AfterSegments y (y.afterSegments old) old new := by
  have vehicle := vehicleTaken old.veh (b := new.veh) (by rw [active]) quiet
  rw [State.afterSegments]
  generalize y.vehicleTakeup old.veh = v at *
  have vps : v.ps = y.ps := by rw [vehicle.whole]
  have threshold := thresholdTaken v.ps.active.threshold (List.finRange 8) v (List.nodup_finRange 8)
  rw [State.thresholdTakeup_eq]
  generalize (List.finRange 8).foldl (fun s ch => s.updChan ch (Chan.capped v.ps.active.threshold)) v = w at *
  have lamp := lampRefreshed w
  generalize w.lampRefresh = u at *
  have wholes : u = { y with vsm := u.vsm, mem := u.mem, regs := u.regs, info := u.info, chans := u.chans, cm := u.cm } := by
    rw [lamp.whole, threshold.whole, vehicle.whole]
  have still : u.arbitrateAll = u := State.arbitrateAll_nothing fun g => by
    unfold StartsNothing LanesEmpty
    rw [wholes]
    exact nothing g
  rw [still]
  have published := setPublished u
  generalize u.publishSet = z at *
  have uvsm : u.vsm = v.vsm := by rw [lamp.whole, threshold.whole]
  have zvsm : z.vsm = v.vsm := by rw [published.whole, uvsm]
  have uregs : u.regs = v.regs := by rw [lamp.whole, threshold.whole]
  have ups : u.ps = y.ps := by rw [wholes]
  have zregs : z.regs = { v.regs with event := v.regs.event ||| Event.commit.bit } := by rw [published.regs, uregs]
  have zchan : ∀ ch, z.chan ch = w.chan ch := fun ch => by
    rw [published.whole, lamp.whole]
    rfl
  have wcm : w.cm = y.cm := by rw [threshold.whole, vehicle.whole]
  have zcm : z.cm = u.cm := by rw [published.whole]
  have rest : MemFrame v z fun a => Within 0x2000 0x800 a ∨ Within 0x28 4 a ∨ Within 0x19 2 a ∨ Within 0x1100 0x100 a := by
    refine ((threshold.frame.both lamp.frame).both published.frame).mono ?_
    rintro a ((⟨ch, -, area⟩ | two) | mirror | field)
    · refine .inr (.inr (.inr ?_))
      have bounds := chanBase_bounds ch
      unfold Within at *
      omega
    · exact .inr (.inr (.inl two))
    · exact .inl mirror
    · exact .inr (.inl field)
  refine ⟨fun yes => ?_, fun no => ?_, fun changed => ?_, ?_, fun i set => ?_, fun i set => ?_, ?_, fun ch => ?_, ?_, ?_, ?_, ?_, ?_, ?_⟩
  · rw [zvsm]
    exact vehicle.lost yes
  · rw [zvsm]
    exact vehicle.same no
  · rw [zvsm] at changed
    obtain ⟨bytes, event⟩ := vehicle.shows changed
    refine ⟨?_, ?_⟩
    · rw [rest.bytes fun k lt => by unfold Within; omega]
      exact bytes
    · rw [zregs]
      dsimp only
      rw [BitVec.getLsbD_or, event, Bool.true_or]
  · rw [zregs]
    dsimp only
    rw [vehicle.regs]
  · rw [zregs] at set
    dsimp only at set
    rw [BitVec.getLsbD_or, Bool.or_eq_true, commitBit_getLsbD] at set
    rcases set with before | commit
    · exact (vehicle.event i before).imp_right .inl
    · exact .inr (.inr commit)
  · rw [zregs]
    dsimp only
    rw [BitVec.getLsbD_or, vehicle.kept i set, Bool.true_or]
  · rw [zregs]
    simp [Event.bit]
  · have eq := threshold.chan ch (List.mem_finRange ch)
    have vchan : v.chan ch = y.chan ch := by rw [vehicle.whole]; rfl
    rw [vchan, vps, active] at eq
    rw [zchan]
    exact eq
  · have cm := lamp.cm
    rw [wcm] at cm
    rw [zcm]
    exact cm
  · rw [published.ps, ups]
  · rw [published.mirror, ups, active]
  · rw [published.generation, ups]
  · rw [published.whole, wholes]
  · refine (vehicle.frame.both rest).mono ?_
    rintro a (two | mirror | field | lamp | chans)
    · exact .inr (.inr (.inr (.inl two)))
    · exact .inl mirror
    · exact .inr (.inl field)
    · exact .inr (.inr (.inl lamp))
    · exact .inr (.inr (.inr (.inr chans)))

end Sys2Proof.Machine
end

section
/-! PROOFS. A commit of a valid set on an idle part (R12, R13, R16, R19, R20, R110). -/

namespace Sys2Proof.Machine

variable {s t : State}

/-! ### What the segments have taken up, in the terms of the statement (R19, R110) -/

theorem restarts_iff {a b : SegSet} : restarts a b = true ↔ a.rate ≠ b.rate ∨ a.enabled ≠ b.enabled := by
  simp [restarts]

theorem rewindows_iff {old new : PolicySet} {g : Fin 4} :
    rewindows old new g = true ↔ old.regs[g].window ≠ new.regs[g].window ∨ old.segs[g].rate ≠ new.segs[g].rate := by
  simp [rewindows]

theorem ite_congr_iff {α : Type} {p q : Prop} [Decidable p] [Decidable q] (same : p ↔ q) (a b : α) : (if p then a else b) = if q then a else b := by
  by_cases yes : q
  · rw [if_pos yes, if_pos (same.2 yes)]
  · rw [if_neg yes, if_neg (same.not.2 yes)]

/-- The state into which a segment restarts under the set `p`. -/
theorem State.startState_set {u : State} {p : PolicySet} (active : u.ps.active = p) (g : Fin 4) :
    u.startState g = if p.segs[g].enabled = true ∧ (u.seg g).hostDisable = false then .joining else .disabled := by
  rw [State.startState_eq, State.enabled, active]
  refine ite_congr_iff ?_ _ _
  simp

theorem Seg.takenUp_eq {old new : PolicySet} {g : Fin 4} {k : Ctl} {now : Nat} {q : Seg} (idle : q.offered = none) :
    q.takenUp old new g k now =
      { q with
        ctl := if old.segs[g].rate ≠ new.segs[g].rate ∨ old.segs[g].enabled ≠ new.segs[g].enabled then k else q.ctl
        tecCount := if old.segs[g].rate ≠ new.segs[g].rate ∨ old.segs[g].enabled ≠ new.segs[g].enabled then 0 else q.tecCount
        recCount := if old.segs[g].rate ≠ new.segs[g].rate ∨ old.segs[g].enabled ≠ new.segs[g].enabled then 0 else q.recCount
        recovery := if old.segs[g].rate ≠ new.segs[g].rate ∨ old.segs[g].enabled ≠ new.segs[g].enabled then 0 else q.recovery
        acc := clampTo new.regs[g] q.acc
        subBits := if old.regs[g].window ≠ new.regs[g].window ∨ old.segs[g].rate ≠ new.segs[g].rate then 0 else q.subBits
        winBits := if old.regs[g].window ≠ new.regs[g].window ∨ old.segs[g].rate ≠ new.segs[g].rate then 0 else q.winBits
        subIndex := if old.regs[g].window ≠ new.regs[g].window ∨ old.segs[g].rate ≠ new.segs[g].rate then 0 else q.subIndex
        winStart := if old.regs[g].window ≠ new.regs[g].window ∨ old.segs[g].rate ≠ new.segs[g].rate then q.winStart.map fun _ => now else q.winStart
        freeze := if old.regs[g].enabled = new.regs[g].enabled then q.freeze else false
        pace := (new.paces[g])[Fin.ofNat 8 (levelOf (clampTo new.regs[g] q.acc))]
        levelChanges := if levelOf (clampTo new.regs[g] q.acc) = levelOf q.acc then q.levelChanges else q.levelChanges + 1 } := by
  unfold Seg.takenUp
  by_cases again : old.segs[g].rate ≠ new.segs[g].rate ∨ old.segs[g].enabled ≠ new.segs[g].enabled
  · rw [if_pos (restarts_iff.2 again)]
    simp only [if_pos again]
    unfold Seg.regulated Seg.restarted
    simp only [rewindows_iff, ← idle]
    rfl
  · rw [if_neg (restarts_iff.not.2 again)]
    simp only [if_neg again]
    unfold Seg.regulated
    simp only [rewindows_iff]
    rfl

/-! ### A valid set comes into force -/

/-- The segments have taken up the set `p` between `u` and `y`, and the other units between `y` and `z`. -/
structure SetApplied (x y z : State) (p : PolicySet) : Prop where
  segments : SegmentsTaken (x.takeSet p) y x.ps.active p (List.finRange 4)
  after : AfterSegments y z x.ps.active p

theorem State.takeSet_whole (x : State) (p : PolicySet) : x.takeSet p = { x with ps := (x.takeSet p).ps } := rfl

/-- No waiting entry is re-admitted where none waits, and no transfer re-checked where there is none. -/
theorem State.readmitAll_empty {x : State} (empty : ∀ g, LanesEmpty x g) : x.readmitAll = x := by
  unfold State.readmitAll
  rw [State.waiting_empty empty, List.foldl_nil]

theorem State.recheckAll_none {x : State} (absent : ∀ c, x.transfer c = none) : x.recheckAll = x :=
  foldl_still _ fun c _ => by
    unfold State.recheckTransfer
    rw [absent c]

theorem SegmentsTaken.all {u y : State} {old new : PolicySet} (taken : SegmentsTaken u y old new (List.finRange 4)) (g : Fin 4) :
    y.seg g = { (u.seg g).takenUp old new g (u.startState g) u.time.clock with counter := (y.seg g).counter } := taken.seg g (List.mem_finRange g)

theorem Seg.takenUp_lanes (old new : PolicySet) (g : Fin 4) (k : Ctl) (now : Nat) (q : Seg) : (q.takenUp old new g k now).lanes = q.lanes := by
  unfold Seg.takenUp
  split <;> rfl

theorem setApplied {x : State} (idle : Idle x) (p : PolicySet) : ∃ y, SetApplied x y (x.applySet p) p := by
  obtain ⟨bus, records⟩ := idle
  have whole := x.takeSet_whole p
  have active : (x.takeSet p).ps.active = p := rfl
  have stages := x.applySet_stages p
  rw [State.readmitAll_empty (x := x.takeSet p) fun g => (bus g).1, State.recheckAll_none (x := x.takeSet p) records.1] at stages
  have segments := segmentsTaken x.ps.active (List.finRange 4) active (List.nodup_finRange 4) fun g _ => (bus g).2.2
  rw [State.segmentsTakeup] at stages
  obtain ⟨y, hy⟩ : ∃ y, y = (List.finRange 4).foldl (fun s g => s.segmentTakeup x.ps.active g) (x.takeSet p) := ⟨_, rfl⟩
  rw [← hy] at stages segments
  clear hy
  have lanes : ∀ g, LanesEmpty y g := fun g => by
    have eq := congrArg Seg.lanes (segments.all g)
    dsimp only at eq
    rw [Seg.takenUp_lanes] at eq
    exact eq.trans (bus g).1
  refine ⟨y, segments, ?_⟩
  rw [stages]
  refine afterSegments (by rw [segments.whole]; exact active) (.inr ⟨lanes, ?_⟩) fun g => .inl (lanes g)
  rw [segments.whole]
  exact records

/-- A commit of a valid set, up to the end of its cell. -/
theorem State.runCommit_applies {x : State} {c : Fin 32} (valid : x.staged.invalidAt = none) (shop : x.staged.hasGrant = true → workshop x = true) :
    x.runCommit c = (x.applySet x.staged).endCellOn none c (.done (le32 (x.applySet x.staged).ps.generation.toNat)) := by
  unfold State.runCommit
  dsimp only
  rw [valid]
  dsimp only
  rw [if_neg, State.endCell_of_no_conditions (CellEnd.conditions_done _)]
  cases grant : x.staged.hasGrant with
  | false => simp
  | true => simp [shop grant]

/-- What a commit of the set `p` on an idle part comes to, but for its segments and its vehicle settings. -/
structure Committed (x z t : State) (c : Fin 32) (p : PolicySet) : Prop where
  ended : CellEnded z t c (.done (le32 (x.ps.generation + 1).toNat))
  active : t.ps.active = p
  generation : t.ps.generation = x.ps.generation + 1
  armed : t.ps.armed = x.ps.armed
  usage : ∀ i : Fin 16, t.ps.usage[i] = newUsage x.ps x.time.sec p.grants[i]
  mirror : t.mem.bytes 0x2000 0x800 = p.bytes
  kind : t.mem.bytes (cellBase c + 100) 4 = le32 (x.ps.generation + 1).toNat
  event : t.regs.event = z.regs.event
  commit : t.regs.event.getLsbD 3 = true

theorem committed {x y z : State} {c : Fin 32} {p : PolicySet} (applied : SetApplied x y z p)
    (ended : CellEnded z t c (.done (le32 z.ps.generation.toNat))) : Committed x z t c p := by
  have bounds := cellBase_bounds c
  have yps : y.ps = (x.takeSet p).ps := by rw [applied.segments.whole]
  have zps : z.ps = { (x.takeSet p).ps with generation := x.ps.generation + 1 } := by
    rw [applied.after.ps, yps]
    rfl
  have tps : t.ps = z.ps := by rw [ended.whole]
  have generation : z.ps.generation = x.ps.generation + 1 := by rw [zps]
  rw [generation] at ended
  have event : t.regs.event = z.regs.event := by
    have regs := ended.regs
    rw [regs]
  refine ⟨ended, by rw [tps, zps]; rfl, by rw [tps, zps], by rw [tps, zps]; rfl, fun i => ?_, ?_, ended.kind 4 (by rw [CellEnd.done]; exact (le32_length _).symm)
    (by decide), event, by rw [event]; exact applied.after.commit⟩
  · rw [tps, zps]
    exact Vector.getElem_ofFn _
  · rw [ended.frame.bytes fun k lt => by unfold EndPlaces InfoShared Within; omega]
    exact applied.after.mirror

end Sys2Proof.Machine
end

section
/-! PROOFS. What a change of vehicle state does to the one piece of work it can reach (R40, R134, R145, R166). -/

namespace Sys2Proof.Machine

variable {s t x : State}

/-- The active rules of class code `k` fail in the present vehicle state. -/
def State.failsNow (x : State) (k : Nat) : Bool := (condFailure x.vsm (x.ps.active.conds [Fin.ofNat 8 k])).isSome

theorem State.exchangesVehicle_quiet (quiet : NoExchangeWaits x) : x.exchangesVehicle = x :=
  foldl_still _ fun e mem => by
    have other : (e.role == .exchange) = false := by simpa using quiet e mem
    rw [other]
    rfl

theorem State.vehicleChanged_entry {g : Fin 4} {e : Entry} (lone : LoneEntry x g e) (records : NoRecords x) (role : e.role = .exchange) :
    x.vehicleChanged = if x.failsNow e.cls then x.exchangeLost e.cell .conditionLost none else x := by
  obtain ⟨transfers, watches⟩ := records
  have first : x.exchangesVehicle = if x.failsNow e.cls then x.exchangeLost e.cell .conditionLost none else x := by
    unfold State.exchangesVehicle
    rw [State.waiting_lone lone, List.foldl_cons, List.foldl_nil, role]
    rfl
  obtain ⟨y, hy⟩ : ∃ y, y = x.exchangesVehicle := ⟨_, rfl⟩
  have still : NoRecords y := by
    rw [hy, first]
    split
    · have lost := exchangeIsLost x e.cell (reason := .conditionLost) (by decide) none
      generalize x.exchangeLost e.cell .conditionLost none = v at lost
      rw [lost.whole]
      exact ⟨transfers, watches⟩
    · exact ⟨transfers, watches⟩
  rw [State.vehicleChanged, ← first, ← hy, State.transfersVehicle_none still.1, State.watchesVehicle_none still.2]

theorem State.vehicleChanged_transfer {c : Fin 32} {r : Transfer} (lone : LoneTransfer x c r) :
    x.vehicleChanged = if r.hold && (condFailure x.vsm r.conds).isSome then x.transferCause c .conditionLost else x := by
  obtain ⟨here, others, watches, quiet⟩ := lone
  have caused := transferCaused here .conditionLost
  have tests : x.transfersVehicle = if r.hold && (condFailure x.vsm r.conds).isSome then x.transferCause c .conditionLost else x := by
    unfold State.transfersVehicle
    split
    case isTrue yes =>
      refine foldl_once c (fun d ne => ?_) ?_ fun d ne => ?_
      · rw [others d ne]
      · rw [here]
        exact if_pos yes
      · rw [caused.cause.transfers_ne ne, others d ne]
    case isFalse no =>
      refine foldl_still _ fun d _ => ?_
      by_cases same : d = c
      · subst same
        rw [here]
        exact if_neg no
      · rw [others d same]
  have still : ∀ d, (x.transfersVehicle).watch d = none := fun d => by
    rw [tests]
    split
    · generalize x.transferCause c .conditionLost = y at caused
      rw [caused.whole]
      exact watches d
    · exact watches d
  rw [State.vehicleChanged, State.exchangesVehicle_quiet quiet, State.watchesVehicle_none still, tests]

/-! ### A waiting cycle is withdrawn (R145) -/

/-- The watch with its waiting cycle withdrawn. -/
def Watch.withdrawn (w : Watch) : Watch := { w with skipped := min (w.skipped + 1) 0xFFFF, out := .none }

structure CycleWithdrawn (x y : State) (c : Fin 32) (w : Watch) : Prop where
  entry : EntryDropped x y c
  watches : y.watches = x.watches.set c (some w.withdrawn)
  whole : y = { x with segs := y.segs, mem := y.mem, watches := y.watches }
  frame : MemFrame x y fun a => Within (cellBase c + 108) 20 a ∨ ∃ g e, x.entryOf c = some (g, e) ∧ Within (segBase g) 128 a

theorem cycleWithdrawn {c : Fin 32} {w : Watch} (here : x.watch c = some w) : CycleWithdrawn x (x.withdrawCycle c) c w := by
  have drop := dropped x c
  unfold State.withdrawCycle State.skipCycle
  generalize x.dropEntry c = z at *
  have zhere : z.watch c = some w := by rw [drop.whole]; exact here
  have first := watchOnly zhere fun w => { w with skipped := min (w.skipped + 1) 0xFFFF }
  generalize z.modWatch c (fun w => { w with skipped := min (w.skipped + 1) 0xFFFF }) = u at *
  have second := watchOnly first.watch fun w => { w with out := .none }
  generalize u.modWatch c (fun w => { w with out := .none }) = v at *
  have written := countsWritten second.watch
  generalize v.wrCounts c = y at *
  have vwhole : v = { z with watches := v.watches } := by rw [second.whole, first.whole]
  refine ⟨drop.entryDropped (by rw [written.whole, vwhole]), ?_, ?_, ?_⟩
  · refine watches_eq_set ?_ fun d ne => ?_
    · rw [written.whole]
      exact second.watch
    · have same : z.watch d = x.watch d := by rw [drop.whole]; rfl
      rw [← same, ← first.watches d ne, ← second.watches d ne, written.whole]
      rfl
  · rw [written.whole, vwhole, drop.whole]
  · intro a out
    rw [written.frame a fun place => out (.inl place), vwhole, drop.frame a fun place => out (.inr place)]

theorem State.vehicleChanged_watch {c : Fin 32} {w : Watch} (lone : LoneWatch x c w) :
    x.vehicleChanged = if w.hold && w.out == .lane && x.failsNow w.cls then x.withdrawCycle c else x := by
  obtain ⟨here, others, transfers, quiet⟩ := lone
  have withdrawn := cycleWithdrawn here
  rw [State.vehicleChanged, State.exchangesVehicle_quiet quiet, State.transfersVehicle_none transfers]
  unfold State.watchesVehicle
  split
  case isTrue yes =>
    refine foldl_once c (fun d ne => ?_) ?_ fun d ne => ?_
    · rw [others d ne]
    · rw [here]
      exact if_pos yes
    · have absent : (x.withdrawCycle c).watch d = none := by
        rw [State.watch, withdrawn.watches, ← others d ne]
        exact Vector.getElem_set_ne _ _ fun eq => ne (Fin.ext eq.symm)
      rw [absent]
  case isFalse no =>
    refine foldl_still _ fun d _ => ?_
    by_cases same : d = c
    · subst same
      rw [here]
      exact if_neg no
    · rw [others d same]

end Sys2Proof.Machine
end

section
/-! PROOFS. A reported change of vehicle state, and the lines and timers that report one (R40, R134, R145, R163, R165, R166). -/

namespace Sys2Proof.Machine

variable {s t x : State}

/-- A change of vehicle state stands in the VSM and in RAM and is about to be passed on. -/
structure Told (s x : State) (v : VSM) (off : Nat) (bs : List Byte) : Prop where
  vsm : x.vsm = v
  bytes : x.mem.bytes off bs.length = bs
  inside : 0x20 ≤ off ∧ off + bs.length ≤ 0x23
  regs : x.regs = { s.regs with event := s.regs.event ||| Event.vehicle.bit }
  info : x.info = { s.info with dirty := true }
  whole : x = { s with vsm := x.vsm, mem := x.mem, regs := x.regs, info := x.info }
  frame : MemFrame s x (Within off bs.length)

/-- What holds of a reported change whatever its work is. -/
def ReportShown (s t : State) (i : Instr) (v : VSM) (off : Nat) (bs : List Byte) : Prop :=
  exec i s = .next t ∧ t.vsm = v ∧ t.mem.bytes off bs.length = bs ∧ t.regs.event.getLsbD 6 = true ∧ t.info = { s.info with counter := s.info.counter + 1 }

section
variable {i : Instr} {v : VSM} {off : Nat} {bs : List Byte} (settled : Settled s) (told : Told s x v off bs)
include settled told

/-- The change, its work done at `y`. -/
theorem Told.reported {y : State} (runs : exec i s = .next y.finish) (vsm : y.vsm = x.vsm) (info : y.info = x.info)
    (event : ∀ i, x.regs.event.getLsbD i = true → y.regs.event.getLsbD i = true) (kept : MemFrame x y fun a => ¬ Within 0x20 3 a) :
    ReportShown s y.finish i v off bs := by
  obtain ⟨low, high⟩ := told.inside
  have closed := closes y
  have fin := State.finish_info_dirty settled.1 y (by rw [info, told.info])
  generalize y.finish = t at *
  refine ⟨runs, by rw [closed.whole]; exact vsm.trans told.vsm, ?_, ?_, fin⟩
  · rw [closed.frame.bytes fun k lt => by unfold InfoShared Within; omega]
    rw [kept.bytes fun k lt => by unfold Within; omega]
    exact told.bytes
  · rw [closed.event]
    refine event 6 ?_
    rw [told.regs]
    simp [Event.bit]

/-- A change that reaches no work. -/
theorem Told.reachesNothing (runs : exec i s = .next x.vehicleChanged.finish) (still : x.vehicleChanged = x) :
    ∃ t, ReportShown s t i v off bs ∧ t.regs = { s.regs with event := s.regs.event ||| Event.vehicle.bit, irq := irqOf t.regs } ∧
      t = { s with vsm := t.vsm, mem := t.mem, regs := t.regs, info := t.info } ∧ MemFrame s t (InfoPlaces off bs.length) := by
  rw [still] at runs
  have shown := told.reported settled runs rfl rfl (fun _ => id) fun _ _ => rfl
  have closed := closes x
  generalize x.finish = t at *
  refine ⟨t, shown, ?_, ?_, told.frame.both closed.frame⟩
  · have eq := closed.regs
    rw [eq]
    rw [told.regs]
    simp [irqOf]
  · rw [closed.whole, told.whole]

theorem Told.idle (runs : exec i s = .next x.vehicleChanged.finish) (idle : Idle s) :
    ∃ t, ReportShown s t i v off bs ∧ t.regs = { s.regs with event := s.regs.event ||| Event.vehicle.bit, irq := irqOf t.regs } ∧
      t = { s with vsm := t.vsm, mem := t.mem, regs := t.regs, info := t.info } ∧ MemFrame s t (InfoPlaces off bs.length) := by
  obtain ⟨bus, records⟩ := idle
  refine told.reachesNothing settled runs (State.vehicleChanged_idle (fun g => ?_) ?_)
  · rw [told.whole]
    exact (bus g).1
  · rw [told.whole]
    exact records

/-- The rest of the part, where the change reaches no work. -/
theorem Told.restStays (runs : exec i s = .next x.vehicleChanged.finish) (still : x.vehicleChanged = x) :
    ∃ t, ReportShown s t i v off bs ∧ t = { s with vsm := t.vsm, mem := t.mem, regs := t.regs, info := t.info } := by
  obtain ⟨t, shown, -, whole, -⟩ := told.reachesNothing settled runs still
  exact ⟨t, shown, whole⟩

omit settled in
theorem Told.failsNow (k : Nat) : x.failsNow k = (condFailure v (s.ps.active.conds [Fin.ofNat 8 k])).isSome := by
  have ps : x.ps = s.ps := by rw [told.whole]
  rw [State.failsNow, told.vsm, ps]

theorem Told.entry (runs : exec i s = .next x.vehicleChanged.finish) {g : Fin 4} {e : Entry} (lone : LoneEntry s g e) (records : NoRecords s)
    (role : e.role = .exchange) :
    ∃ t, ReportShown s t i v off bs ∧
      ((condFailure v (s.ps.active.conds [Fin.ofNat 8 e.cls])).isSome = true → EntryLost s t e.cell .conditionLost) ∧
      (condFailure v (s.ps.active.conds [Fin.ofNat 8 e.cls]) = none → t = { s with vsm := t.vsm, mem := t.mem, regs := t.regs, info := t.info }) := by
  have changes := State.vehicleChanged_entry (x := x) (g := g) (e := e) (by rw [told.whole]; exact lone) (by rw [told.whole]; exact records) role
  rw [told.failsNow] at changes
  cases fails : condFailure v (s.ps.active.conds [Fin.ofNat 8 e.cls]) with
  | none =>
    rw [fails] at changes
    obtain ⟨t, shown, whole⟩ := told.restStays settled runs changes
    exact ⟨t, shown, nofun, fun _ => whole⟩
  | some reason =>
    rw [fails] at changes
    have lost := exchangeIsLost x e.cell (reason := .conditionLost) (by decide) none
    rw [changes, Option.isSome_some, if_pos rfl] at runs
    generalize x.exchangeLost e.cell .conditionLost none = y at *
    have shown := told.reported settled runs (by rw [lost.whole]) (by rw [lost.whole]) (fun i set => by rw [lost.regs]; exact set) fun a low => ?_
    · refine ⟨_, shown, fun _ => (closes y).keeps.entryLost (lost.lost.carry ?_ ?_ ?_), nofun⟩
      all_goals rw [told.whole]
    · refine lost.frame a ?_
      rintro (place | ⟨ch, -, area⟩ | ⟨h, d, -, area⟩)
      · have bounds := cellBase_bounds e.cell
        unfold EndPlaces at place
        unfold Within at *
        omega
      · have bounds := chanBase_bounds ch
        unfold Within at *
        omega
      · have bounds := segBase_bounds h
        unfold Within at *
        omega

theorem Told.transfer (runs : exec i s = .next x.vehicleChanged.finish) {c : Fin 32} {r : Transfer} (lone : LoneTransfer s c r) :
    ∃ t, ReportShown s t i v off bs ∧ (r.hold = true → (condFailure v r.conds).isSome = true → CauseTaken s t c r .conditionLost) ∧
      (r.hold = false ∨ condFailure v r.conds = none → t = { s with vsm := t.vsm, mem := t.mem, regs := t.regs, info := t.info }) := by
  have changes := State.vehicleChanged_transfer (x := x) (c := c) (r := r) (by rw [told.whole]; exact lone)
  rw [told.vsm] at changes
  by_cases acts : r.hold = true ∧ (condFailure v r.conds).isSome = true
  · obtain ⟨hold, fails⟩ := acts
    have caused := transferCaused (x := x) (c := c) (r := r) (by rw [told.whole]; exact lone.1) .conditionLost
    rw [changes, hold, fails, if_pos (by decide)] at runs
    generalize x.transferCause c .conditionLost = y at *
    have shown := told.reported settled runs (by rw [caused.whole]) (caused.info (by rw [told.info])) caused.event fun a low => ?_
    · refine ⟨_, shown, fun _ _ => (closes y).keeps.causeTaken (caused.cause.carry ?_ ?_ ?_ ?_ ?_), ?_⟩
      case refine_6 =>
        rintro (free | passes)
        · rw [hold] at free
          cases free
        · rw [passes] at fails
          cases fails
      all_goals rw [told.whole]
    · refine caused.frame a ?_
      rintro (place | ⟨n, word⟩ | ⟨ch, area⟩ | ⟨h, area⟩ | info)
      · have bounds := cellBase_bounds c
        unfold EndPlaces at place
        unfold Within at *
        omega
      · have bounds := slotBase_bounds n
        unfold Within at *
        omega
      · have bounds := chanBase_bounds ch
        unfold Within at *
        omega
      · have bounds := segBase_bounds h
        unfold Within at *
        omega
      · unfold InfoPlaces InfoShared Within at *
        omega
  · obtain ⟨t, shown, whole⟩ := told.restStays settled runs (changes.trans (if_neg (by rw [Bool.and_eq_true]; exact acts)))
    exact ⟨t, shown, fun hold fails => absurd ⟨hold, fails⟩ acts, fun _ => whole⟩

theorem Told.watch (runs : exec i s = .next x.vehicleChanged.finish) {c : Fin 32} {w : Watch} (lone : LoneWatch s c w) :
    ∃ t, ReportShown s t i v off bs ∧
      (w.hold = true ∧ w.out = .lane ∧ (condFailure v (s.ps.active.conds [Fin.ofNat 8 w.cls])).isSome = true → EntryDropped s t c ∧ t.board = s.board ∧
        t.watches = s.watches.set c (some { w with skipped := min (w.skipped + 1) 0xFFFF, out := .none })) ∧
      (¬ (w.hold = true ∧ w.out = .lane ∧ (condFailure v (s.ps.active.conds [Fin.ofNat 8 w.cls])).isSome = true) →
        t = { s with vsm := t.vsm, mem := t.mem, regs := t.regs, info := t.info }) := by
  have changes := State.vehicleChanged_watch (x := x) (c := c) (w := w) (by rw [told.whole]; exact lone)
  rw [told.failsNow] at changes
  have test : (w.hold && w.out == .lane && (condFailure v (s.ps.active.conds [Fin.ofNat 8 w.cls])).isSome) = true ↔
      w.hold = true ∧ w.out = .lane ∧ (condFailure v (s.ps.active.conds [Fin.ofNat 8 w.cls])).isSome = true := by
    rw [Bool.and_eq_true, Bool.and_eq_true, beq_iff_eq, and_assoc]
  by_cases failing : w.hold = true ∧ w.out = .lane ∧ (condFailure v (s.ps.active.conds [Fin.ofNat 8 w.cls])).isSome = true
  · have withdrawn := cycleWithdrawn (x := x) (c := c) (w := w) (by rw [told.whole]; exact lone.1)
    rw [changes, if_pos (test.2 failing)] at runs
    generalize x.withdrawCycle c = y at *
    have shown := told.reported settled runs (by rw [withdrawn.whole]) (by rw [withdrawn.whole]) (fun i set => by rw [withdrawn.whole]; exact set) fun a low => ?_
    · have keeps := (closes y).keeps
      refine ⟨_, shown, fun _ => ⟨?_, ?_, ?_⟩, fun no => absurd failing no⟩
      · have entry := withdrawn.entry
        rw [told.whole] at entry
        exact keeps.entryDropped entry
      · rw [keeps.board, withdrawn.whole, told.whole]
      · rw [keeps.watches, withdrawn.watches, told.whole]
        rfl
    · refine withdrawn.frame a ?_
      rintro (place | ⟨h, d, -, area⟩)
      · have bounds := cellBase_bounds c
        unfold Within at *
        omega
      · have bounds := segBase_bounds h
        unfold Within at *
        omega
  · obtain ⟨t, shown, whole⟩ := told.restStays settled runs (changes.trans (if_neg (test.not.2 failing)))
    exact ⟨t, shown, fun yes => absurd yes failing, fun _ => whole⟩

end

/-! ### The two reports of O35 -/

/-- The state in which the debounced ignition is told. -/
def State.ignitionTold (s : State) : State :=
  ((s.modVsm fun v => { v with ignition := v.ignition.expire }).wrInfo 0x20 [byte (if s.vsm.ignition.raw then 1 else 0)]).event .vehicle

theorem State.ignitionExpire_eq (s : State) :
    s.ignitionExpire = if s.vsm.ignition.raw then s.ignitionTold.vehicleChanged.ignitionEdge else s.ignitionTold.vehicleChanged := rfl

theorem ignitionTold (s : State) :
    Told s s.ignitionTold { s.vsm with ignition := { raw := s.vsm.ignition.raw, level := s.vsm.ignition.raw, timer := none } } 0x20
      [if s.vsm.ignition.raw then 1 else 0] := by
  have value : byte (if s.vsm.ignition.raw then 1 else 0) = if s.vsm.ignition.raw then (1 : Byte) else 0 := by
    cases s.vsm.ignition.raw <;> rfl
  unfold State.ignitionTold
  rw [value]
  exact ⟨rfl, (s.modVsm fun v => { v with ignition := v.ignition.expire }).wrInfo_bytes (bs := [if s.vsm.ignition.raw then 1 else 0]) (by simp), by simp, rfl, rfl,
    rfl, State.wrInfo_frame (s.modVsm fun v => { v with ignition := v.ignition.expire }) 0x20 _⟩

/-- The state in which the loss of the state frame is told. -/
theorem staleTold (s : State) :
    Told s ((s.modVsm fun m => { m with lastFrame := none }).vehicleShown .unknown .unknown)
      { s.vsm with engine := .unknown, motion := .unknown, lastFrame := none } 0x21 [0, 0] := by
  have shown := vehicleShown (s.modVsm fun m => { m with lastFrame := none }) .unknown .unknown
  generalize (s.modVsm fun m => { m with lastFrame := none }).vehicleShown .unknown .unknown = x at *
  exact ⟨shown.vsm, shown.bytes, by simp, shown.regs, shown.info, shown.whole, shown.frame⟩

/-- Where no commit is armed, or the line has fallen, the edge carries nothing out. -/
theorem State.ignitionEdge_none {x : State} (none_ : x.ps.armed = none) : x.ignitionEdge = x := by
  unfold State.ignitionEdge
  rw [none_]

end Sys2Proof.Machine
end

section
/-! PROOFS. The armed commit at an ignition edge, and the vehicle's timers (R14, R163, R165). -/

namespace Sys2Proof.Machine

variable {s t x : State}

/-! ### The Staged Set is read from its own area of RAM (R12) -/

/-- A write below an area leaves the area as it is. -/
theorem Mem.window_write (m : Mem) {a b n : Nat} {bs : List Byte} (below : a + bs.length ≤ b) : (m.write a bs).window b n = m.window b n := by
  have first : (m.filter fun c => decide (c.1 < a)).filter (fun c => decide (b ≤ c.1) && decide (c.1 < b + n)) = [] := by
    rw [List.filter_filter, List.filter_eq_nil_iff]
    intro c _
    simp only [Bool.and_eq_true, decide_eq_true_eq]
    omega
  have second : (Mem.cells a bs).filter (fun c => decide (b ≤ c.1) && decide (c.1 < b + n)) = [] := by
    rw [List.filter_eq_nil_iff]
    intro c mem
    have bounds := Mem.cells_bounds bs a c mem
    simp only [Bool.and_eq_true, decide_eq_true_eq]
    omega
  have third : (m.filter fun c => decide (a + bs.length ≤ c.1)).filter (fun c => decide (b ≤ c.1) && decide (c.1 < b + n)) =
      m.filter fun c => decide (b ≤ c.1) && decide (c.1 < b + n) := by
    rw [List.filter_filter]
    refine List.filter_congr fun c _ => ?_
    rw [Bool.eq_iff_iff]
    simp only [Bool.and_eq_true, decide_eq_true_eq]
    omega
  unfold Mem.window Mem.write
  rw [List.filter_append, List.filter_append, first, second, third, List.nil_append, List.nil_append]

theorem PolicySet.read_write {m : Mem} {a b : Nat} {bs : List Byte} (below : a + bs.length ≤ b) : PolicySet.read (m.write a bs) b = PolicySet.read m b := by
  unfold PolicySet.read
  rw [Mem.window_write m below]

/-! ### The armed commit (R14) -/

/-- The part with the ignition told and no commit armed. -/
def State.edgeTaken (s : State) : State := s.ignitionTold.modPs fun p => { p with armed := none }

theorem State.edgeTaken_staged (s : State) : s.edgeTaken.staged = s.staged :=
  PolicySet.read_write (b := stagedBase) (bs := [byte (if s.vsm.ignition.raw then 1 else 0)]) (by simp [stagedBase])

theorem exec_ignition (due : s.due s.vsm.ignition.timer = true) : exec .ignitionDebounceExpiry s = .next s.ignitionExpire.finish := by
  refine (show exec .ignitionDebounceExpiry s = execIgnitionDebounceExpiry s from rfl).trans ?_
  unfold execIgnitionDebounceExpiry
  rw [if_pos due]
  rfl

theorem exec_staleness (late : s.stale = true) :
    exec .stalenessTimerExpiry s = .next ((s.modVsm fun m => { m with lastFrame := none }).vehicleShown .unknown .unknown).vehicleChanged.finish := by
  refine (show exec .stalenessTimerExpiry s = execStalenessTimerExpiry s from rfl).trans ?_
  unfold execStalenessTimerExpiry
  rw [if_pos late]
  rfl

theorem Idle.ignitionTold (idle : Idle s) : s.ignitionTold.vehicleChanged = s.ignitionTold := by
  obtain ⟨bus, records⟩ := idle
  have told := Machine.ignitionTold s
  generalize s.ignitionTold = x at told
  refine State.vehicleChanged_idle (fun g => ?_) ?_
  · rw [told.whole]
    exact (bus g).1
  · rw [told.whole]
    exact records

/-- The asserted line hands the armed commit over. -/
theorem exec_ignition_armed {c : Fin 32} (due : s.due s.vsm.ignition.timer = true) (armed : s.ps.armed = some c) (raw : s.vsm.ignition.raw = true) (idle : Idle s) :
    exec .ignitionDebounceExpiry s = .next (s.edgeTaken.runCommit c).finish := by
  rw [exec_ignition due, State.ignitionExpire_eq, raw, if_pos rfl, idle.ignitionTold]
  have keeps : s.ignitionTold.ps.armed = some c := armed
  unfold State.ignitionEdge
  rw [keeps]
  rfl

/-- The line and its event stand, and the commit is armed no longer. -/
def EdgeShown (s t : State) : Prop :=
  t.vsm.ignition = { raw := s.vsm.ignition.raw, level := s.vsm.ignition.raw, timer := none } ∧ t.mem.read 0x20 = 1 ∧
    t.regs.event.getLsbD 6 = true ∧ t.ps.armed = none

/-- The edge has been told at `s.edgeTaken`. -/
theorem edgeTaken_shown (raw : s.vsm.ignition.raw = true) : EdgeShown s s.edgeTaken := by
  have told := ignitionTold s
  refine ⟨congrArg VSM.ignition told.vsm, ?_, ?_, rfl⟩
  · have bytes := told.bytes
    rw [raw] at bytes
    exact Mem.read_of_bytes_one bytes
  · have regs : s.edgeTaken.regs = s.ignitionTold.regs := rfl
    rw [regs, told.regs]
    simp [Event.bit]

theorem EdgeShown.later {y : State} (shown : EdgeShown s y) (ignition : t.vsm.ignition = y.vsm.ignition) (read : t.mem.read 0x20 = y.mem.read 0x20)
    (event : y.regs.event.getLsbD 6 = true → t.regs.event.getLsbD 6 = true) (armed : t.ps.armed = y.ps.armed) : EdgeShown s t := by
  obtain ⟨line, bytes, vehicle, none_⟩ := shown
  exact ⟨ignition.trans line, read.trans bytes, event vehicle, armed.trans none_⟩

theorem Idle.edgeTaken (idle : Idle s) : Idle s.edgeTaken := idle

/-- The armed commit of a valid set. -/
theorem edge_commits {c : Fin 32} (due : s.due s.vsm.ignition.timer = true) (armed : s.ps.armed = some c) (raw : s.vsm.ignition.raw = true) (idle : Idle s)
    (valid : s.staged.invalidAt = none) (shop : s.staged.hasGrant = true → workshop s = true) :
    ∃ z t, exec .ignitionDebounceExpiry s = .next t ∧ EdgeShown s t ∧ Committed s.edgeTaken z t c s.staged := by
  have runs := exec_ignition_armed due armed raw idle
  have before := edgeTaken_shown raw
  have staged := s.edgeTaken_staged
  have applies := State.runCommit_applies (x := s.edgeTaken) (c := c) (by rw [staged]; exact valid) (by rw [staged]; exact shop)
  rw [applies, staged] at runs
  obtain ⟨y, applied⟩ := setApplied idle.edgeTaken s.staged
  clear applies staged
  obtain ⟨u, hu⟩ : ∃ u, u = s.edgeTaken := ⟨_, rfl⟩
  rw [← hu] at runs applied before ⊢
  clear hu
  generalize u.applySet s.staged = z at *
  have ended := cellEnded z c (.done (le32 z.ps.generation.toNat))
  generalize (z.endCellOn none c (.done (le32 z.ps.generation.toNat))).finish = t at *
  have done := committed applied ended
  have yvsm : y.vsm = u.vsm := by
    rw [applied.segments.whole]
    rfl
  have zvsm : z.vsm.ignition = y.vsm.ignition := by
    by_cases forgets : VehicleForgets y u.ps.active.veh s.staged.veh
    · rw [applied.after.lost forgets]
      rfl
    · rw [applied.after.same forgets]
  have bounds := cellBase_bounds c
  refine ⟨z, t, runs, before.later ?_ ?_ (fun set => ?_) done.armed, done⟩
  · rw [show t.vsm = z.vsm by rw [ended.whole], zvsm, yvsm]
  · rw [ended.frame _ (by unfold EndPlaces InfoShared Within; omega), applied.after.frame _ (by unfold Within; omega), applied.segments.frame _ ?_]
    · rfl
    · rintro ⟨g, -, place⟩
      have low := segBase_bounds g
      unfold LevelPlaces Within at place
      omega
  · rw [done.event]
    exact applied.after.kept 6 ((applied.segments.event 6).2 (.inl set))

/-- The armed commit that is not carried out. -/
theorem edge_fails {c : Fin 32} {f : FaultRec} (due : s.due s.vsm.ignition.timer = true) (armed : s.ps.armed = some c) (raw : s.vsm.ignition.raw = true)
    (idle : Idle s) (does : s.edgeTaken.runCommit c = s.edgeTaken.endCell c (.failed f)) (still : (CellEnd.failed f).conditions = []) :
    ∃ t, exec .ignitionDebounceExpiry s = .next t ∧ EdgeShown s t ∧ CellEnded s.edgeTaken t c (.failed f) ∧ t.ps = { s.ps with armed := none } := by
  have runs := exec_ignition_armed due armed raw idle
  have before := edgeTaken_shown raw
  rw [does, State.endCell_of_no_conditions still] at runs
  have ended := cellEnded s.edgeTaken c (.failed f)
  generalize (s.edgeTaken.endCellOn none c (.failed f)).finish = t at *
  have bounds := cellBase_bounds c
  have ps : t.ps = s.edgeTaken.ps := by rw [ended.whole]
  refine ⟨t, runs, before.later ?_ (ended.frame _ (by unfold EndPlaces InfoShared Within; omega)) (fun set => ?_) (by rw [ps]), ended, by rw [ps]; rfl⟩
  · rw [ended.whole]
  · have regs := ended.regs
    rw [regs]
    exact set

theorem runCommit_invalid {c : Fin 32} {o : Nat} (invalid : x.staged.invalidAt = some o) :
    x.runCommit c = x.endCell c (.failed { FaultRec.core .policy .invalidSet none with offset := some o }) := by
  unfold State.runCommit
  dsimp only
  rw [invalid]

theorem runCommit_outside {c : Fin 32} (valid : x.staged.invalidAt = none) (grant : x.staged.hasGrant = true) (outside : workshop x = false) :
    x.runCommit c = x.endCell c (.failed (FaultRec.core .policy .notInWorkshop none)) := by
  unfold State.runCommit
  dsimp only
  rw [valid]
  dsimp only
  rw [if_pos (by rw [grant, outside]; rfl)]

/-- A cell that ends with the offset of an invalid item shows it (R12, 11.4). -/
theorem CellEnded.offset {c : Fin 32} {o : Nat} (ended : CellEnded x t c (.failed { FaultRec.core .policy .invalidSet none with offset := some o })) :
    t.mem.bytes (cellBase c + 96) 2 = le16 o := by
  have read : ∀ i < 2, ∀ b, (le16 o)[i]? = some b → t.mem.read (cellBase c + 84 + (12 + i)) = b := fun i lt b eq =>
    ended.fault _ rfl (12 + i) b (by omega) ((FaultRec.tail_offset x o lt).trans eq)
  have low := read 0 (by decide) _ rfl
  have high := read 1 (by decide) _ rfl
  simp only [Mem.bytes, List.range_succ, List.range_zero, List.nil_append, List.map_cons, List.map_nil, List.singleton_append]
  rw [show cellBase c + 96 + 0 = cellBase c + 84 + (12 + 0) from rfl, show cellBase c + 96 + 1 = cellBase c + 84 + (12 + 1) from rfl, low, high]
  rfl

/-- A line that asserts no armed commit only reports. -/
theorem ignition_reports (due : s.due s.vsm.ignition.timer = true) (quiet : s.ps.armed = none ∨ s.vsm.ignition.raw = false) :
    exec .ignitionDebounceExpiry s = .next s.ignitionTold.vehicleChanged.finish := by
  rw [exec_ignition due, State.ignitionExpire_eq]
  rcases quiet with free | low
  · split
    · rw [State.ignitionEdge_none]
      have kept : PolicyAs s.ps (workshop s) s.ignitionTold.vehicleChanged := (work_policyAs s.ps (workshop s)).vehicleChanged (s := s.ignitionTold) ⟨rfl, rfl⟩
      rw [kept.ps]
      exact free
    · rfl
  · rw [low]
    rfl

/-- Settles O35, by the one piece of work that a report can reach. -/
theorem vehicleTimers : Obligations.VehicleTimers := by
  unfold Obligations.VehicleTimers
  intro s settled raw line stale shown reports
  have all : ∀ {i : Instr} {v : VSM} {off : Nat} {bs : List Byte} {x : State}, Told s x v off bs → exec i s = .next x.vehicleChanged.finish →
      reports i v off bs := fun told runs =>
    ⟨fun idle => told.idle settled runs idle, fun g e lone records role => told.entry settled runs lone records role,
      fun c r lone => told.transfer settled runs lone, fun c w lone => told.watch settled runs lone⟩
  refine ⟨fun due => ⟨fun quiet => all (ignitionTold s) (ignition_reports due quiet), fun c armed high idle => ?_⟩,
    fun late => all (staleTold s) (exec_staleness late)⟩
  intro p
  cases invalid : s.staged.invalidAt with
  | some o =>
    obtain ⟨t, runs, ⟨ignition, read, event, free⟩, ended, ps⟩ := edge_fails due armed high idle
      (runCommit_invalid (by rw [State.edgeTaken_staged]; exact invalid)) (CellEnd.conditions_failed (by simp [FaultRec.core]) rfl (by simp [FaultRec.core]) rfl)
    refine ⟨t, runs, ignition, read, event, free, fun valid => ?_, fun k at_ => ?_, fun valid => ?_⟩
    · exact absurd valid nofun
    · obtain rfl := Option.some.inj at_
      exact ⟨ended.failed _ rfl, ended.offset, ps⟩
    · exact absurd valid nofun
  | none =>
    by_cases shop : s.staged.hasGrant = true → workshop s = true
    · obtain ⟨z, t, runs, ⟨ignition, read, event, free⟩, done⟩ := edge_commits due armed high idle invalid shop
      refine ⟨t, runs, ignition, read, event, free, fun _ _ => ⟨done.ended.done rfl, done.active, done.generation, done.mirror, done.kind, done.commit⟩,
        fun o some => absurd some nofun, fun _ grant outside => ?_⟩
      exact absurd (shop grant) (by rw [outside]; decide)
    · obtain ⟨grant, outside⟩ := Classical.not_imp.1 shop
      obtain ⟨t, runs, ⟨ignition, read, event, free⟩, ended, ps⟩ := edge_fails due armed high idle
        (runCommit_outside (by rw [State.edgeTaken_staged]; exact invalid) (by rw [State.edgeTaken_staged]; exact grant) (Bool.eq_false_iff.2 outside))
        (CellEnd.conditions_failed (by simp [FaultRec.core]) rfl (by simp [FaultRec.core]) rfl)
      exact ⟨t, runs, ignition, read, event, free, fun _ inside => absurd inside shop, fun o some => absurd some nofun,
        fun _ _ _ => ⟨ended.failed _ rfl, ps⟩⟩

end Sys2Proof.Machine
end

section
/-! PROOFS. COMMIT_NOW of a valid set on an idle part (R12, R13, R16, R19, R20, R110). -/

namespace Sys2Proof.Machine

variable {s t : State}

/-! ### The usage records of the new set (R6, R16) -/

theorem Grant.spent_eq (g : Grant) (u : Usage) : g.spent u = (u.spent || decide (g.budget ≠ 0 ∧ g.budget ≤ u.count)) := by
  unfold Grant.spent
  rw [Bool.decide_and]
  congr 2
  by_cases none : g.budget = 0 <;> simp [none]

theorem newUsage_same {q : PS} {sec : Word32} {g : Grant} {j : Fin 16} (used : g.used = true) (same : q.active.sameGrant g = some j) :
    newUsage q sec g = { q.usage[j] with
      spent := q.usage[j].spent || decide (q.active.grants[j].budget ≠ 0 ∧ q.active.grants[j].budget ≤ q.usage[j].count) } := by
  unfold newUsage
  rw [used, if_neg (by decide), same]
  dsimp only
  rw [Grant.spent_eq]

/-! ### The vehicle state settings in the terms of the statement (R20) -/

theorem frameChanged_iff {a b : VehSet} :
    frameChanged a b = true ↔ a.seg ≠ b.seg ∨ a.format ≠ b.format ∨ a.id ≠ b.id ∨ a.engineOff ≠ b.engineOff ∨ a.roadOff ≠ b.roadOff := by
  simp [frameChanged, or_assoc]

theorem State.stale_iff {x : State} : x.stale = true ↔ ∃ e, x.vsm.lastFrame = some e ∧ e + x.ps.active.veh.stale ≤ x.time.clock := by
  unfold State.stale
  cases last : x.vsm.lastFrame with
  | none => simp
  | some e => simp

section
variable {x y z : State} {c : Fin 32} {p : PolicySet} (applied : SetApplied x y z p)
include applied

theorem SetApplied.segs (g : Fin 4) : z.seg g = y.seg g := by
  rw [applied.after.whole]
  rfl

theorem SetApplied.ps : y.ps = (x.takeSet p).ps := by rw [applied.segments.whole]

theorem SetApplied.forgets_iff :
    VehicleForgets y x.ps.active.veh p.veh ↔ frameChanged x.ps.active.veh p.veh = true ∨
      x.ps.active.veh.stale ≠ p.veh.stale ∧ ∃ e, x.vsm.lastFrame = some e ∧ e + p.veh.stale ≤ x.time.clock := by
  have vsm : y.vsm = x.vsm := by rw [applied.segments.whole]; rfl
  have time : y.time = x.time := by rw [applied.segments.whole]; rfl
  have active : y.ps.active = p := by rw [applied.ps]; rfl
  rw [VehicleForgets, State.stale_iff, vsm, time, active]

variable (ended : CellEnded z t c (.done (le32 z.ps.generation.toNat)))
include ended

theorem SetApplied.segmentTakesUp (idle : BusIdle x) (g : Fin 4) : SegmentTakesUp x t p g := by
  have tseg : t.seg g = y.seg g := by
    rw [← applied.segs, ended.whole]
    rfl
  have taken := applied.segments.all g
  rw [Seg.takenUp_eq (q := (x.takeSet p).seg g) (idle g).2.1, State.startState_set rfl] at taken
  have acc : (y.seg g).acc = clampTo p.regs[g] (x.seg g).acc := by
    rw [taken]
    rfl
  refine ⟨by rw [tseg]; exact taken, fun other => ?_⟩
  have shows := applied.segments.shows g (List.mem_finRange g)
  rw [acc] at shows
  have bounds := cellBase_bounds c
  have lt := g.isLt
  rw [ended.frame _ (by unfold EndPlaces InfoShared Within; omega), applied.after.frame _ (by unfold Within; omega)]
  exact shows other

theorem SetApplied.vehicleTakesUp : VehicleTakesUp x t p := by
  have tvsm : t.vsm = z.vsm := by rw [ended.whole]
  have yvsm : y.vsm = x.vsm := by rw [applied.segments.whole]; rfl
  have forgets := applied.forgets_iff
  rw [frameChanged_iff] at forgets
  refine ⟨fun yes => ?_, fun still inside => ?_, fun changed => ?_⟩
  · rw [tvsm, applied.after.lost (forgets.2 yes), yvsm]
    rfl
  · rw [tvsm, applied.after.same fun yes => (forgets.1 yes).elim still inside, yvsm]
  · rw [tvsm, ← yvsm] at changed
    obtain ⟨bytes, event⟩ := applied.after.shows changed
    have bounds := cellBase_bounds c
    refine ⟨?_, ?_⟩
    · rw [ended.frame.bytes fun k lt => by unfold EndPlaces InfoShared Within; omega]
      exact bytes
    · have regs := ended.regs
      rw [regs]
      exact event

/-- Event bits that the other units do not set stand as the segments left them. -/
theorem SetApplied.event_iff {i : Nat} (six : i ≠ 6) (three : i ≠ 3) :
    t.regs.event.getLsbD i = true ↔ x.regs.event.getLsbD i = true ∨ (i = 4 ∧ ∃ g, (t.seg g).ctl ≠ (x.seg g).ctl) ∨
      (i = 5 ∧ ∃ g, levelOf (t.seg g).acc ≠ levelOf (x.seg g).acc) := by
  have tseg : ∀ g, t.seg g = y.seg g := fun g => by
    rw [← applied.segs, ended.whole]
    rfl
  have event : t.regs.event = z.regs.event := by
    have regs := ended.regs
    rw [regs]
  have both : z.regs.event.getLsbD i = true ↔ y.regs.event.getLsbD i = true :=
    ⟨fun set => (applied.after.event i set).resolve_right (not_or.2 ⟨six, three⟩), applied.after.kept i⟩
  rw [event, both, applied.segments.event]
  simp only [List.mem_finRange, true_and, tseg]
  exact Iff.rfl

end

theorem Chan.capped_run (n : Nat) (r : Chan) : (r.capped n).run = if n ≤ r.run then n - 1 else r.run := by
  unfold Chan.capped
  split <;> rfl

theorem Chan.capped_kept (n : Nat) (r : Chan) : (r.capped n).suspended = r.suspended ∧ (r.capped n).latch = r.latch ∧ (r.capped n).accrued = r.accrued := by
  unfold Chan.capped
  split <;> exact ⟨rfl, rfl, rfl⟩

theorem commitNow_idle (c : Fin 32) (s : State) (received : Receives s c .commit) (op : field8 (s.cell c).captured 16 = 1) (idle : Idle s)
    (valid : s.staged.invalidAt = none) (shop : s.staged.hasGrant = true → workshop s = true) :
    ∃ y z t, exec (.commitNow c) s = .next t ∧ SetApplied s y z s.staged ∧ CellEnded z t c (.done (le32 z.ps.generation.toNat)) := by
  obtain ⟨-, taken, held⟩ := received
  obtain ⟨y, applied⟩ := setApplied idle s.staged
  have does := State.runCommit_applies (c := c) valid shop
  have board : (s.applySet s.staged).board = s.board := by rw [applied.after.whole, applied.segments.whole]; rfl
  obtain ⟨t, runs, ended⟩ := receive_ended (act := fun s => s.runCommit c) taken does (by rw [State.cell, board]; exact held)
  exact ⟨y, _, t, (receiveOp_eq op).trans runs, applied, ended⟩

end Sys2Proof.Machine
end

section
/-! PROOFS. What a commit keeps of the work that it finds: its units after the segments, and its cell (R13, R19, R20, R187). -/

namespace Sys2Proof.Machine

variable {s t : State}

/-- What a commit, to the end of its own cell `c`, keeps of the work that is done at `y`. -/
structure CommitKeeps (y t : State) (c : Fin 32) : Prop where
  cell : ∀ d, d ≠ c → t.cell d = y.cell d
  accrued : ∀ ch, (t.chan ch).accrued = (y.chan ch).accrued
  transfers : t.transfers = y.transfers
  watches : t.watches = y.watches
  lanes : ∀ g, (t.seg g).lanes = (y.seg g).lanes
  done : ∀ d : Fin 32, d ≠ c → t.regs.done.getLsbD d.val = y.regs.done.getLsbD d.val
  frame : ∀ d, d ≠ c → MemFrame y t fun a => ¬ EndPlaces d a

section
variable {x y : State} {c d : Fin 32} (keeps : CommitKeeps y t c)
include keeps

theorem CommitKeeps.trans {u : State} (next : CommitKeeps t u c) : CommitKeeps y u c :=
  ⟨fun d ne => (next.cell d ne).trans (keeps.cell d ne), fun ch => (next.accrued ch).trans (keeps.accrued ch), next.transfers.trans keeps.transfers,
    next.watches.trans keeps.watches, fun g => (next.lanes g).trans (keeps.lanes g), fun d ne => (next.done d ne).trans (keeps.done d ne),
    fun d ne => (keeps.frame d ne).trans (next.frame d ne)⟩

theorem CommitKeeps.endsFailed (ne : d ≠ c) {stage : Stage} {reason : Reason} (ends : EndsFailed y d stage reason) : EndsFailed t d stage reason :=
  ends.later (by rw [keeps.cell d ne]) (keeps.frame d ne) (fun _ place out => out place) (keeps.done d ne)

theorem CommitKeeps.exchangeFails (ne : d ≠ c) {g k : Fin 4} {reason : Reason} {n : Nat × Nat} (fails : ExchangeFails x y g k d reason n) :
    ExchangeFails x t g k d reason n := by
  obtain ⟨ends, detail, cell, chan⟩ := fails
  refine ⟨keeps.endsFailed ne ends, ?_, (keeps.cell d ne).trans cell, fun ch named => by rw [keeps.accrued]; exact chan ch named⟩
  unfold DetailShows
  rw [(keeps.frame d ne).bytes fun i lt out => out (by unfold EndPlaces Within; omega)]
  exact detail

theorem CommitKeeps.transfer : t.transfer d = y.transfer d := by rw [State.transfer, keeps.transfers, State.transfer]
theorem CommitKeeps.watch : t.watch d = y.watch d := by rw [State.watch, keeps.watches, State.watch]

theorem CommitKeeps.loneEntry {g : Fin 4} {e : Entry} (lone : LoneEntry y g e) : LoneEntry t g e := fun h => (keeps.lanes h).trans (lone h)

theorem CommitKeeps.empty (empty : ∀ g, LanesEmpty y g) (g : Fin 4) : LanesEmpty t g := (keeps.lanes g).trans (empty g)

end

theorem SegmentsTaken.keeps {x y : State} {old new : PolicySet} {l : List (Fin 4)} (taken : SegmentsTaken x y old new l) (c : Fin 32) : CommitKeeps x y c := by
  have regs := taken.regs
  refine ⟨fun d _ => by rw [taken.whole]; rfl, fun ch => by rw [taken.whole]; rfl, by rw [taken.whole], by rw [taken.whole], fun g => ?_, fun d _ => by rw [regs],
    fun d _ => taken.frame.mono ?_⟩
  · by_cases inside : g ∈ l
    · rw [taken.seg g inside]
      exact Seg.takenUp_lanes old new g (x.startState g) x.time.clock (x.seg g)
    · rw [taken.segs g inside]
  · have bounds := cellBase_bounds d
    rintro a ⟨g, -, place⟩ here
    have low := segBase_bounds g
    have lt := g.isLt
    unfold LevelPlaces at place
    unfold EndPlaces at here
    unfold Within at *
    omega

theorem Chan.capped_accrued (n : Nat) (r : Chan) : (r.capped n).accrued = r.accrued := (r.capped_kept n).2.2

theorem AfterSegments.keeps {y z : State} {old new : PolicySet} (after : AfterSegments y z old new) (c : Fin 32) : CommitKeeps y z c := by
  have regs := after.regs
  refine ⟨fun d _ => by rw [after.whole]; rfl, fun ch => by rw [after.chan]; exact Chan.capped_accrued .., by rw [after.whole], by rw [after.whole],
    fun g => by rw [after.whole]; rfl, fun d _ => by rw [regs], fun d _ => after.frame.mono ?_⟩
  have bounds := cellBase_bounds d
  rintro a place here
  unfold EndPlaces at here
  unfold Within at *
  omega

theorem CellEnded.keeps {z : State} {c : Fin 32} {e : CellEnd} (ended : CellEnded z t c e) : CommitKeeps z t c := by
  have regs := ended.regs
  refine ⟨ended.others, fun ch => by rw [ended.whole]; rfl, by rw [ended.whole], by rw [ended.whole], fun g => by rw [ended.whole]; rfl, fun d ne => ?_,
    fun d ne => ended.frame.mono ?_⟩
  · have other : (1#32 <<< c.val).getLsbD d.val = false := by
      have values := Fin.val_ne_of_ne ne
      rw [BitVec.getLsbD_shiftLeft, BitVec.getLsbD_one]
      simp
      omega
    rw [regs]
    dsimp only
    rw [BitVec.getLsbD_or, other, Bool.or_false]
  · have apart := cellBase_apart ne
    have bounds := cellBase_bounds d
    rintro a (place | shared) here
    · unfold EndPlaces Within at *
      omega
    · exact endPlaces_not_infoShared here shared

/-- A commit whose segments have taken up the set at `y`. -/
theorem commit_closes {c : Fin 32} {y : State} (received : Receives s c .commit) (op : field8 (s.cell c).captured 16 = 1)
    (valid : s.staged.invalidAt = none) (shop : s.staged.hasGrant = true → workshop s = true)
    (stages : s.applySet s.staged = y.afterSegments s.ps.active) (ps : y.ps = (s.takeSet s.staged).ps) (cell : y.cell c = s.cell c)
    (quiet : s.ps.active.veh = s.staged.veh ∨ VehicleQuiet y) (nothing : ∀ g, StartsNothing y g) :
    ∃ t, exec (.commitNow c) s = .next t ∧ EndsDone t c ∧ t.ps.active = s.staged ∧ t.ps.generation = s.ps.generation + 1 ∧
      (∀ g, t.seg g = y.seg g) ∧ CommitKeeps y t c := by
  obtain ⟨-, taken, held⟩ := received
  have does := State.runCommit_applies (c := c) valid shop
  have after := afterSegments (y := y) (old := s.ps.active) (new := s.staged) (by rw [ps]; rfl) quiet nothing
  rw [stages] at does
  generalize y.afterSegments s.ps.active = z at *
  have keeps : z.cell c = s.cell c := by
    rw [after.whole]
    exact cell
  obtain ⟨t, runs, ended⟩ := receive_ended (act := fun s => s.runCommit c) taken does (by rw [keeps]; exact held)
  have tps : t.ps = z.ps := by rw [ended.whole]
  have zps := after.ps
  rw [ps] at zps
  refine ⟨t, (receiveOp_eq op).trans runs, ended.done rfl, by rw [tps, zps]; rfl, by rw [tps, zps]; rfl, fun g => ?_, (after.keeps c).trans ended.keeps⟩
  rw [ended.whole, after.whole]
  rfl

end Sys2Proof.Machine
end

section
/-! PROOFS. A commit that restarts the segment of a lone EXCHANGE in a context (R19, R86). -/

namespace Sys2Proof.Machine

variable {s t : State}

/-- The take-up that restarts segment `g` has failed the EXCHANGE of cell `d` in its context `k`. -/
structure TakeupFails (x y : State) (g k : Fin 4) (d : Fin 32) : Prop where
  fails : ExchangeFails x y g k d .segmentRestarted ((x.seg g).lastFrame k)
  free : ContextsFree y g
  offered : (y.seg g).offered = none
  ctl : (y.seg g).ctl = x.startState g
  tec : (y.seg g).tecCount = 0
  rec_ : (y.seg g).recCount = 0
  lanes : (y.seg g).lanes = (x.seg g).lanes
  segs : ∀ h, h ≠ g → y.seg h = x.seg h
  cells : ∀ e, e ≠ d → y.cell e = x.cell e
  whole : y = { x with board := y.board, regs := y.regs, mem := y.mem, info := y.info, chans := y.chans, segs := y.segs }

theorem Regulated.later {v y : State} {old new : PolicySet} {g : Fin 4} (taken : Regulated v y old new g) (d : Fin 32) : Later v y d := by
  have regs := taken.regs
  refine ⟨by rw [taken.whole]; rfl, by rw [taken.whole], by rw [taken.whole], by rw [taken.whole], by rw [taken.whole], by rw [regs], fun i set => ?_,
    taken.frame.mono ?_⟩
  · rw [regs]
    dsimp only
    rw [BitVec.getLsbD_or, set, Bool.true_or]
  · have bounds := cellBase_bounds d
    have seg := segBase_bounds g
    rintro a (area | level) here
    · unfold EndPlaces Within at *
      omega
    · unfold EndPlaces Within at *
      omega

/-- The take-up of a segment that restarts and whose lone busy context holds an EXCHANGE. -/
theorem takeupFails {x : State} {old new : PolicySet} {g k : Fin 4} (active : x.ps.active = new) (again : restarts old.segs[g] new.segs[g] = true)
    (lone : LoneContext x g k) (role : (x.ctx g k).role = .exchange) : TakeupFails x (x.segmentTakeup old g) g k (x.ctx g k).cell := by
  have silent := x.startState_silent g
  obtain ⟨b, stop, into⟩ := stopped (s := x) (x := x) (g := g) (x.startState g) (m := (x.seg g).hostDisable) rfl (fun _ _ => rfl) rfl
  rw [State.segmentTakeup_eq, active, State.restartedFor, if_pos again, into]
  clear into
  have off : (b.seg g).ctl.sends = false := by rw [stop.seg]; exact silent
  have moved := stop.moved
  have cellOf : (b.ctx g k).cell = (x.ctx g k).cell := congrArg Ctx.cell (moved.ctx k)
  have failed := exchangeFailed (x := b) (.inr off) ((congrArg Ctx.role (moved.ctx k)).trans role) rfl .segmentRestarted ((b.seg g).lastFrame k)
  rw [← State.failBusy_lone off (by decide) (moved.lone lone), cellOf, stop.lastFrame] at failed
  generalize b.failBusy g .segmentRestarted = w at *
  have dropped := frameDropped w g
  generalize (w.modSeg g fun q => { q with offered := none }) = v at dropped
  have loneFailed := failed.common.lone dropped (moved.lone lone)
  have regulates := regulated (x := v) old (new := new) (by rw [dropped.whole, failed.whole, stop.whole]; exact active) g
  generalize v.regulated old new g = y at regulates
  have vseg := loneFailed.seg
  rw [stop.seg] at vseg
  have yseg : y.seg g = { (v.seg g).regulated old new g v.time.clock with counter := (y.seg g).counter } := regulates.seg
  refine ⟨(regulates.later _).exchangeFails (moved.exchangeFails (dropped.exchangeFails failed.fails)), fun j => ?_, ?_, ?_, ?_, ?_, ?_, fun h ne => ?_,
    fun e ne => ?_, ?_⟩
  · have ctxs : (y.seg g).ctxs = (v.seg g).ctxs := by
      rw [yseg]
      rfl
    show (y.seg g).ctxs[j].st = _
    simp only [ctxs]
    exact loneFailed.free j
  · rw [yseg]
    show (v.seg g).offered = none
    rw [vseg]
  · rw [yseg]
    show (v.seg g).ctl = x.startState g
    rw [vseg]
  · rw [yseg]
    show (v.seg g).tecCount = 0
    rw [vseg]
  · rw [yseg]
    show (v.seg g).recCount = 0
    rw [vseg]
  · rw [yseg]
    show (v.seg g).lanes = (x.seg g).lanes
    rw [vseg]
  · rw [regulates.segs h ne, loneFailed.segs h ne, stop.segs h ne]
  · rw [(regulates.later e).cell, loneFailed.cells.2.2 e ne, moved.cell]
  · rw [regulates.whole, dropped.whole, failed.whole, stop.whole]

/-- A walk over the segments, cut at one of them. -/
theorem finRange_split (g : Fin 4) : ∃ before after, List.finRange 4 = before ++ g :: after ∧ before.Nodup ∧ after.Nodup ∧ g ∉ before ∧ g ∉ after := by
  obtain ⟨before, after, split⟩ := List.append_of_mem (List.mem_finRange g)
  have nodup : (before ++ g :: after).Nodup := split ▸ List.nodup_finRange 4
  obtain ⟨first, rest, apart⟩ := List.nodup_append.1 nodup
  obtain ⟨out, last⟩ := List.nodup_cons.1 rest
  exact ⟨before, after, split, first, last, fun mem => apart g mem g (List.mem_cons_self ..) rfl, out⟩

theorem commit_restarts {c d : Fin 32} {g k : Fin 4} (received : Receives s c .commit) (op : field8 (s.cell c).captured 16 = 1) (apart : d ≠ c)
    (valid : s.staged.invalidAt = none) (shop : s.staged.hasGrant = true → workshop s = true)
    (quiet : ∀ h : Fin 4, LanesEmpty s h ∧ (h ≠ g → ContextsFree s h)) (records : NoRecords s) (lone : LoneContext s g k) (role : (s.ctx g k).role = .exchange)
    (mine : (s.ctx g k).cell = d) (again : s.ps.active.segs[g].rate ≠ s.staged.segs[g].rate ∨ s.ps.active.segs[g].enabled ≠ s.staged.segs[g].enabled) :
    ∃ t, (exec (.commitNow c) s = .next t ∧ EndsDone t c ∧ t.ps.active = s.staged ∧ t.ps.generation = s.ps.generation + 1) ∧
      ContextsFree t g ∧ (t.seg g).offered = none ∧
      (t.seg g).ctl = (if s.staged.segs[g].enabled = true ∧ (s.seg g).hostDisable = false then .joining else .disabled) ∧
      (t.seg g).tecCount = 0 ∧ (t.seg g).recCount = 0 ∧ ExchangeFails s t g k d .segmentRestarted ((s.seg g).lastFrame k) := by
  have stages := s.applySet_stages s.staged
  rw [State.readmitAll_empty (x := s.takeSet s.staged) fun h => (quiet h).1, State.recheckAll_none (x := s.takeSet s.staged) records.1, State.segmentsTakeup] at stages
  obtain ⟨before, after, split, first, last, outBefore, outAfter⟩ := finRange_split g
  obtain ⟨u, hu⟩ : ∃ u, u = s.takeSet s.staged := ⟨_, rfl⟩
  have active : u.ps.active = s.staged := by rw [hu]; rfl
  have ups : u.ps = (s.takeSet s.staged).ps := by rw [hu]
  have useg : ∀ h, u.seg h = s.seg h := fun h => by rw [hu]; rfl
  have ucell : ∀ e, u.cell e = s.cell e := fun e => by rw [hu]; rfl
  have urecords : NoRecords u := by rw [hu]; exact records
  rw [split, ← hu, List.foldl_append, List.foldl_cons] at stages
  clear hu
  have freeOther : ∀ h, h ≠ g → ContextsFree u h := fun h ne j => by
    show (u.seg h).ctxs[j].st = _
    simp only [useg]
    exact (quiet h).2 ne j
  have apartBefore : ∀ h ∈ before, h ≠ g := fun h mem eq => outBefore (eq ▸ mem)
  have apartAfter : ∀ h ∈ after, h ≠ g := fun h mem eq => outAfter (eq ▸ mem)
  have taken1 := segmentsTaken s.ps.active before active first fun h mem => freeOther h (apartBefore h mem)
  generalize before.foldl (fun v g => v.segmentTakeup s.ps.active g) u = y1 at *
  have y1seg : y1.seg g = s.seg g := by rw [taken1.segs g outBefore, useg]
  have y1ctx : ∀ j, y1.ctx g j = s.ctx g j := fun j => by
    show (y1.seg g).ctxs[j] = (s.seg g).ctxs[j]
    rw [y1seg]
  have y1ps : y1.ps = u.ps := by rw [taken1.whole]
  have y1cell : ∀ e, y1.cell e = s.cell e := fun e => by
    rw [← ucell, taken1.whole]
    rfl
  have y1lone : LoneContext y1 g k := ⟨by rw [y1ctx]; exact lone.1, fun j ne => by rw [y1ctx]; exact lone.2 j ne⟩
  have fails := takeupFails (x := y1) (old := s.ps.active) (new := s.staged) (by rw [y1ps]; exact active) (restarts_iff.2 again) y1lone
    (by rw [y1ctx]; exact role)
  rw [y1ctx, mine] at fails
  generalize y1.segmentTakeup s.ps.active g = y2 at *
  have y2ps : y2.ps = u.ps := by rw [fails.whole, y1ps]
  have y2free : ∀ h ∈ after, ContextsFree y2 h := fun h mem j => by
    have ne := apartAfter h mem
    have same : y2.seg h = y1.seg h := fails.segs h ne
    have nodup := List.nodup_finRange 4
    have out : h ∉ before := fun inside => by
      rw [split] at nodup
      exact (List.nodup_append.1 nodup).2.2 h inside h (List.mem_cons_of_mem g mem) rfl
    show (y2.seg h).ctxs[j].st = _
    simp only [same, taken1.segs h out]
    exact freeOther h ne j
  have taken2 := segmentsTaken s.ps.active (new := s.staged) after (x := y2) (by rw [y2ps]; exact active) last y2free
  generalize after.foldl (fun v g => v.segmentTakeup s.ps.active g) y2 = y at *
  have yseg : y.seg g = y2.seg g := taken2.segs g outAfter
  have keeps := taken2.keeps c
  have yps : y.ps = (s.takeSet s.staged).ps := by rw [taken2.whole, ← ups, y2ps]
  have lanes : ∀ h, LanesEmpty y h := fun h => by
    have second : (y2.seg h).lanes = (y1.seg h).lanes := by
      by_cases same : h = g
      · rw [same, fails.lanes]
      · rw [fails.segs h same]
    rw [LanesEmpty, keeps.lanes, second, (taken1.keeps c).lanes, useg]
    exact (quiet h).1
  have still : NoRecords y := by
    rw [taken2.whole, fails.whole, taken1.whole]
    exact urecords
  have ycell : y.cell c = s.cell c := by
    rw [← y1cell, ← fails.cells c apart.symm, taken2.whole]
    rfl
  obtain ⟨t, runs, done, act, gen, segs, kept⟩ := commit_closes (y := y) received op valid shop stages yps ycell (.inr ⟨lanes, still⟩) fun h => .inl (lanes h)
  have tseg : t.seg g = y2.seg g := (segs g).trans yseg
  refine ⟨t, ⟨runs, done, act, gen⟩, fun j => ?_, by rw [tseg]; exact fails.offered, ?_, by rw [tseg]; exact fails.tec, by rw [tseg]; exact fails.rec_, ?_⟩
  · show (t.seg g).ctxs[j].st = _
    simp only [tseg]
    exact fails.free j
  · rw [tseg, fails.ctl, State.startState_set (p := s.staged) (by rw [y1ps]; exact active), y1seg]
  · have exchange := kept.exchangeFails apart (keeps.exchangeFails apart fails.fails)
    rw [y1seg] at exchange
    unfold ExchangeFails at exchange ⊢
    rw [y1cell] at exchange
    exact exchange

end Sys2Proof.Machine
end

section
/-! PROOFS. A commit that re-admits and re-checks the work of a part that sends nothing (R17, R18, R49). -/

namespace Sys2Proof.Machine

variable {s t : State}

/-! ### The one entry that waits -/

section
variable {x y : State} {g : Fin 4} {e : Entry} (lone : LoneEntry x g e)
include lone

theorem LoneEntry.entryOf : x.entryOf e.cell = some (g, e) := by
  cases found : x.entryOf e.cell with
  | none =>
    have absent := State.entryOf_eq_none.1 found g e (by rw [lone g, if_pos rfl, Lanes.only_all]; exact List.mem_singleton_self e)
    exact absurd rfl absent
  | some pair =>
    obtain ⟨h, f⟩ := pair
    have inside := (State.entryOf_mem found).1
    by_cases same : h = g
    · subst same
      rw [lone h, if_pos rfl, Lanes.only_all] at inside
      rw [List.mem_singleton.1 inside]
    · rw [lone h, if_neg same, Lanes.empty_all] at inside
      exact absurd inside List.not_mem_nil

/-- Where it leaves, nothing waits. -/
theorem LoneEntry.dropped (dropped : EntryDropped x y e.cell) (h : Fin 4) : LanesEmpty y h := by
  obtain ⟨here, others⟩ := dropped.2 g e (LoneEntry.entryOf lone)
  by_cases same : h = g
  · rw [same, LanesEmpty, here, lone g, if_pos rfl]
    exact Lanes.only_without e
  · rw [LanesEmpty, others h same, lone h, if_neg same]

end

/-! ### What the work leaves of the bus -/

/-- From `x` to `y` the segments keep their controllers and contexts. -/
def BusKept (x y : State) : Prop := ∀ h : Fin 4, (y.seg h).ctl = (x.seg h).ctl ∧ (y.seg h).ctxs = (x.seg h).ctxs

theorem BusKept.of_segs {x y : State} (segs : y.segs = x.segs) : BusKept x y := fun h => by
  rw [State.seg, segs, State.seg]
  exact ⟨rfl, rfl⟩

theorem EntryDropped.busKept {x y : State} {c : Fin 32} (dropped : EntryDropped x y c) : BusKept x y := by
  obtain ⟨absent, present⟩ := dropped
  cases found : x.entryOf c with
  | none => exact .of_segs (absent found)
  | some pair =>
    obtain ⟨g, e⟩ := pair
    obtain ⟨here, others⟩ := present g e found
    intro h
    by_cases same : h = g
    · rw [same, here]
      exact ⟨rfl, rfl⟩
    · rw [others h same]
      exact ⟨rfl, rfl⟩

theorem BusKept.trans {x y z : State} (first : BusKept x y) (second : BusKept y z) : BusKept x z := fun h =>
  ⟨(second h).1.trans (first h).1, (second h).2.trans (first h).2⟩

theorem BusKept.entryJoined {x : State} (g : Fin 4) (e : Entry) : BusKept x (x.join g e) := fun h => by
  by_cases same : h = g
  · rw [same, State.seg_join]
    exact ⟨rfl, rfl⟩
  · rw [State.join_seg_ne _ _ same]
    exact ⟨rfl, rfl⟩

theorem BusKept.settleEntry (x : State) (c : Fin 32) (code : Nat) (target : Fin 4) : BusKept x (x.settleEntry c code target) := by
  unfold State.settleEntry
  split
  · exact .of_segs rfl
  next g e found =>
    split
    · intro h
      unfold State.reclass
      by_cases same : h = g
      · rw [same, State.seg_modSeg]
        exact ⟨rfl, rfl⟩
      · rw [State.seg_modSeg_ne _ _ same]
        exact ⟨rfl, rfl⟩
    · exact (((dropped x c).entryDropped rfl).busKept).trans (.entryJoined _ _)

/-! ### The commit, its work done -/

theorem Seg.takenUp_ctl (old new : PolicySet) (g : Fin 4) (k : Ctl) (now : Nat) (q : Seg) :
    (q.takenUp old new g k now).ctl = if restarts old.segs[g] new.segs[g] then k else q.ctl := by
  unfold Seg.takenUp
  split <;> rfl

/-- The re-admissions and the re-check have led to `w`, on a part whose segments send nothing. -/
theorem commit_works {c : Fin 32} {u w : State} (is : u = s.takeSet s.staged) (received : Receives s c .commit) (op : field8 (s.cell c).captured 16 = 1)
    (valid : s.staged.invalidAt = none) (shop : s.staged.hasGrant = true → workshop s = true) (veh : s.staged.veh = s.ps.active.veh)
    (silent : ∀ h : Fin 4, (s.seg h).ctl.sends = false ∧ ContextsFree s h) (work : u.readmitAll.recheckAll = w)
    (ps : w.ps = u.ps) (cell : w.cell c = s.cell c) (bus : BusKept s w) :
    ∃ t, (exec (.commitNow c) s = .next t ∧ EndsDone t c ∧ t.ps.active = s.staged ∧ t.ps.generation = s.ps.generation + 1) ∧ CommitKeeps w t c := by
  subst is
  have stages := s.applySet_stages s.staged
  rw [work, State.segmentsTakeup] at stages
  have free : ∀ h ∈ List.finRange 4, ContextsFree w h := fun h _ j => by
    show (w.seg h).ctxs[j].st = _
    simp only [(bus h).2]
    exact (silent h).2 j
  have taken := segmentsTaken s.ps.active (new := s.staged) (List.finRange 4) (x := w) (by rw [ps]; rfl) (List.nodup_finRange 4) free
  generalize (List.finRange 4).foldl (fun v g => v.segmentTakeup s.ps.active g) w = y at *
  have keeps := taken.keeps c
  have nothing : ∀ h, StartsNothing y h := fun h => by
    refine .inr ?_
    have ctl : (y.seg h).ctl = _ :=
      (congrArg Seg.ctl (taken.all h)).trans (Seg.takenUp_ctl s.ps.active s.staged h (w.startState h) w.time.clock (w.seg h))
    rw [ctl]
    split
    · exact w.startState_silent h
    · rw [(bus h).1]
      exact (silent h).1
  obtain ⟨t, runs, done, active, generation, -, kept⟩ := commit_closes (y := y) received op valid shop stages (by rw [taken.whole, ← ps])
    (by rw [← cell, taken.whole]; rfl) (.inl veh.symm) nothing
  exact ⟨t, ⟨runs, done, active, generation⟩, keeps.trans kept⟩

end Sys2Proof.Machine
end

section
/-! PROOFS. The entry, the cycle or the transfer that a commit judges again (R17, R18, R49). -/

namespace Sys2Proof.Machine

variable {s t : State}

/-! ### The other cells, where a grant is recorded -/

theorem State.transferGrant_cell_ne (x : State) {c d : Fin 32} (grant : Nat) (ne : d ≠ c) : (x.transferGrant c grant).cell d = x.cell d := by
  rw [State.transferGrant, State.setGrant, State.cell, State.wr_board, ← State.cell, State.cell_modCell_ne _ _ ne]
  rfl

theorem State.watchGrant_cell_ne (x : State) {c d : Fin 32} (grant : Nat) (ne : d ≠ c) : (x.watchGrant c grant).cell d = x.cell d := by
  rw [State.watchGrant, State.cell_modCell_ne _ _ ne]
  rfl

/-! ### A lone EXCHANGE entry (R17) -/

theorem State.readmitAll_exchange {u : State} {g : Fin 4} {e : Entry} (lone : LoneEntry u g e) (role : e.role = .exchange) :
    u.readmitAll = u.readmitExchange e.cell := by
  unfold State.readmitAll
  rw [State.waiting_lone lone, List.foldl_cons, List.foldl_nil, role]

theorem State.readmitExchange_deny {u : State} {c : Fin 32} {ch : Fin 8} (named : channelNamed (u.cell c).captured = some ch) {reason : Reason} {x : Option Detail}
    {j : Option Nat} (deny : u.readmission (plainRequest ch (u.cell c).service (targetOf (u.cell c).captured)) = .deny reason x j) :
    u.readmitExchange c = u.exchangeLost c reason x := by
  unfold State.readmitExchange
  dsimp only
  rw [named]
  dsimp only
  rw [deny]

theorem State.readmitExchange_allow {u : State} {c : Fin 32} {ch : Fin 8} (named : channelNamed (u.cell c).captured = some ch) {grant : Nat} {g : Fin 4}
    (allow : u.readmission (plainRequest ch (u.cell c).service (targetOf (u.cell c).captured)) = .allow grant g) :
    u.readmitExchange c = u.settleEntry c (u.cell c).service g := by
  unfold State.readmitExchange
  dsimp only
  rw [named]
  dsimp only
  rw [allow]

/-- The one entry takes the class of its code where it stands. -/
theorem Lanes.only_reclass (e : Entry) (k : Nat) :
    (Lanes.only e).mod e.lane (fun l => l.map fun d => if d.cell = e.cell then { d with cls := k } else d) = Lanes.only { e with cls := k } := by
  obtain ⟨cell, target, role, cls, lane, deadline⟩ := e
  unfold Lanes.only Lanes.mod
  cases lane <;> simp [Lanes.empty]

theorem settleEntry_same {u : State} {g : Fin 4} {e : Entry} (lone : LoneEntry u g e) (code : Nat) :
    LoneEntry (u.settleEntry e.cell code g) g { e with cls := (u.classIndex code).val } := by
  have eq : u.settleEntry e.cell code g = u.reclass g e code := by
    unfold State.settleEntry
    rw [LoneEntry.entryOf lone]
    dsimp only
    rw [if_pos rfl]
  rw [eq]
  unfold State.reclass
  intro h
  by_cases same : h = g
  · rw [same, State.seg_modSeg, if_pos rfl, lone g, if_pos rfl]
    exact Lanes.only_reclass e _
  · rw [State.seg_modSeg_ne _ _ same, if_neg same, lone h, if_neg same]

theorem settleEntry_moves {u : State} {g h : Fin 4} {e : Entry} (lone : LoneEntry u g e) (role : e.role = .exchange) (ne : h ≠ g) (code : Nat) :
    LoneEntry (u.settleEntry e.cell code h) h
      { e with cls := (u.classIndex code).val, lane := Lane.ofCode (u.ps.active.lanes[h])[u.classIndex code] } := by
  have drop := dropped u e.cell
  have eq : u.settleEntry e.cell code h =
      (u.dropEntry e.cell).join h (u.newEntry h e.cell e.target e.role code e.deadline) := by
    unfold State.settleEntry
    rw [LoneEntry.entryOf lone]
    dsimp only
    rw [if_neg ne.symm]
  have empty := LoneEntry.dropped lone (drop.entryDropped rfl)
  rw [eq]
  clear eq
  generalize u.dropEntry e.cell = z at *
  have entry : u.newEntry h e.cell e.target e.role code e.deadline =
      { e with cls := (u.classIndex code).val, lane := Lane.ofCode (u.ps.active.lanes[h])[u.classIndex code] } := by
    unfold State.newEntry State.laneOf State.classIndex
    dsimp only
    rw [role, if_neg (by decide)]
  rw [entry]
  intro j
  by_cases same : j = h
  · rw [same, State.seg_join, if_pos rfl, empty h]
  · rw [State.join_seg_ne _ _ same, if_neg same]
    exact empty j

section
variable {u : State} {c d : Fin 32} (is : u = s.takeSet s.staged) (received : Receives s c .commit) (op : field8 (s.cell c).captured 16 = 1) (apart : d ≠ c)
  (valid : s.staged.invalidAt = none) (shop : s.staged.hasGrant = true → workshop s = true) (veh : s.staged.veh = s.ps.active.veh)
  (silent : ∀ h : Fin 4, (s.seg h).ctl.sends = false ∧ ContextsFree s h)
include is received op apart valid shop veh silent

theorem commit_exchange {g : Fin 4} {e : Entry} {ch : Fin 8} (lone : LoneEntry s g e) (records : NoRecords s) (role : e.role = .exchange) (mine : e.cell = d)
    (named : channelNamed (s.cell d).captured = some ch) :
    ∃ t, (exec (.commitNow c) s = .next t ∧ EndsDone t c ∧ t.ps.active = s.staged ∧ t.ps.generation = s.ps.generation + 1) ∧
      (∀ reason x j, u.readmission (plainRequest ch (s.cell d).service (targetOf (s.cell d).captured)) = .deny reason x j →
        EndsFailed t d .queue reason ∧ (∀ h : Fin 4, (t.seg h).lanes = Lanes.empty) ∧ (t.chan ch).accrued = (s.chan ch).accrued ||| Flag.queueLost.bit) ∧
      (∀ grant, u.readmission (plainRequest ch (s.cell d).service (targetOf (s.cell d).captured)) = .allow grant g →
        t.cell d = s.cell d ∧ LoneEntry t g { e with cls := (u.classIndex (s.cell d).service).val }) ∧
      (∀ grant h, u.readmission (plainRequest ch (s.cell d).service (targetOf (s.cell d).captured)) = .allow grant h → h ≠ g →
        t.cell d = s.cell d ∧ LoneEntry t h { e with
          cls := (u.classIndex (s.cell d).service).val
          lane := Lane.ofCode (s.staged.lanes[h])[u.classIndex (s.cell d).service] }) := by
  subst mine
  have ulone : LoneEntry u g e := by rw [is]; exact lone
  have ucell : ∀ k, u.cell k = s.cell k := fun k => by rw [is]; rfl
  have uchan : ∀ k, u.chan k = s.chan k := fun k => by rw [is]; rfl
  have ubus : BusKept s u := .of_segs (by rw [is]; rfl)
  have urecords : NoRecords u := by rw [is]; exact records
  have active : u.ps.active = s.staged := by rw [is]; rfl
  have works := fun {w : State} => commit_works (w := w) is received op valid shop veh silent
  clear is
  rw [State.readmitAll_exchange ulone role] at works
  have unamed : channelNamed (u.cell e.cell).captured = some ch := by rw [ucell]; exact named
  cases verdict : u.readmission (plainRequest ch (s.cell e.cell).service (targetOf (s.cell e.cell).captured)) with
  | deny reason x j =>
    rw [State.readmitExchange_deny unamed (by rw [ucell]; exact verdict)] at works
    have lost := exchangeIsLost u e.cell (admission_not_refused verdict) x
    generalize u.exchangeLost e.cell reason x = w at *
    obtain ⟨ends, cells, gone, accrued, -⟩ := lost.lost
    rw [State.recheckAll_none (x := w) (by rw [lost.whole]; exact urecords.1)] at works
    obtain ⟨t, done, keeps⟩ := works rfl (by rw [lost.whole]) (by rw [cells.2.2 c apart.symm, ucell]) (ubus.trans gone.busKept)
    refine ⟨t, done, fun r x j same => ?_, fun grant same => Verdict.noConfusion same, fun grant h same => Verdict.noConfusion same⟩
    obtain ⟨rfl, -, -⟩ := Verdict.deny.inj same
    exact ⟨keeps.endsFailed apart ends, keeps.empty (LoneEntry.dropped ulone gone), by rw [keeps.accrued, accrued ch unamed, uchan]⟩
  | allow grant target =>
    rw [State.readmitExchange_allow unamed (by rw [ucell]; exact verdict)] at works
    have whole := u.settleEntry_whole e.cell (u.cell e.cell).service target
    have bus := BusKept.settleEntry u e.cell (u.cell e.cell).service target
    have stays := settleEntry_same ulone (u.cell e.cell).service
    have moves := fun (ne : target ≠ g) => settleEntry_moves ulone role ne (u.cell e.cell).service
    rw [ucell] at whole bus stays moves works
    obtain ⟨w, hw⟩ : ∃ w, w = u.settleEntry e.cell (s.cell e.cell).service target := ⟨_, rfl⟩
    rw [← hw] at whole bus moves works
    have wcell : ∀ k, w.cell k = s.cell k := fun k => by
      rw [← ucell, whole]
      rfl
    rw [State.recheckAll_none (x := w) (by rw [whole]; exact urecords.1)] at works
    obtain ⟨t, done, keeps⟩ := works rfl (by rw [whole]) (wcell c) (ubus.trans bus)
    refine ⟨t, done, fun r x j same => Verdict.noConfusion same, fun other same => ?_, fun other h same ne => ?_⟩
    · obtain ⟨-, rfl⟩ := Verdict.allow.inj same
      rw [← hw] at stays
      exact ⟨by rw [keeps.cell _ apart, wcell], keeps.loneEntry stays⟩
    · obtain ⟨-, rfl⟩ := Verdict.allow.inj same
      have moved := moves ne
      simp only [active] at moved
      exact ⟨by rw [keeps.cell _ apart, wcell], keeps.loneEntry moved⟩

/-! ### A lone CYCLE entry (R17, log 17) -/

omit is received op apart valid shop veh silent in
theorem State.readmitAll_cycle {g : Fin 4} {e : Entry} (lone : LoneEntry u g e) (role : e.role = .cycle) :
    u.readmitAll = u.readmitCycle e.cell := by
  unfold State.readmitAll
  rw [State.waiting_lone lone, List.foldl_cons, List.foldl_nil, role]

theorem commit_cycle {g : Fin 4} {e : Entry} {w : Watch} (lone : LoneEntry s g e) (watch : LoneWatch s d w) (role : e.role = .cycle) (mine : e.cell = d) :
    ∃ t, (exec (.commitNow c) s = .next t ∧ EndsDone t c ∧ t.ps.active = s.staged ∧ t.ps.generation = s.ps.generation + 1) ∧
      ∀ reason x j, u.readmission (plainRequest w.channel w.service w.target) = .deny reason x j →
        (∀ h : Fin 4, (t.seg h).lanes = Lanes.empty) ∧
        (reason.isVehicle = true → t.cell d = s.cell d ∧ t.watch d = some { w with skipped := min (w.skipped + 1) 0xFFFF, out := .none }) ∧
        (reason.isVehicle = false → t.watch d = none ∧ EndsFailed t d .queue reason) := by
  subst mine
  obtain ⟨here, -, transfers, -⟩ := watch
  have ulone : LoneEntry u g e := by rw [is]; exact lone
  have uhere : u.watch e.cell = some w := by rw [is]; exact here
  have ucell : ∀ k, u.cell k = s.cell k := fun k => by rw [is]; rfl
  have ubus : BusKept s u := .of_segs (by rw [is]; rfl)
  have utransfers : ∀ k, u.transfer k = none := by rw [is]; exact transfers
  have works := fun {w : State} => commit_works (w := w) is received op valid shop veh silent
  clear is
  rw [State.readmitAll_cycle ulone role] at works
  cases verdict : u.readmission (plainRequest w.channel w.service w.target) with
  | allow grant target =>
    have goes : u.readmitCycle e.cell = (u.watchGrant e.cell grant).settleEntry e.cell w.service target := by
      unfold State.readmitCycle
      rw [uhere]
      dsimp only
      rw [State.watchVerdict, verdict]
    have granted := watchGranted uhere grant
    have others := u.watchGrant_cell_ne grant apart.symm
    rw [goes] at works
    generalize u.watchGrant e.cell grant = z at *
    have whole := z.settleEntry_whole e.cell w.service target
    have bus := BusKept.settleEntry z e.cell w.service target
    generalize z.settleEntry e.cell w.service target = v at *
    have zbus : BusKept u z := .of_segs (by rw [granted.whole])
    have cell : v.cell c = s.cell c := by
      rw [← ucell, ← others, whole]
      rfl
    rw [State.recheckAll_none (x := v) (by rw [whole, granted.whole]; exact utransfers)] at works
    obtain ⟨t, done, -⟩ := works rfl (by rw [whole, granted.whole]) cell ((ubus.trans zbus).trans bus)
    exact ⟨t, done, fun reason x j same => Verdict.noConfusion same⟩
  | deny reason x j =>
    cases vehicle : reason.isVehicle with
    | true =>
      have goes : u.readmitCycle e.cell = u.withdrawCycle e.cell := by
        unfold State.readmitCycle
        rw [uhere]
        dsimp only
        rw [State.watchVerdict, verdict]
        exact if_pos vehicle
      have withdrawn := cycleWithdrawn uhere
      rw [goes] at works
      generalize u.withdrawCycle e.cell = v at *
      have vcell : ∀ k, v.cell k = s.cell k := fun k => by
        rw [← ucell, withdrawn.whole]
        rfl
      rw [State.recheckAll_none (x := v) (by rw [withdrawn.whole]; exact utransfers)] at works
      obtain ⟨t, done, keeps⟩ := works rfl (by rw [withdrawn.whole]) (vcell c) (ubus.trans withdrawn.entry.busKept)
      refine ⟨t, done, fun r x j same => ?_⟩
      obtain ⟨rfl, -, -⟩ := Verdict.deny.inj same
      refine ⟨keeps.empty (LoneEntry.dropped ulone withdrawn.entry), fun _ => ⟨by rw [keeps.cell _ apart, vcell], ?_⟩, fun no => ?_⟩
      · rw [keeps.watch, State.watch, withdrawn.watches]
        exact Vector.getElem_set_self _
      · rw [vehicle] at no
        cases no
    | false =>
      have goes : u.readmitCycle e.cell = u.watchEnd e.cell (some (watchFault u w .queue reason x)) := by
        unfold State.readmitCycle
        rw [uhere]
        dsimp only
        rw [State.watchVerdict, verdict]
        exact if_neg (by rw [vehicle]; decide)
      have ended := watchEnds uhere (some (watchFault u w .queue reason x))
      rw [goes] at works
      generalize u.watchEnd e.cell (some (watchFault u w .queue reason x)) = v at *
      rw [State.recheckAll_none (x := v) (by rw [ended.whole]; exact utransfers)] at works
      obtain ⟨t, done, keeps⟩ := works rfl (by rw [ended.whole]) (by rw [ended.cells.2.2 c apart.symm, ucell]) (ubus.trans ended.entry.busKept)
      refine ⟨t, done, fun r x j same => ?_⟩
      obtain ⟨rfl, -, -⟩ := Verdict.deny.inj same
      refine ⟨keeps.empty (LoneEntry.dropped ulone ended.entry), fun yes => ?_, fun _ => ⟨?_, keeps.endsFailed apart (ended.failed _ rfl)⟩⟩
      · rw [vehicle] at yes
        cases yes
      · rw [keeps.watch, State.watch, ended.watches]
        exact Vector.getElem_set_self _

/-! ### A lone transfer (R18) -/

omit is received op apart valid shop veh silent in
/-- Without EXCHANGE entries and watches no entry is re-admitted. -/
theorem State.readmitAll_quiet (quiet : NoExchangeWaits u) (watches : ∀ k, u.watch k = none) : u.readmitAll = u :=
  foldl_still _ fun e mem => by
    cases role : e.role with
    | exchange => exact absurd role (quiet e mem)
    | cycle =>
      show u.readmitCycle e.cell = u
      unfold State.readmitCycle
      rw [watches]
    | start => rfl
    | data => rfl
    | ending => rfl
    | verify => rfl
    | keepalive => rfl

omit is received op apart valid shop veh silent in
theorem State.recheckAll_lone {r : Transfer} (lone : LoneTransfer u d r) : u.recheckAll = u.recheckTransfer d .grantWithdrawn := by
  obtain ⟨here, others, -, -⟩ := lone
  have checked := (rechecked_transfer here .grantWithdrawn).1
  refine foldl_once d (fun k ne => ?_) rfl fun k ne => ?_
  · unfold State.recheckTransfer
    rw [others k ne]
  · have absent : (u.recheckTransfer d .grantWithdrawn).transfer k = none := by rw [checked.transfers k ne, others k ne]
    generalize u.recheckTransfer d .grantWithdrawn = w at *
    unfold State.recheckTransfer
    rw [absent]

theorem commit_transfer {r : Transfer} (lone : LoneTransfer s d r) (alone : s.entryOf d = none) :
    ∃ t, (exec (.commitNow c) s = .next t ∧ EndsDone t c ∧ t.ps.active = s.staged ∧ t.ps.generation = s.ps.generation + 1) ∧
      (∀ grant h, u.readmission (transferRequest r.channel r.codes (s.cell d).captured) = .allow grant h →
        t.transfer d = some { r with grant := grant, grantId := u.grantId grant } ∧
          t.cell d = { s.cell d with grant := grant } ∧ t.mem.read (cellBase d + 68) = byte grant) ∧
      ∀ reason x j, u.readmission (transferRequest r.channel r.codes (s.cell d).captured) = .deny reason x j → r.pending = none →
        (r.out.any Outst.inCtx = true → t.transfer d = some { r with pending := some (recheckCause reason .grantWithdrawn) } ∧ t.cell d = s.cell d) ∧
        (r.out.any Outst.inCtx = false → t.transfer d = none ∧ EndsFailed t d .transfer (recheckCause reason .grantWithdrawn)) := by
  have ulone : LoneTransfer u d r := by rw [is]; exact lone
  have ualone : u.entryOf d = none := by rw [is]; exact alone
  have ucell : ∀ k, u.cell k = s.cell k := fun k => by rw [is]; rfl
  have ubus : BusKept s u := .of_segs (by rw [is]; rfl)
  have works := fun {w : State} => commit_works (w := w) is received op valid shop veh silent
  clear is
  have uhere := ulone.1
  rw [State.readmitAll_quiet ulone.2.2.2 ulone.2.2.1, State.recheckAll_lone ulone] at works
  cases verdict : u.readmission (transferRequest r.channel r.codes (s.cell d).captured) with
  | allow grant target =>
    have granted := transferGranted uhere grant
    have others := u.transferGrant_cell_ne grant apart.symm
    have goes : u.recheckTransfer d .grantWithdrawn = u.transferGrant d grant := by
      have entry : (u.transferGrant d grant).entryOf d = none := by
        rw [← ualone, granted.whole]
        rfl
      unfold State.recheckTransfer
      rw [uhere]
      dsimp only
      rw [State.transferVerdict, ucell, verdict]
      dsimp only
      rw [entry]
    rw [goes] at works
    generalize u.transferGrant d grant = v at *
    obtain ⟨t, done, keeps⟩ := works rfl (by rw [granted.whole]) (by rw [others, ucell]) (ubus.trans (.of_segs (by rw [granted.whole])))
    refine ⟨t, done, fun other h same => ?_, fun reason x j same => Verdict.noConfusion same⟩
    obtain ⟨rfl, -⟩ := Verdict.allow.inj same
    refine ⟨?_, ?_, ?_⟩
    · rw [keeps.transfer, State.transfer, granted.transfers]
      exact Vector.getElem_set_self _
    · rw [keeps.cell d apart, granted.cell, ucell]
    · rw [keeps.frame d apart _ fun out => out (by unfold EndPlaces Within; omega)]
      exact granted.shows
  | deny reason x j =>
    have caused := transferCaused uhere (recheckCause reason .grantWithdrawn)
    have goes : u.recheckTransfer d .grantWithdrawn = u.transferCause d (recheckCause reason .grantWithdrawn) := by
      unfold State.recheckTransfer
      rw [uhere]
      dsimp only
      rw [State.transferVerdict, ucell, verdict]
    rw [goes] at works
    generalize u.transferCause d (recheckCause reason .grantWithdrawn) = v at *
    obtain ⟨passed, kept, fails⟩ := caused.cause
    have both : v.segs = u.segs ∧ v.cell c = u.cell c := by
      cases pending : r.pending with
      | some other =>
        obtain ⟨-, board, segs, -⟩ := passed (by rw [pending]; exact nofun)
        exact ⟨segs, by rw [State.cell, board, State.cell]⟩
      | none =>
        cases inside : r.out.any Outst.inCtx with
        | true =>
          obtain ⟨-, board, segs, -⟩ := kept pending inside
          exact ⟨segs, by rw [State.cell, board, State.cell]⟩
        | false =>
          obtain ⟨⟨-, cells⟩, gone⟩ := fails pending inside
          exact ⟨gone.1 ualone, cells.2.2 c apart.symm⟩
    obtain ⟨t, done, keeps⟩ := works rfl (by rw [caused.whole]) (both.2.trans (ucell c)) (ubus.trans (.of_segs both.1))
    refine ⟨t, done, fun grant h same => Verdict.noConfusion same, fun other x j same free => ?_⟩
    obtain ⟨rfl, -, -⟩ := Verdict.deny.inj same
    refine ⟨fun inside => ?_, fun outside => ?_⟩
    · obtain ⟨transfers, board, -⟩ := kept free inside
      refine ⟨?_, ?_⟩
      · rw [keeps.transfer, State.transfer, transfers]
        exact Vector.getElem_set_self _
      · rw [keeps.cell d apart, State.cell, board, ← ucell, State.cell]
    · obtain ⟨⟨released, -⟩, -⟩ := fails free outside
      obtain ⟨ends, gone, -⟩ := released
      exact ⟨by rw [keeps.transfer, gone], keeps.endsFailed apart ends⟩

end

end Sys2Proof.Machine
end

section
/-! PROOFS. COMMIT_NOW of a valid set and its consequences (R12, R13, R16 to R20, R110). -/

namespace Sys2Proof.Machine

/-- Settles O33: one piece of work at a time, and the part without work. -/
theorem commitNow : Obligations.CommitNow := by
  unfold Obligations.CommitNow
  refine ⟨fun c d s received op apart => ?_, fun c s received op idle => ?_⟩
  · intro p u valid shop done
    refine ⟨fun g k quiet records lone role mine again => commit_restarts received op apart valid shop quiet records lone role mine again, fun veh silent => ?_⟩
    exact ⟨fun g e ch lone records role mine named => commit_exchange rfl received op apart valid shop veh silent lone records role mine named,
      fun g e w lone watch role mine => commit_cycle rfl received op apart valid shop veh silent lone watch role mine,
      fun r lone alone => commit_transfer rfl received op apart valid shop veh silent lone alone⟩
  · intro p valid shop
    obtain ⟨y, z, t, runs, applied, ended⟩ := commitNow_idle c s received op idle valid shop
    have done := committed applied ended
    have tchan : ∀ ch, t.chan ch = z.chan ch := fun ch => by rw [ended.whole]; rfl
    have ychan : ∀ ch, y.chan ch = s.chan ch := fun ch => by rw [applied.segments.whole]; rfl
    have chan : ∀ ch, t.chan ch = { (s.chan ch).capped p.threshold with counter := (z.chan ch).counter } := fun ch => by
      rw [tchan, ← ychan]
      exact applied.after.chan ch
    have ycm : y.cm = s.cm := by rw [applied.segments.whole]; rfl
    have zcm := applied.after.cm
    rw [ycm] at zcm
    have tcm : t.cm = z.cm := by rw [ended.whole]
    refine ⟨t, runs, done.ended.done rfl, done.active, done.generation, done.armed, done.mirror, done.kind, done.commit, fun i j used same => ?_,
      fun i used fresh => ?_, fun g => applied.segmentTakesUp ended idle.1 g, applied.vehicleTakesUp ended, ?_, ?_, fun ch => ?_, fun ch => ?_, ?_, ?_, ?_, ?_⟩
    · rw [done.usage]
      exact newUsage_same used same
    · rw [done.usage]
      exact newUsage_fresh used fresh
    · rw [applied.event_iff ended (by decide) (by decide)]
      simp
    · rw [applied.event_iff ended (by decide) (by decide)]
      simp
    · rw [chan]
      exact Chan.capped_run p.threshold (s.chan ch)
    · rw [chan]
      exact Chan.capped_kept p.threshold (s.chan ch)
    · exact ended.onlyCell (by rw [applied.after.whole, applied.segments.whole]; rfl)
    · rw [tcm]
      exact zcm
    · rw [ended.whole, applied.after.whole, applied.segments.whole]
      rfl
    · refine ((applied.segments.frame.both applied.after.frame).both ended.frame).mono ?_
      rintro a ((⟨g, -, place⟩ | others) | place | info)
      · have bounds := segBase_bounds g
        have lt := g.isLt
        unfold LevelPlaces Within at place
        rcases place with area | level
        · exact .inr (.inr (.inr (.inr (by omega))))
        · exact .inr (.inr (.inl (by omega)))
      · unfold Within at others
        rcases others with mirror | field | lamp | states | chans
        · exact .inr (.inl (by omega))
        · exact .inr (.inr (.inl (by omega)))
        · exact .inr (.inr (.inl (by omega)))
        · exact .inr (.inr (.inl (by omega)))
        · exact .inr (.inr (.inr (.inl (by omega))))
      · exact .inl place
      · unfold InfoShared Within at info
        exact .inr (.inr (.inl (by omega)))

end Sys2Proof.Machine
end
